-- ==== Sys2Proof/Word.lean ====
section
/-!
DEFINITION. The word types of the spec (R2, R4, R11, R12), the sparse tables the state is made of, and their plainest
arithmetic. Registers that software reads as words are bit vectors; counts, indices and durations are natural numbers.
-/
namespace Sys2Proof

/-- One byte. -/
abbrev Byte := BitVec 8
/-- A register word: every register is 32 bits wide (R539). -/
abbrev Word := BitVec 32
/-- A register pair, an address or a Fabric Time value (R11). -/
abbrev DWord := BitVec 64
/-- A 64 B line of pooled memory (R131). -/
abbrev Line := BitVec 512

/-- A sparse table: (key, entry) pairs with strictly rising keys and no entry equal to what an unlisted key reads as.
`Tbl.look`, `Tbl.put` and `Tbl.wf` (Machine/Ops.lean) are its only operations. -/
abbrev Tbl (α : Type) := List (Nat × α)

/-- Ticks of Fabric Time in one nanosecond (R11). -/
abbrev ns (n : Nat) : Nat := 16 * n
/-- Ticks in microseconds. -/
abbrev us (n : Nat) : Nat := 16000 * n
/-- Ticks in milliseconds. -/
abbrev ms (n : Nat) : Nat := 16000000 * n
/-- Ticks in seconds. -/
abbrev sec (n : Nat) : Nat := 16000000000 * n
/-- The commit quantum in ticks (Table 0.3). -/
abbrev quantum : Nat := 1024

/-- The status codes of Table 0.4 (R12). -/
inductive Status where
  | ok | okLateAbort | okBasePast
  | badOpcode | badParam | notPermitted | busy | noSuchTarget
  | checkFailed | deadlineInfeasible | capacity | staleTime | groupDiscarded | lockHeld
  | signatureFailed | rollback
  | aborted | drainTimeout | jobFault
  deriving DecidableEq, Repr, Inhabited

/-- The 16-bit code of a status (Table 0.4). -/
def Status.code : Status → Nat
  | .ok => 0x0000
  | .okLateAbort => 0x0001
  | .okBasePast => 0x0002
  | .badOpcode => 0x0100
  | .badParam => 0x0101
  | .notPermitted => 0x0102
  | .busy => 0x0103
  | .noSuchTarget => 0x0104
  | .checkFailed => 0x0200
  | .deadlineInfeasible => 0x0201
  | .capacity => 0x0202
  | .staleTime => 0x0203
  | .groupDiscarded => 0x0204
  | .lockHeld => 0x0205
  | .signatureFailed => 0x0300
  | .rollback => 0x0301
  | .aborted => 0x0400
  | .drainTimeout => 0x0401
  | .jobFault => 0x0402

/-- R13: how software takes a status by its high byte; the first class is success. -/
def Status.success (s : Status) : Bool := s.code / 256 == 0

end Sys2Proof
end

