-- ==== Sys2Proof/Fields.lean ====
section
/-!
DEFINITION. What the commands carry: the operand records of `Instr` (Syntax.lean). A vendor command carries its descriptor
(Table 12.3), a message row carries the message's fields, an event row carries what only the outside knows of the event.
-/
namespace Sys2Proof

/-- What a SECDED code shows of the word read (R71, R146, R147). -/
inductive Ecc where
  | clean | corrected | double
  deriving DecidableEq, Repr, Inhabited

/-- An entry of the collector's tables: the severity of a source, or the reaction set of a severity (R402). -/
inductive CfgEntry where
  | severity (source : Nat)
  | reaction (v : Nat)
  deriving DecidableEq, Repr

/-- A record of the event log whose copies fail their check at a read: one of them, or both (Table 15.2). -/
structure BadCopy where
  index : Nat := 0
  both  : Bool := false
  deriving DecidableEq, Repr, Inhabited

/-- The path by which a register access or a command comes (R540, R549, Table 12.10). -/
inductive Path where
  | endpoint              -- the management endpoint: BAR0 and BAR2
  | firmware              -- the management firmware
  | ld (tenant : Nat)     -- the LD BAR of a tenant (R316)
  | mctp                  -- MCTP over I3C
  | console               -- the UART console
  deriving DecidableEq, Repr, Inhabited

/-- The HI latch a path owns (R540): the endpoint's, the firmware's; other paths read no pair of BAR0. -/
def Path.latch : Path → Nat
  | .endpoint => 0
  | .firmware => 1
  | .ld t => t + 4
  | .mctp => 2
  | .console => 3

/-- One register write as it arrives (R539). -/
structure RegAccess where
  bar2   : Bool := false    -- false: BAR0, true: BAR2
  offset : Nat := 0         -- byte offset in the BAR (through an LD BAR: in the page)
  wide   : Bool := false    -- a 64-bit access
  full   : Bool := true     -- every byte enable is set
  value  : DWord := 0
  held   : DWord := 0       -- W1C bits that hardware sets in the same core cycle (R8)
  deriving DecidableEq, Repr, Inhabited

/-- A W1C write to one FAULT_PEND register (R409). -/
structure PendWrite where
  value : BitVec 32 := 0
  held  : BitVec 32 := 0    -- bits whose source is raised in the same core cycle (R8)
  deriving DecidableEq, Repr, Inhabited

/-- A pulse on FT_SYNC_IN (R40). -/
structure MarkPulse where
  sub  : Nat := 0           -- ticks into the core cycle at which its edge lies
  high : Nat := 0           -- its high time in ticks
  deriving DecidableEq, Repr, Inhabited

/-- A good copy that ingress replay delivers (R69). -/
structure CopyIn where
  pid  : Nat := 0
  body : List Byte := []
  deriving DecidableEq, Repr, Inhabited

/-- What brings a data mover's engine forward (R393). -/
structure MoverLines where
  lines  : Nat := 0                       -- at most so many lines are written
  source : List (Line × Bool) := []       -- what its reads brought, with poison
  deriving DecidableEq, Repr, Inhabited

/-- What a host writes into the functions of its virtual CXL switch (R58): `fn` 0 is the upstream port function,
`1 + i` the function of vPPB i (for i ≤ 15 the LD function behind it), 49 the management endpoint. -/
inductive ConfigWrite where
  | range (fn kind base limit : Nat)                -- an address range routed by the function: kind 0 memory, 1 prefetchable memory, 2 I/O
  | buses (fn secondary subordinate : Nat)          -- the bus numbers behind the function
  | captured (fn bus dev num : Nat)                 -- the bus, device and function number that the function holds (R57)
  | hdm (decoder base size vppb dpa : Nat)          -- an HDM decoder; size 0 removes it
  | busMaster (fn : Nat) (on : Bool)                -- Bus Master Enable (R350)
  | vectorMask (fn vector : Nat) (masked : Bool)    -- an MSI-X vector's mask (R351)
  | maxPayload (bytes : Nat)                        -- Max_Payload_Size of the port (Table 9.4)
  | dcEvents (on : Bool)                            -- the host enables dynamic-capacity events (R177)
  | cacheId (vppb id : Nat)                         -- the CacheID behind a vPPB, 0–15; a larger one removes it (R265)
  | biId (vppb id : Nat)                            -- the BI-ID of a vPPB; above 255 removes it (R265)
  | dpc (vppb : Nat) (on : Bool)                    -- Downstream Port Containment of a vPPB enabled
  | dpcClear (vppb : Nat)                           -- its containment released
  | hotPlug (vppb : Nat) (on : Bool)                -- hot-plug and link-state reports of a vPPB enabled
  | aerClear (fn : Nat) (bits : BitVec 32)          -- AER status bits of a function cleared by writing 1
  deriving DecidableEq, Repr, Inhabited

/-- A time-code frame on FT_SYNC_IN (R40): the high times of its 64 pulses in ticks, in order. -/
structure SyncFrame where
  pulses : List Nat := []
  deriving DecidableEq, Repr, Inhabited

/-- A command descriptor without its OPCODE, which the row fixes (Table 12.3). `params` are bytes 16–63 in order and
`block` is the indirect block as read; a byte past the end of either reads as 0 (R346). -/
structure Desc where
  flags  : Byte := 0
  plen   : Nat := 0
  tag    : Word := 0
  target : Word := 0
  group  : Word := 0
  params : List Byte := []
  block  : List Byte := []
  deriving DecidableEq, Repr, Inhabited

/-- The ten message classes (R63), in the order of Table 8.4. -/
inductive MsgClass where
  | req | rwd | bisnp | birsp | ndr | drs | p | np | cpl | mgt
  deriving DecidableEq, Repr, Inhabited

/-- The CLASS code of a message class (Table 8.4). -/
def MsgClass.code : MsgClass → Nat
  | .req => 0
  | .rwd => 1
  | .bisnp => 2
  | .birsp => 3
  | .ndr => 4
  | .drs => 5
  | .p => 6
  | .np => 7
  | .cpl => 8
  | .mgt => 9

/-- The channels of CXL.cache (Table 3.3). -/
inductive CacheChannel where
  | d2hReq | d2hData | h2dReq | d2hResp | h2dResp | h2dData
  deriving DecidableEq, Repr, Inhabited

/-- The message class of a CXL.cache channel (Table 3.3). -/
def CacheChannel.cls : CacheChannel → MsgClass
  | .d2hReq => .req
  | .d2hData => .rwd
  | .h2dReq => .bisnp
  | .d2hResp => .birsp
  | .h2dResp => .ndr
  | .h2dData => .drs

/-- The packet header of a first flit on a Stolevo Link (Table 8.5). -/
structure StvHeader where
  dst     : Nat := 0
  src     : Nat := 0       -- SRC_ID, the issuing endpoint
  path    : Nat := 0
  sc      : Nat := 0
  guarded : Bool := false
  reissue : Bool := false
  bytes   : Nat := 0       -- LENGTH
  tag     : Nat := 0
  oldest  : Nat := 0
  tenant  : Nat := 0
  srcDev  : Nat := 0
  deriving DecidableEq, Repr, Inhabited

/-- What a packet header is looked up by (Table 3.1). -/
inductive Traffic where
  | ioAddr (addr : Nat)                          -- CXL.io address-routed request
  | ioId (bus dev fn : Nat) (completion : Bool)  -- CXL.io ID-routed
  | ioMsg (route : Nat)                          -- CXL.io message, PCIe implicit routing code 0–7
  | cache (ch : CacheChannel) (cacheId : Nat)    -- CXL.cache, either direction; the CacheID names the device (R265)
  | mem (hpa : Nat) (write : Bool)               -- CXL.mem from a host
  | bi (biId : Nat) (rsp : Bool)                 -- a BISnp of a device below a vPPB, or the BIRsp of its host, by BI-ID (R265)
  | backing (dev : Nat)                          -- CXL.mem from a home slice to backing device dev
  | stolevo (h : StvHeader) (hop : Nat)          -- a packet that arrived on a Stolevo Link (Table 8.5)
  | toPort (port : Nat)                          -- an answer to the host on a port
  deriving DecidableEq, Repr, Inhabited

/-- A packet whose header is looked up (R57). `pid` names the packet in later commands. -/
structure PacketIn where
  pid     : Nat := 0
  input   : Nat := 0             -- crossbar input 0–37 (Table 1.2)
  port    : Nat := 0             -- ingress port 0–127, for inputs 0–31
  traffic : Traffic := .cache .d2hReq 0
  cls     : MsgClass := .req     -- where the traffic does not fix it (`PacketIn.class`)
  bytes   : Nat := 64            -- stored length b (R54)
  flits   : Nat := 1             -- flits the packet occupies on its ingress
  answers : Option Nat := none   -- the service class of the request it answers (R119)
  tenant  : Nat := 0             -- tenant the issuing block or the Stolevo header names (0: none)
  sc      : Nat := 5             -- service class a Stolevo header or an issuing block names
  whole   : Bool := true         -- its last cell has been received
  ecrc    : Bool := false        -- a CXL.io TLP with ECRC (Table 3.4)
  poison  : Bool := false        -- its data arrives poisoned, or its first flit with POISON (Table 8.2)
  data    : Bool := true         -- CXL.mem or CXL.cache data (Table 3.4)
  guarded : Bool := false        -- a deadline-bearing request (R86)
  age     : Nat := 0             -- ticks since the first bit of its ingress flit crossed the receive balls (R131)
  ro      : Bool := false        -- Relaxed Ordering (R64)
  ido     : Bool := false        -- ID-Based Ordering
  reqId   : Nat := 0             -- PCIe requester ID of a CXL.io packet
  joins   : Option Nat := none   -- a packet of the same core cycle whose cell this message shares (R55)
  srcId   : Nat := 0             -- fabric ID of the issuing endpoint (Table 8.5)
  responds : Option (Nat × Nat) := none   -- it answers a guarded request: source device and guard tag (Table 3.7)
  body    : List Byte := []      -- its stored bytes; a byte past the end of the list is 0
  deriving DecidableEq, Repr, Inhabited

/-- The message class of a packet (R63, Table 3.3): CXL.mem from a host is REQ or RWD, a completion is CPL, a message is P. -/
def PacketIn.class (p : PacketIn) : MsgClass :=
  match p.traffic with
  | .cache ch _ => ch.cls
  | .mem _ w => if w then .rwd else .req
  | .bi _ r => if r then .birsp else .bisnp
  | .ioId _ _ _ true => .cpl
  | .ioMsg _ => .p
  | .ioAddr _ | .ioId _ _ _ false => if p.cls = .p then .p else .np
  | .backing _ | .stolevo _ _ | .toPort _ => p.cls

/-- Traffic of Table 9.4 that a port answers by itself. -/
inductive OddTlp where
  | locked | portBased | absentFunction | vdm0 | vdm1 | malformed | foreignCache
  deriving DecidableEq, Repr, Inhabited

/-- A flit received on a CXL port (R68). -/
structure CxlFlit where
  crcOk   : Bool := true
  seq     : Nat := 0
  carries : List (Nat × Nat) := []    -- cells it carries: packet, number of the cell (R68)
  ends    : List Nat := []            -- packets whose last cell is received with it (R67)
  macOk   : Option Bool := none       -- the verdict of an IDE epoch that ends with the flit (R287)
  odd     : Option OddTlp := none     -- traffic answered under Table 9.4
  deriving DecidableEq, Repr, Inhabited

/-- A permit message (Table 8.6). -/
structure PermitMsg where
  src   : Nat := 0       -- SRC_DEV_ID
  dst   : Nat := 0       -- DST_DEV_ID, the far egress
  path  : Nat := 0
  cls   : Nat := 0       -- CLASS 0–9
  sc0   : Bool := false
  count : Nat := 0
  deriving DecidableEq, Repr, Inhabited

/-- A deadline-bearing request at its far device (R88). -/
structure GuardedReq where
  tag     : Nat := 0
  oldest  : Nat := 0
  reissue : Bool := false
  write   : Bool := false
  pid     : Nat := 0
  path    : Nat := 0
  deriving DecidableEq, Repr, Inhabited

/-- The cache state a request asks for (CXL 3.1 MetaValue, R148). -/
inductive Meta where
  | invalid | shared | any
  deriving DecidableEq, Repr, Inhabited

/-- A request for a line at its home slice. -/
structure MemReq where
  id     : Nat := 0              -- names the request in later commands
  line   : Nat := 0              -- line index: bits [47:6] of the pool address
  window : Nat := 0
  fab    : Nat := 0              -- fabric ID of the requesting host port
  port   : Nat := 0              -- upstream port, for a request of a host on this device
  input  : Nat := 0              -- crossbar input
  cached : Bool := true          -- false: an uncached requester (R139)
  want   : Meta := .any
  data   : Line := 0
  mask   : BitVec 64 := 0        -- byte enables of a MemWrPtl
  sc     : Nat := 5
  nacks  : Nat := 0              -- NACK_COUNT
  stamp  : Option Nat := none    -- interval stamp of its first arrival (R188)
  evict  : Bool := false         -- a MemClnEvct, in the NACK that answers it (R161)
  wr     : Bool := false         -- a write, in the NACK that answers it (R151)
  ecc    : Ecc := .clean         -- what the code of the directory cache shows at the lookup (R146, R147)
  more   : Bool := false         -- further messages reach its slice in the same core cycle (R159)
  missed : Bool := false         -- its deadline has been counted as missed (R188)
  poison : Bool := false         -- the data of a whole-line write is poison (R392)
  deriving DecidableEq, Repr, Inhabited

/-- Snoop responses of CXL 3.1 (R149). -/
inductive SnoopKind where
  | rspI | rspS | rspE
  deriving DecidableEq, Repr, Inhabited

/-- A snoop response at its home slice (Table 5.7). -/
structure SnoopRsp where
  line  : Nat := 0
  agent : Nat := 0          -- agent index in the line's domain
  kind  : SnoopKind := .rspI
  block : Bool := false     -- a response of a block form
  more  : Bool := false     -- further messages reach its slice in the same core cycle (R159)
  deriving DecidableEq, Repr, Inhabited

/-- What BACKING_ADD reads from the device (Table 6.1). -/
structure DeviceFacts where
  serial   : Nat := 0
  capacity : Nat := 0       -- bytes
  deriving DecidableEq, Repr, Inhabited

/-- How a backing read ends (R186). -/
inductive ReadResult where
  | good (data : Line) | poison | error
  deriving DecidableEq, Repr, Inhabited

/-- The region a codeword belongs to (Table 7.2). -/
inductive HbmRegion where
  | lineCache (slice set way : Nat)
  | directory (slice set : Nat)
  | spill (input output sc : Nat) (cls : MsgClass)
  | resyncLog (window member : Nat) (bit : Nat)
  | staging (engine : Nat)
  | management
  deriving DecidableEq, Repr, Inhabited

/-- A completed codeword read (R215): `errors` are the symbols (0–71) that have changed since the line was written, each with what was added
to it in GF(2^8) (R211). -/
structure CodewordRead where
  pc         : Nat := 0
  block      : Nat := 0            -- 4 KiB block of the pseudo-channel (R217)
  region     : HbmRegion := .management
  errors     : List (Nat × Byte) := []
  laterWrite : Bool := false       -- a later write to the line is queued or has completed
  parity     : Bool := false       -- the controller retried the access after a parity error (Table 7.4)
  deriving DecidableEq, Repr, Inhabited

/-- A PAM4 level (R231). -/
inductive Pam4 where
  | m3 | m1 | p1 | p3
  deriving DecidableEq, Repr, Inhabited

/-- A Stolevo wire flit as it is received: the symbols of each logical lane of the group in use (R232), and what only cell assembly
knows of its content. -/
structure WireFlit where
  lanes   : List (List Pam4) := []
  carries : List (Nat × Nat) := []  -- cells it carries: packet, number of the cell (R68)
  ends    : List Nat := []          -- packets whose last cell is received with it (R67)
  deriving DecidableEq, Repr, Inhabited

/-- A TRAIN flit as it is received: on the four lanes of group 3 + `group` (R252). -/
structure TrainIn where
  group : Nat := 0
  lanes : List (List Pam4) := []
  deriving DecidableEq, Repr, Inhabited

/-- The marker of one lane (R252, R299). -/
structure LaneMark where
  lane    : Nat := 0               -- physical lane of the port, 0–15
  nibbles : List Nat := []         -- its 33 nibbles as received
  deriving DecidableEq, Repr, Inhabited

/-- The training sequence of a TRAIN flit (Table 8.8). -/
structure TrainSeq where
  serial     : DWord := 0
  epoch      : Word := 0
  link       : Nat := 0
  phase      : Nat := 0            -- 0 PROPOSE, 1 AGREE, 2 READY
  countdown  : Nat := 0
  caps       : BitVec 4 := 0
  rxLanes    : BitVec 16 := 0
  chosen     : BitVec 5 := 0       -- [2:0] group, [3] rate, [4] IDE
  resume     : Bool := false
  rxExpected : Nat := 0
  deriving DecidableEq, Repr, Inhabited

/-- What training with a CXL or PCIe partner shows (R266, R267, R277). -/
structure PartnerFacts where
  rate      : Nat := 5             -- rate trained, encoded as RATE_MAX
  maxRate   : Nat := 5             -- highest rate the partner advertises
  width     : Nat := 0             -- width trained, encoded as L0P_MIN
  cxl       : Bool := true
  cache     : Bool := false
  mem       : Bool := true
  lopt      : Bool := false        -- the partner accepts the latency-optimised flit
  ident     : Nat := 0             -- vendor ID and device ID
  serial    : Nat := 0
  lds       : Nat := 0             -- logical devices of a multi-logical-device partner; 0: not one
  credits   : List Nat := []       -- link credits the switch offers per message class, in Table 8.4's order
  reversed  : Bool := false        -- lanes in reversed order across the configured width (R298)
  badOrder  : Bool := false        -- the partner presented another lane order (R298)
  inverted  : List Nat := []       -- physical lanes of the port, from 0, that arrive inverted
  deriving DecidableEq, Repr, Inhabited

/-- Physical Port Control of the Fabric Manager API as the switch handles it (Table 9.3). -/
inductive PortAction where
  | retrain | disable | enable
  deriving DecidableEq, Repr, Inhabited

/-- A Fabric Manager API request: the tag it is answered with and the tenant it comes from (R275). -/
structure FmReq where
  tag    : Nat := 0
  tenant : Nat := 0
  deriving DecidableEq, Repr, Inhabited

/-- A fetched descriptor (R342): its OPCODE and the rest, and whether the reads were good. -/
structure Fetch where
  opcode : Nat := 0
  desc   : Desc := {}
  ok     : Bool := true            -- the read of the descriptor and of its indirect block were good
  deriving DecidableEq, Repr, Inhabited

/-- A vendor-defined MCTP message (R358). -/
structure MctpMsg where
  wellFormed : Bool := true
  opcode     : Nat := 0
  desc       : Desc := {}
  deriving DecidableEq, Repr, Inhabited

/-- Why an access of a job failed (Table 14.3). -/
inductive AccessFailure where
  | sourcePoison | sourceError | destination | revoked | staging
  deriving DecidableEq, Repr, Inhabited

/-- One finding of a self-test (Table 16.3). -/
structure TestResult where
  test     : Nat := 0        -- TEST 0–4
  block    : Nat := 0        -- BLOCK 0–6
  outcome  : Nat := 0        -- 0 pass, 1 repaired, 2 retired, 3 unrepairable, 4 skipped
  instId   : Nat := 0        -- INSTANCE
  address  : Nat := 0
  bit      : Nat := 0
  repair   : Nat := 0
  segment  : Nat := 0        -- directory-cache segment 0–15, or 16 + tracker segment, of a home slice (Table 16.2)
  deriving DecidableEq, Repr, Inhabited

/-- One 50 µs sample of a slot-power channel (R452). -/
structure SlotReading where
  shunt   : Int := 0         -- shunt voltage in 0.1 µV
  output  : Nat := 0         -- output in mV
  input   : Nat := 0         -- input in mV
  feedA   : Nat := 0         -- feed A in mV, channels 0–3
  feedB   : Nat := 0
  ended   : Bool := false    -- the reading stays at the end of its range, or a sense pair is open
  deriving DecidableEq, Repr, Inhabited

/-- What the voltage loop reads in one interval (R463, R464). -/
structure AvsReading where
  below     : Bool := false   -- the worst margin is below the low threshold
  above     : Bool := false   -- the worst margin is above the high threshold
  emergency : Bool := false   -- a monitor is below its emergency threshold
  answered  : Bool := true    -- AVSBus gave a valid response within three attempts
  volts     : Nat := 0        -- voltage read back, in mV
  deriving DecidableEq, Repr, Inhabited

/-- One sample of the temperature sensors (R469): readings in °C; `none` is out of range. -/
structure ThermalReading where
  die : List (Option Int) := []     -- 20 fabric-die sensors: two per course, then one per quadrant
  hbm : List (Option Int) := []     -- the two stacks
  deriving DecidableEq, Repr, Inhabited

/-- What the verifier of R488 finds in one image. -/
structure ImageFacts where
  typ       : Nat := 0
  headerOk  : Bool := true     -- check 1
  keySlot   : Nat := 0
  keyHashOk : Bool := true     -- the hash part of check 2
  svn       : Nat := 0         -- for check 3
  version   : Nat := 0
  sigOk     : Bool := true     -- check 4
  digestOk  : Bool := true     -- check 5
  length    : Nat := 0         -- payload bytes
  deriving DecidableEq, Repr, Inhabited

/-- The authorisation block of KEY_REVOKE (R493) as the verifier finds it. -/
structure AuthBlock where
  signer   : Nat := 4          -- slot whose fused hash the keys supplied at bytes 3,392–5,375 match; 4 or more: none
  edOk     : Bool := true
  mldsaOk  : Bool := true
  deriving DecidableEq, Repr, Inhabited

/-- An IDE_KM message in a secured session (R502). -/
structure IdeKm where
  port   : Nat := 0            -- PortIndex: a port, or 0x80 + link
  keySet : Nat := 0            -- key set 0 or 1
  tx     : Bool := false       -- direction of the key
  key    : BitVec 256 := 0
  deriving DecidableEq, Repr, Inhabited

/-- A debug token written through JTAG (R506). -/
structure DebugToken where
  serialOk : Bool := true
  nonce    : Nat := 0
  slot     : Nat := 0
  sigOk    : Bool := true
  scope    : Nat := 0
  deriving DecidableEq, Repr, Inhabited

/-- One slot-power default and PERST entry of the boot configuration. -/
structure BootPin where
  pin  : Nat := 0
  port : Nat := 0
  out  : Bool := false
  deriving DecidableEq, Repr, Inhabited

/-- A boot configuration (TYPE 3) as the start sequence reads it (R488): course modes where set, port roles and
widths, PERST map, HBM partition and slot-power defaults. -/
structure BootConfig where
  modes   : List (Option Bool) := []        -- per course: Stolevo, or unset
  roles   : List (Nat × Nat × Nat) := []    -- (port, ROLE 1 upstream 2 downstream 3 manager, width code)
  perst   : List BootPin := []
  dirSize : Nat := 32
  lcWays  : Nat := 4
  clkMode : List Bool := []
  ssc     : List Bool := []
  slots   : List (Nat × Bool × Nat) := []   -- (channel, ENABLE, PORT)
  deriving DecidableEq, Repr, Inhabited

/-- What the start sequence finds (R516, Table 21.5). -/
structure StartFacts where
  bootRecordOk : Bool := true
  imagesA      : List ImageFacts := []      -- TYPE 1, 2, 3 of set A as the verifier finds them
  imagesB      : List ImageFacts := []
  config       : Option BootConfig := none  -- the chosen set's boot configuration
  straps       : BitVec 10 := 0             -- levels of the straps; only a cold start latches them (R520)
  refclkOk     : List Bool := []            -- per course, after 16 counts
  pufOk        : Bool := true
  slot0Ok      : Bool := true               -- the slot 0 chain matches its fused hash
  fuseBad      : List Nat := []             -- revocation bits that read back inconsistent between their sense paths (R492)
  rngEpoch     : Nat := 0                   -- the draw of EPOCH (Table 8.8)
  pcTrainFail  : List Nat := []             -- pseudo-channels that fail training (R219)
  results      : List TestResult := []      -- findings of the full path (R425)
  sequenceBad  : Bool := false              -- the rail group order was broken (R510)
  serial       : DWord := 0                 -- fuses
  engSample    : Bool := false
  deriving DecidableEq, Repr, Inhabited

/-- What ends a phase of the orderly shutdown (R518). -/
structure PhaseFacts where
  results        : List TestResult := []    -- findings of shutdown BIST
  hardRepaired   : Nat := 0                 -- rows hard-repaired
  deriving DecidableEq, Repr, Inhabited

/-- The bus-master read that got no completion (R342, Table 14.3). -/
inductive ReadKind where
  | descriptor (tenant : Nat) | mover (engine : Nat)
  deriving DecidableEq, Repr, Inhabited

/-- A downstream device's SPDM or IDE_KM answer (R501). -/
structure DeviceAnswer where
  chainOk : Bool := true       -- the chain leads to a trust anchor and its signatures verify
  ackOk   : Bool := true       -- the IDE_KM answer is good
  deriving DecidableEq, Repr, Inhabited

end Sys2Proof
end

