-- ==== Sys2Proof/Syntax.lean ====
section
/-!
DEFINITION. `Instr`: the commands of the block, one constructor per row of spec/opcode_table.json, in the table's order.
A vendor command carries the command ring `r` by which it comes (ring 2t of tenant t; 8,192 MCTP; 8,193 the console, R359)
and its descriptor `d`; a Fabric Manager API request carries its tag and tenant `q` (R275).
-/
namespace Sys2Proof

/-- One command of the block: one row of the table. -/
inductive Instr where
  -- registers and host configuration
  /-- FT_NOW_LO_READ (R37). -/
  | ftNowLoRead (path : Path)
  /-- REG_PAIR_LO_READ (R540). -/
  | regPairLoRead (path : Path) (offset : Nat)
  /-- PORT_BW_IN_LO_READ (R480). -/
  | portBwInLoRead (path : Path) (port : Nat)
  /-- REGISTER_WRITE (R539). -/
  | registerWrite (path : Path) (acc : RegAccess)
  /-- RWC_REGISTER_WRITE (R543). -/
  | rwcRegisterWrite (path : Path) (acc : RegAccess)
  /-- COUNTER_CLEAR_WRITE (R546). -/
  | counterClearWrite (path : Path) (acc : RegAccess) (incr : Nat)
  /-- HOST_CONFIG_WRITE (R58). -/
  | hostConfigWrite (port : Nat) (w : ConfigWrite)
  -- Fabric Time
  /-- FT_SYNC_MARKER (R40). -/
  | ftSyncMarker (pulse : MarkPulse)
  /-- FT_SYNC_FRAME (R41). -/
  | ftSyncFrame (f : SyncFrame)
  /-- FT_SYNC_IN_LOST (R39). -/
  | ftSyncInLost
  /-- FT_SYNC_OUT_MARKER (R42). -/
  | ftSyncOutMarker
  /-- TIME_SET (R43). -/
  | timeSet (r : Nat) (d : Desc)
  /-- TIME_SET_LOAD (R43). -/
  | timeSetLoad
  /-- TIME_CONFIG (R50). -/
  | timeConfig (r : Nat) (d : Desc)
  /-- TIME_QUERY (R37). -/
  | timeQuery (r : Nat) (d : Desc)
  /-- FT_STEP (R45). -/
  | ftStep
  /-- TIME_EXCHANGE (R250). -/
  | timeExchange (link : Nat)
  /-- TIME_REQ (R250). -/
  | timeReq (link exchId : Nat) (t1 : BitVec 64) (sub : Nat)
  /-- TIME_RSP (R46). -/
  | timeRsp (link exchId : Nat) (t2 t3 : BitVec 64) (sub : Nat)
  /-- TIME_ANNOUNCE (R38). -/
  | timeAnnounce (link : Nat) (cls hops : Nat) (traceable : Bool) (root : BitVec 64)
  /-- TIME_RSP_MISSED (R250). -/
  | timeRspMissed (link : Nat)
  /-- FT_HOLDOVER_LIMIT_EXPIRE (R49). -/
  | ftHoldoverLimitExpire
  /-- FT_OSC_FAIL (R49). -/
  | ftOscFail
  -- switching core
  /-- CXL_FLIT_RECEIVE (R68). -/
  | cxlFlitReceive (port : Nat) (f : CxlFlit)
  /-- PACKET_LOOKUP (R57). -/
  | packetLookup (p : PacketIn)
  /-- SPILL_RETURN (R78). -/
  | spillReturn (input output sc : Nat) (cls : MsgClass)
  /-- CELL_LEAVE (R76). -/
  | cellLeave (output bank : Nat) (v : Ecc)
  /-- CREDIT_STALL_TIME_EXPIRE (R76). -/
  | creditStallTimeExpire (port : Nat) (cls : MsgClass)
  /-- CXL_RETRY_REQUEST (R69). -/
  | cxlRetryRequest (port : Nat) (seq : Nat)
  /-- GOOD_COPY (R69). -/
  | goodCopy (port : Nat) (copy : CopyIn)
  /-- STOMP_HOLD_EXPIRE (R71). -/
  | stompHoldExpire (port pid : Nat)
  /-- PERMIT_REQ (R82). -/
  | permitReq (link : Nat) (m : PermitMsg)
  /-- PERMIT_GRANT (R82). -/
  | permitGrant (link : Nat) (m : PermitMsg)
  /-- PERMIT_RETURN (R83). -/
  | permitReturn (link : Nat) (m : PermitMsg)
  /-- PERMIT_REQUEST_RETRY (R82). -/
  | permitRequestRetry (dst path cls : Nat)
  /-- PERMIT_IDLE_EXPIRE (R83). -/
  | permitIdleExpire (dst path cls : Nat)
  /-- PERMIT_REQ_LOST (R255). -/
  | permitReqLost (dst path cls : Nat)
  /-- PATH_GUARD_EXPIRE (R87). -/
  | pathGuardExpire (dst tag : Nat)
  /-- PATH_PROBE (R87). -/
  | pathProbe (id path : Nat)
  /-- PROBE_RETURN (R87). -/
  | probeReturn (id path : Nat)
  /-- GUARDED_REQUEST_ARRIVAL (R88). -/
  | guardedRequestArrival (src : Nat) (g : GuardedReq)
  /-- GUARDED_RESPONSE (R89). -/
  | guardedResponse (dst tag : Nat) (executed : Bool)
  /-- DUPLICATE (R89). -/
  | duplicate (dst tag : Nat)
  /-- FABRIC_ID_SET (R61). -/
  | fabricIdSet (r : Nat) (d : Desc)
  /-- FABRIC_ID_QUERY (R61). -/
  | fabricIdQuery (r : Nat) (d : Desc)
  -- arbitration
  /-- ARBITER_DECISION (R101). -/
  | arbiterDecision (x : Nat) (waiting : List Nat)
  /-- SLOT_START (R104). -/
  | slotStart (x : Nat)
  /-- FRET_PARITY (R132). -/
  | fretParity (x slot : Nat)
  /-- EGRESS_FLIT_BOUNDARY (R109). -/
  | egressFlitBoundary (port : Nat)
  /-- GATE_LIST_SET (R116). -/
  | gateListSet (r : Nat) (d : Desc)
  /-- GATE_LIST_QUERY (R116). -/
  | gateListQuery (r : Nat) (d : Desc)
  /-- GATE_LIST_START (R112). -/
  | gateListStart (port : Nat)
  /-- GATE_ENTRY_BOUNDARY (R111). -/
  | gateEntryBoundary (port : Nat)
  /-- SHAPER_RELEASE (R122). -/
  | shaperRelease
  /-- COARSE_BUCKET_START (R121). -/
  | coarseBucketStart
  /-- PORT_SHAPER_SET (R120). -/
  | portShaperSet (r : Nat) (d : Desc)
  /-- SC0_FLOW_ADD (R124). -/
  | sc0FlowAdd (r : Nat) (d : Desc)
  /-- SC0_FLOW_REMOVE (R124). -/
  | sc0FlowRemove (r : Nat) (d : Desc)
  /-- SC0_FLOW_QUERY (R124). -/
  | sc0FlowQuery (r : Nat) (d : Desc)
  /-- FRET_BANK_WRITE (R544). -/
  | fretBankWrite (path : Path) (x n : Nat) (v : BitVec 32)
  /-- ARB_PRIO_WRITE (R103). -/
  | arbPrioWrite (path : Path) (x k : Nat) (v : BitVec 32)
  -- coherence
  /-- MEM_RD (R148). -/
  | memRd (m : MemReq)
  /-- MEM_INV (R148). -/
  | memInv (m : MemReq)
  /-- MEM_CLN_EVCT (R148). -/
  | memClnEvct (m : MemReq)
  /-- MEM_WR (R149). -/
  | memWr (m : MemReq)
  /-- MEM_WR_PTL (R149). -/
  | memWrPtl (m : MemReq)
  /-- BIRSP (R149). -/
  | birsp (m : SnoopRsp)
  /-- BICONFLICT (R153). -/
  | biconflict (port line : Nat) (accepted : Bool)
  /-- NACK (R161). -/
  | nack (port : Nat) (m : MemReq)
  /-- RETRY_BACKOFF_EXPIRE (R161). -/
  | retryBackoffExpire (port line : Nat)
  /-- LINE_DATA_READY (R151). -/
  | lineDataReady (line : Nat)
  /-- SNOOP_REACHABLE (R154). -/
  | snoopReachable (line agent : Nat)
  /-- BISNP_TIMEOUT (R167). -/
  | bisnpTimeout (line agent : Nat)
  /-- AGENT_DEAD_TIME_EXPIRE (R155). -/
  | agentDeadTimeExpire (domain agent : Nat)
  /-- AGENT_SWEEP_END (R155). -/
  | agentSweepEnd (domain agent : Nat)
  /-- RESPONSE_DEADLINE_EXPIRE (R188). -/
  | responseDeadlineExpire (line : Nat)
  /-- DOMAIN_CREATE (R136). -/
  | domainCreate (r : Nat) (d : Desc)
  /-- DOMAIN_DESTROY (R136). -/
  | domainDestroy (r : Nat) (d : Desc)
  /-- AGENT_BIND (R137). -/
  | agentBind (r : Nat) (d : Desc)
  /-- AGENT_UNBIND (R156). -/
  | agentUnbind (r : Nat) (d : Desc)
  /-- AGENT_UNBIND_END (R156). -/
  | agentUnbindEnd (domain agent : Nat)
  /-- AGENT_UNBIND_DEADLINE (R156). -/
  | agentUnbindDeadline (domain agent : Nat)
  /-- AGENT_REMOVE (R155). -/
  | agentRemove (r : Nat) (d : Desc)
  /-- DOMAIN_QUERY (R136). -/
  | domainQuery (r : Nat) (d : Desc)
  -- pooling
  /-- BACKING_ADD (R169). -/
  | backingAdd (r : Nat) (d : Desc) (dev : DeviceFacts)
  /-- BACKING_REMOVE (R170). -/
  | backingRemove (r : Nat) (d : Desc)
  /-- SPARE_SET (R170). -/
  | spareSet (r : Nat) (d : Desc)
  /-- WINDOW_CREATE (R174). -/
  | windowCreate (r : Nat) (d : Desc)
  /-- WINDOW_DESTROY (R176). -/
  | windowDestroy (r : Nat) (d : Desc)
  /-- WINDOW_GROW (R178). -/
  | windowGrow (r : Nat) (d : Desc)
  /-- WINDOW_SHRINK (R179). -/
  | windowShrink (r : Nat) (d : Desc)
  /-- WINDOW_SET (R175). -/
  | windowSet (r : Nat) (d : Desc)
  /-- WINDOW_QUERY (R197). -/
  | windowQuery (r : Nat) (d : Desc)
  /-- MEMBER_FAIL (R196). -/
  | memberFail (r : Nat) (d : Desc)
  /-- MEMBER_REPLACE (R196). -/
  | memberReplace (r : Nat) (d : Desc)
  /-- DC_RESPONSE (R178). -/
  | dcResponse (port : Nat) (window : Nat) (accepted : Nat)
  /-- DC_RESPONSE_TIME_EXPIRE (R178). -/
  | dcResponseTimeExpire (window : Nat)
  /-- RELEASE_CAPACITY_RESPONSE (R179). -/
  | releaseCapacityResponse (port window extent : Nat)
  /-- SHRINK_DRAIN_DEADLINE (R179). -/
  | shrinkDrainDeadline (window : Nat)
  /-- DS_TRIGGER_EXPIRE (R186). -/
  | dsTriggerExpire (line : Nat)
  /-- BACKING_READ_RESULT (R186). -/
  | backingReadResult (line member : Nat) (r : ReadResult)
  /-- BACKING_TIMEOUT_EXPIRE (R189). -/
  | backingTimeoutExpire (line : Nat)
  /-- BACKING_WRITE_COMPLETE (R192). -/
  | backingWriteComplete (line member : Nat) (ok : Bool)
  /-- BACKING_WRITE_LATE (R194). -/
  | backingWriteLate (line member : Nat)
  /-- MEMBER_LOSS_TIME_EXPIRE (R195). -/
  | memberLossTimeExpire (dev : Nat)
  /-- MEMBER_SLOW_RECOVERY (R196). -/
  | memberSlowRecovery (dev : Nat)
  /-- AUTO_SPARE_DELAY_EXPIRE (R196). -/
  | autoSpareDelayExpire (window member : Nat)
  /-- LEADER_REQUEST (R184). -/
  | leaderRequest (line : Nat) (reconstruct : Bool)
  -- HBM
  /-- HBM_CODEWORD_READ (R215). -/
  | hbmCodewordRead (c : CodewordRead)
  /-- PATROL_SCRUB (R216). -/
  | patrolScrub (c : CodewordRead)
  /-- RETIREMENT_COPY_END (R217). -/
  | retirementCopyEnd (pc block : Nat)
  /-- PLACEMENT_LOOP_UPDATE (R225). -/
  | placementLoopUpdate (slice : Nat)
  /-- PURGE_END (R226). -/
  | purgeEnd (dev extent : Nat)
  /-- HBM_RESERVE (R229). -/
  | hbmReserve (r : Nat) (d : Desc)
  /-- LC_CONFIG (R225). -/
  | lcConfig (r : Nat) (d : Desc)
  /-- HBM_QUERY (R219). -/
  | hbmQuery (r : Nat) (d : Desc)
  -- Stolevo
  /-- STV_FLIT_RECEIVE (R237). -/
  | stvFlitReceive (link : Nat) (f : WireFlit)
  /-- STV_FLIT_TRANSMIT (R247). -/
  | stvFlitTransmit (link : Nat)
  /-- ACK_TIMEOUT_EXPIRE (R244). -/
  | ackTimeoutExpire (link : Nat)
  /-- REPLAY_AGE_EXPIRE (R246). -/
  | replayAgeExpire (link : Nat)
  /-- STV_LANES_LOCKED (R251). -/
  | stvLanesLocked (link : Nat) (lanes : BitVec 16)
  /-- MARKERS_DESKEWED (R252). -/
  | markersDeskewed (link : Nat) (marks : List LaneMark)
  /-- TRAIN_FLIT (R253). -/
  | trainFlit (link : Nat) (f : TrainIn)
  /-- TRAIN_TIMEOUT_EXPIRE (R251). -/
  | trainTimeoutExpire (link : Nat)
  /-- IDLE_DOWN_EXPIRE (R251). -/
  | idleDownExpire (link : Nat)
  /-- RETRY_INTERVAL_EXPIRE (R251). -/
  | retryIntervalExpire (link : Nat)
  /-- STV_LINK_CONFIG (R261). -/
  | stvLinkConfig (r : Nat) (d : Desc)
  /-- STV_LINK_RETRAIN (R251). -/
  | stvLinkRetrain (r : Nat) (d : Desc)
  /-- STV_CTL_RETRAIN (R251). -/
  | stvCtlRetrain (path : Path) (link : Nat)
  /-- CLR_CNT (R546). -/
  | clrCnt (path : Path) (link : Nat)
  /-- STV_LINK_REMOVE (R257). -/
  | stvLinkRemove (r : Nat) (d : Desc)
  /-- STV_LINK_RESTORE (R257). -/
  | stvLinkRestore (r : Nat) (d : Desc)
  /-- STV_LINK_QUERY (R251). -/
  | stvLinkQuery (r : Nat) (d : Desc)
  -- CXL ports
  /-- CXL_LINK_UP (R266). -/
  | cxlLinkUp (port : Nat) (p : PartnerFacts)
  /-- CXL_LINK_DOWN (R268). -/
  | cxlLinkDown (port : Nat)
  /-- HOT_RESET (R268). -/
  | hotReset (port : Nat)
  /-- L0P_REQUEST (R269). -/
  | l0pRequest (port width : Nat)
  /-- L0P_RESPONSE (R270). -/
  | l0pResponse (port : Nat) (accepted : Bool)
  /-- RECEIVER_DETECT (R277). -/
  | receiverDetect (port : Nat)
  /-- PORT_CONFIG (R356). -/
  | portConfig (r : Nat) (d : Desc)
  /-- PORT_QUERY (R267). -/
  | portQuery (r : Nat) (d : Desc)
  /-- PORT_RETRAIN (R304). -/
  | portRetrain (r : Nat) (d : Desc)
  /-- PORT_CTL_RETRAIN (R304). -/
  | portCtlRetrain (path : Path) (port : Nat)
  /-- PERST_MAP (R281). -/
  | perstMap (r : Nat) (d : Desc)
  /-- VCS_CREATE (R271). -/
  | vcsCreate (r : Nat) (d : Desc)
  /-- VCS_DESTROY (R271). -/
  | vcsDestroy (r : Nat) (d : Desc)
  /-- VPPB_BIND (R273). -/
  | vppbBind (r : Nat) (d : Desc)
  /-- VPPB_UNBIND (R279). -/
  | vppbUnbind (r : Nat) (d : Desc)
  /-- VCS_QUERY (R271). -/
  | vcsQuery (r : Nat) (d : Desc)
  /-- UNBIND_TIMEOUT_EXPIRE (R279). -/
  | unbindTimeoutExpire (vcs vppb : Nat)
  /-- POWER_CONTROLLER_OFF (R278). -/
  | powerControllerOff (vcs vppb : Nat)
  /-- PERST_IN_N_EDGE (R282). -/
  | perstInNEdge (pin : Nat) (low : Bool)
  /-- PERST_IN_ASSERT (R282). -/
  | perstInAssert (pin : Nat)
  /-- PERST_IN_RELEASE (R283). -/
  | perstInRelease (pin : Nat)
  /-- PERST_OUT_MIN_EXPIRE (R283). -/
  | perstOutMinExpire (pin : Nat)
  /-- IDENTIFY (R275). -/
  | identify (q : FmReq)
  /-- BACKGROUND_OPERATION_STATUS (R275). -/
  | backgroundOperationStatus (q : FmReq)
  /-- GET_RESPONSE_MESSAGE_LIMIT (R275). -/
  | getResponseMessageLimit (q : FmReq)
  /-- SET_RESPONSE_MESSAGE_LIMIT (R275). -/
  | setResponseMessageLimit (q : FmReq) (limit : Nat)
  /-- IDENTIFY_SWITCH_DEVICE (R275). -/
  | identifySwitchDevice (q : FmReq)
  /-- GET_PHYSICAL_PORT_STATE (R275). -/
  | getPhysicalPortState (q : FmReq) (port : Nat)
  /-- PHYSICAL_PORT_CONTROL (R275). -/
  | physicalPortControl (q : FmReq) (port : Nat) (action : PortAction)
  /-- SEND_PPB_CXL_IO_CONFIGURATION_REQUEST (R275). -/
  | sendPpbCxlIoConfigurationRequest (q : FmReq) (port reg : Nat) (write : Bool) (value : BitVec 32)
  /-- GET_VIRTUAL_CXL_SWITCH_INFO (R275). -/
  | getVirtualCxlSwitchInfo (q : FmReq) (vcs : Nat)
  /-- BIND_VPPB (R276). -/
  | bindVppb (q : FmReq) (vcs vppb port : Nat) (ld : Option Nat)
  /-- UNBIND_VPPB (R276). -/
  | unbindVppb (q : FmReq) (vcs vppb option : Nat)
  /-- GENERATE_AER_EVENT (R275). -/
  | generateAerEvent (q : FmReq) (vcs vppb : Nat) (err : BitVec 32)
  /-- TUNNEL_MANAGEMENT_COMMAND (R275). -/
  | tunnelManagementCommand (q : FmReq) (port : Nat) (body : List (BitVec 8))
  /-- SEND_LD_CXL_IO_CONFIGURATION_REQUEST (R275). -/
  | sendLdCxlIoConfigurationRequest (q : FmReq) (port ld reg : Nat) (write : Bool) (value : BitVec 32)
  /-- SEND_LD_CXL_IO_MEMORY_REQUEST (R275). -/
  | sendLdCxlIoMemoryRequest (q : FmReq) (port ld : Nat) (write : Bool) (addr : BitVec 64) (body : List (BitVec 8))
  /-- GET_LD_INFO (R275). -/
  | getLdInfo (q : FmReq) (port : Nat)
  /-- GET_LD_ALLOCATIONS (R275). -/
  | getLdAllocations (q : FmReq) (port : Nat) (body : List (BitVec 8))
  /-- SET_LD_ALLOCATIONS (R275). -/
  | setLdAllocations (q : FmReq) (port : Nat) (shrinks : List Nat) (body : List (BitVec 8))
  /-- GET_QOS_CONTROL (R275). -/
  | getQosControl (q : FmReq) (port : Nat)
  /-- SET_QOS_CONTROL (R275). -/
  | setQosControl (q : FmReq) (port : Nat) (body : List (BitVec 8))
  /-- GET_QOS_STATUS (R275). -/
  | getQosStatus (q : FmReq) (port : Nat)
  /-- GET_QOS_ALLOCATED_BW (R275). -/
  | getQosAllocatedBw (q : FmReq) (port : Nat) (body : List (BitVec 8))
  /-- SET_QOS_ALLOCATED_BW (R275). -/
  | setQosAllocatedBw (q : FmReq) (port : Nat) (body : List (BitVec 8))
  /-- GET_QOS_BW_LIMIT (R275). -/
  | getQosBwLimit (q : FmReq) (port : Nat) (body : List (BitVec 8))
  /-- SET_QOS_BW_LIMIT (R275). -/
  | setQosBwLimit (q : FmReq) (port : Nat) (body : List (BitVec 8))
  /-- GET_MULTI_HEADED_INFO (R275). -/
  | getMultiHeadedInfo (q : FmReq)
  /-- GET_HEAD_INFO (R275). -/
  | getHeadInfo (q : FmReq) (first count : Nat)
  /-- GET_DCD_INFO (R275). -/
  | getDcdInfo (q : FmReq)
  /-- GET_HOST_DC_REGION_CONFIGURATION (R275). -/
  | getHostDcRegionConfiguration (q : FmReq) (port : Nat)
  /-- GET_DC_REGION_EXTENT_LISTS (R275). -/
  | getDcRegionExtentLists (q : FmReq) (port ld : Nat)
  /-- FM_API_UNSUPPORTED (R276). -/
  | fmApiUnsupported (q : FmReq) (code : Nat)
  -- lanes
  /-- REFCLK_COUNT (R294). -/
  | refclkCount (course edges : Nat)
  /-- REFCLK_EDGE_LOSS (R294). -/
  | refclkEdgeLoss (course : Nat)
  /-- LANE_LOS (R303). -/
  | laneLos (lane : Nat)
  /-- LANE_CDR_UNLOCK (R303). -/
  | laneCdrUnlock (lane : Nat)
  /-- LANE_ERR_LIMIT (R303). -/
  | laneErrLimit (lane corrections : Nat)
  /-- EQ_FAIL (R301). -/
  | eqFail (lane : Nat)
  /-- LANE_CONFIG (R312). -/
  | laneConfig (r : Nat) (d : Desc)
  /-- LANE_QUERY (R312). -/
  | laneQuery (r : Nat) (d : Desc)
  /-- LANE_TEST (R308). -/
  | laneTest (r : Nat) (d : Desc)
  /-- LANE_TEST_END (R311). -/
  | laneTestEnd (lane : Nat) (bits errors losses : Nat)
  /-- LANE_MARGIN (R307). -/
  | laneMargin (r : Nat) (d : Desc)
  /-- LANE_MARGIN_END (R307). -/
  | laneMarginEnd (lane left right up down : Nat)
  /-- MARGIN_REQUEST (R306). -/
  | marginRequest (lane : Nat)
  /-- LANE_EQ_CLEAR (R302). -/
  | laneEqClear (r : Nat) (d : Desc)
  /-- EQ_CLEAR (R302). -/
  | eqClear (path : Path) (lane : Nat)
  /-- CLR_QUAR (R305). -/
  | clrQuar (path : Path) (lane : Nat)
  /-- LANE_PRBS_WRITE (R308). -/
  | lanePrbsWrite (path : Path) (lane : Nat) (v : BitVec 32)
  /-- INJECT_ONE (R310). -/
  | injectOne (path : Path) (lane : Nat)
  /-- PRBS_CLR (R546). -/
  | prbsClr (path : Path) (lane : Nat)
  -- tenants
  /-- TENANT_CREATE (R324). -/
  | tenantCreate (r : Nat) (d : Desc)
  /-- TENANT_DESTROY (R323). -/
  | tenantDestroy (r : Nat) (d : Desc)
  /-- TENANT_SET (R330). -/
  | tenantSet (r : Nat) (d : Desc)
  /-- TENANT_BIND (R321). -/
  | tenantBind (r : Nat) (d : Desc)
  /-- TENANT_UNBIND (R322). -/
  | tenantUnbind (r : Nat) (d : Desc)
  /-- TENANT_ENABLE (R324). -/
  | tenantEnable (r : Nat) (d : Desc)
  /-- TENANT_DISABLE (R325). -/
  | tenantDisable (r : Nat) (d : Desc)
  /-- TENANT_RESET (R331). -/
  | tenantReset (r : Nat) (d : Desc)
  /-- TENANT_QUERY (R324). -/
  | tenantQuery (r : Nat) (d : Desc)
  /-- DRAIN_COMPLETE (R326). -/
  | drainComplete (tenant : Nat)
  /-- TENANT_DRAIN_DEADLINE (R327). -/
  | tenantDrainDeadline (tenant : Nat)
  -- rings
  /-- DOORBELL (R341). -/
  | doorbell (path : Path) (tenant : Nat) (v : BitVec 32)
  /-- EVT_HEAD_WRITE (R343). -/
  | evtHeadWrite (path : Path) (tenant : Nat) (v : BitVec 32)
  /-- DESCRIPTOR_FETCH (R342). -/
  | descriptorFetch (tenant : Nat) (f : Fetch)
  /-- EVT_COALESCE_EXPIRE (R351). -/
  | evtCoalesceExpire (tenant : Nat)
  /-- MGR_RING_ENABLE (R340). -/
  | mgrRingEnable (path : Path) (v : BitVec 32)
  /-- MGR_RING_DISABLE (R340). -/
  | mgrRingDisable (path : Path) (v : BitVec 32)
  /-- RING_SETUP (R339). -/
  | ringSetup (r : Nat) (d : Desc)
  /-- RING_STOP (R339). -/
  | ringStop (r : Nat) (d : Desc)
  /-- RING_QUERY (R339). -/
  | ringQuery (r : Nat) (d : Desc)
  /-- NOP (R346). -/
  | nop (r : Nat) (d : Desc)
  /-- ABORT (R352). -/
  | abort (r : Nat) (d : Desc)
  /-- JOB_QUERY (R395). -/
  | jobQuery (r : Nat) (d : Desc)
  /-- MCTP_MESSAGE (R358). -/
  | mctpMessage (endpoint : Nat) (m : MctpMsg)
  /-- MCTP_ENDPOINT_RESET (R359). -/
  | mctpEndpointReset (endpoint : Nat)
  /-- CONSOLE_COMMAND (R359). -/
  | consoleCommand (opcode : Nat) (d : Desc)
  /-- MGMT_FW_READY (R360). -/
  | mgmtFwReady
  -- groups
  /-- GROUP_OPEN (R362). -/
  | groupOpen (r : Nat) (d : Desc)
  /-- GROUP_CHECK (R371). -/
  | groupCheck (r : Nat) (d : Desc)
  /-- GROUP_COMMIT (R374). -/
  | groupCommit (r : Nat) (d : Desc)
  /-- GROUP_DISCARD (R368). -/
  | groupDiscard (r : Nat) (d : Desc)
  /-- GROUP_QUERY (R363). -/
  | groupQuery (r : Nat) (d : Desc)
  /-- GROUP_RENEW (R367). -/
  | groupRenew (r : Nat) (d : Desc)
  /-- GROUP_APPLY (R377). -/
  | groupApply
  /-- GROUP_LEASE_EXPIRE (R367). -/
  | groupLeaseExpire (group : Nat)
  /-- GROUP_COMMIT_END (R380). -/
  | groupCommitEnd (group : Nat)
  -- mover
  /-- COPY (R389). -/
  | copy (r : Nat) (d : Desc)
  /-- FILL (R389). -/
  | fill (r : Nat) (d : Desc)
  /-- MIGRATE (R203). -/
  | migrate (r : Nat) (d : Desc)
  /-- RESYNC (R398). -/
  | resync (r : Nat) (d : Desc)
  /-- DUMP (R387). -/
  | dump (r : Nat) (d : Desc)
  /-- JOB_START (R383). -/
  | jobStart (engine : Nat)
  /-- AUTO_JOB_START (R397). -/
  | autoJobStart (engine : Nat)
  /-- MOVER_LINE_TRANSACTION (R391). -/
  | moverLineTransaction (engine line : Nat)
  /-- JOB_END (R394). -/
  | jobEnd (engine : Nat)
  /-- JOB_FAULT (R392). -/
  | jobFault (engine : Nat) (f : AccessFailure)
  /-- MOVER_ENGINE_FAULT (R396). -/
  | moverEngineFault (engine : Nat)
  /-- MOVER_AUTO_BACKLOG (R397). -/
  | moverAutoBacklog
  -- faults
  /-- FAULT_HOLDOFF_EXPIRE (R404). -/
  | faultHoldoffExpire (source : Nat)
  /-- FAULT_QUEUE_ROOM (R404). -/
  | faultQueueRoom
  /-- CHIP_RESET (R408). -/
  | chipReset
  /-- SNAP_TIMEOUT_EXPIRE (R408). -/
  | snapTimeoutExpire
  /-- MIN_WIDTH_EXPIRE (R410). -/
  | minWidthExpire
  /-- RELEASE (R410). -/
  | release (path : Path)
  /-- FAULT_PEND_CLEAR (R409). -/
  | faultPendClear (path : Path) (group : Nat) (w : PendWrite)
  /-- FAULT_SEVERITY (R402). -/
  | faultSeverity (r : Nat) (d : Desc)
  /-- FAULT_REACTION (R402). -/
  | faultReaction (r : Nat) (d : Desc)
  /-- FAULT_QUERY (R400). -/
  | faultQuery (r : Nat) (d : Desc) (bad : Option CfgEntry)
  /-- ERR_OUT_CONFIG (R410). -/
  | errOutConfig (r : Nat) (d : Desc)
  /-- BB_READ (R414). -/
  | bbRead (r : Nat) (d : Desc) (bad : List BadCopy)
  /-- BB_EXPORT (R421). -/
  | bbExport (r : Nat) (d : Desc)
  /-- BB_SNAPSHOT (R416). -/
  | bbSnapshot (r : Nat) (d : Desc)
  /-- BB_RECORD_WRITE (R415). -/
  | bbRecordWrite (again : Bool)
  /-- SNAPSHOT_END (R416). -/
  | snapshotEnd (complete : Bool)
  /-- SUPPLY_WARNING (R418). -/
  | supplyWarning (rail : Nat)
  /-- SUPPLY_RESTORED (R419). -/
  | supplyRestored (rail : Nat)
  /-- MGMT_WATCHDOG (R401). -/
  | mgmtWatchdog (core : Nat)
  /-- MGMT_ECC_ERROR (R401). -/
  | mgmtEccError (core : Nat) (corrected : Bool)
  /-- MGMT_FW_ASSERT (R401). -/
  | mgmtFwAssert (info : BitVec 64)
  -- self test
  /-- BIST_RUN (R434). -/
  | bistRun (r : Nat) (d : Desc)
  /-- SLICE_TEST_CONFIG (R427). -/
  | sliceTestConfig (r : Nat) (d : Desc)
  /-- BIST_RESULT (R430). -/
  | bistResult (r : Nat) (d : Desc)
  /-- ERR_INJECT (R435). -/
  | errInject (r : Nat) (d : Desc)
  /-- SLICE_INTERVAL_EXPIRE (R427). -/
  | sliceIntervalExpire
  /-- SLICE_ISOLATION_DONE (R427). -/
  | sliceIsolationDone
  /-- SLICE_DRAIN_EXPIRE (R427). -/
  | sliceDrainExpire
  /-- SLICE_TEST_END (R427). -/
  | sliceTestEnd (r : List TestResult)
  -- slot power
  /-- PRSNT_N_FALL (R440). -/
  | prsntNFall (chan : Nat)
  /-- DEBOUNCE_ABORT (R440). -/
  | debounceAbort (chan : Nat)
  /-- INSERTION_QUALIFIED (R441). -/
  | insertionQualified (chan : Nat)
  /-- REMOVAL (R441). -/
  | removal (chan : Nat)
  /-- FAULT_TIMER_EXPIRE (R443). -/
  | faultTimerExpire (chan : Nat)
  /-- FAST_TRIP (R443). -/
  | fastTrip (chan : Nat)
  /-- POWER_GOOD (R444). -/
  | powerGood (chan : Nat)
  /-- POWER_GOOD_LOST (R444). -/
  | powerGoodLost (chan : Nat)
  /-- RETRY_HOLDOFF_END (R445). -/
  | retryHoldoffEnd (chan : Nat)
  /-- RETRY_COUNT_RESET (R445). -/
  | retryCountReset (chan : Nat)
  /-- GATE_STUCK (R447). -/
  | gateStuck (chan : Nat)
  /-- OFF_VOLTAGE (R448). -/
  | offVoltage (chan : Nat)
  /-- FEED_BAD (R449). -/
  | feedBad (chan feed : Nat)
  /-- FEED_GOOD (R449). -/
  | feedGood (chan feed : Nat)
  /-- FEED_RETURN_EXPIRE (R449). -/
  | feedReturnExpire (chan : Nat)
  /-- DEAD_TIME_END (R449). -/
  | deadTimeEnd (chan : Nat)
  /-- INPUT_LOW (R450). -/
  | inputLow (chan : Nat) (low : Bool)
  /-- WARN_LEAD_END (R450). -/
  | warnLeadEnd (chan : Nat)
  /-- SP_WARN_RELEASE (R450). -/
  | spWarnRelease (chan : Nat)
  /-- SLOT_SAMPLE (R452). -/
  | slotSample (chan : Nat) (m : SlotReading)
  /-- SLOT_CONFIG (R453). -/
  | slotConfig (r : Nat) (d : Desc)
  /-- SLOT_ON (R450). -/
  | slotOn (r : Nat) (d : Desc)
  /-- SLOT_OFF (R450). -/
  | slotOff (r : Nat) (d : Desc)
  /-- SLOT_QUERY (R452). -/
  | slotQuery (r : Nat) (d : Desc)
  /-- FEED_SELECT (R449). -/
  | feedSelect (r : Nat) (d : Desc)
  -- rungs
  /-- RUNG_DESCENT (R456). -/
  | rungDescent (course : Nat)
  /-- COURSE_WAKE (R457). -/
  | courseWake (course : Nat)
  /-- DEVICE_SLACK_ENTRY (R460). -/
  | deviceSlackEntry
  /-- DEVICE_WAKE (R460). -/
  | deviceWake
  /-- AVS_INTERVAL (R463). -/
  | avsInterval (m : AvsReading)
  /-- AVS_EMERGENCY (R464). -/
  | avsEmergency (m : AvsReading)
  /-- CORE_CURRENT_LIMIT (R465). -/
  | coreCurrentLimit (amps : Nat)
  /-- CORE_CURRENT_RELEASE (R465). -/
  | coreCurrentRelease
  /-- LW_INTERVAL (R466). -/
  | lwInterval (port : Nat) (bytes : Nat)
  /-- RATE_INTERVAL (R467). -/
  | rateInterval (link : Nat) (bytes : Nat)
  /-- THERMAL_SAMPLE (R469). -/
  | thermalSample (m : ThermalReading)
  /-- THERMAL_STEP_EXIT (R470). -/
  | thermalStepExit
  /-- THERMAL_TRIP (R470). -/
  | thermalTrip
  /-- THERMAL_TRIP_RELEASE (R470). -/
  | thermalTripRelease
  /-- RUNG_SET (R456). -/
  | rungSet (r : Nat) (d : Desc)
  /-- LOOP_BOUNDS (R468). -/
  | loopBounds (r : Nat) (d : Desc)
  /-- POWER_QUERY (R468). -/
  | powerQuery (r : Nat) (d : Desc)
  -- counters
  /-- CTR_CONFIG (R476). -/
  | ctrConfig (r : Nat) (d : Desc)
  /-- CTR_READ (R481). -/
  | ctrRead (r : Nat) (d : Desc)
  /-- DUMP_SCHEDULE (R482). -/
  | dumpSchedule (r : Nat) (d : Desc)
  /-- BW_WINDOW (R479). -/
  | bwWindow (r : Nat) (d : Desc)
  /-- BW_WINDOW_END (R479). -/
  | bwWindowEnd (port : Nat)
  /-- DUMP_INSTANT (R482). -/
  | dumpInstant (schedule : Nat)
  -- security
  /-- FW_UPDATE (R495). -/
  | fwUpdate (r : Nat) (d : Desc)
  /-- FW_ACTIVATE (R496). -/
  | fwActivate (r : Nat) (d : Desc)
  /-- KEY_REVOKE (R493). -/
  | keyRevoke (r : Nat) (d : Desc) (a : AuthBlock)
  /-- ROLLBACK_ADVANCE (R494). -/
  | rollbackAdvance (r : Nat) (d : Desc)
  /-- IDE_KEY_PROG (R502). -/
  | ideKeyProg (r : Nat) (d : Desc)
  /-- IDE_KEY_GO (R502). -/
  | ideKeyGo (r : Nat) (d : Desc)
  /-- CERT_GET (R499). -/
  | certGet (r : Nat) (d : Desc)
  /-- MEASURE_GET (R499). -/
  | measureGet (r : Nat) (d : Desc)
  /-- KEY_PROG (R503). -/
  | keyProg (sess : Nat) (k : IdeKm)
  /-- K_SET_GO (R502). -/
  | kSetGo (sess : Nat) (k : IdeKm)
  /-- GET_VERSION (R500). -/
  | getVersion (mbox : Nat)
  /-- GET_CAPABILITIES (R500). -/
  | getCapabilities (mbox : Nat)
  /-- NEGOTIATE_ALGORITHMS (R500). -/
  | negotiateAlgorithms (mbox : Nat) (hybrid : Bool)
  /-- GET_DIGESTS (R500). -/
  | getDigests (mbox : Nat)
  /-- GET_CERTIFICATE (R500). -/
  | getCertificate (mbox slot offset length : Nat)
  /-- CHALLENGE (R500). -/
  | challenge (mbox slot : Nat)
  /-- GET_MEASUREMENTS (R500). -/
  | getMeasurements (mbox index : Nat) (signed : Bool)
  /-- KEY_EXCHANGE (R500). -/
  | keyExchange (mbox slot : Nat)
  /-- FINISH (R500). -/
  | finish (mbox sess : Nat) (ok : Bool)
  /-- HEARTBEAT (R500). -/
  | heartbeat (mbox sess : Nat)
  /-- KEY_UPDATE (R500). -/
  | keyUpdate (mbox sess : Nat)
  /-- END_SESSION (R500). -/
  | endSession (mbox sess : Nat)
  /-- SET_CERTIFICATE (R499). -/
  | setCertificate (mbox sess slot : Nat) (ok : Bool) (chain : List (BitVec 8))
  /-- SPDM_UNSUPPORTED_REQUEST (R500). -/
  | spdmUnsupportedRequest (mbox code : Nat)
  /-- TRIAL_CONFIRM (R490). -/
  | trialConfirm
  /-- BOOT_FW_READY_TIMEOUT (R489). -/
  | bootFwReadyTimeout
  /-- ACTIVATE_FW_READY_TIMEOUT (R496). -/
  | activateFwReadyTimeout
  /-- DEBUG_TOKEN (R506). -/
  | debugToken (t : DebugToken)
  -- supplies
  /-- RST_N_ASSERT (R514). -/
  | rstNAssert
  /-- STANDBY_RAIL_LOW (R511). -/
  | standbyRailLow (rail : Nat)
  /-- START (R516). -/
  | start (b : StartFacts)
  /-- WARM_N_QUALIFIED (R514). -/
  | warmNQualified
  /-- RAIL_UV (R511). -/
  | railUv (rail : Nat)
  /-- RAIL_OV (R511). -/
  | railOv (rail : Nat)
  /-- RAILS_GOOD (R511). -/
  | railsGood
  /-- SHUTDOWN_GO (R518). -/
  | shutdownGo (path : Path) (v : BitVec 32)
  /-- SHUTDOWN_PHASE_END (R518). -/
  | shutdownPhaseEnd (r : PhaseFacts)
  -- late rows
  /-- GROUP_CHECK_END (R364). -/
  | groupCheckEnd (group : Nat) (storage : Option Nat)
  /-- FT_OSC_RESTORED (R49). -/
  | ftOscRestored
  /-- COMPLETION_TIMEOUT (R342). -/
  | completionTimeout (kind : ReadKind)
  /-- MOVER_WRITE_COMPLETE (R393). -/
  | moverWriteComplete (engine : Nat) (m : MoverLines)
  /-- CURRENT_LIMIT_ENGAGE (R443). -/
  | currentLimitEngage (chan : Nat)
  /-- CURRENT_LIMIT_RELEASE (R443). -/
  | currentLimitRelease (chan : Nat)
  /-- FW_IMAGE_WRITTEN (R495). -/
  | fwImageWritten (img : ImageFacts)
  /-- SPDM_RESPONSE (R501). -/
  | spdmResponse (port : Nat) (r : DeviceAnswer)
  deriving DecidableEq, Repr

end Sys2Proof
end

