-- ==== Sys2Proof/Decode.lean ====
section
/-!
DEFINITION. The commands that the table spells by bits. No row of the opcode table gives bits: commands come as register accesses,
descriptors, messages and events, and the block decodes none of them from an instruction word.
-/
namespace Sys2Proof

/-- The command that a word of the table's bits spells: none. -/
def decodeTableWord (_nbits _w : Nat) : Option Instr := none

end Sys2Proof
end

