-- ==== Sys2Proof/Config.lean ====
section
/-!
DEFINITION. What the spec leaves open: free values. Each is a constant without a body, so nothing can be proved of its value
(notes/assumptions/3.md).
-/
namespace Sys2Proof

/-- A fresh free value: applied to the counter `Chip.freeCtr`, which the command then advances. -/
opaque Config.freeNat : Nat → Nat

/-- The rate in HOLDOVER (R50): of the last disciplined rate and the offset of FT_OSC that was learned. -/
opaque Config.holdoverRate : BitVec 32 → Nat → Nat

/-- Bytes that the full result of a query with a result buffer needs, by opcode, where no table lays the result out. -/
opaque Config.queryBytes : Nat → Nat

/-- The retry count at which a port's link is retrained: "the CXL threshold" (R292). -/
opaque Config.cxlRetryThreshold : Nat

/-- The device that holds a fabric ID (R81), by the ID of its management complex. -/
opaque Config.deviceOf : Nat → Nat

/-- The hash of a 4 KiB page that indexes a slice's miss counters (R225). -/
opaque Config.pageHash : Nat → Nat

/-- The residues modulo 128 of the line-cache sets of the two sample groups (R225): the group at T − 1, and how far the group at T + 1
lies from it. -/
opaque Config.sampleLow : Nat
opaque Config.sampleHigh : Nat

/-- The pseudo-channel, within its quadrant, that holds a directory set of a slice (Table 7.2 leaves the placement open). -/
opaque Config.dirPlace : Nat → Nat → Nat

/-- The 4 KiB block of a pseudo-channel that a row (bank × 2^16 + row) lies in, and the rows of a block (R217, R218). -/
opaque Config.rowBlock : Nat → Nat
opaque Config.blockRows : Nat → List Nat

/-- The bytes of the firmware trace that a crash snapshot captures (R416): of its free value and the place. -/
opaque Config.fwTrace : Nat → Nat → BitVec 8

/-- The directory-cache segment that holds a set of a slice (Table 16.2; R146 leaves the placement open). -/
opaque Config.dirSegment : Nat → Nat → Nat

end Sys2Proof
end

