-- ==== Sys2Proof/Machine/Parts/Common.lean ====
section
/-!
DEFINITION. Records that several parts of the state share: a command that is still running, an event record, and `Msg`,
what the switch sends out (the model's own output log; notes/assumptions/2.md).
-/
namespace Sys2Proof.Machine

/-- A command that has started and whose event is still owed (R344, R349, R380). `group` is 0 for an immediate command;
otherwise it is the key in `Groups.tails` of the applied group whose item `item` it is (Table 13.5). -/
structure CmdRef where
  ring    : Nat := 0
  tag     : Word := 0
  opcode  : Nat := 0
  target  : Nat := 0
  respond : Bool := false
  group   : Nat := 0
  item    : Nat := 0
  deriving DecidableEq, Repr, Inhabited

/-- An event record (Table 12.4). `result` are bytes 16–30 in order, without trailing zeros of a shorter layout. -/
structure EventRec where
  code        : Nat := 0
  status      : Status := .ok
  tag         : Word := 0
  time        : DWord := 0
  result      : List Byte := []
  phase       : Bool := true
  unsolicited : Bool := false
  staged      : Bool := false
  restarted   : Bool := false
  deriving DecidableEq, Repr, Inhabited

/-- Snoops the switch sends (Table 5.6). -/
inductive SnoopOp where
  | cur | data | inv
  deriving DecidableEq, Repr, Inhabited

/-- How a request of a host is answered. -/
inductive Answer where
  | data (line : Line) (granted : Meta) | poison (granted : Meta) | cmp (granted : Meta)
  | unsupported | abort | success (value : Nat) | poisonTlp
  deriving DecidableEq, Repr, Inhabited

/-- Permit messages by kind (Table 8.6). -/
inductive PermitKind where
  | req | grant | ret
  deriving DecidableEq, Repr, Inhabited

/-- The fields of a link flit header (Table 8.2). -/
structure FlitHead where
  seq    : Nat := 0
  ack    : Nat := 0
  snack  : Nat := 0
  cls    : Nat := 0
  typ    : Nat := 0
  poison : Bool := false
  keySet : Bool := false
  hop    : Nat := 0
  deriving DecidableEq, Repr, Inhabited

/-- Control messages of a Stolevo Link (Table 8.6). -/
inductive CtrlMsg where
  | permit (kind : PermitKind) (m : PermitMsg)
  | timeReq (exchId : Nat) (t1 : DWord)
  | timeRsp (exchId : Nat) (t2 t3 : DWord)
  | announce (cls hops : Nat) (traceable : Bool) (root : DWord)
  deriving DecidableEq, Repr, Inhabited

/-- An entry of a CXL egress replay buffer (R69, Table 3.4). -/
structure ReplayEnt where
  seq    : Nat := 0
  pid    : Nat := 0
  bad    : Bool := false          -- it waits for its good copy
  poison : Bool := false          -- replayed with its data poisoned
  ecrc   : Bool := false          -- replayed with its ECRC inverted
  deriving DecidableEq, Repr, Inhabited

/-- Fabric Manager API return codes (R276). -/
inductive FmCode where
  | success | busy | unsupported | invalidInput
  deriving DecidableEq, Repr, Inhabited

/-- What the switch sends or drives: the entries of `Chip.sent`, newest first. -/
inductive Msg where
  | fetch (ring addr : Nat)                              -- the read of a descriptor, by its address in the host's memory (R338, R342)
  | event (ring addr : Nat) (bytes : List Byte)          -- a record written to a ring (R343); on a pseudo-ring the MCTP response to endpoint `addr`, or console text
  | interrupt (ring vector : Nat)                        -- an MSI-X interrupt (R351)
  | result (ring addr bytes : Nat) (data : List Byte)   -- a result buffer (R348)
  | hostWrite (ring addr : Nat) (data : List Byte) (poison : Bool)  -- a posted write of a job or a dump (R350, R392)
  | readData (path : Path) (value : DWord)               -- what a register read returned (R540, R480)
  | trap                                                 -- the non-maskable trap to the management cores (R405)
  | flit (link : Nat) (lanes : List (List Pam4))         -- a Stolevo wire flit: the symbols of each lane of the group (R232)
  | train (link : Nat) (lanes : List (List Pam4))        -- a TRAIN flit on every group of four lanes (R252)
  | marker (link : Nat) (lanes : List (List Pam4))       -- an ALIGN marker on every lane (R252)
  | syncOut (next : Nat) (cls : Nat) (traceable : Bool)  -- marker and frame on FT_SYNC_OUT (R42)
  | cxlFlit (port seq : Nat) (pid : Nat) (stomped poison ecrcBad : Bool)
  | nop (port : Nat)                                     -- NOP flits in answer to a retry request (R69)
  | replay (port fromSeq : Nat) (changed : List ReplayEnt)  -- from the replay buffer, with the entries whose content was replaced
  | retryRequest (port : Nat)                            -- the switch asks its link partner for replay (R68)
  | tlpAnswer (port : Nat) (a : Answer)                  -- a completion from a switch port (Tables 3.1, 9.4)
  | snoop (fab line sc : Nat) (op : SnoopOp)
  | nack (fab : Nat) (m : MemReq)                        -- the internal NDR of R161
  | resend (port : Nat) (m : MemReq)                     -- a port agent sends a NACKed request again (R161)
  | conflictAck (port line : Nat)
  | drs (fab req : Nat) (a : Answer)                     -- the answer to a CXL.mem request
  | execute (src pid : Nat) (write : Bool)               -- a guarded request handed on at the far device (Table 3.7)
  | guardAnswer (src tag path : Nat) (duplicate : Bool)
  | toSlice (slice pid cell : Nat)                       -- a home quadrant port passes a cell on (R66)
  | probe (dst path : Nat)
  | backRead (dev ext line : Nat)                        -- `line`: 64 B offset in the extent
  | backWrite (dev ext line : Nat) (data : Line) (mask : BitVec 64) (poison : Bool)
  | addCapacity (port window extents : Nat) (tag : Option Nat)   -- the tag of sharable extents (R177)
  | releaseCapacity (port window first count : Nat)
  | forcedRemoval (port window first count : Nat)
  | l0pRequest (port width : Nat)
  | l0pAnswer (port : Nat) (accepted : Bool)
  | hotPlug (vcs vppb kind : Nat)                        -- 0 presence detected, 1 managed remove, 2 surprise remove, 3 slot off, 4 surprise link down, 5 contained, 6 link active, 7 command completed
  | ldReset (port ld : Nat)
  | toPartner (port : Nat) (cmd : Nat) (body : List Byte) -- a request passed to a partner's FM-owned LD or configuration space
  | fmAnswer (tag : Nat) (code : FmCode) (values : List Nat)   -- a Fabric Manager API response (R276)
  | fmStatus (tag : Nat) (status : Status)               -- the event that records a vendor status (R276); Table 12.6 has no code for it
  | aer (vcs vppb : Nat) (err : Word)
  | spdm (mbox : Nat) (what : String) (values : List Nat)   -- an SPDM response (R500)
  | ideKm (port : Nat) (what : String)
  | avs (millivolts : Nat)
  | mctpUnsolicited (endpoint : Nat) (bytes : List Byte)   -- an unsolicited message (R358)
  deriving DecidableEq, Repr, Inhabited

end Sys2Proof.Machine
end

