-- ==== Sys2Proof/Machine/Parts/Command.lean ====
section
/-!
DEFINITION. The state of tenants, rings and commit groups (11_tenants.md, 12_command_interface.md, 13_commit_admission.md).
-/
namespace Sys2Proof.Machine

/-- TENANT_STATUS.STATE (Table 11.4). -/
inductive TState where
  | none | disabled | enabled | draining
  deriving DecidableEq, Repr, Inhabited

/-- A drain in progress (R325–R328). -/
structure Drain where
  deadline : Nat := 0             -- `ivl`
  since    : Nat := 0
  cmd      : Option CmdRef := none  -- none: FAULT_ACTION 2 or the orderly shutdown
  shutdown : Bool := false
  flushed  : Nat := 0             -- lines flushed from agents
  written  : Nat := 0             -- dirty lines written
  deriving DecidableEq, Repr, Inhabited

/-- A tenant (TENANT_STATUS, TENANT_CTL, Table 11.3, Table 19.2). -/
structure Tenant where
  state    : TState := .none
  resetting : Bool := false
  resetCmds : List CmdRef := []   -- TENANT_RESET commands that end with the reset (R331, R333)
  resetInfo : Nat := 0            -- cause of the reset for its event
  dbIgnored : Nat := 0            -- doorbell writes ignored while it was resetting (R331)
  resetJobs : Nat := 0
  resetAgents : Nat := 0
  resetAt  : Nat := 0
  resetPort : Nat := 0
  resetTold : Bool := true        -- the RESET event to the tenant's own ring has been written
  limitSeen : Bool := false
  tki      : Nat := 0
  binds    : List (Nat × Nat) := []   -- (port, LD-ID) in the order made
  userCtr  : Bool := false
  sc       : Nat := 5
  lcMin    : Nat := 0             -- LC_SHARE_MIN in MiB
  lcMax    : Option Nat := none   -- LC_SHARE_MAX in MiB; none: the cache size
  ringPort : Nat := 255           -- RING_PORT
  action   : Nat := 0             -- FAULT_ACTION
  limit    : Nat := 1000          -- FAULT_LIMIT
  evtIvl   : Nat := 1000          -- EVT_INTERVAL in µs
  faults   : List Nat := []       -- `ivl` of the faults of the last second (R334)
  quietTo  : Nat := 0             -- `ivl` at which the second ends in which FAULT_ACTION was last applied
  missCnt  : Nat := 0             -- access faults without a window since the last event (R320)
  missAt   : Option Nat := none   -- `ivl` of the last such event
  missDpa  : Nat := 0
  drain    : Option Drain := none
  ctr      : List Nat := [0, 0, 0, 0, 0, 0, 0, 0]   -- fixed counters (Table 19.2)
  ovf      : Nat := 0
  clearedAt : DWord := 0
  deriving DecidableEq, Repr, Inhabited

/-- The tenants. Tenant 0 is ENABLED from reset (R315). -/
structure Tenants where
  tenants : Tbl Tenant := []
  deriving DecidableEq, Repr, Inhabited

/-- RING_STATUS.STATE. -/
inductive RState where
  | unset | stopped | running | error
  deriving DecidableEq, Repr, Inhabited

/-- Kinds of claimable objects (Table 13.3). -/
inductive ObjKind where
  | port | pin | vcs | lane | course | link | arbiter | egress | xport | core | fabricId | flow | tenant | window
  | domain | requester | slice | timeParams | counter | schedule | mover | rung | slot | other
  deriving DecidableEq, Repr, Inhabited

/-- A claimed object. -/
structure Obj where
  kind  : ObjKind := .other
  index : Nat := 0
  deriving DecidableEq, Repr, Inhabited

/-- A command fetched or running and not yet ended (R345). -/
structure InFlight where
  cmd     : CmdRef := {}
  fence   : Bool := false
  objs    : List Obj := []        -- the objects it acts on (R349)
  started : Bool := false          -- its effect has been applied: it waits for further work (R360)
  restarted : Bool := false        -- a management reset met it (R360)
  arrival : Nat := 0              -- order of arrival at firmware (R359)
  deriving DecidableEq, Repr, Inhabited

/-- A ring pair (Tables 12.1, 12.2), or a pseudo-ring. -/
structure Ring where
  state    : RState := .unset
  cmdBase  : DWord := 0
  evtBase  : DWord := 0
  cmdLog2  : Nat := 0
  evtLog2  : Nat := 0
  vector   : Nat := 0
  coalesce : Nat := 0              -- µs
  unsol    : BitVec 16 := 0xFFFF
  cmdHead  : Nat := 0
  cmdTail  : Nat := 0
  evtHead  : Nat := 0
  evtTail  : Nat := 0
  phase    : Bool := true
  dbErr    : Bool := false
  fetchErr : Bool := false
  evtErr   : Bool := false
  flight   : List InFlight := []   -- oldest first
  reserved : Nat := 0              -- event slots reserved (R344)
  lost     : Nat := 0              -- EVT_LOST
  lostNew  : Nat := 0              -- lost since the last EVT_LOST record
  lostCode : Nat := 0
  lostRaised : Bool := false       -- source 211 raised and no record written since
  unsolSeq : Nat := 0
  intAt    : Option Nat := none    -- `ivl` of the last interrupt
  intWait  : Bool := false         -- records written inside EVT_COALESCE
  stopCmd  : Option CmdRef := none -- RING_STOP that waits for the commands in flight
  deriving DecidableEq, Repr, Inhabited

/-- Ring state of the device. -/
structure Rings where
  rings   : Tbl Ring := []          -- ring pair of tenant t at key t; MCTP 8,192, console 8,193
  mgrCmdBase : DWord := 0           -- MGR_CMD_BASE as written
  mgrEvtBase : DWord := 0
  mgrCmdLog2 : Nat := 0
  mgrEvtLog2 : Nat := 0
  mgrEnable : Bool := false
  mgrErr   : Bool := false
  mgrCoal  : Nat := 0
  fwReady  : Bool := false          -- RING_STATUS.FW_READY
  mgmtReset : Bool := false         -- a block reset of the management complex runs
  console  : Bool := false          -- MGMT_PATH_CTL.CONSOLE_CMD
  mctpUnsol : Option (Nat × BitVec 16) := none  -- endpoint that set the mask, mask (R358)
  mctpOut  : List (Nat × Word) := []            -- (endpoint, tag) outstanding
  arrivals : Nat := 0               -- commands that have arrived at firmware (R359)
  turn     : Nat := 4096            -- tenant whose command ring the fetch engine serves; 4,096: none yet (R345)
  turnLeft : Nat := 0               -- descriptors that its turn may still take
  turnLast : Nat := 0               -- the last ring other than ring 0 that had a turn
  pba      : Tbl (List (Nat × Nat × Nat)) := []  -- upstream port: (function, vector, ring) pending behind a mask (R351)
  deriving DecidableEq, Repr, Inhabited

/-- Group states (Table 13.2). -/
inductive GState where
  | none | opened | checking | committing | armed
  deriving DecidableEq, Repr, Inhabited

/-- A staged item: a descriptor with its opcode, or an RWC register write (offset, RWC value). -/
inductive Item where
  | cmd (opcode ring : Nat) (d : Desc)
  | reg (offset : Nat) (value : Word)
  deriving DecidableEq, Repr, Inhabited

/-- A commit group (R362–R380). -/
structure Group where
  state   : GState := .none
  owner   : Nat := 0
  expiry  : Nat := 0               -- lease expiry, Fabric Time
  items   : List Item := []        -- in staging order
  bytes   : Nat := 0               -- copied parameters
  claims  : List Obj := []
  asked   : Nat := 0               -- APPLY_AT as asked
  applyAt : Nat := 0               -- the apply instant
  due     : Nat := 0               -- the instant it became due, after steps (R378)
  skipped : Bool := false          -- a forward step skipped its apply instant (R52)
  cmd     : Option CmdRef := none  -- GROUP_CHECK or GROUP_COMMIT in progress
  left    : Nat := 0               -- pieces of further work still running (R380)
  applied : Nat := 0               -- APPLIED_AT
  count   : Nat := 0               -- ITEMS
  firstBad : Option (Nat × Status) := none
  basePast : Bool := false
  late    : Bool := false
  rsvBuf  : Nat := 0               -- reserved shares of device-wide totals (R373)
  rsvLc   : Nat := 0
  rsvHbm  : Tbl Nat := []
  rsvSc0  : Nat := 0
  rsvWin  : Tbl Nat := []          -- windows per tenant
  rsvLog  : Nat := 0               -- resync bitmaps (R199)
  order   : Nat := 0               -- order of the start of its check, then of its arming
  deriving DecidableEq, Repr, Inhabited

/-- Groups and the Capo. -/
structure Groups where
  groups  : Tbl Group := []
  tails   : Tbl Group := []        -- applied groups whose GROUP_COMMIT has not ended (R380), by arming order
  discGroup : Nat := 0             -- R369
  discCause : Nat := 0
  discRing  : Nat := 0
  discCount : Nat := 0
  regGroup  : Word := 0            -- CAPO_REG_GROUP
  rwcRefused : Bool := false
  lateSeen  : Bool := false
  capoLast  : DWord := 0           -- CAPO_LAST
  cycle     : Option Nat := none   -- `ivl` of the core cycle of the last apply (R378)
  shadow    : Tbl (Option Word) := []   -- shadows of RWC registers that an open group has written, by BAR0 offset (R370)
  nextOrder : Nat := 1
  deriving DecidableEq, Repr, Inhabited

end Sys2Proof.Machine
end

