-- ==== Sys2Proof/Machine/Parts/Counter.lean ====
section
/-!
DEFINITION. The state of counters and telemetry (19_counters_telemetry.md).
-/
namespace Sys2Proof.Machine

/-- A programmable counter: CTR_CFG, CTR_MASTER, CTR_CLASS, CTR_WINDOW, value and OVF. -/
structure Counter where
  event   : Nat := 0
  inst    : Nat := 0xFF            -- the instance field
  priv    : Nat := 0
  enable  : Bool := false
  ovfInt  : Bool := false
  winEn   : Bool := false
  mKind   : Nat := 0
  mValue  : Nat := 0
  scMask  : BitVec 8 := 0xFF
  mcMask  : BitVec 10 := 0x3FF
  window  : Nat := 0
  value   : DWord := 0
  ovf     : Bool := false
  deriving DecidableEq, Repr, Inhabited

/-- A port's bandwidth window (R479, R480). -/
structure Bandwidth where
  len   : Nat := 0                 -- L in µs
  inNow : Nat := 0                 -- bytes of the running window
  outNow : Nat := 0
  inLast : DWord := 0              -- published
  outLast : DWord := 0
  index : Word := 0
  done  : Nat := 0                 -- number of the running window
  on    : Bool := false            -- a whole window runs: one has begun since L was set
  deriving DecidableEq, Repr, Inhabited

/-- A dump schedule (R482). -/
structure Schedule where
  active  : Bool := false
  owner   : Nat := 0
  base    : Nat := 0
  period  : Nat := 0               -- µs
  kind    : Nat := 0
  clear   : Bool := false
  count   : Nat := 0
  first   : Nat := 0
  notify  : Nat := 0
  slots   : Nat := 1
  dst     : Nat := 0
  due     : Nat := 0               -- next instant, Fabric Time
  seq     : Nat := 0               -- records taken
  missed  : Nat := 0
  missSeen : Bool := false
  err     : Bool := false
  busy    : Bool := false          -- the last snapshot is not yet written
  deriving DecidableEq, Repr, Inhabited

/-- Counter state. -/
structure Counters where
  ctrs  : Tbl Counter := []
  bw    : Tbl Bandwidth := []
  bwLatch : Tbl (List Word) := []  -- per path × 128 + port: IN_HI, OUT_LO, OUT_HI, INDEX (R480)
  dumps : Tbl Schedule := []
  deriving DecidableEq, Repr, Inhabited

end Sys2Proof.Machine
end

