-- ==== Sys2Proof/Machine/Parts/Fault.lean ====
section
/-!
DEFINITION. The state of the fault collector and of the black box in MRAM (15_faults_black_box.md).
-/
namespace Sys2Proof.Machine

/-- One fault source (R400, R404). -/
structure Source where
  pending : Bool := false
  count   : Nat := 0               -- FAULT_CNT, saturating at 65,535
  first   : DWord := 0             -- first-occurrence record: Fabric Time
  info    : DWord := 0             -- first-occurrence record: source information
  last    : DWord := 0             -- Fabric Time of the last raise
  irqOut  : Bool := false          -- the reaction set at its last raise includes IRQ_OUT (R409)
  logAt   : Option Nat := none     -- `ivl` at which LOG last acted
  intrAt  : Option Nat := none     -- `ivl` at which INTR last acted
  logMerged  : Nat := 0            -- raises merged since LOG last acted
  intrMerged : Nat := 0            -- raises merged since INTR last acted
  deriving DecidableEq, Repr, Inhabited

/-- A FAULT event that waits for delivery (R404). -/
structure FaultEvent where
  source : Nat := 0
  count  : Nat := 1
  info   : DWord := 0
  time   : DWord := 0
  deriving DecidableEq, Repr, Inhabited

/-- Block resets of one instance within the running second (R407) and its last one (R406). -/
structure BlockHist where
  last  : Option Nat := none       -- `ivl` of the last block reset
  times : List Nat := []           -- Fabric Times counted towards escalation
  deriving DecidableEq, Repr, Inhabited

/-- What a raise or an event write sets off, taken at the end of the running command: a block reset (R406), a further raise
(R407, R408, R415, R416), a ring that has entered ERROR (R367), a tenant's FAULT_ACTION (R334), a RING_STOP that waits. -/
inductive Todo where
  | block (source : Nat) (info : DWord)
  | raise (source : Nat) (info : DWord)
  | ringError (tenant : Nat)
  | faultAction (tenant : Nat)
  | stopEnd (key : Nat)
  deriving DecidableEq, Repr, Inhabited

/-- A chip reset that waits for the record handover and the capture (R408). -/
structure ChipWait where
  source  : Nat := 0
  since   : Nat := 0               -- `ivl` of the raise
  capture : Bool := false          -- waits for the running capture
  deriving DecidableEq, Repr, Inhabited

/-- The fault collector. -/
structure Collector where
  sources  : Tbl Source := []
  sev      : Tbl Nat := []           -- severities that differ from R402's
  react    : List Nat := [0x00, 0x01, 0x02, 0x03, 0x0B, 0xA7, 0xEF, 0x71]   -- FAULT_REACT
  badSev   : List Nat := []          -- sources whose severity entry fails parity (source 6)
  badReact : List Nat := []          -- severities whose reaction entry fails parity
  cfgAt    : Nat := 0                -- 1 + `ivl` of the core cycle that last wrote severities or reactions (R403)
  sevOld   : Tbl Nat := []           -- `sev`, `react`, `badSev` and `badReact` as they stood at the start of that cycle
  reactOld : List Nat := []
  badSevOld : List Nat := []
  badReactOld : List Nat := []
  queue    : List FaultEvent := []   -- undelivered events, oldest first
  deferred : Tbl Nat := []           -- deferred marks: raises merged per source
  fullTold : Bool := false           -- source 3 raised and no room since
  blocks   : Tbl BlockHist := []     -- INST_KIND × 2^16 + INSTANCE
  chips    : List Nat := []          -- Fabric Times of the chip resets by fault in the last 600 s
  suppress : Bool := false           -- CHIP_RESET acts as TRAP and ERR_OUT until the next cold reset
  chipWait : Option ChipWait := none
  todo     : List Todo := []         -- reactions of the running command still to be taken
  inReset  : List (Nat × DWord) := []  -- sources raised while the fabric die is held: pending set when it runs (R511)
  errLow   : Bool := false           -- ERR_OUT_N is low for R410's reasons
  errAt    : Nat := 0                -- `ivl` of the latest ERR_OUT raise
  errMin   : Bool := false           -- the minimum width runs
  hold     : Bool := false           -- ERR_OUT_CTL.HOLD
  force    : Bool := false           -- ERR_OUT_CTL.FORCE
  irqLow   : Bool := false           -- IRQ_OUT_N is low
  minWidth : Nat := 100              -- MIN_WIDTH in µs
  holdoff  : Nat := 1000             -- FAULT_HOLDOFF in µs
  escCount : Nat := 3                -- BLOCK_ESC_COUNT
  chipLimit : Nat := 3               -- CHIP_RESET_LIMIT
  snapTime : Nat := 200              -- SNAP_TIMEOUT in ms
  wdt      : Nat := 1000             -- MGMT_WDT in ms
  deriving DecidableEq, Repr, Inhabited

/-- KIND of an event-log record (Table 15.8). -/
inductive RecKind where
  | fault | reset | power | start | stop | firmware | groupApplied | overrun
  deriving DecidableEq, Repr, Inhabited

/-- An event-log record (Table 15.8); `detail` holds the values its KIND lays down. -/
structure LogRec where
  seq       : Nat := 0
  time      : DWord := 0
  ftState   : Nat := 0
  holdup    : Bool := false
  kind      : RecKind := .fault
  source    : Nat := 0xFFFF
  severity  : Nat := 0
  reactions : Nat := 0
  count     : Nat := 1
  info      : DWord := 0
  detail    : List Nat := []
  boot      : Nat := 0
  deriving DecidableEq, Repr, Inhabited

/-- A crash-snapshot slot (R416): STATE 0 empty, 1 writing, 2 complete, 3 incomplete. -/
structure SnapSlot where
  state  : Nat := 0
  keep   : Bool := false
  seq    : Nat := 0
  time   : DWord := 0
  merged : Nat := 0
  fw     : List Nat := [0, 0, 0]   -- firmware version
  content : List Nat := []         -- what is captured of the block's state
  trace  : Nat := 0                -- the free value of the firmware trace
  began  : Nat := 0                -- `ivl` at which the capture began
  bytes  : Nat := 0                -- bytes captured
  deriving DecidableEq, Repr, Inhabited

/-- The lifetime counters (Table 15.10). -/
structure Lifetime where
  boots      : Nat := 0
  chipResets : Nat := 0
  unclean    : Nat := 0
  powerOn    : Nat := 0            -- seconds
  above95    : Nat := 0            -- seconds above Tj 95 °C
  highTj     : Int := 0
  holdupOk   : Nat := 0
  holdupShort : Nat := 0
  deriving DecidableEq, Repr, Inhabited

/-- A result record (Table 16.3) in region 4. -/
structure BistRec where
  res  : TestResult := {}
  path : Nat := 0                  -- PATH
  time : DWord := 0
  deriving DecidableEq, Repr, Inhabited

/-- The header of region 4 (Table 16.4): the last run's path, its start and end, and its failures per OUTCOME. -/
structure BistHeader where
  path  : Nat := 0
  began : DWord := 0               -- Fabric Time
  ended : DWord := 0
  fails : List Nat := [0, 0, 0, 0, 0]
  deriving DecidableEq, Repr, Inhabited

/-- What the MRAM holds and the housekeeping die's logging state. -/
structure BlackBox where
  log      : List LogRec := []       -- newest first, at most 131,072
  nextSeq  : Nat := 1
  queue    : List LogRec := []       -- records to be written, oldest first, at most 256
  dropped  : Nat := 0                -- records dropped since the last OVERRUN record
  slots    : List SnapSlot := [{}, {}, {}]
  running  : Option Nat := none      -- slot of the capture that runs
  orderly  : Option Bool := some true   -- stop-state word: ORDERLY, RUNNING, or no valid word (R417)
  wordBoot : Nat := 0                -- boot count in the word
  life     : Lifetime := {}
  holdup   : Bool := false           -- a supply warning is in force: logging stopped (R418)
  inhibit  : Bool := false           -- MRAM write-inhibited
  holdAt   : Nat := 0                -- `ivl` of the warning
  holdDone : Bool := true            -- hold-up-complete flag of the last stop
  bist     : List BistRec := []      -- result records, newest first, at most 65,280
  bistNext : Nat := 0                -- next record index
  header   : BistHeader := {}        -- header of region 4
  bistPath : Bool := false           -- BIST_LAST.PATH
  bistBad  : Bool := false           -- BIST_LAST.UNREPAIRABLE
  bistRecs : Nat := 0                -- BIST_LAST.RECORDS
  fullNext : Bool := false           -- full-BIST request flag
  retired  : Tbl Nat := []           -- HBM retirement map (R217): pc × 2^20 + block → spare + 1
  repairs  : List (Nat × Nat × Nat) := []  -- SRAM repair map: macro, spare 0–5, address
  soft     : List (Nat × Nat) := []  -- soft-repair list: (pseudo-channel, row address)
  hard     : List (Nat × Nat) := []  -- rows that shutdown BIST has hard-repaired, which the stacks keep (R218)
  deriving DecidableEq, Repr, Inhabited

end Sys2Proof.Machine
end

