-- ==== Sys2Proof/Machine/Parts/Hbm.lean ====
section
/-!
DEFINITION. The state of the HBM subsystem and the line cache (07_hbm_line_cache.md).
-/
namespace Sys2Proof.Machine

/-- A way of the line cache (Table 7.1): the codeword's metadata and data, and the tenant that occupies it (R224). -/
structure Way where
  tag    : Nat := 0
  tki    : Nat := 0            -- 0: empty way
  dirty  : Bool := false
  poison : Bool := false
  data   : Line := 0
  tenant : Nat := 0
  window : Nat := 0
  deriving DecidableEq, Repr, Inhabited

/-- A pseudo-channel (HBM_PC_STATUS, R217, R219). -/
structure PseudoChannel where
  failed   : Bool := false
  isolated : Bool := false
  retired  : Nat := 0
  ceCount  : Nat := 0          -- corrected codewords (Table 7.6)
  ueCount  : Nat := 0
  ueTimes  : List Nat := []    -- `ivl` of the three-symbol detections of the last second
  ce       : Tbl (List Nat) := []   -- per block, `ivl` of the corrected codewords of the last 24 h
  copying  : List Nat := []    -- blocks whose retirement copy runs
  mapped   : List Nat := []    -- retired blocks whose reads go to the spare
  deriving DecidableEq, Repr, Inhabited

/-- The placement loop of one slice (R225). -/
structure Placement where
  thresh : Nat := 0
  min    : Nat := 0
  max    : Nat := 3
  hitsLo : Nat := 0            -- hits of the sample group at T − 1
  hitsHi : Nat := 0            -- hits of the sample group at T + 1
  misses : Tbl Nat := []       -- three-bit miss counters
  atMin  : Nat := 0            -- ticks spent at each bound
  atMax  : Nat := 0
  last   : Nat := 0            -- `ivl` of the last update
  hits   : Nat := 0
  missed : Nat := 0
  deriving DecidableEq, Repr, Inhabited

/-- A corruption armed by ERR_INJECT MODE 1 (R435). -/
structure Corruption where
  source   : Nat := 0
  location : Nat := 0
  count    : Nat := 0
  deriving DecidableEq, Repr, Inhabited

/-- HBM state. -/
structure Hbm where
  dirSize  : Nat := 32         -- DIR_SIZE in 256 MiB units
  lcWays   : Nat := 4          -- LC_WAYS
  initDone : Bool := false     -- INIT_DONE
  scrubEn  : Bool := true      -- SCRUB_EN
  ways     : Tbl Way := []     -- (slice × 2^22 + set) × 4 + way
  predict  : Tbl Nat := []     -- way predictor: slice × 2^18 + SET[17:0]
  pcs      : Tbl PseudoChannel := []
  loops    : Tbl Placement := []
  poolFree : Nat := 16384      -- free blocks of the retirement pool
  poolLow  : Bool := false     -- source 134 raised
  reserve  : Tbl Nat := []     -- reserved slots: requester × 64 + pseudo-channel; 32 for 16 and 17 unless listed (R229)
  scrubPeriod : Nat := 24      -- h
  retireCe : Nat := 8
  cursor   : Nat := 0          -- patrol scrubber's next line
  scrubAt  : Nat := 0          -- `ivl` at which its present walk began
  mended   : List (Nat × Nat) := []   -- rows repaired in the stacks: (pseudo-channel, row address) (R218)
  corrupt  : List Corruption := []
  deriving DecidableEq, Repr, Inhabited

end Sys2Proof.Machine
end

