-- ==== Sys2Proof/Machine/Parts/Home.lean ====
section
/-!
DEFINITION. The state of the home slices (05_coherence.md): domains and agents, the record of every line, slice trackers,
requests held for retry.
-/
namespace Sys2Proof.Machine

/-- An AGENT_UNBIND in progress (R156). -/
structure Unbinding where
  deadline : Nat := 0              -- `ivl`
  cmd      : Option CmdRef := none -- none: the flush of a drain (R325)
  flushed  : Nat := 0
  tenant   : Nat := 0
  wide     : List Nat := []        -- WIDE lines that the agent still holds in S (R143)
  deriving DecidableEq, Repr, Inhabited

/-- A caching agent of a domain (R137). -/
structure Agent where
  bound   : Bool := false
  fab     : Nat := 0               -- fabric ID of its host port
  tenant  : Nat := 0
  capLines : Nat := 0
  share   : Nat := 0               -- entries per slice (R142)
  dead    : Bool := false          -- declared dead; the sweep runs until AGENT_SWEEP_END
  removed : Bool := false          -- the agent leaves the domain at the end of its sweep
  released : Nat := 0              -- lines that its sweep released, and those it poisoned (Table 5.1)
  poisoned : Nat := 0
  unbind  : Option Unbinding := none
  downAt  : Option Nat := none     -- `ivl` since which its host port is down or unreachable
  recent  : List Nat := []         -- lines of recent fills, newest first, the last 64 of each slice (R145)
  cursor  : Tbl Nat := []          -- scan cursor per slice (R145)
  deriving DecidableEq, Repr, Inhabited

/-- A coherence domain (R136). -/
structure Domain where
  present : Bool := false
  tags    : Bool := false          -- MODE: true sympathetic
  entries : Nat := 0               -- TRACK_ENTRIES
  keep    : Bool := false          -- OWNER_LOSS 1: keep the home copy
  sc      : Nat := 5
  agents  : Tbl Agent := []
  victims : Nat := 0
  nacks   : Nat := 0
  starving : Nat := 0
  deriving DecidableEq, Repr, Inhabited

/-- Stable states of a line (R148). -/
inductive LState where
  | inv | sh | any | wide | unknown
  deriving DecidableEq, Repr, Inhabited

/-- The record of a line: its tracking entry or entries (R140–R143). -/
structure LineRec where
  state  : LState := .inv
  agents : List Nat := []          -- holders, ascending; empty for WIDE and UNKNOWN
  domain : Nat := 0
  age    : Nat := 0
  ways     : List Nat := []        -- ways of its set that its entries take: one per agent in sympathetic S, else one
  deriving DecidableEq, Repr, Inhabited

/-- Transient states (Table 5.5). -/
inductive Phase where
  | rdPend | snpPend | vicPend
  deriving DecidableEq, Repr, Inhabited

/-- What an open transaction does when its snoops are answered. -/
inductive Purpose where
  | read (r : MemReq) (inv : Bool)   -- MemRd, or MemInv when inv
  | write (r : MemReq) (ptl : Bool)  -- MemWr whose line others hold (Table 5.7)
  | victim (forLine : Nat)           -- recall of a capacity victim
  | flush (agent : Nat)              -- recall of AGENT_UNBIND (R156)
  | settle                           -- partial writes taken that wait for the line (R157)
  | move (engine : Nat)              -- a line transaction of the data mover (R201, R203)
  deriving DecidableEq, Repr, Inhabited

/-- One snoop destination of a tracker (R154). -/
structure SnoopDest where
  agent  : Nat := 0
  op     : SnoopOp := .inv
  sent   : Bool := false             -- false: held until the agent is reachable
  since  : Nat := 0                  -- `ivl` at which the pending bit was set
  again  : Bool := false             -- BISnpInv sent a second time (Table 5.7)
  raised : Bool := false             -- source 97 raised
  deriving DecidableEq, Repr, Inhabited

/-- A partial write taken while its line is transient: whether its bytes have been applied (R157). -/
structure Patch where
  req  : MemReq := {}
  done : Bool := false
  deriving DecidableEq, Repr, Inhabited

/-- A write held behind a transaction (R151): the request, whether it is partial, and the tracker pool it has taken. -/
structure HeldReq where
  req  : MemReq := {}
  ptl  : Bool := false
  pool : Nat := 1
  deriving DecidableEq, Repr, Inhabited

/-- A slice tracker (R151, R160). -/
structure Tracker where
  phase    : Phase := .rdPend
  purpose  : Purpose := .victim 0
  pending  : List SnoopDest := []
  dataRcv  : Bool := false           -- data-received bit
  data     : Option (Line × Bool) := none   -- data read from backing, and whether it is poisoned
  pool     : Nat := 0                -- tracker taken: 0 shared, 1 the RWD reserve, 2 the starvation reserve (R160); 3 none
  fanout   : Bool := false           -- a fan-out map is in use (R154)
  stamp    : Nat := 0                -- first arrival (R188)
  answered : Bool := false           -- answered at its deadline (R158)
  sc       : Nat := 5                -- class of the request that caused its snoops (R152)
  want     : Meta := .invalid        -- the MetaValue that its request asks for (Table 5.6)
  before   : LState × List Nat := (.inv, [])   -- the record but for the grant (R158)
  waiting  : List HeldReq := []      -- writes held behind the transaction
  starving : List (MemReq × Bool) := []   -- starving requests held behind the transaction (R160), and whether each is a MemInv
  domain   : Nat := 0
  gone     : List Nat := []          -- agents that have answered BIRspI, or whose bit a death has cleared
  toShared : List Nat := []          -- owners that have answered BIRspS
  patch    : List Patch := []        -- partial writes taken while the line was not at hand (R157)
  deriving DecidableEq, Repr, Inhabited

/-- A NACKed request held at its port agent (R161). -/
structure NackWait where
  port  : Nat := 0
  since : Nat := 0
  req   : MemReq := {}
  deriving DecidableEq, Repr, Inhabited

/-- A message that reaches a slice, by its class (R159). -/
inductive SliceMsg where
  | rd (m : MemReq) | inv (m : MemReq) | evict (m : MemReq)
  | wr (m : MemReq) | ptl (m : MemReq)
  | rsp (m : SnoopRsp)
  | data (line member : Nat) (r : ReadResult)      -- a DRS from backing
  | done (line member : Nat) (ok : Bool)           -- an NDR from backing
  deriving DecidableEq, Repr, Inhabited

/-- Home-slice state. -/
structure Home where
  domains  : Tbl Domain := []
  lines    : Tbl LineRec := []            -- by line index
  trackers : Tbl (Option Tracker) := []   -- by line index
  lost     : Tbl (Option (List Nat)) := []   -- UNKNOWN sets (R147): (domain × 32 + slice) × 2^22 + set → lines asked for since
  stalled  : List (MemReq × Bool) := []   -- starving requests held for want of a way or map (R160)
  nacked   : List NackWait := []
  inq      : Tbl (List SliceMsg) := []    -- messages that wait at the entry point, per slice (R159)
  entered  : Tbl Nat := []                -- `ivl` + 1 of the core cycle in which the slice last took a message
  lastIn   : Tbl Nat := []                -- one more than the crossbar input that it last served among REQ heads; 0: none
  starveOvf : Tbl Bool := []              -- HS_STATUS.STARVE_OVF per slice
  sweeps   : List (Nat × Nat) := []       -- (domain, agent) sweeps running
  conflicts : List (Nat × Nat) := []      -- (port, line) BIConflicts owed an answer after the completion (R153)
  dirCached : Tbl Bool := []              -- directory-cache sets present: slice × 2^22 + set (R146)
  backoff  : Nat := 16                    -- RETRY_BACKOFF in ns
  snpTime  : Nat := 10                    -- BISNP_TIMEOUT in µs
  deadTime : Nat := 100                   -- AGENT_DEAD_TIME in ms
  protoOnce : Nat := 0                    -- responses discarded under Table 5.7
  deriving DecidableEq, Repr, Inhabited

end Sys2Proof.Machine
end

