-- ==== Sys2Proof/Machine/Parts/Lanes.lean ====
section
/-!
DEFINITION. The state of lanes and courses (10_serdes_lanes.md).
-/
namespace Sys2Proof.Machine

/-- A lane (LANE_CTL, LANE_STATUS, LANE_ERR, LANE_PRBS). -/
structure Lane where
  preset   : Nat := 4             -- TX_PRESET
  exclude  : Bool := false
  signal   : Bool := false
  cdrLock  : Bool := false
  eqDone   : Bool := false
  inverted : Bool := false
  logical  : Nat := 0
  inUse    : Bool := false
  idleAt   : Option Nat := none   -- `ivl` at which a retrain or a link down last took it out of use (R305)
  bad      : Bool := false
  quar     : Bool := false        -- QUARANTINED
  losSeen  : Bool := false
  unlockSeen : Bool := false
  limitSeen : Bool := false
  rate     : Nat := 0
  err      : Nat := 0             -- LANE_ERR
  saved    : List Nat := []       -- rates with saved coefficients (R302)
  badAt    : Option Nat := none   -- `ivl` at which it last became BAD
  pattern  : Nat := 0
  genEn    : Bool := false
  chkEn    : Bool := false
  loopback : Nat := 0
  injRate  : Nat := 0
  chkSync  : Bool := false        -- the checker sees its own generator (near-end loopback)
  prbsSync : Nat := 0             -- `ivl` at which it is in sync, or from which its counts run (R309)
  invert   : Bool := false
  prbsErr  : Nat := 0             -- counted up to `prbsSync`, with bits injected one at a time
  prbsBits : Nat := 0
  injCyc   : Nat := 0             -- errors that INJECT_ONE added in the core cycle of `injAt` (R546)
  injAt    : Nat := 0             -- 1 + `ivl` of that core cycle
  test     : Option CmdRef := none    -- LANE_TEST running
  testEnd  : Nat := 0                 -- `ivl`
  margin   : Option CmdRef := none    -- LANE_MARGIN running
  marginPartner : Bool := false       -- margining started by the partner
  lastMargin : List Nat := []         -- steps left, right, up, down
  deriving DecidableEq, Repr, Inhabited

/-- A course (COURSE_CFG, COURSE_STATUS). -/
structure Course where
  stolevo  : Bool := false        -- MODE
  sris     : Bool := false        -- CLK_MODE
  ssc      : Bool := false
  errLimit : Nat := 1024
  refOk    : Bool := false        -- REFCLK_OK
  pllH     : Bool := false
  pllL     : Bool := false
  failSeen : Bool := false
  badCounts : Nat := 0            -- consecutive counts off nominal (R294)
  goodCounts : Nat := 0
  deriving DecidableEq, Repr, Inhabited

/-- Lane state. -/
structure Lanes where
  lanes   : Tbl Lane := []
  courses : Tbl Course := []
  quarWin : Nat := 60             -- QUARANTINE_WINDOW in s
  marginLimit : Nat := 4          -- MARGIN_ERR_LIMIT
  deriving DecidableEq, Repr, Inhabited

end Sys2Proof.Machine
end

