-- ==== Sys2Proof/Machine/Parts/Sched.lean ====
section
/-!
DEFINITION. The state of arbitration and scheduling (04_arbitration_scheduling.md): arbiters with their fret banks, gate
lists, shapers and timing wheels, SC0 flows.
-/
namespace Sys2Proof.Machine

/-- The packet an output carries (R66): its lane key and identity. -/
structure Carry where
  lane : Nat := 0
  pid  : Nat := 0
  sc   : Nat := 5
  deriving DecidableEq, Repr, Inhabited

/-- One arbiter (R94). Fret entries and priorities not listed read as their reset values (R97, R228, ARB_PRIO). -/
structure Arbiter where
  bankA   : Tbl (BitVec 16) := []
  bankB   : Tbl (BitVec 16) := []
  active  : Bool := false          -- ACTIVE: false A, true B
  select  : Bool := false          -- SELECT
  enable  : Bool := true           -- ENABLE
  view    : Bool := false          -- VIEW
  locked  : Bool := false          -- BANK_LOCKED
  prio    : Tbl Word := []         -- ARB_PRIO[x][k]
  prioOld : Tbl Word := []         -- ARB_PRIO as decisions of the cycle `prioAt` read it (R103)
  prioAt  : Nat := 0               -- `ivl` of the cycle of the last ARB_PRIO write
  loss    : Tbl Nat := []          -- loss counts: input × 8 + SC, or requester (R102)
  last    : Option Nat := none     -- input or requester last granted (R101)
  carry   : Option Carry := none   -- packet carried
  badA    : List Nat := []         -- slots of bank A treated as open after a parity error (R132)
  badB    : List Nat := []
  deriving DecidableEq, Repr, Inhabited

/-- A gate list (Tables 4.2, 4.3). -/
structure GateList where
  base    : Nat := 0
  cycle   : Nat := 0
  entries : List (Nat × Nat) := []   -- (OPEN_MASK, DURATION in 4 ns units)
  start   : Nat := 0                 -- start instant (R112)
  deriving DecidableEq, Repr, Inhabited

/-- The gate lists of an egress port (R110). -/
structure Gate where
  oper     : Option GateList := none
  pending  : Option GateList := none
  entry    : Nat := 0                -- current entry index
  basePast : Bool := false
  deriving DecidableEq, Repr, Inhabited

/-- A credit bucket (R117). Credit counts in 1/65,536 B, so that RATE × ticks adds to it exactly. -/
structure Shaper where
  enable  : Bool := false
  rate    : Nat := 0
  burst   : Nat := 0
  credit  : Int := 0
  updated : Nat := 0               -- `ivl` of the last update (R122)
  release : Option Nat := none     -- release instant on the wheels, in Fabric Time (R121)
  coarse  : Bool := false          -- placed on the coarse wheel
  bucket  : Nat := 0               -- absolute bucket number on its wheel
  need    : Nat := 0               -- counted length L of the head packet that waits
  who     : Option (Nat × Nat) := none  -- that packet: its name and order of lookup
  deriving DecidableEq, Repr, Inhabited

/-- An SC0 flow (R124, Table 4.9) and its statistics. -/
structure Flow where
  present  : Bool := false
  tenant   : Nat := 0
  ingress  : Nat := 0
  hopsIn   : Nat := 0
  dst      : Nat := 0
  path     : Nat := 0
  maxFlits : Nat := 1
  bound    : Nat := 0              -- ns
  share    : Nat := 0              -- ns
  term     : Nat := 0              -- this device's term of R128 in ticks
  late     : Nat := 0              -- cells counted by R131
  outside  : Nat := 0              -- packets of the tenant carried as SC1 (R124)
  deriving DecidableEq, Repr, Inhabited

/-- Arbiters and schedulers. -/
structure Sched where
  arbs       : Tbl Arbiter := []
  gates      : Tbl Gate := []           -- per egress port
  tShapers   : Tbl Shaper := []         -- tenant shapers
  pShapers   : Tbl Shaper := []         -- port-class shapers 8p + c
  overhead   : Tbl Nat := []            -- OVERHEAD[p]
  flows      : Tbl Flow := []
  overran    : List (Nat × Nat) := []   -- packets that may start with the guard set aside, from an instant (R114)
  released   : Nat := 0                 -- shapers released in the current 16 ns bucket (R122)
  releasedAt : Nat := 0                 -- that bucket
  deriving DecidableEq, Repr, Inhabited

end Sys2Proof.Machine
end

