-- ==== Sys2Proof/Machine/Parts/Mover.lean ====
section
/-!
DEFINITION. The state of the data mover (14_data_mover.md).
-/
namespace Sys2Proof.Machine

/-- Job kinds (MOVER_ENG_STATUS.KIND). -/
inductive JobKind where
  | copy | fill | migrate | resync | dump
  deriving DecidableEq, Repr, Inhabited

/-- Why the switch starts a job itself, in starting order (R397). -/
inductive AutoKind where
  | dump | exposed | degraded | verify | resync | fill
  deriving DecidableEq, Repr, Inhabited

/-- A job. COPY and FILL: `src`, `dst` as Table 14.1 encodes them, `srcSpace` and `dstSpace` its codes. MIGRATE and RESYNC:
`window`, `extent` (first index of the extent or stripe group) and `member`. A switch-started FILL: `dstDev`, `dstExt`. -/
structure Job where
  kind     : JobKind := .copy
  ring     : Nat := 0
  number   : Nat := 0
  auto     : Option AutoKind := none
  cmd      : Option CmdRef := none
  tenant   : Nat := 0
  src      : Nat := 0
  srcSpace : Nat := 0
  dst      : Nat := 0
  dstSpace : Nat := 0
  length   : Nat := 0              -- bytes
  pattern  : Nat := 0
  pass     : Bool := false         -- POISON_PASS
  window   : Nat := 0
  extent   : Nat := 0
  member   : Nat := 0
  dstDev   : Nat := 0
  dstExt   : Nat := 0
  back     : Bool := false         -- a MIGRATE with the roles reversed (R204)
  source   : Nat := 0              -- DUMP SOURCE
  region   : Nat := 0
  offset   : Nat := 0
  schedule : Option Nat := none    -- scheduled dump
  record   : List Byte := []       -- the record of Table 19.4 that a DUMP of counters writes
  bbExport : Bool := false
  need     : Nat := 0              -- bytes that a BB_EXPORT's whole result needs
  sc       : Nat := 6
  rate     : Nat := 65536
  engine   : Option Nat := none
  progress : Nat := 0              -- bytes or pages
  written  : Nat := 0              -- bytes below which every write has completed
  cursor   : Nat := 0              -- page that a RESYNC walks
  lines    : Nat := 0              -- lines counted in the current page
  dirty    : Bool := false         -- a write-back to the current page was logged, or a line was not written (R201)
  ended    : Bool := false         -- completion has latched (R395)
  late     : Bool := false         -- an ABORT came after completion had latched (R353)
  retried  : Bool := false         -- a staged line was read again (R390)
  run      : Nat := 0              -- names the job in the lines that its engine asks for and writes
  asked    : Nat := 0              -- lines of a window that a COPY has asked for
  staged   : List (Nat × Line × Bool) := []  -- (line, data, poison) read from a window and not yet written (R390)
  sent     : Nat := 0              -- lines that have been written to the destination
  done     : List Nat := []        -- lines whose write has completed above `written`
  queuedAt : Nat := 0              -- `ivl`
  stopPage : Bool := false         -- stops at its next page boundary (R398, R518)
  deriving DecidableEq, Repr, Inhabited

/-- An engine (MOVER_ENG_STATUS). -/
structure Engine where
  testing : Bool := false
  out     : Bool := false          -- out of service (R396)
  auto    : Bool := false          -- still reserved until its job ends after AUTO_ENGINES was lowered
  shaper  : Shaper := {}           -- R385
  deriving DecidableEq, Repr, Inhabited

/-- Mover state. -/
structure Mover where
  jobs     : List Job := []        -- in the order of arrival; a switch-started job without an engine is a pending mark (R397)
  engines  : Tbl Engine := []
  autoEng  : Nat := 4              -- AUTO_ENGINES
  autoSc   : Nat := 6              -- AUTO_SC
  autoRate : Nat := 8192           -- MOVER_AUTO_RATE
  backlog  : Bool := false         -- source 242 raised and the queue not yet empty
  runs     : Nat := 0              -- starts of jobs on engines
  deriving DecidableEq, Repr, Inhabited

end Sys2Proof.Machine
end

