-- ==== Sys2Proof/Machine/Parts/Pool.lean ====
section
/-!
DEFINITION. The state of pooling (06_memory_pooling.md): backing devices and extents, windows and members, dynamic-capacity
exchanges, backing accesses in flight.
-/
namespace Sys2Proof.Machine

/-- Backing-extent states (Table 6.2). -/
inductive ExtState where
  | free | spare | inUse | scrub | retired
  deriving DecidableEq, Repr, Inhabited

/-- A backing device (Tables 6.1, 6.9). -/
structure Device where
  present   : Bool := false
  remote    : Bool := false          -- LOCATION bit 15
  loc       : Nat := 0               -- port, or fabric ID
  ld        : Nat := 0
  dpaBase   : Nat := 0
  extents   : Nat := 0
  serial    : Nat := 0
  faultDom  : Nat := 0
  latBound  : Nat := 500
  adopt     : Bool := false
  timeout   : Nat := 1000            -- BACKING_TIMEOUT in µs
  lossTime  : Nat := 10              -- MEMBER_LOSS_TIME in ms
  errLimit  : Nat := 16
  slowThr   : Nat := 100
  spareDelay : Nat := 30000          -- AUTO_SPARE_DELAY in ms, 0 off
  ext       : Tbl ExtState := []     -- extents not FREE
  purging   : List Nat := []         -- extents whose purge has not ended (R226)
  filled    : List Nat := []         -- extents in SCRUB whose fill has ended
  zeroed    : List Nat := []         -- extents of an ADOPT device that have been zero-filled (R171)
  replaced  : List Nat := []         -- RETIRED extents that a rebuild has replaced (Table 6.2)
  downAt    : Option Nat := none     -- `ivl` since which its port is down or unreachable
  lost      : Bool := false          -- declared lost (R195)
  lostAt    : Nat := 0
  errs      : List Nat := []         -- `ivl` of the failed accesses of the last second (R195)
  deriving DecidableEq, Repr, Inhabited

/-- Member states (Table 6.6). -/
inductive MemberState where
  | online | slow | lost | resyncing
  deriving DecidableEq, Repr, Inhabited

/-- A migration's destination and page cursor (R203). -/
structure Migration where
  dev  : Nat := 0
  ext  : Nat := 0
  page : Nat := 0
  line : Nat := 0                    -- lines moved in the current page
  deriving DecidableEq, Repr, Inhabited

/-- A member extent of a window: key (pool extent, or first pool extent of the stripe group) × 10 + member. -/
structure Member where
  present  : Bool := false
  dev      : Nat := 0
  ext      : Nat := 0
  state    : MemberState := .online
  logAll   : Bool := false           -- every log bit set, but for `clean`
  clean    : List Nat := []          -- pages cleared while logAll
  log      : List Nat := []          -- pages set, when not logAll
  migr     : Option Migration := none
  lostAt   : Nat := 0                -- `ivl` of the loss
  noSpare  : Bool := false           -- source 122 raised
  ds       : List Nat := []          -- `ivl` of the double-stop reads it caused within the last 1 ms (R187)
  dsLast   : Nat := 0                -- `ivl` of the last one
  deriving DecidableEq, Repr, Inhabited

/-- A pool extent of a window. -/
structure WExtent where
  present  : Bool := false
  pool     : Nat := 0                -- its pool extent number (pool address / 256 MiB)
  accepted : List Nat := []          -- upstream ports that have accepted it (R178)
  released : List Nat := []          -- ports that have released it (R179)
  deriving DecidableEq, Repr, Inhabited

/-- Window states (Table 6.7, R197). -/
inductive WinState where
  | optimal | degraded | exposed | dataLoss
  deriving DecidableEq, Repr, Inhabited

/-- Protection modes (Table 6.3). -/
inductive WinMode where
  | plain | mirror | stripe
  deriving DecidableEq, Repr, Inhabited

/-- A window (Table 6.3). -/
structure Window where
  present  : Bool := false
  tenant   : Nat := 0
  mode     : WinMode := .plain
  region   : Nat := 0
  dpaOff   : Nat := 0
  extents  : Nat := 0
  domain   : Nat := 256
  port     : Nat := 255
  deadline : Nat := 2000
  trigger  : Nat := 600
  policy   : Nat := 0
  readPref : Nat := 2
  strict   : Bool := false
  adopt    : Bool := false
  ext      : Tbl WExtent := []       -- by index in the window
  members  : Tbl Member := []
  state    : WinState := .optimal
  verify   : Option Nat := none      -- pages that the verification has walked, while VERIFY is incomplete (R207)
  verified : List Nat := []          -- pages beyond those that a write-back has verified
  skipped  : List Nat := []          -- walked pages that could not be verified, a data member being missing
  span     : Nat := 0                -- DPA range in extents, those removed from its end among them (R180)
  recons   : Nat := 0                -- lines reconstructed by leaders (R209)
  repairs  : Nat := 0                -- lines written back after poison (R186)
  dsReads  : Nat := 0
  altHits  : Nat := 0                -- answered by the alternate
  late     : Nat := 0                -- late results discarded
  poisons  : Nat := 0
  misses   : Nat := 0                -- deadlines missed
  mismatch : Nat := 0
  discards : Nat := 0
  faults   : Nat := 0                -- access faults since the last event (R320)
  faultAt  : Option Nat := none      -- `ivl` of the last ACCESS_FAULT event
  faultDpa : Nat := 0                -- DPA of the first fault since
  dlAt     : Option Nat := none      -- `ivl` of the last DEADLINE event
  dlSince  : Nat := 0                -- misses since
  deriving DecidableEq, Repr, Inhabited

/-- An open Add Capacity or Release Capacity exchange (R178, R179). -/
structure DcWait where
  add      : Bool := true
  window   : Nat := 0
  first    : Nat := 0
  count    : Nat := 0
  ports    : List Nat := []          -- ports whose response is awaited
  accepted : Nat := 0                -- extents accepted so far, as a prefix
  create   : Bool := false           -- WINDOW_CREATE's exchange
  since    : Nat := 0
  deadline : Nat := 0                -- `ivl`, for Release Capacity
  force    : Bool := false
  done     : Nat := 0                -- extents released so far
  span     : Nat := 0                -- the window's DPA range before an addition
  cmd      : CmdRef := {}
  deriving DecidableEq, Repr, Inhabited

/-- A backing read in flight for a line (R185–R189). -/
structure BackRead where
  window : Nat := 0
  ext    : Nat := 0                  -- index in the window
  member : Nat := 0                  -- member first read
  since  : Nat := 0
  dstop  : Bool := false             -- a double-stop read has been issued
  alt    : Nat := 0                  -- the alternate member (Mirror); 10: the leader's reconstruction
  bad    : List Nat := []            -- members that returned poison or an error
  waits  : Bool := false             -- waits for one of the slice's 64 (R187)
  asked  : Bool := false             -- the first read went to the leader: the data member cannot serve (R185)
  alloc  : Bool := false             -- the placement loop lets the line allocate (R225)
  timed  : Bool := false             -- BACKING_TIMEOUT passed for the first read
  altAt  : Nat := 0                  -- `ivl` of the alternate read
  altTimed : Bool := false           -- BACKING_TIMEOUT passed for it
  noAlt  : Bool := false             -- no alternate can serve: a reconstruction that cannot be carried out
  newer  : List (Line × BitVec 64 × Bool) := []   -- writes that were in flight at its issue: bytes, enables, poison
  deriving DecidableEq, Repr, Inhabited

/-- A backing write in flight (R191–R194). -/
structure BackWrite where
  line   : Nat := 0
  window : Nat := 0
  ext    : Nat := 0
  member : Nat := 0
  since  : Nat := 0
  data   : Line := 0
  mask   : BitVec 64 := BitVec.allOnes 64
  poison : Bool := false
  cmp    : Option MemReq := none     -- the host write whose Cmp waits for it (R191)
  late   : Bool := false             -- treated as complete under R194; it still runs
  timed  : Bool := false             -- BACKING_TIMEOUT passed (R195)
  deriving DecidableEq, Repr, Inhabited

/-- An operation of a stripe's leader (R184): a write-back of a data line, its reconstruction, or the repair of one member. -/
structure StripeOp where
  line   : Nat := 0                  -- the data line, by line index
  window : Nat := 0
  unit   : Nat := 0                  -- first index of the stripe group in the window
  stripe : Nat := 0
  recon  : Bool := false
  repair : Option Nat := none        -- the member that the line is written back to (R186)
  new    : Line := 0
  poison : Bool := false
  cmp    : Option MemReq := none
  taken  : Bool := false             -- LEADER_REQUEST has delivered it
  order  : Nat := 0                  -- its place among those delivered
  begun  : Bool := false             -- its reads have been issued
  miss   : List Nat := []            -- members missing when its reads were issued (Table 6.5)
  need   : List Nat := []            -- members whose reads are outstanding
  got    : List (Nat × Line) := []
  bad    : List Nat := []            -- members that this operation may not use
  writes : List Nat := []            -- members whose writes are outstanding
  timed  : List Nat := []            -- those of them for which BACKING_TIMEOUT has passed
  since  : Nat := 0                  -- `ivl` at which its reads or writes were issued
  deriving DecidableEq, Repr, Inhabited

/-- What a line transaction does: rebuild a member (R201), verify (R207), migrate (R203). -/
inductive TxKind where
  | rebuild | verify | move
  deriving DecidableEq, Repr, Inhabited

/-- A line transaction in a home slice or a stripe's leader (R201, R203, R207). -/
structure LineTx where
  kind   : TxKind := .rebuild
  engine : Option Nat := none        -- none: the verification of a page before a write-back to it (R207)
  window : Nat := 0
  unit   : Nat := 0
  member : Nat := 0
  off    : Nat := 0                  -- line offset in the member extents: the stripe, for a stripe
  line   : Nat := 0                  -- the line, or data line 0 of the stripe, by line index
  back   : Bool := false             -- a migration with the roles reversed
  need   : List Nat := []            -- members whose reads are outstanding
  got    : List (Nat × Line × Bool) := []   -- data read, and whether it is poisoned
  bad    : List Nat := []            -- members that returned an error or nothing
  writes : List Nat := []            -- members whose writes are outstanding
  since  : Nat := 0                  -- `ivl` at which its reads or writes were issued
  ok     : Bool := true              -- the line is written, or verified
  differ : Bool := false             -- the copies or the parities did not agree
  done   : Bool := false
  deriving DecidableEq, Repr, Inhabited

/-- A write-back that waits for the verification of its page (R207), or for a transaction on its line (R201). -/
structure HeldWrite where
  line   : Nat := 0
  data   : Line := 0
  mask   : BitVec 64 := 0
  poison : Bool := false
  cmp    : Option MemReq := none
  deriving DecidableEq, Repr, Inhabited

/-- Pooling state. -/
structure Pool where
  devs    : Tbl Device := []
  windows : Tbl Window := []
  poolMap : Tbl Nat := []            -- pool extent → window + 1 (0: free)
  dc      : List DcWait := []
  reads   : Tbl (Option BackRead) := []   -- by line index
  writes  : List BackWrite := []
  ops     : List StripeOp := []      -- operations asked of stripe leaders, in order of entry (R184)
  orders  : Nat := 0                 -- operations delivered to leaders so far
  txs     : List LineTx := []        -- line transactions under way (R201, R203, R207)
  held    : List HeldWrite := []     -- write-backs that wait for a verification
  unfilled : List (Nat × Nat) := []  -- (SERIAL, extent from DPA 0) removed before it was zero-filled (R171)
  dcTime  : Nat := 1000              -- DC_RESPONSE_TIME in ms
  memberList : List (Nat × Nat) := [] -- MRAM list of R207: (SERIAL, extent)
  deriving DecidableEq, Repr, Inhabited

end Sys2Proof.Machine
end

