-- ==== Sys2Proof/Machine/Parts/Ports.lean ====
section
/-!
DEFINITION. The state of the CXL and PCIe ports (09_cxl_ports.md): ports, virtual CXL switches, PERST pins.
-/
namespace Sys2Proof.Machine

/-- PORT_STATUS.STATE. -/
inductive PortState where
  | down | training | l0 | l0p | recovery | disabled | inReset | ideInsecure
  deriving DecidableEq, Repr, Inhabited

/-- A port (PORT_CTL, PORT_STATUS). Widths are encoded 0 x16, 1 x8, 2 x4, 3 x2, 4 x1. -/
structure Port where
  role     : Nat := 0             -- ROLE
  cfgWidth : Nat := 0             -- configured width
  rateMax  : Nat := 5
  lopt     : Bool := true
  l0pEn    : Bool := true
  l0pMin   : Nat := 2
  floor    : Nat := 4             -- WIDTH_FLOOR
  ideReq   : Bool := false
  ideAgg   : Nat := 0
  disable  : Bool := false
  state    : PortState := .down
  rate     : Nat := 0
  width    : Nat := 0
  active   : Nat := 0             -- ACTIVE_WIDTH
  flit256  : Bool := false
  loptOn   : Bool := false
  cxl      : Bool := false
  cacheEn  : Bool := false
  memEn    : Bool := false
  cacheNeg : Bool := false        -- CXL.cache and CXL.mem negotiated at training (R288)
  memNeg   : Bool := false
  ideOn    : Bool := false
  present  : Bool := false
  degraded : Bool := false
  ident    : Nat := 0             -- partner identity: vendor ID and device ID (R277)
  serial   : Nat := 0             -- partner serial
  lds      : Nat := 0             -- logical devices of a multi-logical-device partner
  l0pOut   : Option Nat := none   -- own L0p request outstanding: width asked (R270)
  l0pHold  : Option Nat := none   -- `ivl` of a withdrawn request
  retries  : Nat := 0             -- link-layer retry count (source 163)
  errors   : Nat := 0
  l0pSince : Nat := 0
  l0pTime  : Nat := 0             -- time in L0p
  haveKeys : List Nat := []       -- keys programmed (R502): set × 2 + direction, 1 for transmit
  keyOf    : Tbl (BitVec 256) := []   -- by the same number
  gone     : List Nat := []       -- keys switched to by K_SET_GO, one per direction
  retrain  : List CmdRef := []    -- PORT_RETRAIN and PORT_CONFIG commands that wait for the retrain under way
  fmWait   : List Nat := []       -- tags of Fabric Manager API requests that wait for it (R276)
  seen     : Bool := false        -- the partner's identity has been read since it became present (R277)
  goCmd    : Option CmdRef := none      -- IDE_KEY_GO or IDE_KEY_PROG that waits for the device's answer
  progSet  : Nat := 0
  deriving DecidableEq, Repr, Inhabited

/-- What a vPPB is bound to (R273). -/
inductive Bound where
  | none | port (p : Nat) | ld (p ld : Nat)
  deriving DecidableEq, Repr, Inhabited

/-- A vPPB 16–47 of a virtual CXL switch. -/
structure Vppb where
  bound  : Bound := .none
  off    : Bool := false          -- the host turned the virtual slot off (R278)
  unbind : Option Nat := none     -- option 0 or 1 of an unbind that waits (R279)
  since  : Nat := 0
  cmd    : Option CmdRef := none
  fmTag  : Option Nat := none     -- the waiting unbind came over the Fabric Manager API with this tag
  deriving DecidableEq, Repr, Inhabited

/-- A virtual CXL switch (R271). -/
structure Vcs where
  present : Bool := false
  up      : Nat := 0              -- upstream port
  vppbs   : Tbl Vppb := []
  timeout : Nat := 5000           -- UNBIND_TIMEOUT in ms
  deriving DecidableEq, Repr, Inhabited

/-- A PERST input (PERST_IN_MAP). -/
structure PerstIn where
  port  : Nat := 0
  valid : Bool := false
  level : Bool := false           -- asserted after filtering
  seen  : Bool := false
  raw   : Bool := false           -- the pin is low
  since : Nat := 0                -- `ivl` of its last edge
  deriving DecidableEq, Repr, Inhabited

/-- A PERST output (PERST_OUT_MAP). -/
structure PerstOut where
  port   : Nat := 0
  valid  : Bool := false
  force  : Bool := false
  level  : Bool := true           -- asserted (low)
  since  : Option Nat := none     -- `ivl` of an assertion under R282 that runs
  minDone : Bool := false         -- PERST_OUT_MIN has passed
  input  : Nat := 64              -- the PERST_IN that asserted it; 64: a hot reset or a link down of the host (R268)
  deriving DecidableEq, Repr, Inhabited

/-- Port state. -/
structure Ports where
  ports  : Tbl Port := []
  vcs    : Tbl Vcs := []
  pIn    : Tbl PerstIn := []
  pOut   : Tbl PerstOut := []
  inFilter : Nat := 10            -- PERST_IN_FILTER in µs
  outMin   : Nat := 1000          -- PERST_OUT_MIN in µs
  mgrPort  : Nat := 0             -- the manager port
  fmLimit  : Nat := 0             -- Fabric Manager API response message limit
  linksDown : Bool := false       -- phase 3 of an orderly shutdown: every port is down and PERST_IN_N is ignored (R519)
  deriving DecidableEq, Repr, Inhabited

end Sys2Proof.Machine
end

