-- ==== Sys2Proof/Machine/Parts/Power.lean ====
section
/-!
DEFINITION. The state of rungs and adaptive loops (18_power_ladder.md).
-/
namespace Sys2Proof.Machine

/-- RUNG_CTL[c], c = 0–8, and the time on each rung. -/
structure Rung where
  deepest : Nat := 4               -- 3 for c = 8
  current : Nat := 0
  entered : Nat := 0               -- `ivl` of the entry into the current rung
  since   : Nat := 0               -- `ivl` since which the condition for the next rung has held (R456, R460)
  times   : Tbl Nat := []          -- ticks on each rung
  deriving DecidableEq, Repr, Inhabited

/-- The width loop of a port or the rate loop of a link. -/
structure LoopState where
  low   : Nat := 0                 -- consecutive intervals below the lower figure
  last  : Nat := 0                 -- `ivl` of the last interval
  atLo  : Nat := 0                 -- ticks pinned at the lower bound
  atHi  : Nat := 0
  deriving DecidableEq, Repr, Inhabited

/-- A temperature sensor: the last reading and the `ivl` since which it is unchanged. -/
structure Sensor where
  value : Option Int := none
  since : Nat := 0
  valid : Bool := false
  told  : Bool := false            -- source 309 raised for this invalidity
  deriving DecidableEq, Repr, Inhabited

/-- Power state. -/
structure Power where
  rungs    : Tbl Rung := []
  target   : Nat := 800            -- AVS_STATUS.TARGET
  read     : Nat := 0              -- AVS_STATUS.READ
  override : Bool := false
  raisedAt : Nat := 0              -- `ivl` of the last raise of the target under R464
  busErr   : Bool := false
  busStep  : Bool := false         -- step 2 applied under R464
  vmin     : Nat := 700
  vmax     : Nat := 800
  avsIvl   : Nat := 1000           -- µs
  avsAt    : Nat := 0
  avsLo    : Nat := 0              -- ticks pinned at AVS_VMIN
  avsHi    : Nat := 0
  width    : Tbl LoopState := []   -- per port
  rate     : Tbl LoopState := []   -- per link
  lwIvl    : Nat := 100            -- µs
  rateIvl  : Nat := 100            -- ms
  dampIdle : Nat := 2000           -- ns
  th1      : Nat := 100
  th2      : Nat := 103
  hbmTh    : Nat := 95
  iLimit   : Nat := 185            -- CORE_I_LIMIT in A
  tj       : Int := 0
  hbmT     : List Int := [0, 0]
  sensors  : Tbl Sensor := []      -- 0–19 fabric die, 20–21 HBM
  tStep    : Nat := 0              -- step by temperature
  hbmStep  : List Bool := [false, false]
  tripSeen : Bool := false
  curStep  : Bool := false         -- CURRENT_STEP
  belowAt  : List (Option Nat) := [none, none, none]   -- per step: `ivl` since which Tj is 3 °C below its threshold
  tripAt   : Option Nat := none    -- `ivl` since which Tj ≥ 110 °C
  coolAt   : Option Nat := none    -- `ivl` since which Tj < 95 °C
  sampleAt : Nat := 0
  quadStep : Bool := false         -- step 2: every sensor of a quadrant is invalid
  hotTicks : Nat := 0              -- ticks above 95 °C not yet counted as a second (R471)
  skip     : Tbl Nat := []         -- open slots passed over since the last open grant, per arbiter (R470)
  deriving DecidableEq, Repr, Inhabited

end Sys2Proof.Machine
end

