-- ==== Sys2Proof/Machine/Parts/Reset.lean ====
section
/-!
DEFINITION. The state of supplies, clocks, reset and start-up (21_power_clocks_reset.md), and the registers without a block
of their own (23_register_map.md).
-/
namespace Sys2Proof.Machine

/-- Why the fabric die is held in reset (R514). -/
inductive Warm where
  | pin | chip | thermal | rail | orderly
  deriving DecidableEq, Repr, Inhabited

/-- Supplies and reset. -/
structure Resets where
  running  : Bool := false         -- the fabric die runs
  started  : Bool := false         -- the housekeeping firmware runs
  held     : List Warm := []       -- warm causes that persist
  heldAt   : Nat := 0              -- `ivl` at which the hold began
  halted   : Bool := false         -- an orderly shutdown ended with MODE 0
  cause    : Nat := 0              -- RESET_STATUS.CAUSE
  nextCause : Nat := 0             -- cause of the next start
  cold     : Bool := true          -- the next start follows a cold reset
  lastOrderly : Bool := false
  seqSeen  : Bool := false         -- SEQ_VIOLATION_SEEN
  refAlt   : Bool := false         -- CORE_REF_ALT
  refCourse : Nat := 0             -- CORE_REF_COURSE
  straps   : BitVec 10 := 0
  strapsUsed : Bool := false       -- CMODE_USED
  badRails : List Nat := []        -- main rails out of range
  lowRails : List Nat := []        -- main rails below their warning threshold
  sdMode   : Bool := false         -- SHUTDOWN_CTL.MODE
  sdDrain  : Nat := 1000           -- SHUTDOWN_CTL.DRAIN
  phase    : Nat := 0              -- SHUTDOWN_STATUS.PHASE
  refused  : Bool := false
  drainOut : Bool := false         -- DRAIN_TIMEOUT
  wbFail   : Nat := 0              -- WB_FAIL
  cfgValid : Bool := false         -- CONFIG_STATUS.CFG_VALID
  cfgFault : Bool := false
  config   : Option BootConfig := none   -- the boot configuration applied
  deriving DecidableEq, Repr, Inhabited

/-- Registers of the identity block and the access paths. -/
structure Regs where
  live     : Bool := false         -- REG_VIEW.LIVE
  errReg   : Word := 0             -- ACCESS_ERR
  errCnt   : Nat := 0              -- ACCESS_ERR_CNT
  scratch  : Word := 0
  latches  : Tbl Word := []        -- HI latches: path × 2^21 + offset of HI (R540)
  serial   : DWord := 0
  engSample : Bool := false
  fwVer    : List Nat := [0, 0, 0] -- FW_VER_HK, FW_VER_MGMT, FW_VER_CFG
  deriving DecidableEq, Repr, Inhabited

end Sys2Proof.Machine
end

