-- ==== Sys2Proof/Machine/Parts/Secure.lean ====
section
/-!
DEFINITION. The state of security, boot chain and attestation (20_security.md).
-/
namespace Sys2Proof.Machine

/-- An SPDM session on a mailbox (R500): 0 the management endpoint's, 1 + v that of vCS v, 100 + i the four over MCTP. -/
structure Session where
  mbox   : Nat := 0
  id     : Nat := 0
  open_  : Bool := false           -- FINISH has succeeded
  keyGen : Nat := 0                -- KEY_UPDATEs taken
  deriving DecidableEq, Repr, Inhabited

/-- An FW_UPDATE that runs (R495). -/
structure Update where
  typ    : Nat := 0
  set    : Nat := 0
  total  : Nat := 0
  offset : Nat := 0                -- bytes received over MCTP
  mctp   : Bool := false
  cmd    : Option CmdRef := none
  deriving DecidableEq, Repr, Inhabited

/-- Security state. -/
structure Secure where
  active   : Nat := 0              -- ACTIVE set of the boot record
  pend     : Option Nat := none    -- PENDING
  tries    : Nat := 0
  trial    : Bool := false         -- SEC_STATUS.TRIAL: a PENDING set runs unconfirmed (R490)
  forceSet : Option Nat := none    -- set to which the repeated start of R489 falls back
  invalid  : List Nat := []        -- image places marked invalid: set × 3 + TYPE − 1
  images   : Tbl (Option ImageFacts) := []   -- by place, as last verified
  revoked  : List Nat := []        -- revocation bits
  ctrs     : List Nat := [0, 0, 0] -- anti-rollback counters of TYPE 1–3
  bootSet  : Nat := 0
  fallback : Bool := false
  recovery : Bool := false
  identity : Bool := false         -- IDENTITY_OK
  debug    : Bool := false         -- DEBUG_UNLOCKED
  debugNonce : Nat := 0            -- drawn at each cold reset (R506)
  running  : List ImageFacts := []   -- running images of TYPE 1, 2, 3
  update   : Option Update := none
  readyAt  : Option Nat := none    -- `ivl` since which FW_READY is 1
  bootWait : Option Nat := none    -- `ivl` of a start that waits for FW_READY
  actWait  : Option Nat := none    -- `ivl` of a MODE 1 activation that waits for FW_READY
  sessions : List Session := []
  nextSess : Nat := 0
  version  : List Nat := []        -- mailboxes whose GET_VERSION has been answered
  negotiated : List Nat := []      -- mailboxes whose algorithms are agreed
  chains   : Tbl (List Byte) := [] -- certificate chains of slots 1–3 installed by the owner
  slot0Ok  : Bool := true          -- the slot 0 chain matches its fused hash
  deriving DecidableEq, Repr, Inhabited

end Sys2Proof.Machine
end

