-- ==== Sys2Proof/Machine/Parts/Slot.lean ====
section
/-!
DEFINITION. The state of the slot-power controllers (17_slot_power.md).
-/
namespace Sys2Proof.Machine

/-- Channel states (Table 17.2). -/
inductive ChanState where
  | empty | debounce | off | ramp | on | retryWait | latched | broken
  deriving DecidableEq, Repr, Inhabited

/-- The parameters of Table 17.5. -/
structure SlotParams where
  enable    : Bool := false        -- Boot
  retry     : Bool := true         -- FAULT_MODE
  port      : Nat := 255           -- Boot
  retryLimit : Nat := 0
  fastMult  : Nat := 2
  ilim      : Nat := 100           -- 0.1 mV
  faultTime : Nat := 100           -- 0.1 ms
  holdoff   : Nat := 50            -- RETRY_HOLDOFF in 0.1 s
  pgQual    : Nat := 10            -- 0.1 ms
  debounce  : Nat := 100           -- ms
  vPg       : Nat := 10800
  vWarn     : Nat := 11000
  shunt     : Nat := 2000          -- µΩ
  vFeedUv   : Nat := 10800         -- channels 0–3
  feedReturn : Nat := 10           -- 0.1 s
  preferB   : Bool := false
  deadTime  : Nat := 5             -- µs
  offThresh : Nat := 1000
  offDelay  : Nat := 10            -- ms
  gateRise  : Nat := 10            -- 0.1 ms
  warnLead  : Nat := 0             -- ms
  deriving DecidableEq, Repr, Inhabited

/-- A slot-power channel. -/
structure Chan where
  p        : SlotParams := {}
  state    : ChanState := .empty
  present  : Bool := false         -- qualified presence
  pg       : Bool := false
  limit    : Bool := false         -- current limit active
  gateOn   : Bool := false
  feedB    : Bool := false         -- selected feed
  forced   : Option Bool := none   -- FEED_SELECT forces A (false) or B (true)
  warn     : Bool := false         -- SP_WARN_N is low
  retries  : Nat := 0
  faultSeen : Bool := false
  switchSeen : Bool := false
  offVSeen : Bool := false
  pinLow   : Option Nat := none    -- `ivl` since which PRSNT_N is low
  holdFrom : Nat := 0              -- `ivl` of the fault that started the retry hold-off
  holdEnd  : Option Nat := none    -- `ivl` at which HOLDOFF_REMAIN ends (R442)
  goneAt   : Option Nat := none    -- `ivl` of a removal in RAMP or ON (R442: a fault of the same tick)
  timerAt  : Option Nat := none    -- `ivl` at which the fault timer started
  pgAt     : Nat := 0              -- `ivl` of power-good (R445: 60 s)
  badA     : Bool := false         -- a feed is bad
  badB     : Bool := false
  goodA    : Nat := 0              -- `ivl` since which a feed is good
  goodB    : Nat := 0
  change   : Option Nat := none    -- `ivl` at which the dead time of a changeover started
  inputLow : Bool := false
  leadAt   : Option Nat := none    -- `ivl` of a SLOT_OFF that waits out WARN_LEAD
  leadCmds : List CmdRef := []     -- the SLOT_OFFs that wait with it
  warnEnd  : Nat := 0              -- `ivl` at which the last cause of SP_WARN_N ended
  offHigh  : Bool := false         -- the condition of R448 holds
  current  : Int := 0              -- SLOT_I in mA
  vOut     : Nat := 0
  vIn      : Nat := 0
  power    : Int := 0              -- SLOT_P in mW
  energy   : Int := 0              -- in nJ, summed per sample
  vA       : Nat := 0
  vB       : Nat := 0
  samples  : List (Int × Int) := []   -- (current, power) of the last 1 ms, newest first
  senseTold : Bool := false
  deriving DecidableEq, Repr, Inhabited

/-- Slot-power state. -/
structure Slots where
  chans : Tbl Chan := []
  deriving DecidableEq, Repr, Inhabited

end Sys2Proof.Machine
end

