-- ==== Sys2Proof/Machine/Parts/Switch.lean ====
section
/-!
DEFINITION. The state of the switching core (03_switch_core.md): fabric IDs, host routing, VOQs, the central buffer, credits,
spill, permits, guard tags, stomps and replay.
-/
namespace Sys2Proof.Machine

/-- Where a packet leaves the crossbar (Table 3.1). -/
inductive Egress where
  | port (p : Nat) | link (l p : Nat) | quad (q : Nat) | mover | mgmt
  deriving DecidableEq, Repr, Inhabited

/-- The place of the central buffer a cell holds (R74). -/
inductive Place where
  | shared | sc0 | cls
  deriving DecidableEq, Repr, Inhabited

/-- A packet in a VOQ lane, in egress staging or with an egress link layer: its cells with the descriptor they share (R54, R62, R105). -/
structure QPkt where
  pid     : Nat := 0
  input   : Nat := 0
  port    : Nat := 0             -- ingress port
  output  : Nat := 0
  egress  : Egress := .mgmt
  cls     : MsgClass := .req
  sc      : Nat := 5
  tenant  : Nat := 0
  bytes   : Nat := 64
  cells   : Nat := 1
  flits   : Nat := 1
  moved   : Nat := 0             -- progress count: cells already moved (R66)
  places  : List Place := []     -- places of the cells still in the buffer, oldest first
  spilled : Nat := 0             -- cells in spill (R78)
  unplaced : Nat := 0            -- cells of a copy that R74 has not admitted yet (R75)
  whole   : Bool := true         -- last cell received (R67)
  tails   : List Nat := []       -- cells that are tail-marked, by index in the packet (R54, R68)
  mates   : List Nat := []       -- messages that share its cell (R55)
  ecrc    : Bool := false
  data    : Bool := true
  poison  : Bool := false
  arrival : Nat := 0             -- Fabric Time at the receive balls (R131)
  lookAt  : Nat := 0             -- `ivl` of its lookup (R55)
  dst     : Nat := 0             -- destination fabric ID, for Stolevo egress
  path    : Nat := 0
  hop     : Nat := 0
  srcDev  : Nat := 0
  srcId   : Nat := 0             -- fabric ID of the issuing endpoint (Table 8.5)
  fromStv : Bool := false        -- arrived on a Stolevo Link: covered by a permit of this device (R80)
  guarded : Bool := false
  tag     : Nat := 0             -- guard tag (R86)
  oldest  : Nat := 0             -- the source's oldest tag that awaits a response
  reissue : Bool := false        -- R87
  shaped  : Bool := false        -- a request that decoded to its tenant: its tenant's shaper applies (R119)
  noPath  : Bool := false        -- no usable path index (R60)
  flow    : Option Nat := none   -- the SC0 flow that covers it
  slice   : Option Nat := none   -- the home slice its descriptor names (R66)
  ro      : Bool := false        -- Relaxed Ordering (R64)
  ido     : Bool := false        -- ID-Based Ordering
  reqId   : Nat := 0
  body    : List Byte := []      -- its stored bytes; a byte past the end of the list is 0
  noCredit : Bool := false       -- a copy re-issued or queued again: it holds no link credit
  seq     : Nat := 0             -- order of lookup
  taken   : Nat := 0             -- flits already taken by the egress link layer (R109)
  deriving DecidableEq, Repr, Inhabited

/-- Buffer limits of a crossbar port (Table 3.5). -/
structure XPort where
  portLimit  : Nat := 20480
  scLimit    : List Nat := [65536, 65536, 65536, 65536, 65536, 65536, 65536, 65536]
  sc0Reserve : Nat := 1024
  deriving DecidableEq, Repr, Inhabited

/-- Link credits of one message class of one CXL port (R76). -/
structure Credit where
  out    : Nat := 0              -- credits the partner holds, each backed by a cell place
  inCls  : Nat := 0              -- those of them backed by a place of the class reserve
  held   : Nat := 0              -- cells in the buffer that arrived on a credit
  kept   : Nat := 0              -- credits the switch keeps back
  since  : Option Nat := none    -- `ivl` at which the withholding started
  raised : Bool := false         -- source 76 raised for this stall
  deriving DecidableEq, Repr, Inhabited

/-- A permit balance at the source (R81); key (device × 4 + path) × 11 + class, class 10 for the standing SC0 balance. -/
structure Balance where
  permits : Nat := 0
  reqAt   : Option Nat := none   -- `ivl` of the outstanding PERMIT_REQ (R82, R255)
  retryAt : Option Nat := none   -- `ivl` at which the source asks again after a grant of 0
  lastUse : Nat := 0             -- `ivl` of the last traffic (R83)
  deriving DecidableEq, Repr, Inhabited

/-- A guard-store entry (R86): a copy of a deadline-bearing request. -/
structure GuardEntry where
  dst      : Nat := 0            -- destination device
  dstId    : Nat := 0            -- destination fabric ID
  tag      : Nat := 0
  pid      : Nat := 0
  path     : Nat := 0
  since    : Nat := 0            -- `ivl` of the (re)issue
  reissued : Bool := false
  expired  : Bool := false       -- PATH_GUARD has passed without another usable path (R87)
  pkt      : QPkt := {}          -- the copy
  deriving DecidableEq, Repr, Inhabited

/-- A path index whose PATH_USABLE bit the guard cleared, and its probes (R87). -/
structure Probe where
  id   : Nat := 0
  path : Nat := 0
  last : Nat := 0                -- `ivl` of the last probe
  deriving DecidableEq, Repr, Inhabited

/-- A stomped packet that waits for its good copy (R69–R71). -/
structure Stomp where
  pid   : Nat := 0
  since : Nat := 0
  seq   : Nat := 0               -- its sequence number in the egress replay buffer
  pkt   : QPkt := {}
  deriving DecidableEq, Repr, Inhabited

/-- An HDM decoder a host programmed (R58, R318). -/
structure HdmDecoder where
  index : Nat := 0
  base  : Nat := 0
  size  : Nat := 0
  vppb  : Nat := 0
  dpa   : Nat := 0
  deriving DecidableEq, Repr, Inhabited

/-- What the host on one upstream port has programmed (R58). -/
structure HostCfg where
  ranges     : List (Nat × Nat × Nat × Nat) := []   -- (function, kind, base, limit); kind 0 memory, 1 prefetchable memory, 2 I/O
  buses      : List (Nat × Nat × Nat) := []   -- (function, secondary, subordinate)
  ids        : List (Nat × Nat × Nat × Nat) := []   -- (function, bus, device, function number): the ID a function holds (R57)
  hdm        : List HdmDecoder := []
  busMaster  : List Nat := []                 -- functions with Bus Master Enable set
  masked     : List (Nat × Nat) := []         -- (function, vector) masked
  maxPayload : Nat := 128                     -- PCIe's reset value (notes/assumptions/162.md)
  dcEvents   : Bool := false
  cacheIds   : List (Nat × Nat) := []         -- (vPPB, CacheID) (R265)
  biIds      : List (Nat × Nat) := []         -- (vPPB, BI-ID)
  dpcEn      : List Nat := []                 -- vPPBs with Downstream Port Containment enabled
  dpcOn      : List Nat := []                 -- vPPBs that containment holds
  hotEn      : List Nat := []                 -- vPPBs with hot-plug and link-state reports enabled
  aer        : Tbl Word := []                 -- AER uncorrectable error status, per function
  deriving DecidableEq, Repr, Inhabited

/-- Core timers and limits (Table 3.8). -/
structure CoreTimers where
  stompHold     : Nat := 10        -- µs
  creditStall   : Nat := 1000      -- µs
  spillWarn     : Nat := 50        -- %
  classReserve  : Nat := 65536     -- cells
  maxReq        : Nat := 4096      -- cells
  permitIdle    : Nat := 10        -- µs
  pathGuard     : Nat := 1000      -- ns
  deriving DecidableEq, Repr, Inhabited

/-- The switching core. -/
structure Switch where
  fabric     : Tbl DWord := []             -- fabric ID entries (Table 3.2)
  host       : Tbl HostCfg := []           -- per upstream port
  voq        : Tbl (List QPkt) := []       -- lanes: ((input × 38 + output) × 8 + SC) × 10 + class
  turn       : Tbl Nat := []               -- last lane group served, per (input × 38 + output) × 8 + SC (R64)
  staging    : Tbl (List QPkt) := []       -- egress staging: port × 8 + SC (R65)
  heldShared : Tbl Nat := []               -- cells in the shared part: crossbar port × 8 + SC
  heldSc0    : Tbl Nat := []               -- cells in the SC0 reserve, per crossbar port
  heldCls    : Tbl Nat := []               -- cells in the class reserves: (crossbar port × 10 + class) × 8 + SC
  xports     : Tbl XPort := []
  bufCells   : Nat := 786432               -- cells of the central buffer (R73, R433)
  credits    : Tbl Credit := []            -- port × 10 + class
  spill      : Nat := 0                    -- cells in spill
  spillRaised : Bool := false              -- source 70 raised and occupancy not yet below half (R79)
  permCls    : Tbl Nat := []               -- permits debited from each class reserve (R80)
  permShared : Nat := 0                    -- permits debited from the shared remainder
  permSc0    : Nat := 0                    -- permits debited from the SC0 part
  sc0Owed    : Nat := 0                    -- standing SC0 permits that the pool could not debit yet (R30)
  sc0Part    : Nat := 0                    -- size of the SC0 part, set by admission
  debits     : Tbl Nat := []               -- permits debited: (source device × 4 + path) × 11 + class, 10 for SC0 (R80, R91)
  balances   : Tbl Balance := []
  nextTag    : Tbl Nat := []               -- per destination device (R86)
  guardStore : List GuardEntry := []
  guardFull  : Bool := false               -- source 72 raised and occupancy not yet below half
  guardLate  : Nat := 0                    -- responses discarded under R89
  srcHeld    : List (Nat × Nat × Nat) := []  -- (device, tag, packet) held in quarantine at the source (R89)
  executed   : Tbl (List Nat) := []        -- executed guard tags per source device (R88)
  applied    : Tbl (List Nat) := []        -- those of them whose answer this device has issued (Table 3.7)
  owed       : List (Nat × Nat × Nat) := []  -- (source device, tag, path) of re-issued writes that wait for the original (Table 3.7)
  base       : Tbl Nat := []               -- window base per source device
  quarantine : List (Nat × Nat × Nat) := []  -- (source device, tag, path of the re-issue) (R88)
  belowWin   : Nat := 0                    -- arrivals discarded below the window
  probes     : List Probe := []
  stomped    : Tbl (List Stomp) := []      -- per egress port
  replay     : Tbl (List ReplayEnt) := []  -- per CXL egress port
  txSeq      : Tbl Nat := []               -- next flit sequence number, per CXL egress port
  retryFrom  : Tbl (Option Nat) := []      -- a retry request answered with NOP flits, per port (R69)
  inCell     : Tbl Nat := []               -- `ivl` + 1 of the cycle of the last cell, per crossbar input (R66)
  outCell    : Tbl Nat := []               -- the same per crossbar output
  lookups    : Nat := 0                    -- packets looked up so far (their order, R64)
  timers     : CoreTimers := {}
  deriving DecidableEq, Repr, Inhabited

end Sys2Proof.Machine
end

