-- ==== Sys2Proof/Machine/Parts/Stv.lean ====
section
/-!
DEFINITION. The state of the Stolevo Links (08_stolevo_link.md).
-/
namespace Sys2Proof.Machine

/-- STV_STATUS.STATE. -/
inductive StvState where
  | phy | align | config | active | downHeld | removed
  deriving DecidableEq, Repr, Inhabited

/-- A permit message that waits for a link or stands in its replay store, with what this device debited for it (R255). -/
structure PermitOut where
  kind    : PermitKind := .req
  m       : PermitMsg := {}
  debited : Nat := 0
  since   : Nat := 0              -- `ivl` since which it waits (R247)
  deriving DecidableEq, Repr, Inhabited

/-- What a sequenced flit carries: permit messages, or flit `k` of the `n` of a packet. -/
inductive StvLoad where
  | permits (ms : List PermitOut)
  | packet (q : QPkt) (k n : Nat)
  deriving DecidableEq, Repr, Inhabited

/-- An entry of the replay store (R241): the flit's header but for ACK and SNACK, and its payload as it is on the wire. -/
structure StvEntry where
  head    : FlitHead := {}
  payload : List Byte := []
  load    : StvLoad := .permits []
  cells   : List Nat := []        -- cells of the packet with bytes in the flit
  done    : Nat := 0              -- cells whose last byte it carries
  since   : Nat := 0              -- `ivl` of its first transmission (R246)
  resent  : Option Nat := none    -- `ivl` of its last re-send (RESEND_GUARD, R244)
  nacked  : Bool := false         -- a retransmission is due
  bad     : Bool := false         -- carries a tail-marked cell (R245)
  deriving DecidableEq, Repr, Inhabited

/-- A flit held in the reorder allotment (R242, R243). -/
structure StvHeld where
  head    : FlitHead := {}
  payload : List Byte := []       -- in clear
  drop    : Bool := false         -- discarded under R251, kept for sequence purposes
  carries : List (Nat × Nat) := []
  deriving DecidableEq, Repr, Inhabited

/-- A reassembly context (R239). -/
structure Reassembly where
  busy   : Bool := false
  header : StvHeader := {}
  cls    : Nat := 15
  drop   : Bool := false
  deriving DecidableEq, Repr, Inhabited

/-- A Stolevo Link. -/
structure StvLink where
  rateMin  : Bool := false        -- STV_CTL
  rateMax  : Bool := true
  widthMin : Nat := 2
  ideReq   : Bool := false
  state    : StvState := .phy
  group    : Nat := 0
  rate     : Bool := false        -- true 128 GT/s
  leader   : Bool := false
  ideOn    : Bool := false
  restart  : Bool := false        -- PEER_RESTARTED
  nextSeq  : Nat := 0
  replay   : List StvEntry := []  -- oldest first; OLDEST_UNACKED is the first one's
  expected : Nat := 0
  held     : List StvHeld := []
  seenSeq  : Nat := 0             -- one past the highest sequence number accepted or named by an IDLE (R242)
  txWrap   : Nat := 0
  rxWrap   : Nat := 0
  repeatAck : Bool := false       -- a duplicate arrived: the next flit repeats the current ACK
  dataCtx  : Reassembly := {}
  sc0Ctx   : Reassembly := {}
  peerSerial : Nat := 0           -- the record of the peer (R254)
  peerEpoch  : Nat := 0
  hasRecord  : Bool := false
  delay    : Nat := 0             -- STV_DELAY
  measured : Bool := false
  cnt      : Tbl Nat := []        -- STV_CNT[n]
  cntCyc   : Tbl Nat := []        -- what the core cycle of `cntAt` added to them (R546)
  cntAt    : Nat := 0             -- 1 + `ivl` of the core cycle that last added to them
  sendData : List QPkt := []      -- packets that wait for the link, SC1–SC7 (R256)
  sendSc0  : List QPkt := []
  permits  : List PermitOut := []  -- permit messages ready
  inbox    : List CtrlMsg := []   -- control messages received, not yet acted on (R249, R250)
  unseq    : List (Nat × Nat × DWord) := []   -- CTRL_UNSEQ messages due: (0 req 1 rsp 2 announce, EXCH_ID, stamp)
  markers  : Nat := 0             -- markers sent on every lane since ALIGN was entered (R252)
  sinceFiller : Nat := 0          -- wire flits since the last FILLER (R233)
  ackAt    : Nat := 0             -- `ivl` at which ACK last advanced
  goodAt   : Nat := 0             -- `ivl` of the last flit that passed R237 step 2
  stateAt  : Nat := 0             -- `ivl` of entry into the state
  trainAt  : Nat := 0             -- `ivl` at which training started (TRAIN_TIMEOUT)
  crcBad   : Nat := 0             -- flits discarded since crcAt (CRC_LIMIT)
  crcAt    : Nat := 0
  rxLanes  : BitVec 16 := 0
  lastProp : Option TrainSeq := none
  chosen   : BitVec 5 := 0
  phase    : Nat := 0             -- own PHASE: 0 PROPOSE, 1 AGREE, 2 READY
  countdown : Nat := 0
  peerResume : Bool := false
  peerExpected : Nat := 0
  peerCount : Option Nat := none  -- flits until the peer's COUNTDOWN 0 has passed, once a READY was received
  ownDone  : Bool := false        -- own COUNTDOWN 0 has been sent
  cleared  : List (Nat × Nat) := []   -- (fabric ID, path index) whose PATH_USABLE the switch cleared for this link (R256)
  retrain  : Option CmdRef := none    -- STV_LINK_RETRAIN that waits for the state reached
  fresh    : Bool := false        -- the next start is fresh whatever RESUME says (R257)
  loop64   : Bool := false        -- the rate loop advertises only 64 GT/s (R467)
  therm64  : Bool := false        -- thermal step 2 holds the link at 64 GT/s (Table 18.4)
  keysTx   : Tbl (BitVec 256) := []   -- key sets 0 and 1; 0 where none is programmed
  keysRx   : Tbl (BitVec 256) := []
  haveTx   : List Nat := []
  haveRx   : List Nat := []
  txSet    : Nat := 0             -- key set the transmitter uses
  rxSet    : Nat := 0             -- key set of the last sequenced flit accepted
  goArmed  : Option Nat := none   -- KEY_SET_GO armed (R258)
  keyUsed  : Bool := false        -- a flit has gone out under the keys at hand (R259)
  freshKey : List Bool := []      -- directions (true: transmit) keyed since the link went down for failed tags (R260)
  ctrUnseq : Nat := 0             -- CTRL_UNSEQ counter (R259)
  authBad  : Nat := 0             -- failed tags since authAt (R260)
  authAt   : Nat := 0
  authDown : Bool := false        -- down until new keys are programmed
  replayAge : Nat := 100          -- µs (Table 8.11)
  ackTime  : Nat := 5             -- µs
  idleDown : Nat := 4             -- µs
  trainTime : Nat := 10           -- ms
  retryIvl : Nat := 10            -- ms
  crcLimit : Nat := 1024
  deriving DecidableEq, Repr, Inhabited

/-- The Stolevo Links and this device's own EPOCH. -/
structure Stv where
  links : Tbl StvLink := []
  epoch : Nat := 0                -- drawn at each start (Table 8.8)
  deriving DecidableEq, Repr, Inhabited

end Sys2Proof.Machine
end

