-- ==== Sys2Proof/Machine/Parts/Test.lean ====
section
/-!
DEFINITION. The state of self-test and repair (16_self_test_repair.md).
-/
namespace Sys2Proof.Machine

/-- A slice test that runs (R427, R434). -/
structure SliceTest where
  kind  : Nat := 0               -- Table 16.2
  index : Nat := 0
  since : Nat := 0               -- `ivl`
  seg   : Nat := 0               -- segment of a home slice under test: 0–15 directory cache, 16–22 trackers
  drained : Bool := false        -- SLICE_ISOLATION_DONE was seen
  found : List TestResult := []  -- findings so far
  cmd   : Option CmdRef := none  -- BIST_RUN
  deriving DecidableEq, Repr, Inhabited

/-- Self-test state. -/
structure SelfTest where
  kinds    : Nat := 0xF          -- kinds enabled
  interval : Nat := 60           -- SLICE_INTERVAL in s
  drain    : Nat := 1000         -- SLICE_DRAIN in µs
  running  : Option SliceTest := none
  lastTurn : Nat := 0            -- `ivl` of the last turn
  nextKind : Nat := 0            -- round-robin position
  nextIdx  : List Nat := [0, 0, 0, 0]
  lastKind : Nat := 0            -- SLICE_TEST_STATUS.KIND and INDEX
  lastIdx  : Nat := 0
  lastOut  : Nat := 0            -- LAST_OUTCOME
  spare    : Nat := 64           -- SPARE_BANK; 127 if none
  lost     : Nat := 0            -- buffer banks lost beyond the spare (Table 16.5)
  excluded : List (Nat × Nat) := []   -- (home slice, segment) excluded; 16 + n is tracker segment n
  portsOut : List Nat := []      -- crossbar ports 0–31 that failed: their ports stay in DOWN
  fatal    : Bool := false       -- crossbar ports 32–37 or a table macro failed: the start stopped
  deriving DecidableEq, Repr, Inhabited

end Sys2Proof.Machine
end

