-- ==== Sys2Proof/Machine/Parts/Time.lean ====
section
/-!
DEFINITION. The state of Fabric Time (02_fabric_time.md).
-/
namespace Sys2Proof.Machine

/-- FT_STATUS.STATE (Table 2.1). -/
inductive FtMode where
  | free | acquire | locked | holdover | holdoverExpired | set
  deriving DecidableEq, Repr, Inhabited

/-- FT_STATUS.SOURCE (Table 2.1). -/
inductive FtSource where
  | none | sync | link | manager
  deriving DecidableEq, Repr, Inhabited

/-- A source candidate: class, root serial, hops (R38). -/
structure FtCand where
  cls  : Nat := 15
  root : Nat := 0
  hops : Nat := 0
  deriving DecidableEq, Repr, Inhabited

/-- A time exchange that waits for its TIME_RSP (R250). -/
structure FtExchange where
  active : Bool := false
  exchId : Nat := 0
  t1     : Nat := 0
  since  : Nat := 0
  deriving DecidableEq, Repr, Inhabited

/-- A TIME_SET that waits for its load cycle (R43): the value, the instant of the load, the command. -/
structure FtPending where
  value : Nat := 0
  load  : Nat := 0
  cmd   : CmdRef := {}
  deriving DecidableEq, Repr, Inhabited

/-- Fabric Time. -/
structure FabricTime where
  count      : DWord := 0             -- FT_NOW (R36)
  fracAcc    : Nat := 0               -- accumulated fraction of a tick, in 2^-32 ticks (R44)
  rate       : BitVec 32 := 0         -- signed fraction added per core cycle, in 2^-32 ticks (R44)
  ivl        : Nat := 0               -- ticks added by R44 since reset: what interval timers count (R52)
  newSlot    : Bool := true           -- this core cycle is the first of its slot (R51)
  latch      : Tbl Word := []         -- FT_NOW_HI as latched, per access path (R37, R540)
  mode       : FtMode := .free
  source     : FtSource := .none
  link       : Nat := 0
  cls        : Nat := 15              -- CLASS announced
  hops       : Nat := 0
  root       : Nat := 0               -- root serial announced
  stepped    : Bool := false
  oscOk      : Bool := false
  cands      : Tbl (Option FtCand) := []   -- per link (R38)
  syncCand   : Option FtCand := none  -- FT_SYNC_IN, while valid
  better     : Tbl (Nat × Nat) := []  -- announcement intervals in which a candidate was better, and the last of them; key 0 FT_SYNC_IN, l + 1 link l (R39)
  missed     : Tbl Nat := []          -- exchanges missed in a row, per link (R39)
  exch       : Tbl FtExchange := []   -- per link
  nextExch   : Nat := 0               -- EXCH_ID of the next TIME_REQ
  inDelay    : Nat := 0               -- FT_IN_DELAY (Table 2.5)
  linkAsym   : Tbl Int := []          -- FT_LINK_ASYM per link
  stepThresh : Nat := 10              -- FT_STEP_THRESH in µs
  holdLimit  : Nat := 10              -- FT_HOLDOVER_LIMIT in s
  syncUse    : Bool := true           -- FT_SYNC_IN use
  pendSet    : List FtPending := []   -- accepted TIME_SETs that wait for their load cycle (R43)
  pendStep   : Option (Nat × Nat) := none  -- ticks to step, instant of the quantum boundary (R45)
  good       : Nat := 0               -- consecutive measurements within 20 ns (R49)
  bad        : Nat := 0               -- consecutive measurements above 100 ns
  everLocked : Bool := false          -- LOCKED since the last cold reset (R50)
  learned    : Nat := 0               -- offset of FT_OSC learned in the most recent LOCKED period (R50)
  loadDue    : Bool := false          -- the count is loaded at the next marker or exchange (Table 2.4)
  holdSince  : Nat := 0               -- `ivl` at entry into HOLDOVER
  expect     : Option Nat := none     -- FT[63:24] expected at the next marker (R41)
  lastFrame  : Option Nat := none     -- NEXT of the previous frame, adjusted, for the two-frame rule
  usable     : Bool := false          -- the next marker may be used for discipline (R41)
  frameTrace : Bool := false          -- TRACEABLE of the frame in use (R42)
  lastMarker : Nat := 0               -- `ivl` of the last valid marker (R39)
  lastOut    : Option Nat := none     -- period number of the last marker driven on FT_SYNC_OUT
  lastXchg   : Tbl (Option Nat) := [] -- 2^16 ns period of the last exchange, per link (R250)
  stateIvl   : Nat := 0               -- `ivl` at the last change of STATE
  timeIn     : Tbl Nat := []          -- ticks spent in each state (Table 12.8)
  offset     : Tbl Int := []          -- last measured offset per link in ticks (R46)
  delay      : Tbl Int := []          -- last measured delay per link in ticks (R46)
  deriving DecidableEq, Repr, Inhabited

end Sys2Proof.Machine
end

