-- ==== Sys2Proof/Machine/State.lean ====
section
/-!
DEFINITION. The state of the block as plain data: the queue of waiting commands and the chip, one part per chapter of the
spec. Every field has the value of a cold reset as its default (R548), so `{}` is the chip after reset.
-/
namespace Sys2Proof.Machine

/-- Everything but the command queue. -/
structure Chip where
  ft    : FabricTime := {}
  sw    : Switch := {}
  sched : Sched := {}
  home  : Home := {}
  pool  : Pool := {}
  hbm   : Hbm := {}
  stv   : Stv := {}
  ports : Ports := {}
  lanes : Lanes := {}
  ten   : Tenants := {}
  rings : Rings := {}
  grp   : Groups := {}
  mov   : Mover := {}
  flt   : Collector := {}
  bb    : BlackBox := {}
  test  : SelfTest := {}
  slot  : Slots := {}
  pow   : Power := {}
  ctr   : Counters := {}
  sec   : Secure := {}
  rst   : Resets := {}
  regs  : Regs := {}
  sent  : List Msg := []     -- what the switch has sent, newest first (model's own; notes/assumptions/2.md)
  freeCtr : Nat := 0         -- free values used so far (model's own; notes/assumptions/3.md)
  deriving DecidableEq, Repr, Inhabited

/-- The state of the block: the commands that wait, first in first out, and the chip. -/
structure State where
  pending : List Instr := []
  chip    : Chip := {}
  deriving DecidableEq, Repr, Inhabited

/-- The machine right after a cold reset, before the start sequence of R516 has run (the command START runs it). -/
def State.reset : State := { pending := [], chip := {} }

/-- Faults of the model. No command raises one: what the spec calls a fault is a fault source, which is state (R400). -/
inductive Fault where
  /-- Raised by no command. Safe: it never ends a run. -/
  | none
  deriving DecidableEq, Repr, Inhabited

/-- Refusals of the model. -/
inductive Refusal where
  /-- A command that has no meaning yet, by its mnemonic. Safe: it stops. -/
  | notModelled (mnemonic : String)
  deriving DecidableEq, Repr, Inhabited

end Sys2Proof.Machine
end

