-- ==== Sys2Proof/Machine/Ops.lean ====
section
/-!
DEFINITION. The named operations over the state: sparse tables, the parts by instance, the two clocks, what is sent.
-/
namespace Sys2Proof

/-- The entry at key `k`; `d` where it is not listed. -/
def Tbl.lookD {α : Type} (d : α) : Tbl α → Nat → α
  | [], _ => d
  | (j, v) :: t, k => if j = k then v else Tbl.lookD d t k

/-- The table without key `k`. -/
def Tbl.del {α : Type} : Tbl α → Nat → Tbl α
  | [], _ => []
  | (j, v) :: t, k => if j = k then t else (j, v) :: Tbl.del t k

/-- The table with `v` at key `k`, keys rising. -/
def Tbl.ins {α : Type} : Tbl α → Nat → α → Tbl α
  | [], k, v => [(k, v)]
  | (j, w) :: t, k, v =>
    if k < j then (k, v) :: (j, w) :: t
    else if j = k then (k, v) :: t
    else (j, w) :: Tbl.ins t k v

/-- The table with `v` at key `k`; writing what an unlisted key reads as removes the entry. -/
def Tbl.putD {α : Type} [DecidableEq α] (d : α) (t : Tbl α) (k : Nat) (v : α) : Tbl α :=
  if v = d then t.del k else t.ins k v

/-- The entry at key `k`, the default where it is not listed. -/
def Tbl.look {α : Type} [Inhabited α] (t : Tbl α) (k : Nat) : α := t.lookD default k

/-- The table with `v` at key `k`. -/
def Tbl.put {α : Type} [Inhabited α] [DecidableEq α] (t : Tbl α) (k : Nat) (v : α) : Tbl α := t.putD default k v

/-- The table with `f` applied at key `k`. -/
def Tbl.upd {α : Type} [Inhabited α] [DecidableEq α] (t : Tbl α) (k : Nat) (f : α → α) : Tbl α := t.put k (f (t.look k))

/-- Every key lies above `k`, keys rise, and no entry equals `d`. -/
def Tbl.okFrom {α : Type} [DecidableEq α] (d : α) (lo : Nat) : Tbl α → Bool
  | [] => true
  | (j, v) :: t => decide (lo ≤ j) && decide (v ≠ d) && Tbl.okFrom d (j + 1) t

/-- The canonical form of a table: keys strictly rising, no entry equal to what an unlisted key reads as. -/
def Tbl.wf {α : Type} [Inhabited α] [DecidableEq α] (t : Tbl α) : Bool := t.okFrom default 0

/-- `l` with `v` at index `i`; `l` unchanged past its end. -/
def setAt {α : Type} : List α → Nat → α → List α
  | [], _, _ => []
  | _ :: t, 0, v => v :: t
  | h :: t, i + 1, v => h :: setAt t i v

/-- Bits `lo + n − 1` down to `lo` of a number. -/
abbrev field (v lo n : Nat) : Nat := v / 2 ^ lo % 2 ^ n

/-- Bit `i` of a number. -/
abbrev bitOf (v i : Nat) : Bool := v / 2 ^ i % 2 == 1

/-- A number as a two's-complement value of `n` bits. -/
def signed (n v : Nat) : Int := if v % 2 ^ n < 2 ^ (n - 1) then (v % 2 ^ n : Nat) else (v % 2 ^ n : Nat) - (2 ^ n : Nat)

/-- 1 or 0. -/
abbrev nat1 (b : Bool) : Nat := if b then 1 else 0

/-- `n` bytes of `v`, least significant first (R4). -/
def leBytes : Nat → Nat → List Byte
  | 0, _ => []
  | n + 1, v => BitVec.ofNat 8 v :: leBytes n (v / 256)

/-- The value of bytes, least significant first (R4). -/
def ofLe : List Byte → Nat
  | [] => 0
  | b :: t => b.toNat + 256 * ofLe t

/-- ⌈a / b⌉. -/
abbrev ceilDiv (a b : Nat) : Nat := (a + b - 1) / b

/-- A list without repeats, with `x` added. -/
def addOnce {α : Type} [BEq α] (l : List α) (x : α) : List α := if l.contains x then l else l ++ [x]

namespace Machine

/-- Fabric Time (R36). -/
abbrev Chip.now (c : Chip) : Nat := c.ft.count.toNat
/-- The interval clock (R52). -/
abbrev Chip.ivl (c : Chip) : Nat := c.ft.ivl
/-- At least `d` ticks have passed since the interval stamp `t` (R52). -/
def Chip.past (c : Chip) (t d : Nat) : Bool := decide (t + d ≤ c.ft.ivl)

/-- The chip with a message sent. -/
def Chip.emit (c : Chip) (m : Msg) : Chip := { c with sent := m :: c.sent }
/-- The chip with messages sent in order. -/
def Chip.emits (c : Chip) (ms : List Msg) : Chip := { c with sent := ms.reverse ++ c.sent }
/-- A free value has been used. -/
def Chip.usedFree (c : Chip) : Chip := { c with freeCtr := c.freeCtr + 1 }
/-- The next free value: nothing is known of it (notes/assumptions/3.md). -/
def Chip.freeNat (c : Chip) : Nat := Config.freeNat c.freeCtr
/-- What follows the running command (R406, R367, R334). -/
def Chip.later (c : Chip) (t : Todo) : Chip := { c with flt := { c.flt with todo := c.flt.todo ++ [t] } }

/-! ### Parts by instance -/

def Chip.port (c : Chip) (p : Nat) : Port := c.ports.ports.look p
def Chip.setPort (c : Chip) (p : Nat) (v : Port) : Chip := { c with ports := { c.ports with ports := c.ports.ports.put p v } }
def Chip.modPort (c : Chip) (p : Nat) (f : Port → Port) : Chip := c.setPort p (f (c.port p))

def Chip.vcsOf (c : Chip) (v : Nat) : Vcs := c.ports.vcs.look v
def Chip.setVcs (c : Chip) (v : Nat) (x : Vcs) : Chip := { c with ports := { c.ports with vcs := c.ports.vcs.put v x } }
def Chip.modVcs (c : Chip) (v : Nat) (f : Vcs → Vcs) : Chip := c.setVcs v (f (c.vcsOf v))
def Chip.vppb (c : Chip) (v i : Nat) : Vppb := (c.vcsOf v).vppbs.look i
def Chip.setVppb (c : Chip) (v i : Nat) (x : Vppb) : Chip :=
  c.modVcs v (fun y => { y with vppbs := y.vppbs.put i x })

def Chip.pIn (c : Chip) (i : Nat) : PerstIn := c.ports.pIn.look i
def Chip.setPIn (c : Chip) (i : Nat) (x : PerstIn) : Chip := { c with ports := { c.ports with pIn := c.ports.pIn.put i x } }
def Chip.pOut (c : Chip) (i : Nat) : PerstOut := c.ports.pOut.look i
def Chip.setPOut (c : Chip) (i : Nat) (x : PerstOut) : Chip := { c with ports := { c.ports with pOut := c.ports.pOut.put i x } }

def Chip.lane (c : Chip) (n : Nat) : Lane := c.lanes.lanes.look n
def Chip.setLane (c : Chip) (n : Nat) (x : Lane) : Chip := { c with lanes := { c.lanes with lanes := c.lanes.lanes.put n x } }
def Chip.modLane (c : Chip) (n : Nat) (f : Lane → Lane) : Chip := c.setLane n (f (c.lane n))
def Chip.course (c : Chip) (i : Nat) : Course := c.lanes.courses.look i
def Chip.setCourse (c : Chip) (i : Nat) (x : Course) : Chip :=
  { c with lanes := { c.lanes with courses := c.lanes.courses.put i x } }
def Chip.modCourse (c : Chip) (i : Nat) (f : Course → Course) : Chip := c.setCourse i (f (c.course i))

def Chip.link (c : Chip) (l : Nat) : StvLink := c.stv.links.look l
def Chip.setLink (c : Chip) (l : Nat) (x : StvLink) : Chip := { c with stv := { c.stv with links := c.stv.links.put l x } }
def Chip.modLink (c : Chip) (l : Nat) (f : StvLink → StvLink) : Chip := c.setLink l (f (c.link l))

/-- A tenant that nothing has created: tenant 0 is ENABLED from reset, every other is NONE (R315). -/
def tenantDef (t : Nat) : Tenant := if t = 0 then { state := .enabled } else {}
def Chip.tenant (c : Chip) (t : Nat) : Tenant := c.ten.tenants.lookD (tenantDef t) t
def Chip.setTenant (c : Chip) (t : Nat) (x : Tenant) : Chip :=
  { c with ten := { c.ten with tenants := c.ten.tenants.putD (tenantDef t) t x } }
def Chip.modTenant (c : Chip) (t : Nat) (f : Tenant → Tenant) : Chip := c.setTenant t (f (c.tenant t))

def Chip.ring (c : Chip) (k : Nat) : Ring := c.rings.rings.look k
def Chip.setRing (c : Chip) (k : Nat) (x : Ring) : Chip := { c with rings := { c.rings with rings := c.rings.rings.put k x } }
def Chip.modRing (c : Chip) (k : Nat) (f : Ring → Ring) : Chip := c.setRing k (f (c.ring k))

def Chip.group (c : Chip) (g : Nat) : Group := c.grp.groups.look g
def Chip.setGroup (c : Chip) (g : Nat) (x : Group) : Chip := { c with grp := { c.grp with groups := c.grp.groups.put g x } }
def Chip.modGroup (c : Chip) (g : Nat) (f : Group → Group) : Chip := c.setGroup g (f (c.group g))

def Chip.window (c : Chip) (w : Nat) : Window := c.pool.windows.look w
def Chip.setWindow (c : Chip) (w : Nat) (x : Window) : Chip := { c with pool := { c.pool with windows := c.pool.windows.put w x } }
def Chip.modWindow (c : Chip) (w : Nat) (f : Window → Window) : Chip := c.setWindow w (f (c.window w))
def Chip.dev (c : Chip) (b : Nat) : Device := c.pool.devs.look b
def Chip.setDev (c : Chip) (b : Nat) (x : Device) : Chip := { c with pool := { c.pool with devs := c.pool.devs.put b x } }
def Chip.modDev (c : Chip) (b : Nat) (f : Device → Device) : Chip := c.setDev b (f (c.dev b))

def Chip.domain (c : Chip) (d : Nat) : Domain := c.home.domains.look d
def Chip.setDomain (c : Chip) (d : Nat) (x : Domain) : Chip := { c with home := { c.home with domains := c.home.domains.put d x } }
def Chip.modDomain (c : Chip) (d : Nat) (f : Domain → Domain) : Chip := c.setDomain d (f (c.domain d))
def Chip.agent (c : Chip) (d a : Nat) : Agent := (c.domain d).agents.look a
def Chip.setAgent (c : Chip) (d a : Nat) (x : Agent) : Chip := c.modDomain d (fun y => { y with agents := y.agents.put a x })
def Chip.modAgent (c : Chip) (d a : Nat) (f : Agent → Agent) : Chip := c.setAgent d a (f (c.agent d a))
def Chip.line (c : Chip) (n : Nat) : LineRec := c.home.lines.look n
def Chip.setLine (c : Chip) (n : Nat) (x : LineRec) : Chip := { c with home := { c.home with lines := c.home.lines.put n x } }
def Chip.tracker (c : Chip) (n : Nat) : Option Tracker := c.home.trackers.look n
def Chip.setTracker (c : Chip) (n : Nat) (x : Option Tracker) : Chip :=
  { c with home := { c.home with trackers := c.home.trackers.put n x } }

def Chip.arb (c : Chip) (x : Nat) : Arbiter := c.sched.arbs.look x
def Chip.setArb (c : Chip) (x : Nat) (a : Arbiter) : Chip := { c with sched := { c.sched with arbs := c.sched.arbs.put x a } }
def Chip.modArb (c : Chip) (x : Nat) (f : Arbiter → Arbiter) : Chip := c.setArb x (f (c.arb x))
def Chip.gate (c : Chip) (p : Nat) : Gate := c.sched.gates.look p
def Chip.setGate (c : Chip) (p : Nat) (g : Gate) : Chip := { c with sched := { c.sched with gates := c.sched.gates.put p g } }
def Chip.flow (c : Chip) (f : Nat) : Flow := c.sched.flows.look f
def Chip.setFlow (c : Chip) (f : Nat) (x : Flow) : Chip := { c with sched := { c.sched with flows := c.sched.flows.put f x } }

def Chip.chan (c : Chip) (n : Nat) : Chan := c.slot.chans.look n
def Chip.setChan (c : Chip) (n : Nat) (x : Chan) : Chip := { c with slot := { c.slot with chans := c.slot.chans.put n x } }
def Chip.modChan (c : Chip) (n : Nat) (f : Chan → Chan) : Chip := c.setChan n (f (c.chan n))

/-- RUNG_CTL[8].DEEPEST resets to 3, the courses' to 4 (R456). -/
def rungDef (i : Nat) : Rung := if i = 8 then { deepest := 3 } else {}
def Chip.rung (c : Chip) (i : Nat) : Rung := c.pow.rungs.lookD (rungDef i) i
def Chip.setRung (c : Chip) (i : Nat) (x : Rung) : Chip :=
  { c with pow := { c.pow with rungs := c.pow.rungs.putD (rungDef i) i x } }
def Chip.counter (c : Chip) (i : Nat) : Counter := c.ctr.ctrs.look i
def Chip.setCounter (c : Chip) (i : Nat) (x : Counter) : Chip := { c with ctr := { c.ctr with ctrs := c.ctr.ctrs.put i x } }
def Chip.schedule (c : Chip) (i : Nat) : Schedule := c.ctr.dumps.look i
def Chip.setSchedule (c : Chip) (i : Nat) (x : Schedule) : Chip := { c with ctr := { c.ctr with dumps := c.ctr.dumps.put i x } }
def Chip.engine (c : Chip) (e : Nat) : Engine := c.mov.engines.look e
def Chip.setEngine (c : Chip) (e : Nat) (x : Engine) : Chip := { c with mov := { c.mov with engines := c.mov.engines.put e x } }
def Chip.source (c : Chip) (n : Nat) : Source := c.flt.sources.look n
def Chip.pcOf (c : Chip) (k : Nat) : PseudoChannel := c.hbm.pcs.look k
def Chip.setPc (c : Chip) (k : Nat) (x : PseudoChannel) : Chip := { c with hbm := { c.hbm with pcs := c.hbm.pcs.put k x } }

/-- The numbers 0, …, n − 1 that satisfy `p`. -/
abbrev findBelow (n : Nat) (p : Nat → Bool) : Option Nat := (List.range n).find? p

end Machine
end Sys2Proof
end

