-- ==== Sys2Proof/Machine/Operands.lean ====
section
/-!
DEFINITION. The operand forms of the vendor commands: fields of the descriptor (Table 12.3, R346, R347, R356), the ring a
command comes by (Table 12.10), and the layouts of results (R348, Table 12.4).
-/
namespace Sys2Proof

/-- FLAGS bit 0: STAGE. -/
abbrev Desc.stage (d : Desc) : Bool := d.flags.getLsbD 0
/-- FLAGS bit 1: RESPOND. -/
abbrev Desc.respond (d : Desc) : Bool := d.flags.getLsbD 1
/-- FLAGS bit 2: FENCE. -/
abbrev Desc.fence (d : Desc) : Bool := d.flags.getLsbD 2
/-- FLAGS bit 3: INDIRECT. -/
abbrev Desc.indirect (d : Desc) : Bool := d.flags.getLsbD 3

/-- Descriptor byte `i` ≥ 16 as it stands in the descriptor; 0 past its end. -/
def Desc.direct (d : Desc) (i : Nat) : Nat := (d.params.getD (i - 16) 0).toNat
/-- Parameter byte `i` ≥ 16: with INDIRECT the parameters are those of the block, byte 16 first (R347, Table 12.12). -/
def Desc.byte (d : Desc) (i : Nat) : Nat :=
  if d.indirect then (d.block.getD (i - 16) 0).toNat else d.direct i
/-- `n` parameter bytes from byte `i`, little-endian (R4). -/
def Desc.le (d : Desc) (i : Nat) : Nat → Nat
  | 0 => 0
  | n + 1 => d.byte i + 256 * d.le (i + 1) n
abbrev Desc.u16 (d : Desc) (i : Nat) : Nat := d.le i 2
abbrev Desc.u24 (d : Desc) (i : Nat) : Nat := d.le i 3
abbrev Desc.u32 (d : Desc) (i : Nat) : Nat := d.le i 4
abbrev Desc.u64 (d : Desc) (i : Nat) : Nat := d.le i 8
/-- The TARGET as a number. -/
abbrev Desc.tgt (d : Desc) : Nat := d.target.toNat
/-- The GROUP as a number. -/
abbrev Desc.grp (d : Desc) : Nat := d.group.toNat
/-- MASK bit `n` of bytes 16–19 (R356). -/
abbrev Desc.mask (d : Desc) (n : Nat) : Bool := bitOf (d.u32 16) n
/-- Every parameter byte of 16–63 outside the listed spans (first byte, length) is 0 (R356: bytes that a row does not name
must be 0). -/
def Desc.zeroHead (d : Desc) (spans : List (Nat × Nat)) : Bool :=
  (List.range 48).all (fun j =>
    let i := j + 16
    spans.any (fun s => decide (s.1 ≤ i) && decide (i < s.1 + s.2)) || d.byte i == 0)
/-- The same for a command whose indirect block holds nothing past these bytes. -/
def Desc.zeroBut (d : Desc) (spans : List (Nat × Nat)) : Bool :=
  d.zeroHead spans && (!d.indirect || (d.block.drop 48).all (· == 0))

/-- The pointer of an indirect block. -/
abbrev Desc.pointer (d : Desc) : Nat := ofLe (d.params.take 8)
/-- The length of an indirect block. -/
abbrev Desc.blockLen (d : Desc) : Nat := ofLe ((d.params.drop 8).take 4)

/-- R347: the pointer is 8 B aligned and the length is a multiple of 8 from 8 to 65,536; over MCTP the pointer is ignored
and the length is at most 4,032 (R358). `low`: KEY_REVOKE and IDE_KEY_PROG carry a parameter in the low bits of byte 16,
below the pointer (notes/assumptions/31.md). -/
def Desc.blockOk (d : Desc) (ring : Nat) (low : Bool) : Bool :=
  (if ring = 8192 then decide (d.blockLen ≤ 4032) else low || decide (d.pointer % 8 = 0)) &&
  decide (d.blockLen % 8 = 0) && decide (8 ≤ d.blockLen) && decide (d.blockLen ≤ 65536)

/-- R346 step 3, but for STAGE on an opcode that cannot be staged: reserved FLAGS bits, PLEN, STAGE against GROUP, parameter
bytes past PLEN. -/
def Desc.formOk (d : Desc) : Bool :=
  decide (d.flags.toNat / 16 = 0) &&
  (if d.indirect then decide (d.plen = 2) else decide (d.plen ≤ 6)) &&
  (d.stage == decide (d.grp ≠ 0)) &&
  (d.params.drop (8 * d.plen)).all (· == 0) &&
  (!d.indirect || ((d.params.drop 12).all (· == 0)))

/-- The result buffer of R348: address at bytes 16–23, length at bytes 24–27, aligned and sized as R347 requires. Over MCTP
and the console the result goes inline (R358, R359). -/
def Desc.bufferOk (d : Desc) (ring : Nat) : Bool :=
  decide (8192 ≤ ring) ||
  (decide (d.u64 16 % 8 = 0) && decide (d.u32 24 % 8 = 0) && decide (8 ≤ d.u32 24) && decide (d.u32 24 ≤ 65536))

/-- Space a result may take: the buffer's length, or what fits inline (R358). -/
def Desc.room (d : Desc) (ring : Nat) : Nat := if 8192 ≤ ring then 4032 else d.u32 24

namespace Machine

/-- The tenant that a ring's commands act as: the manager on rings 0, 8,192 and 8,193 (Table 12.10). -/
def ringTenant (r : Nat) : Nat := if r ≥ 8192 then 0 else r / 2
/-- The manager's paths. -/
abbrev isManager (r : Nat) : Bool := ringTenant r == 0
/-- The key of a command ring in the ring table. -/
def ringKey (r : Nat) : Nat := if r ≥ 8192 then r else r / 2

/-- The source information of a raise (R551). -/
def srcInfo (kind inst : Nat) (sub : Nat := 0) : DWord :=
  BitVec.ofNat 64 (kind % 256 + (inst % 65536) * 256 + (sub % 65536) * 2 ^ 24)
/-- INST_KIND of a source information. -/
abbrev infoKind (i : DWord) : Nat := i.toNat % 256
/-- INSTANCE of a source information. -/
abbrev infoInst (i : DWord) : Nat := i.toNat / 256 % 65536

/-- The course of a port (R18). -/
abbrev portCourse (p : Nat) : Nat := p / 16
/-- The crossbar port of a port (Table 1.2). -/
abbrev portXbar (p : Nat) : Nat := p / 4

end Machine
end Sys2Proof
end

