-- ==== Sys2Proof/Machine/Events.lean ====
section
/-!
DEFINITION. Event records: writing one to a ring (R342, R343, R350, R351), unsolicited events (R344, R354), the end of a
command (R344, R349, R360, R380).
-/
namespace Sys2Proof.Machine

/-- Entries of the event ring. -/
abbrev Ring.evtSize (r : Ring) : Nat := 2 ^ r.evtLog2
/-- Entries of the command ring. -/
abbrev Ring.cmdSize (r : Ring) : Nat := 2 ^ r.cmdLog2
/-- Records written and not yet returned. -/
def Ring.unread (r : Ring) : Nat := (r.evtTail + r.evtSize - r.evtHead) % r.evtSize
/-- R344: event slots free for reservation. -/
def Ring.freeSlots (r : Ring) : Nat := r.evtSize - 1 - r.unread - r.reserved

/-- The port whose host holds the ring of tenant `t`, and the function that masters it (R317, R338). -/
def ringPortOf (c : Chip) (t : Nat) : Nat × Nat :=
  let p := (c.tenant t).ringPort
  if t = 0 ∨ p = 255 then (c.ports.mgrPort, 49)
  else (p, 1 + (((c.tenant t).binds.find? (fun b => b.1 == p)).map (·.2)).getD 0)

/-- The link of a port is up: traffic passes (R350). -/
def linkUp (p : Port) : Bool :=
  match p.state with
  | .l0 | .l0p | .recovery => true
  | .down | .training | .disabled | .inReset | .ideInsecure => false

/-- R350: a write to the memory of the ring's host can be issued. -/
def canWrite (c : Chip) (t : Nat) : Bool :=
  let pf := ringPortOf c t
  linkUp (c.port pf.1) && (c.sw.host.look pf.1).busMaster.contains pf.2

/-- The event coalescing time of a ring in ticks (Table 12.1, MGR_RING_CFG). -/
def coalesceOf (c : Chip) (t : Nat) : Nat :=
  us (if t = 0 then min c.rings.mgrCoal 1000 else (c.ring t).coalesce)

/-- The 32 bytes of a record (Table 12.4). -/
def EventRec.bytes (e : EventRec) : List Byte :=
  leBytes 2 e.code ++ leBytes 2 (if e.unsolicited then 0 else e.status.code) ++ leBytes 4 e.tag.toNat ++ leBytes 8 e.time.toNat ++
  (e.result ++ List.replicate 15 0).take 15 ++
  leBytes 1 (128 * nat1 e.phase + 64 * nat1 e.unsolicited + 32 * nat1 e.staged + 16 * nat1 e.restarted)

/-- An interrupt is held behind its mask: CXL 3.1 sets the pending bit (R351). -/
def holdInterrupt (c : Chip) (p fn vector ring : Nat) : Chip :=
  let h := c.rings.pba.look p
  if h.any (fun e => e.1 == fn && e.2.1 == vector) then c
  else { c with rings := { c.rings with pba := c.rings.pba.put p (h ++ [(fn, vector, ring)]) } }

/-- R351: the interrupt after a record. -/
def interrupt (c : Chip) (t : Nat) : Chip :=
  let r := c.ring t
  let pf := ringPortOf c t
  let held : Bool := match r.intAt with
    | none => false
    | some a => !c.past a (coalesceOf c t)
  if (c.sw.host.look pf.1).masked.contains (pf.2, r.vector) then holdInterrupt c pf.1 pf.2 r.vector (2 * t)
  else if held then c.setRing t { r with intWait := true }
  else (c.setRing t { r with intAt := some c.ivl, intWait := false }).emit (.interrupt (2 * t) r.vector)

/-- R343: one record at EVT_TAIL, with the pass phase; R342 where the write cannot be issued. Ring pair of tenant `t`; a ring that
is not set up is not written (R340). -/
def writeRecord (c : Chip) (t : Nat) (e : EventRec) : Chip :=
  let r := c.ring t
  if r.state = .unset then c
  else if !canWrite c t then
    ((c.setRing t { r with evtErr := true, state := .error }).later (.raise 210 (srcInfo 11 (2 * t)))).later (.ringError t)
  else
    let tail := (r.evtTail + 1) % r.evtSize
    let e' : EventRec := { e with time := c.ft.count, phase := r.phase }
    interrupt ((c.setRing t { r with evtTail := tail, phase := if tail = 0 then !r.phase else r.phase,
                                     lostRaised := false }).emit (.event (2 * t) (r.evtBase.toNat + 32 * r.evtTail) e'.bytes)) t

/-- R354: UNSOL_MASK bit of a code; bit 0 is forced to 1. -/
def unsolEnabled (mask : BitVec 16) (code : Nat) : Bool := code == 0x8000 || mask.getLsbD (code - 0x8000)

/-- One unsolicited record with the ring's sequence number. -/
def writeUnsol (c : Chip) (t code : Nat) (res : List Byte) : Chip :=
  let n := (c.ring t).unsolSeq
  writeRecord (c.modRing t (fun r => { r with unsolSeq := r.unsolSeq + 1 })) t
    { code := code, tag := BitVec.ofNat 32 n, result := res, unsolicited := true }

/-- R344: an unsolicited event finds no free slot. -/
def loseEvent (c : Chip) (t code : Nat) : Chip :=
  let r := c.ring t
  let c' := c.setRing t { r with lost := min (r.lost + 1) 0xFFFFFFFF, lostNew := r.lostNew + 1,
                                 lostCode := if r.lostNew = 0 then code else r.lostCode, lostRaised := true }
  if r.lostRaised then c' else c'.later (.raise 211 (srcInfo 11 (2 * t)))

/-- The EVT_LOST record that precedes the next unsolicited event (R344, Table 12.6). -/
def flushLost (c : Chip) (t : Nat) : Chip :=
  let r := c.ring t
  if r.lostNew = 0 ∨ r.freeSlots = 0 then c
  else writeUnsol (c.setRing t { r with lostNew := 0 }) t 0x8000 (leBytes 4 r.lostNew ++ leBytes 2 r.lostCode)

/-- R354, R344: an unsolicited event to the ring of tenant `t`, where the ring is set up and enables the code. -/
def unsolRing (c : Chip) (t code : Nat) (res : List Byte) : Chip :=
  let r := c.ring t
  if r.state = .unset ∨ (c.tenant t).state = .none ∨ !unsolEnabled r.unsol code then c
  else
    let c := flushLost c t
    if (c.ring t).freeSlots = 0 ∨ (c.ring t).lostNew ≠ 0 then loseEvent c t code else writeUnsol c t code res

/-- R358: an unsolicited message over MCTP, where an endpoint has set the mask. -/
def unsolMctp (c : Chip) (code : Nat) (res : List Byte) : Chip :=
  match c.rings.mctpUnsol with
  | some (ep, m) =>
    if unsolEnabled m code then
      c.emit (.mctpUnsolicited ep (EventRec.bytes { code := code, time := c.ft.count, result := res, unsolicited := true }))
    else c
  | none => c

/-- An unsolicited event to the manager (Table 12.6). -/
def unsolMgr (c : Chip) (code : Nat) (res : List Byte) : Chip := unsolMctp (unsolRing c 0 code res) code res

/-- An unsolicited event that names a tenant: to the tenant and to the manager (R354). -/
def unsolTenant (c : Chip) (t code : Nat) (res : List Byte) : Chip :=
  unsolMgr (if t = 0 then c else unsolRing c t code res) code res

/-- An unsolicited event to the ring that owns something: a command ring 2t or a pseudo-ring. -/
def unsolOwner (c : Chip) (r code : Nat) (res : List Byte) : Chip :=
  if r ≥ 8192 then unsolMctp c code res else unsolRing c (r / 2) code res

/-- The entry of a command in its ring's list of commands in flight. -/
def sameCmd (a b : CmdRef) : Bool := a.tag == b.tag && a.opcode == b.opcode && a.target == b.target

/-- The list without the first command that is `x`. -/
def dropFirst : List InFlight → CmdRef → List InFlight
  | [], _ => []
  | y :: ys, x => if sameCmd y.cmd x then ys else y :: dropFirst ys x

/-- A command leaves its ring: its event slot is given back (R344), a RING_STOP that waits may end. -/
def leaveRing (c : Chip) (x : CmdRef) : Chip :=
  let k := ringKey x.ring
  let r := c.ring k
  let c' := c.setRing k { r with flight := dropFirst r.flight x, reserved := r.reserved - 1 }
  let c' := if x.ring = 8192 then
    { c' with rings := { c'.rings with mctpOut := c'.rings.mctpOut.eraseP (fun e => e.2 == x.tag) } } else c'
  if r.stopCmd.isSome then c'.later (.stopEnd k) else c'

/-- The MCTP endpoint whose request with this tag is outstanding longest (R358). -/
def endpointOf (c : Chip) (tag : Word) : Nat := ((c.rings.mctpOut.find? (fun e => e.2 == tag)).map (·.1)).getD 0

/-- A record of a command on its ring, or the response of a pseudo-ring (R358, R359), over MCTP to endpoint `ep`. -/
def cmdRecord (c : Chip) (ring ep : Nat) (e : EventRec) : Chip :=
  if ring ≥ 8192 then c.emit (.event ring ep (EventRec.bytes { e with time := c.ft.count }))
  else writeRecord c (ring / 2) e

/-- An immediate command ends: its event is written unless it ends OK without RESPOND (R344, R360). A command whose ring has been
set up again or reset meanwhile has lost its slot and writes nothing (notes/assumptions/50.md). -/
def endNow (c : Chip) (x : CmdRef) (st : Status) (res : List Byte) (staged : Bool := false) : Chip :=
  match (c.ring (ringKey x.ring)).flight.find? (fun y => sameCmd y.cmd x) with
  | none => c
  | some f =>
    let ep := if x.ring = 8192 then endpointOf c x.tag else 0
    let c := leaveRing c x
    if st = .ok ∧ !x.respond ∧ !f.restarted ∧ x.ring < 8192 then c
    else cmdRecord c x.ring ep
      { code := x.opcode, status := st, tag := x.tag, result := res, staged := staged, restarted := f.restarted }

/-- A piece of further work of an applied group ends (R380). -/
def endStaged (c : Chip) (x : CmdRef) (st : Status) : Chip :=
  let g := c.grp.tails.look x.group
  let bad := match g.firstBad with
    | none => if st.success then none else some (x.item, st)
    | some (i, s) => if !st.success ∧ x.item < i then some (x.item, st) else some (i, s)
  let g' := { g with left := g.left - 1, firstBad := bad, basePast := g.basePast || st == .okBasePast }
  { c with grp := { c.grp with tails := c.grp.tails.put x.group g' } }

/-- A command that has started ends: its own event, or a report to the group that applied it (R344, R380). -/
def endCmd (c : Chip) (x : CmdRef) (st : Status) (res : List Byte := []) : Chip :=
  if x.group = 0 then endNow c x st res else endStaged c x st

/-- An event's ABORTED layout: progress, the TAG of the ABORT (Table 12.4). -/
def abortedResult (progress : Nat) (tag : Word) : List Byte := leBytes 8 progress ++ leBytes 4 tag.toNat

/-- Values of a result that no table lays out: each little-endian (R4) in 8 bytes, in the order the rule names them
(notes/assumptions/163.md). -/
def openFields (vs : List Nat) : List Byte := vs.flatMap (leBytes 8)

/-- R348: the result buffer, then the event: bytes 16–19 bytes written, 20–23 the length the full result needs. `need` is
that length and `vals` the result's bytes. A write that cannot be issued is a failed event write (R350). -/
def endQuery (c : Chip) (x : CmdRef) (d : Desc) (need : Nat) (vals : List Byte) : Chip :=
  let n := min need (d.room x.ring)
  let c := if x.ring < 8192 ∧ !canWrite c (x.ring / 2) then
      ((c.modRing (x.ring / 2) (fun r => { r with evtErr := true, state := .error })).later
        (.raise 210 (srcInfo 11 x.ring))).later (.ringError (x.ring / 2))
    else c.emit (.result x.ring (d.u64 16) n (vals.take n))
  endCmd c x .ok (leBytes 4 n ++ leBytes 4 need)

end Sys2Proof.Machine
end

