-- ==== Sys2Proof/Machine/Flags.lean ====
section
/-!
DEFINITION. Raising a fault source (R400–R411): count, pending bit, first-occurrence record, and the reactions its severity
selects; the black-box log's queue (R415) and crash snapshots (R416); a tenant's fault limit (R334).
-/
namespace Sys2Proof.Machine

/-- Severities after a cold reset (R402). -/
def sevDef (n : Nat) : Nat :=
  if n = 4 then 5
  else if n = 48 ∨ n = 50 then 4
  else if n = 136 then 7
  else if 192 ≤ n ∧ n ≤ 196 then 2
  else 3

/-- The severity of source `n`. An entry that fails parity acts as severity 3 (Table 15.2). -/
def sevOf (c : Chip) (n : Nat) : Nat := if c.flt.badSev.contains n then 3 else c.flt.sev.lookD (sevDef n) n

/-- FAULT_REACT[v]. An entry that fails parity acts as that of severity 3 at reset (Table 15.2). -/
def reactOf (c : Chip) (v : Nat) : Nat := if c.flt.badReact.contains v then 0x03 else c.flt.react.getD v 0

/-- A source that its chapter lists as not used, or of a reserved group, is never raised (R401, Tables 2.6 to 21.7). -/
def sourceUsed (n : Nat) : Bool :=
  [(0, 6), (16, 23), (32, 37), (48, 51), (64, 76), (80, 84), (96, 103), (112, 124), (128, 137), (144, 157), (160, 169),
   (176, 182), (192, 196), (208, 213), (224, 226), (240, 243), (256, 261), (272, 283), (304, 310), (320, 322), (336, 346),
   (352, 359)].any (fun r => decide (r.1 ≤ n) && decide (n ≤ r.2))

/-- FT_STATUS.STATE as a number (Table 2.1). -/
def FtMode.code : FtMode → Nat
  | .free => 0
  | .acquire => 1
  | .locked => 2
  | .holdover => 3
  | .holdoverExpired => 4
  | .set => 5

/-! ### The black-box log -/

/-- The queued record of a fault source, merged with `k` more raises (R415). -/
def mergeQueued (q : List LogRec) (src k : Nat) : List LogRec :=
  match q with
  | [] => []
  | r :: t => if r.kind = .fault ∧ r.source = src then { r with count := r.count + k } :: t else r :: mergeQueued t src k

/-- The queue with its youngest FAULT record replaced by `r` (R415), taken from the youngest end. -/
def replaceYoungest (q : List LogRec) (r : LogRec) : List LogRec :=
  let rec go : List LogRec → List LogRec
    | [] => [r]
    | x :: t => if x.kind = .fault then r :: t else x :: go t
  (go q.reverse).reverse

/-- R415: a record reaches the housekeeping die. Under hold-up it is discarded (R418). -/
def logRecord (c : Chip) (r : LogRec) : Chip :=
  let r := { r with time := if c.rst.running then c.ft.count else 0, ftState := c.ft.mode.code,
                    boot := c.bb.life.boots % 2 ^ 32 }
  if c.bb.holdup then c
  else if c.bb.queue.length < 256 then { c with bb := { c.bb with queue := c.bb.queue ++ [r] } }
  else if r.kind = .fault ∧ c.bb.queue.any (fun x => x.kind == .fault && x.source == r.source) then
    { c with bb := { c.bb with queue := mergeQueued c.bb.queue r.source r.count } }
  else if r.kind = .reset ∨ r.kind = .power ∨ r.kind = .start ∨ r.kind = .stop then
    ({ c with bb := { c.bb with queue := replaceYoungest c.bb.queue r, dropped := c.bb.dropped + 1 } }).later (.raise 16 0)
  else ({ c with bb := { c.bb with dropped := c.bb.dropped + 1 } }).later (.raise 16 0)

/-- The snapshot slot a capture takes: not KEEP, an empty one first, else the oldest (R416). -/
def snapPick (ss : List SnapSlot) : Option Nat :=
  let free := (List.range 3).filter (fun i => !(ss.getD i {}).keep)
  match free.find? (fun i => (ss.getD i {}).state == 0) with
  | some i => some i
  | none => free.foldl (fun b i => match b with
      | none => some i
      | some j => if (ss.getD i {}).time.toNat < (ss.getD j {}).time.toNat then some i else some j) none

/-- What a snapshot captures of the block's state (R416): FAULT_PEND by group, the state of Fabric Time, of every port and link, of every home
slice, and of every ring that is set up. Which figures of a status it takes, nothing states (notes/assumptions/175.md). -/
def snapContent (c : Chip) : List Nat :=
  (List.range 32).map (fun g => (List.range 16).foldl (fun n j => n + 2 ^ j * nat1 (c.source (16 * g + j)).pending) 0) ++
  [c.ft.mode.ctorIdx] ++
  (List.range 128).flatMap (fun p => let y := c.port p; [y.state.ctorIdx, y.rate, y.width]) ++
  (List.range 16).map (fun l => (c.link l).state.ctorIdx) ++
  (List.range 32).map (fun s => nat1 (c.home.starveOvf.look s)) ++
  c.rings.rings.flatMap (fun r => [r.1, r.2.state.ctorIdx, r.2.cmdHead, r.2.cmdTail, r.2.evtHead, r.2.evtTail])

/-- Bytes of a complete capture: the state, and 4 MiB of firmware trace. -/
def snapLength (s : SnapSlot) : Nat := 8 * s.content.length + 2 ^ 22

/-- Bytes that a capture has written by now, at 64 MB/s (R415). -/
def snapWritten (c : Chip) (s : SnapSlot) : Nat := min (snapLength s) ((c.ivl - s.began) * 64 / us 1)

/-- R416: a snapshot is requested; `seq` is the SEQ of the record that caused it. -/
def snapshot (c : Chip) (seq : Nat) : Chip :=
  if c.bb.holdup then c
  else match c.bb.running with
    | some i =>
      let s := c.bb.slots.getD i {}
      { c with bb := { c.bb with slots := setAt c.bb.slots i { s with merged := s.merged + 1 } } }
    | none => match snapPick c.bb.slots with
      | none => c.later (.raise 20 0)
      | some i =>
        let s : SnapSlot := { state := 1, seq := seq, time := c.ft.count, fw := c.regs.fwVer, content := snapContent c, trace := c.freeNat,
                              began := c.ivl }
        Chip.usedFree { c with bb := { c.bb with slots := setAt c.bb.slots i s, running := some i } }

/-- A capture is cut short: INCOMPLETE, source 19 (R416). -/
def snapCut (c : Chip) : Chip :=
  match c.bb.running with
  | none => c
  | some i =>
    let s := c.bb.slots.getD i {}
    ({ c with bb := { c.bb with slots := setAt c.bb.slots i { s with state := 3, bytes := snapWritten c s }, running := none } }).later (.raise 19 0)

/-! ### Delivery of FAULT events (R404) -/

/-- The result of a FAULT event (Table 12.6). -/
def faultResult (c : Chip) (e : FaultEvent) : List Byte :=
  leBytes 2 e.source ++ leBytes 1 (sevOf c e.source) ++ leBytes 4 e.count ++ leBytes 8 e.info.toNat

/-- A queued event merged with `k` more raises. -/
def mergeEvent : List FaultEvent → Nat → Nat → List FaultEvent
  | [], _, _ => []
  | e :: t, src, k => if e.source = src then { e with count := e.count + k } :: t else e :: mergeEvent t src k

/-- A FAULT event: delivered while FW_READY of ring 0 is 1, else queued, merged or kept as a deferred mark. -/
def faultEvent (c : Chip) (e : FaultEvent) : Chip :=
  if c.rings.fwReady then unsolMgr c 0x8008 (faultResult c e)
  else if c.flt.queue.length < 256 then { c with flt := { c.flt with queue := c.flt.queue ++ [e] } }
  else
    let told := c.flt.fullTold
    let c := if c.flt.queue.any (fun x => x.source == e.source) then
        { c with flt := { c.flt with queue := mergeEvent c.flt.queue e.source e.count, fullTold := true } }
      else { c with flt := { c.flt with deferred := c.flt.deferred.upd e.source (· + e.count), fullTold := true } }
    if told then c else c.later (.raise 3 0)

/-! ### Reactions -/

/-- R409: IRQ_OUT_N is low while a source is pending whose reaction set at its last raise includes IRQ_OUT. -/
def irqPin (c : Chip) : Chip :=
  { c with flt := { c.flt with irqLow := c.flt.sources.any (fun s => s.2.pending && s.2.irqOut) } }

/-- R410: a raise asserts ERR_OUT_N; the minimum width begins again. -/
def errOut (c : Chip) : Chip := { c with flt := { c.flt with errLow := true, errAt := c.ivl, errMin := true } }

/-- R405: the trap, where the management complex is not in reset. -/
def trap (c : Chip) : Chip := if c.rings.mgmtReset ∨ !c.rst.running then c else c.emit .trap

/-- R408: CHIP_RESET of a raise. `newly`: the pending bit went from 0 to 1. A suppressed raise of source 5 raises no other. -/
def chipReact (c : Chip) (src : Nat) (newly capture : Bool) : Chip :=
  if c.flt.suppress then
    let c := errOut (if newly then trap c else c)
    if src = 5 then c else c.later (.raise 5 (srcInfo 0 0 src))
  else match c.flt.chipWait with
    | some _ => c
    | none =>
      let w : ChipWait := { source := src, since := c.ivl, capture := capture && c.bb.running.isSome }
      { c with flt := { c.flt with chipWait := some w } }

/-- R334: a fault attributed to a tenant. FAULT_LIMIT of them within 1 s raise source 196 and have FAULT_ACTION applied once; further
ones within the same 1 s, which begins with the first of them, do not (notes/assumptions/192.md). -/
def tenantFault (c : Chip) (t : Nat) : Chip :=
  let x := c.tenant t
  if x.state = .none then c
  else
    let ts := x.faults.filter (fun a => !c.past a (sec 1)) ++ [c.ivl]
    let hit := decide (x.limit ≤ ts.length) && decide (x.quietTo ≤ c.ivl)
    let c := c.setTenant t { x with faults := ts, quietTo := if hit then ts.headD c.ivl + sec 1 else x.quietTo,
                                    limitSeen := x.limitSeen || hit }
    if hit then (c.later (.raise 196 (srcInfo 10 t))).later (.faultAction t) else c

/-- The source as a raise leaves it (R400, R404); `mask` is the reaction set. -/
def raiseSource (c : Chip) (s : Source) (info : DWord) (mask : Nat) (logs intrs : Bool) : Source :=
  { s with pending := true, count := min (s.count + 1) 65535,
           first := if s.pending then s.first else c.ft.count, info := if s.pending then s.info else info,
           last := c.ft.count, irqOut := bitOf mask 7,
           logAt := if logs then some c.ivl else s.logAt,
           intrAt := if intrs then some c.ivl else s.intrAt,
           logMerged := if logs then 0 else if bitOf mask 0 then s.logMerged + 1 else s.logMerged,
           intrMerged := if intrs then 0 else if bitOf mask 1 then s.intrMerged + 1 else s.intrMerged }

/-- FAULT_HOLDOFF has ended since the stamp (R404). -/
def holdoffOver (c : Chip) (a : Option Nat) : Bool :=
  match a with
  | none => true
  | some t => c.past t (us c.flt.holdoff)

/-- The severity that a raise uses: as it stood at the start of the core cycle (R403). -/
def sevUsed (c : Chip) (n : Nat) : Nat :=
  if c.flt.cfgAt = c.ivl + 1 then (if c.flt.badSevOld.contains n then 3 else c.flt.sevOld.lookD (sevDef n) n) else sevOf c n

/-- The reaction set that a raise uses: as it stood at the start of the core cycle (R403). -/
def maskOf (c : Chip) (src : Nat) : Nat :=
  let v := sevUsed c src
  if c.flt.cfgAt = c.ivl + 1 then
    (if c.flt.badSevOld.contains src ∨ c.flt.badReactOld.contains v then 0x03 else c.flt.reactOld.getD v 0)
  else if c.flt.badSev.contains src then 0x03 else reactOf c v

/-- Severities and reaction sets are about to be written: the core cycle's raises go on with what stood at its start (R403). -/
def cfgWrite (c : Chip) : Chip :=
  if c.flt.cfgAt = c.ivl + 1 then c
  else { c with flt := { c.flt with cfgAt := c.ivl + 1, sevOld := c.flt.sev, reactOld := c.flt.react, badSevOld := c.flt.badSev,
                                    badReactOld := c.flt.badReact } }

/-- A raise while the fabric die runs: R400, R402–R408, R334. -/
def raiseRunning (c : Chip) (src : Nat) (info : DWord) : Chip :=
  let s := c.source src
  let m := maskOf c src
  let newly := !s.pending
  let logs := bitOf m 0 && holdoffOver c s.logAt
  let intrs := bitOf m 1 && holdoffOver c s.intrAt
  let s' := raiseSource c s info m logs intrs
  let c := irqPin { c with flt := { c.flt with sources := c.flt.sources.put src s' } }
  let c := if logs then logRecord c { kind := .fault, source := src, severity := sevUsed c src, reactions := m,
                                      count := s.logMerged + 1, info := info } else c
  let c := if intrs then faultEvent c { source := src, count := s.intrMerged + 1, info := info, time := c.ft.count } else c
  let c := if bitOf m 2 && newly then trap c else c
  let c := if bitOf m 5 then errOut c else c
  let c := if bitOf m 6 then snapshot c (c.bb.nextSeq + c.bb.queue.length - 1) else c
  let c := if bitOf m 3 then c.later (.block src info) else c
  let c := if bitOf m 4 then chipReact c src newly (bitOf m 6) else c
  if (src = 192 ∨ src = 193 ∨ src = 103) ∧ infoKind info = 10 then tenantFault c (infoInst info) else c

/-- R511: a source raised while the fabric die is held is logged by the housekeeping die; its pending bit is set when the
collector runs again. -/
def raiseHeld (c : Chip) (src : Nat) (info : DWord) : Chip :=
  let c := { c with flt := { c.flt with inReset := c.flt.inReset ++ [(src, info)] } }
  logRecord c { kind := .fault, source := src, severity := sevUsed c src, reactions := 1, info := info }

/-- A fault source is raised (R400). -/
def raise (c : Chip) (src : Nat) (info : DWord := 0) : Chip :=
  if c.rst.running then raiseRunning c src info else raiseHeld c src info

/-- R435: a corruption armed for one of these sources is spent by the detection that it causes. -/
def spendArmed (c : Chip) (srcs : List Nat) : Chip :=
  { c with hbm := { c.hbm with corrupt := c.hbm.corrupt.eraseP (fun k => srcs.contains k.source) } }

/-- The pending bit and count of a source raised while the fabric die was held (R511). -/
def raiseAgain (c : Chip) (src : Nat) (info : DWord) : Chip :=
  let s := c.source src
  let s' := { s with pending := true, count := min (s.count + 1) 65535, first := if s.pending then s.first else c.ft.count,
                     info := if s.pending then s.info else info, last := c.ft.count, irqOut := bitOf (maskOf c src) 7 }
  irqPin { c with flt := { c.flt with sources := c.flt.sources.put src s' } }

/-- R400: clearing the pending bit clears the first-occurrence record; R409 for the pin. -/
def clearPending (c : Chip) (src : Nat) : Chip :=
  let s := c.source src
  irqPin { c with flt := { c.flt with sources := c.flt.sources.put src { s with pending := false, first := 0, info := 0 } } }

end Sys2Proof.Machine
end

