-- ==== Sys2Proof/Machine/Commands.lean ====
section
/-!
DEFINITION. The command set as tables over the opcode (Tables 12.7, 13.3), the checks of R346, R355 and R366, staging (R370),
and the runner through which every vendor command goes.
-/
namespace Sys2Proof.Machine

/-- Opcodes that may be staged (Table 12.7). -/
def stageable (op : Nat) : Bool :=
  [0x0100, 0x0104, 0x0108, 0x0110, 0x0111, 0x0112, 0x0113, 0x0120, 0x0140, 0x0150, 0x0160, 0x0202, 0x0203, 0x0204,
   0x021A, 0x021B, 0x021C, 0x0233, 0x0240, 0x0241, 0x0500, 0x0502, 0x0600, 0x0601, 0x0603, 0x0700, 0x0701, 0x0710,
   0x0901, 0x0A01, 0x0B02, 0x0B04, 0x0B10, 0x0B11].contains op

/-- Queries: they end though another group claims the object (R366). -/
def isQuery (op : Nat) : Bool :=
  [0x0101, 0x0114, 0x0121, 0x0144, 0x0151, 0x0161, 0x0208, 0x021D, 0x0232, 0x0242, 0x0304, 0x0401, 0x0501, 0x0602,
   0x0610, 0x0702, 0x0713, 0x0820, 0x0821, 0x0902, 0x0A02, 0x0B05, 0x0B12].contains op

/-- Every vendor opcode (Table 12.7). -/
def knownOp (op : Nat) : Bool :=
  stageable op || isQuery op ||
  [0x0102, 0x0122, 0x0123, 0x0124, 0x0141, 0x0142, 0x0143, 0x0200, 0x0201, 0x0205, 0x0206, 0x0207, 0x0210, 0x0211, 0x0212,
   0x0218, 0x0219, 0x0220, 0x0221, 0x0230, 0x0231, 0x0300, 0x0301, 0x0302, 0x0303, 0x0305, 0x0400, 0x0410, 0x0411, 0x0412,
   0x0413, 0x0414, 0x0503, 0x0611, 0x0612, 0x0711, 0x0712, 0x0714, 0x0800, 0x0801, 0x0802, 0x0803, 0x0810, 0x0811, 0x0900,
   0x0910, 0x0A00, 0x0B00, 0x0B01, 0x0B03].contains op

/-- Courses in Stolevo mode. -/
def stolevoCourse (c : Chip) (i : Nat) : Bool := (c.course i).stolevo

/-- The courses in Stolevo mode, lowest first. -/
def stolevoCourses (c : Chip) : List Nat := (List.range 8).filter (stolevoCourse c)

/-- R230: link l lies on the ⌊l/4⌋-th Stolevo course, quarter l mod 4. -/
def linkQuarter (c : Chip) (l : Nat) : Option Nat := ((stolevoCourses c)[l / 4]?).map (fun k => 4 * k + l % 4)

/-- A link exists: a course is behind its number (R230, R542). -/
def linkExists (c : Chip) (l : Nat) : Bool := (linkQuarter c l).isSome && decide (l < 16)

/-- The link on a quarter-course, that is, on external crossbar port k. -/
def quarterLink (c : Chip) (k : Nat) : Option Nat := findBelow 16 (fun l => linkQuarter c l == some k)

/-- The window of an own-window opcode belongs to tenant `t`. -/
def ownsWindow (c : Chip) (t w : Nat) : Bool := (c.window w).present && (c.window w).tenant == t

/-- R355: what a tenant other than 0 may issue, on its own targets. The checks of groups (R363) and jobs (R388) follow with
their own commands. -/
def tenantMay (c : Chip) (t op : Nat) (d : Desc) : Bool :=
  if op = 0x0208 ∨ op = 0x0232 then d.tgt == t
  else if op = 0x021D then ownsWindow c t d.tgt
  else if op = 0x021C then ownsWindow c t d.tgt && d.u32 16 / 4 * 4 == d.u32 16
  else if op = 0x0233 then true
  else if 0x0300 ≤ op ∧ op ≤ 0x0305 then true
  else if op = 0x0400 ∨ op = 0x0401 then d.tgt == 2 * t
  else if op = 0x0410 ∨ op = 0x0411 then true
  else if op = 0x0501 then d.byte 28 == 1 && d.u16 30 == t && d.u16 32 == 1
  else if op = 0x0502 then
    if bitOf (d.byte 28) 3 then (c.schedule d.tgt).owner == 2 * t && (c.schedule d.tgt).active
    else d.byte 28 % 4 == 1 && d.u16 32 == t && d.u16 30 == 1
  else false

/-- Step 4 of R346: the TARGET exists. -/
def targetOk (c : Chip) (op : Nat) (d : Desc) : Bool :=
  let t := d.tgt
  if op = 0x0100 then
    let i := t % 256
    let k := t / 2 ^ 24
    decide (t / 256 % 2 ^ 16 = 0) &&
      ((k == 0 && decide (i < 128) && (c.port i).role != 0) || (k == 1 && decide (i < 38)) || (k == 2 && i == 0) ||
       (k == 3 && decide (i < 64) && (c.vcsOf i).present))
  else if op = 0x0101 ∨ op = 0x0102 then decide (t < 128) && (c.port t).role != 0
  else if op = 0x0104 then decide (t < 1024)
  else if op = 0x0108 then decide (t % 64 + t / 256 % 2 * 256 = t)
  else if op = 0x0110 then decide (t < 64)
  else if 0x0111 ≤ op ∧ op ≤ 0x0114 then decide (t < 64) && (c.vcsOf t).present
  else if op = 0x0120 then decide (t < 512) || (decide (2 ^ 31 ≤ t) && decide (t < 2 ^ 31 + 8)) || t == 0xFFFFFFFF
  else if 0x0121 ≤ op ∧ op ≤ 0x0123 then decide (t < 512)
  else if op = 0x0124 then decide (t < 512) || (decide (2 ^ 31 ≤ t) && decide (t < 2 ^ 31 + 8))
  else if 0x0140 ≤ op ∧ op ≤ 0x0144 then linkExists c t
  else if op = 0x0150 ∨ op = 0x0151 then
    decide (t < 128) && ((c.port t).role != 0 || (t % 4 == 0 && (quarterLink c (t / 4)).isSome))
  else if op = 0x0160 ∨ op = 0x0161 then decide (t < 4096)
  else if op = 0x0200 then decide (t < 4096)
  else if 0x0201 ≤ op ∧ op ≤ 0x0208 then decide (t < 4096) && (c.tenant t).state != .none
  else if op = 0x0240 then decide (t < 1024)
  else if op = 0x0241 ∨ op = 0x0242 then decide (t < 1024) && (c.flow t).present
  else if op = 0x0210 then decide (t < 1024)
  else if op = 0x0211 ∨ op = 0x0212 then decide (t < 1024) && (c.dev t).present
  else if op = 0x0218 then decide (t < 32768)
  else if 0x0219 ≤ op ∧ op ≤ 0x0221 then decide (t < 32768) && (c.window t).present
  else if op = 0x0230 then decide (1 ≤ t) && decide (t < 4096) && (c.tenant t).state != .none
  else if op = 0x0231 ∨ op = 0x0232 then decide (t < 4096) && (c.tenant t).state != .none
  else if 0x0300 ≤ op ∧ op ≤ 0x0305 then true
  else if op = 0x0400 ∨ op = 0x0401 then decide (t ≤ 8193) && (decide (8192 ≤ t) || t % 2 == 0)
  else if 0x0410 ≤ op ∧ op ≤ 0x0414 then true
  else if op = 0x0500 then decide (t < 1024)
  else if op = 0x0502 then decide (t < 64)
  else if op = 0x0503 then decide (t < 128)
  else if op = 0x0600 ∨ op = 0x0602 ∨ op = 0x0910 then decide (t < 512)
  else if op = 0x0601 then decide (t ≤ 8)
  else if op = 0x0610 ∨ op = 0x0611 then decide (t ≤ 5)
  else if op = 0x0612 then decide (t ≤ 2) || t == 0xFF
  else if op = 0x0700 then decide (t ≤ 8)
  else if op = 0x0701 then decide (t ≤ 4)
  else if 0x0710 ≤ op ∧ op ≤ 0x0714 then decide (t < 32)
  else if op = 0x0801 then decide (t < 2)
  else if op = 0x0802 ∨ op = 0x0820 then decide (t < 4)
  else if op = 0x0803 then decide (1 ≤ t) && decide (t ≤ 3)
  else if op = 0x0810 ∨ op = 0x0811 then decide (t < 128) && (c.port t).role == 2
  else if op = 0x0900 then
    t == 0xFFFFFFFF ||
    (decide (t / 2 ^ 16 % 256 = 0) &&
      (let k := t / 2 ^ 24
       let i := t % 2 ^ 16
       (k == 0 && decide (i < 65)) || (k == 1 && decide (i < 32)) || (k == 2 && decide (i < 64)) || (k == 3 && decide (i < 16))))
  else if op = 0x0B00 then decide (t < 256)
  else if 0x0B01 ≤ op ∧ op ≤ 0x0B05 then decide (t < 256) && (c.domain t).present
  else if op = 0x0B10 then decide (t < 22)
  else if op = 0x0B11 then decide (t < 32) || t == 0xFFFF
  else if op = 0x0B12 then decide (t < 64) || (decide (2 ^ 31 ≤ t) && decide (t < 2 ^ 31 + 32))
  else t == 0

/-- The objects a command acts on (Table 13.3; R349 for the others). -/
def claimsOf (c : Chip) (op : Nat) (d : Desc) : List Obj :=
  let t := d.tgt
  if op = 0x0100 then
    [{ kind := match t / 2 ^ 24 with
        | 0 => .port
        | 1 => .xport
        | 2 => .core
        | _ => .vcs, index := t % 256 }]
  else if op = 0x0101 ∨ op = 0x0102 then [{ kind := .port, index := t }]
  else if op = 0x0104 then [{ kind := .egress, index := t / 8 }]
  else if op = 0x0108 then [{ kind := .pin, index := t }]
  else if 0x0110 ≤ op ∧ op ≤ 0x0114 then [{ kind := .vcs, index := t }]
  else if 0x0120 ≤ op ∧ op ≤ 0x0124 then
    if t < 2 ^ 31 then [{ kind := .lane, index := t }] else [{ kind := .course, index := t - 2 ^ 31 }]
  else if 0x0140 ≤ op ∧ op ≤ 0x0144 then [{ kind := .link, index := t }]
  else if op = 0x0150 ∨ op = 0x0151 then [{ kind := .egress, index := t }]
  else if op = 0x0160 ∨ op = 0x0161 then [{ kind := .fabricId, index := t }]
  else if 0x0200 ≤ op ∧ op ≤ 0x0208 then [{ kind := .tenant, index := t }]
  else if op = 0x0240 then [{ kind := .flow, index := t }, { kind := .tenant, index := d.u16 16 }]
  else if op = 0x0241 then [{ kind := .flow, index := t }, { kind := .tenant, index := (c.flow t).tenant }]
  else if op = 0x0242 then [{ kind := .flow, index := t }]
  else if 0x0218 ≤ op ∧ op ≤ 0x0221 then [{ kind := .window, index := t }]
  else if op = 0x0230 ∨ op = 0x0231 ∨ op = 0x0232 then [{ kind := .tenant, index := t }]
  else if op = 0x0412 ∨ op = 0x0413 then [{ kind := .window, index := d.u16 16 }]
  else if op = 0x0500 then [{ kind := .counter, index := t }]
  else if op = 0x0502 then [{ kind := .schedule, index := t }]
  else if op = 0x0700 then [{ kind := .rung, index := t }]
  else if 0x0710 ≤ op ∧ op ≤ 0x0714 then [{ kind := .slot, index := t }]
  else if op = 0x0A01 then [{ kind := .timeParams, index := 0 }]
  else if 0x0B00 ≤ op ∧ op ≤ 0x0B05 then [{ kind := .domain, index := t }]
  else if op = 0x0B10 then [{ kind := .requester, index := t }]
  else if op = 0x0B11 then
    if t = 0xFFFF then (List.range 32).map (fun i => { kind := .slice, index := i }) else [{ kind := .slice, index := t }]
  else if (0x0300 ≤ op ∧ op ≤ 0x0305) ∨ op = 0x0400 ∨ op = 0x0401 ∨ op = 0x0A00 ∨ (0x0410 ≤ op ∧ op ≤ 0x0414) then []
  else [{ kind := .other, index := op * 2 ^ 32 + t }]

/-- The group that claims an object (R366), by ID. -/
def claimant (c : Chip) (o : Obj) : Option Nat :=
  (c.grp.groups.find? (fun g => g.2.state != .none && g.2.claims.contains o)).map (·.1)

/-- A group other than `g` claims one of the objects. -/
def heldByOther (c : Chip) (os : List Obj) (g : Nat) : Bool :=
  os.any (fun o => match claimant c o with
    | none => false
    | some h => h != g)

/-- Steps 2 to 4 of R346: the status with which the descriptor ends, if any. -/
def preStatus (c : Chip) (r op : Nat) (d : Desc) : Option Status :=
  if !isManager r && !tenantMay c (ringTenant r) op d then some .notPermitted
  else if !d.formOk || (d.stage && !stageable op) ||
      (d.indirect && !d.blockOk r (op == 0x0802 || op == 0x0810)) then some .badParam
  else if !targetOk c op d && !(r == 8192 && op == 0x0230 && d.tgt == 0) then some .noSuchTarget
  else none

/-- Bytes of parameters that staging copies (R370). -/
def copiedBytes (d : Desc) : Nat := if d.indirect then d.blockLen else 8 * d.plen

/-- Staged descriptors and RWC writes of a group. -/
def Group.cmds (g : Group) : Nat := (g.items.filter (fun i => match i with
  | .cmd _ _ _ => true
  | .reg _ _ => false)).length
def Group.regs (g : Group) : Nat := g.items.length - g.cmds

/-- R370: a descriptor is staged. -/
def stage (c : Chip) (x : CmdRef) (op : Nat) (d : Desc) : Chip :=
  let g := c.group d.grp
  let os := claimsOf c op d
  if g.state = .none then endNow c x .noSuchTarget []
  else if g.owner ≠ x.ring then endNow c x .lockHeld []
  else if g.state ≠ .opened then endNow c x .busy []
  else if 1024 ≤ g.cmds ∨ 256 * 1024 < g.bytes + copiedBytes d then endNow c x .capacity []
  else if heldByOther c os d.grp then endNow c x .lockHeld []
  else
    let g' := { g with items := g.items ++ [Item.cmd op x.ring d], bytes := g.bytes + copiedBytes d,
                       claims := os.foldl addOnce g.claims }
    endNow (c.setGroup d.grp g') x .ok [] true

/-- The management firmware interprets commands (R360); BB_READ and BB_EXPORT over MCTP are always served (R420), FW_UPDATE
in recovery too (R491). -/
def fwServes (c : Chip) (r op : Nat) : Bool :=
  (c.rst.running && c.rings.fwReady) || (r == 8192 && (op == 0x0610 || op == 0x0611 || (op == 0x0800 && c.sec.recovery)))

/-- Tenants and groups settle simultaneous commands by their own state tables (R324, R364), not by waiting (R349). -/
def waitsFor (o : Obj) : Bool := o.kind != .tenant

/-- R349: the entry of a ring's list that may start now, if it is this command: it is the oldest not yet started, no fence
forbids it, and no earlier command on one of its objects still runs. -/
def startable : List InFlight → List InFlight → Nat → Desc → Option InFlight
  | _, [], _, _ => none
  | before, f :: rest, op, d =>
    if f.started then startable (f :: before) rest op d
    else if f.cmd.tag ≠ d.tag ∨ f.cmd.opcode ≠ op ∨ f.cmd.target ≠ d.tgt then none
    else if (f.fence && !before.isEmpty) || before.any (·.fence) then none
    else if before.any (fun b => b.objs.any (fun o => waitsFor o && f.objs.contains o)) then none
    else some f

/-- The command's entry is marked as started. -/
def markStarted : List InFlight → CmdRef → List InFlight
  | [], _ => []
  | f :: t, x => if !f.started && sameCmd f.cmd x then { f with started := true } :: t else f :: markStarted t x

/-- R359: a command of another manager path on one of its objects arrived before it and has not ended. -/
def pathWaits (c : Chip) (r : Nat) (f : InFlight) : Bool :=
  isManager r && ([0, 8192, 8193].filter (fun k => k != ringKey r)).any (fun k => (c.ring k).flight.any (fun b =>
    decide (b.arrival < f.arrival) && b.objs.any (fun o => waitsFor o && f.objs.contains o)))

/-- A vendor command that its path has delivered (R342, R358, R359) is carried out: R346 steps 2 to 5, staging, or `body`. -/
def runCmd (op : Nat) (body : Chip → CmdRef → Chip) (r : Nat) (d : Desc) (c : Chip) : Chip :=
  let k := ringKey r
  if !fwServes c r op then c
  else match startable [] (c.ring k).flight op d with
    | none => c
    | some f =>
      let x : CmdRef := { f.cmd with ring := r, respond := d.respond }
      if pathWaits c r f then c
      else match preStatus c r op d with
      | some st => endNow c x st []
      | none =>
        if d.stage then stage c x op d
        else if !isQuery op && heldByOther c (claimsOf c op d) 0 then endNow c x .lockHeld []
        else body (c.modRing k (fun q => { q with flight := markStarted q.flight x })) x

/-- A refusal of the admission check (Tables 13.4, 13.6). -/
structure Refuse where
  status : Status := .capacity
  kind   : Nat := 0
  obj    : Nat := 0xFFFFFFFF
  need   : Nat := 0
  have_  : Nat := 0
  deriving DecidableEq, Repr, Inhabited

/-- The layout of Table 13.4. -/
def Refuse.bytes (e : Refuse) (index : Nat) : List Byte :=
  leBytes 2 index ++ leBytes 1 e.kind ++ leBytes 4 e.obj ++ leBytes 4 e.need ++ leBytes 4 e.have_

/-- A command is refused with a status and no effect. -/
abbrev refuse (c : Chip) (x : CmdRef) (st : Status) : Chip := endCmd c x st []

end Sys2Proof.Machine
end

