-- ==== Sys2Proof/Machine/Counting.lean ====
section
/-!
DEFINITION. Counting events (R473–R475, R477): the programmable counters that match an event, a tenant's fixed counters, a
port's bandwidth window.
-/
namespace Sys2Proof.Machine

/-- What an event carries for the filters of R474. -/
structure Happening where
  code   : Nat := 0
  device : Bool := false            -- a device-wide event
  quad   : Nat := 0
  inst   : Nat := 0
  switch : Bool := false            -- a request that the switch issues itself
  port   : Nat := 0
  tenant : Nat := 0
  fab    : Nat := 0
  window : Nat := 0
  sc     : Nat := 5
  mc     : Nat := 9
  deriving DecidableEq, Repr, Inhabited

/-- R474: the counter counts the event. Event 0x016 is of a message class and of no service class. -/
def counts (i : Nat) (k : Counter) (e : Happening) : Bool :=
  k.enable && k.event == e.code && (e.device || i / 256 == e.quad) && (e.device || k.inst == 0xFF || k.inst == e.inst) &&
  (match k.priv with
   | 0 => true
   | 1 => !e.switch && (e.tenant == 0 || e.mc == 9)
   | 2 => !e.switch && e.tenant != 0
   | _ => e.switch) &&
  (match k.mKind with
   | 0 => true
   | 1 => k.mValue == e.port
   | 2 => k.mValue == e.tenant
   | _ => k.mValue == e.fab) &&
  (!k.winEn || k.window == e.window) && (k.scMask.getLsbD e.sc || e.code == 0x016) && k.mcMask.getLsbD e.mc

/-- R475: a counter with `n` added. -/
def Counter.add (k : Counter) (n : Nat) : Counter :=
  { k with value := k.value + BitVec.ofNat 64 n, ovf := k.ovf || decide (2 ^ 64 ≤ k.value.toNat + n) }

/-- The event is counted `n` times over; a wrap with OVF_INT raises source 320. -/
def countEvent (c : Chip) (e : Happening) (n : Nat := 1) : Chip :=
  let hit := c.ctr.ctrs.filter (fun k => counts k.1 k.2 e)
  let wraps := hit.filter (fun k => k.2.ovfInt && decide (2 ^ 64 ≤ k.2.value.toNat + n))
  let c := if hit.isEmpty ∨ n = 0 then c else
    { c with ctr := { c.ctr with ctrs := c.ctr.ctrs.map (fun k => if counts k.1 k.2 e then (k.1, k.2.add n) else k) } }
  wraps.foldl (fun c _ => raise c 320) c

/-- R477: fixed counter `i` of a tenant (Table 19.2) with `n` added; OVF is its sticky wrap bit. -/
def countTenant (c : Chip) (t i n : Nat) : Chip :=
  c.modTenant t (fun x =>
    let v := x.ctr.getD i 0 + n
    { x with ctr := setAt x.ctr i (v % 2 ^ 64), ovf := if 2 ^ 64 ≤ v then Nat.lor x.ovf (2 ^ i) else x.ovf })

/-- R478: the fixed counters are cleared, with OVF and a new CLEARED_AT. -/
def clearTenantCounters (c : Chip) (t : Nat) : Chip :=
  c.modTenant t (fun x => { x with ctr := List.replicate 8 0, ovf := 0, clearedAt := c.ft.count })

/-- R479: bytes of a packet whose header crossed a port's balls in the running window. -/
def countBandwidth (c : Chip) (p bytes : Nat) (inward : Bool) : Chip :=
  let b := c.ctr.bw.look p
  if b.len = 0 ∨ !b.on then c
  else { c with ctr := { c.ctr with bw := c.ctr.bw.put p (if inward then { b with inNow := b.inNow + bytes }
                                                          else { b with outNow := b.outNow + bytes }) } }

end Sys2Proof.Machine
end

