-- ==== Sys2Proof/Machine/Buffer.lean ====
section
/-!
DEFINITION. The central buffer (R72–R75), link credits of CXL ports (R76, R77) and spill (R78, R79).
-/
namespace Sys2Proof.Machine

/-- Fabric ID entry fields (Table 3.2). -/
abbrev feValid (e : DWord) : Bool := e.getLsbD 0
abbrev feLocal (e : DWord) : Bool := e.getLsbD 1
abbrev feKind (e : DWord) : Nat := field e.toNat 2 2
abbrev feIndex (e : DWord) : Nat := field e.toNat 4 7
abbrev feUsable (e : DWord) (j : Nat) : Bool := e.getLsbD (12 + j)
abbrev feLink (e : DWord) (j : Nat) : Nat := field e.toNat (16 + 4 * j) 4
abbrev fePrimary (e : DWord) : Nat := field e.toNat 32 2
abbrev feHops (e : DWord) : Nat := field e.toNat 34 6

/-- The key of a VOQ lane (R62). -/
def laneKey (input output sc : Nat) (cls : MsgClass) : Nat := ((input * 38 + output) * 8 + sc) * 10 + cls.code

/-- The crossbar port serves a Stolevo Link. -/
def stvXbar (c : Chip) (k : Nat) : Bool := decide (k < 32) && (quarterLink c k).isSome

/-- The reserves of a crossbar port in cells (Table 3.5, R243). -/
def reservesOf (c : Chip) (k : Nat) (x : XPort) : Nat := x.sc0Reserve + 160 + (if stvXbar c k then 2048 else 0)

/-- The sum of `f` over 0, …, n − 1. -/
def sumBelow (n : Nat) (f : Nat → Nat) : Nat := (List.range n).foldl (fun s i => s + f i) 0

/-- Link credits of a port and class. -/
abbrev creditOf (c : Chip) (p cls : Nat) : Credit := c.sw.credits.look (p * 10 + cls)
def setCredit (c : Chip) (p cls : Nat) (x : Credit) : Chip :=
  { c with sw := { c.sw with credits := c.sw.credits.put (p * 10 + cls) x } }

/-- Places of the shared part of crossbar port `k` in use: cells held and places behind link credits (R74, R76). -/
def sharedHeld (c : Chip) (k : Nat) : Nat :=
  sumBelow 8 (fun sc => c.sw.heldShared.look (k * 8 + sc)) +
  (if k < 32 then sumBelow 40 (fun i => let x := creditOf c (4 * k + i / 10) (i % 10); x.out - x.inCls) else 0)

/-- Places of the shared part of a crossbar port (R74). -/
def sharedSize (c : Chip) (k : Nat) : Nat := let x := c.sw.xports.look k; x.portLimit - reservesOf c k x

/-- Reserve places of a message class in use. -/
def clsHeld (c : Chip) (k cls : Nat) : Nat :=
  sumBelow 8 (fun sc => c.sw.heldCls.look ((k * 10 + cls) * 8 + sc)) +
  (if k < 32 then sumBelow 4 (fun i => (creditOf c (4 * k + i) cls).inCls) else 0)

/-- Cells of a service class that crossbar port `k` holds. -/
def scHeld (c : Chip) (k sc : Nat) : Nat :=
  c.sw.heldShared.look (k * 8 + sc) + (if sc = 0 then c.sw.heldSc0.look k else 0) +
  sumBelow 10 (fun cls => c.sw.heldCls.look ((k * 10 + cls) * 8 + sc))

/-- The limit of a service class on a crossbar port: the lesser of BUF_SC_LIMIT and BUF_PORT_LIMIT (R74). -/
def scLimitOf (c : Chip) (k sc : Nat) : Nat := let x := c.sw.xports.look k; min (x.scLimit.getD sc 65536) x.portLimit

/-- R74: the place in which a cell is admitted. -/
def admitPlace (c : Chip) (k sc cls : Nat) : Option Place :=
  if sharedHeld c k < sharedSize c k ∧ scHeld c k sc < scLimitOf c k sc then some .shared
  else if sc = 0 ∧ c.sw.heldSc0.look k < (c.sw.xports.look k).sc0Reserve then some .sc0
  else if clsHeld c k cls < 16 then some .cls
  else none

/-- A cell takes its place. -/
def takePlace (c : Chip) (k sc cls : Nat) (p : Place) : Chip :=
  match p with
  | .shared => { c with sw := { c.sw with heldShared := c.sw.heldShared.upd (k * 8 + sc) (· + 1) } }
  | .sc0 => { c with sw := { c.sw with heldSc0 := c.sw.heldSc0.upd k (· + 1) } }
  | .cls => { c with sw := { c.sw with heldCls := c.sw.heldCls.upd ((k * 10 + cls) * 8 + sc) (· + 1) } }

/-- A cell that leaves frees the place it took (R74). -/
def freePlace (c : Chip) (k sc cls : Nat) (p : Place) : Chip :=
  match p with
  | .shared => { c with sw := { c.sw with heldShared := c.sw.heldShared.upd (k * 8 + sc) (· - 1) } }
  | .sc0 => { c with sw := { c.sw with heldSc0 := c.sw.heldSc0.upd k (· - 1) } }
  | .cls => { c with sw := { c.sw with heldCls := c.sw.heldCls.upd ((k * 10 + cls) * 8 + sc) (· - 1) } }

/-! ### Link credits (R76, R77) -/

/-- R77: crossbar port `k` holds cells of this message class in a service class that is at its limit. -/
def scBlocked (c : Chip) (k : Nat) (cls : Nat) : Bool :=
  (List.range 8).any (fun sc => decide (scLimitOf c k sc ≤ scHeld c k sc) &&
    (List.range 38).any (fun o => !(c.sw.voq.look (((k * 38 + o) * 8 + sc) * 10 + cls)).isEmpty))

/-- Whether a port gives credits at all: its link is up and secure (R76, R287). -/
def givesCredits (p : Port) : Bool := linkUp p

/-- The CREDIT_STALL_TIME count of a port and class starts when its two conditions first hold together (R76). -/
def stallStart (c : Chip) (x : Credit) : Credit :=
  if x.out = 0 ∧ 0 < x.kept ∧ x.since.isNone then { x with since := some c.ivl } else x

/-- R76: a port returns the credits it keeps back as far as R74 admits; a return stops and clears the count. A credit carries no
service class: it is backed by the shared part or the class reserve, never by the SC0 reserve (notes/assumptions/164.md). -/
def offerCredits (c : Chip) (p cls : Nat) : Chip :=
  let x := creditOf c p cls
  let k := portXbar p
  if x.kept = 0 ∨ !givesCredits (c.port p) then setCredit c p cls (stallStart c x)
  else
    let a := if scBlocked c k cls then 0 else min x.kept (sharedSize c k - sharedHeld c k)
    let b := min (x.kept - a) (16 - clsHeld c k cls)
    if a + b = 0 then setCredit c p cls (stallStart c x)
    else setCredit c p cls { x with out := x.out + a + b, inCls := x.inCls + b, kept := x.kept - a - b, since := none,
                                    raised := false }

/-- `n` cells are admitted in turn under R74; what remains when one is not. -/
def admitCells : Nat → Chip → QPkt → Chip × QPkt × Nat
  | 0, c, q => (c, q, 0)
  | n + 1, c, q =>
    match admitPlace c q.input q.sc q.cls.code with
    | some pl => admitCells n (takePlace c q.input q.sc q.cls.code pl) { q with places := q.places ++ [pl] }
    | none => (c, q, n + 1)

/-- R75: the oldest copy of a lane that waits for places takes those that R74 now admits. -/
def fillLane (c : Chip) (key : Nat) : Chip :=
  let lane := c.sw.voq.look key
  match lane.findIdx? (fun q => 0 < q.unplaced) with
  | none => c
  | some i =>
    let q := lane.getD i {}
    let (c, q, rest) := admitCells q.unplaced c q
    { c with sw := { c.sw with voq := c.sw.voq.put key (setAt lane i { q with unplaced := rest }) } }

/-- R75, R76: places of crossbar port `k` have become free: copies that wait take theirs, then every port and class is offered
its credits, in order. -/
def offerAll (c : Chip) (k : Nat) : Chip :=
  let c := (c.sw.voq.filter (fun l => l.1 / 3040 == k && l.2.any (fun q => decide (0 < q.unplaced)))).foldl
    (fun c l => fillLane c l.1) c
  if k < 32 ∧ !stvXbar c k then
    (List.range 40).foldl (fun c i =>
      if (creditOf c (4 * k + i / 10) (i % 10)).kept = 0 then c else offerCredits c (4 * k + i / 10) (i % 10)) c
  else c

/-- A cell arrives on a link credit: it always lands, in the place behind the credit (R76). -/
def landCredit (c : Chip) (p sc cls : Nat) : Option (Chip × Place) :=
  let x := creditOf c p cls
  if x.out = 0 then none
  else
    let shared := decide (x.inCls < x.out)
    let y := { x with out := x.out - 1, held := x.held + 1, inCls := if shared then x.inCls else x.inCls - 1 }
    let pl := if shared then Place.shared else Place.cls
    some (takePlace (setCredit c p cls (stallStart c y)) (portXbar p) sc cls pl, pl)

/-- A cell that arrived on a credit leaves: its credit is kept back until `offerAll` returns it. -/
def giveBack (c : Chip) (p cls : Nat) : Chip :=
  let x := creditOf c p cls
  if x.held = 0 then c else setCredit c p cls { x with held := x.held - 1, kept := x.kept + 1 }

/-- Credits at link up: `n` of each class, advertised as far as R74 admits, the rest kept back (R91). -/
def creditsUp (c : Chip) (p : Nat) (ns : List Nat) : Chip :=
  (List.range 10).foldl (fun c cls => offerCredits (setCredit c p cls { kept := ns.getD cls 0 }) p cls) c

/-- Credits at link down: none is held by the partner. -/
def creditsDown (c : Chip) (p : Nat) : Chip := (List.range 10).foldl (fun c cls => setCredit c p cls {}) c

/-- CREDIT_STALL_TIME_EXPIRE (R76): source 76 once, with the port and the message class. -/
def creditStallTimeExpire (p : Nat) (k : MsgClass) (c : Chip) : Chip :=
  let x := creditOf c p k.code
  match x.since with
  | none => c
  | some t =>
    if x.raised ∨ !c.past t (us c.sw.timers.creditStall) then c
    else raise (setCredit c p k.code { x with raised := true }) 76 (srcInfo 1 p k.code)

/-! ### Spill (R78, R79) -/

/-- Cells of the spill region (R78). -/
abbrev spillCells : Nat := 16777216

/-- R79: SPILL_THRESHOLD. -/
def spillCheck (c : Chip) : Chip :=
  let w := spillCells * c.sw.timers.spillWarn / 100
  if !c.sw.spillRaised ∧ w < c.sw.spill then raise { c with sw := { c.sw with spillRaised := true } } 70
  else if c.sw.spillRaised ∧ 2 * c.sw.spill < w then { c with sw := { c.sw with spillRaised := false } }
  else c

/-- What a cell's packet carries for the counters (Table 19.1). -/
def portEvent (q : QPkt) (code : Nat) : Happening :=
  { code := code, quad := q.port / 32, inst := q.port, port := q.port, tenant := q.tenant, fab := q.srcDev, sc := q.sc,
    mc := q.cls.code }

/-- `n` cells of a packet go to spill, after those it already has there. -/
def spillWrite (c : Chip) (q : QPkt) (n : Nat) : Chip × QPkt :=
  if n = 0 then (c, q)
  else (spillCheck (countEvent { c with sw := { c.sw with spill := c.sw.spill + n } } (portEvent q 0x017) n),
        { q with spilled := q.spilled + n })

/-- `n` cells of a packet from a CXL ingress land on credits, or in the places of R74 where the partner held none; what R74 does
not admit waits. -/
def landCells : Nat → Chip → QPkt → Chip × QPkt
  | 0, c, q => (c, q)
  | n + 1, c, q =>
    match landCredit c q.port q.sc q.cls.code with
    | some (c', pl) => landCells n c' { q with places := q.places ++ [pl] }
    | none =>
      let (c, q, rest) := admitCells (n + 1) c q
      (c, { q with unplaced := rest })

/-- The cells of a copy that this device puts into its own buffer: R74 admits them, or they wait (R75). -/
def placeCells (c : Chip) (q : QPkt) : Chip × QPkt :=
  let (c, q, rest) := admitCells q.cells c q
  (c, { q with unplaced := rest })

/-- The lane of a packet. -/
abbrev laneOf (q : QPkt) : Nat := laneKey q.input q.output q.sc q.cls

/-- A packet joins the end of its lane. -/
def joinLane (c : Chip) (q : QPkt) : Chip :=
  { c with sw := { c.sw with voq := c.sw.voq.upd (laneOf q) (· ++ [q]) } }

/-- R55: the message of packet `q` may share the cell of packet `h`, which waits in the lane: both are CXL.mem or CXL.cache messages,
present together, with the same ingress port, destination, service class and message class, and 256 B hold them. -/
def sharesCell (c : Chip) (h q : QPkt) : Bool :=
  decide (q.cls.code ≤ 5) && h.port == q.port && h.egress == q.egress && h.cells == 1 && q.cells == 1 && h.moved == 0 &&
    h.places.length == 1 && h.lookAt == c.ivl && decide (h.bytes + q.bytes ≤ 256) && !q.fromStv && decide (q.input < 32)

/-- The cell of packet `h` with the message of packet `q` in it. -/
def withMessage (h q : QPkt) : QPkt :=
  { h with bytes := h.bytes + q.bytes, flits := h.flits + q.flits, mates := h.mates ++ [q.pid], data := h.data || q.data,
           body := h.body.take h.bytes ++ List.replicate (h.bytes - h.body.length) 0 ++ q.body }

/-- The index in its lane of the packet whose cell a message shares (R55). -/
def shareIn (c : Chip) (q : QPkt) (joins : Option Nat) : Option Nat :=
  joins.bind (fun pid => (c.sw.voq.look (laneOf q)).findIdx? (fun h => h.pid == pid && sharesCell c h q))

/-- The message joins that cell: the place behind its link credit is free again, and the credit is kept back for R76. -/
def joinCell (c : Chip) (q : QPkt) (i : Nat) : Chip :=
  let lane := c.sw.voq.look (laneOf q)
  let c := { c with sw := { c.sw with voq := c.sw.voq.put (laneOf q) (setAt lane i (withMessage (lane.getD i {}) q)) } }
  match landCredit c q.port q.sc q.cls.code with
  | none => c
  | some (c, pl) => offerAll (giveBack (freePlace c q.input q.sc q.cls.code pl) q.port q.cls.code) q.input

/-- R55, R74, R75, R78: a packet is enqueued. `none`: an issuing block stalls. -/
def enqueue (c : Chip) (q : QPkt) (joins : Option Nat) : Option Chip :=
  match shareIn c q joins with
  | some i => some (joinCell c q i)
  | none =>
    if q.fromStv then
      if (c.sw.voq.look (laneOf q)).any (fun x => 0 < x.spilled) then
        let (c, q) := spillWrite c q q.cells
        some (joinLane c q)
      else
        let (c, q, rest) := admitCells q.cells c q
        let (c, q) := spillWrite c q rest
        some (joinLane c q)
    else if q.input < 32 then
      let (c, q) := landCells q.cells c q
      some (joinLane c q)
    else
      let (c', q', rest) := admitCells q.cells c q
      if rest = 0 then some (joinLane c' q') else none

/-- SPILL_RETURN (R78): the oldest spilled cell of a lane returns, as far as R74 admits it. -/
def spillReturn (input output sc : Nat) (cls : MsgClass) (c : Chip) : Chip :=
  let key := laneKey input output sc cls
  let lane := c.sw.voq.look key
  match lane.findIdx? (fun q => 0 < q.spilled) with
  | none => c
  | some i =>
    let q := lane.getD i {}
    match admitPlace c q.input q.sc q.cls.code with
    | none => c
    | some pl =>
      let q' := { q with places := q.places ++ [pl], spilled := q.spilled - 1, whole := true }
      let c := takePlace c q.input q.sc q.cls.code pl
      spillCheck { c with sw := { c.sw with spill := c.sw.spill - 1, voq := c.sw.voq.put key (setAt lane i q') } }

end Sys2Proof.Machine
end

