-- ==== Sys2Proof/Machine/FabricTime.lean ====
section
/-!
DEFINITION. Fabric Time (02_fabric_time.md): FT_STATUS, source selection, the state machine of Table 2.4, FT_SYNC_IN and
FT_SYNC_OUT, time exchanges, steps and loads of the count, the time commands.
-/
namespace Sys2Proof.Machine

/-- FT_STATUS.SOURCE as a number. -/
def FtSource.code : FtSource → Nat
  | .none => 0
  | .sync => 1
  | .link => 2
  | .manager => 3

/-- FT_STATUS (Table 2.1). -/
def ftStatus (f : FabricTime) : Word :=
  BitVec.ofNat 32 (f.mode.code + f.source.code * 2 ^ 3 + f.link % 16 * 2 ^ 5 + f.cls % 16 * 2 ^ 9 + f.hops % 64 * 2 ^ 13 +
    nat1 f.stepped * 2 ^ 19 + nat1 f.oscOk * 2 ^ 20)

/-- The ticks that the next core cycle adds (R44). -/
def ftAdd (f : FabricTime) : Nat := (8 + ((f.fracAcc : Int) + f.rate.toInt) / 2 ^ 32).toNat

/-- Fabric Time in the next core cycle. -/
abbrev Chip.nextNow (c : Chip) : Nat := c.now + ftAdd c.ft

/-- One core cycle (R44): 8 ticks and the accumulated fraction. -/
def ftTick (f : FabricTime) : FabricTime :=
  let count := f.count + BitVec.ofNat 64 (ftAdd f)
  { f with count := count, ivl := f.ivl + ftAdd f, fracAcc := (((f.fracAcc : Int) + f.rate.toInt) % 2 ^ 32).toNat,
           newSlot := count.toNat / 64 != f.count.toNat / 64 }

/-- 200 ppm of 8 ticks in units of 2^-32 ticks (R44). -/
abbrev rateLimit : Nat := 6871947

/-- A rate within ±200 ppm, otherwise free: the loop's filter is not given (R44; notes/assumptions/3.md). -/
def freeRate (n : Nat) : BitVec 32 := BitVec.ofInt 32 ((Config.freeNat n % (2 * rateLimit + 1) : Nat) - (rateLimit : Int))

/-- R50: in HOLDOVER the last disciplined rate, corrected by the offset of FT_OSC learned in LOCKED. -/
def holdRate (f : FabricTime) : BitVec 32 :=
  BitVec.ofInt 32 ((Config.holdoverRate f.rate f.learned % (2 * rateLimit + 1) : Nat) - (rateLimit : Int))

/-! ### Steps of the count (R52) -/

/-- The entry of a gate list that holds an instant, R111. -/
def entryAt (g : GateList) (now : Nat) : Nat :=
  let off := if g.cycle = 0 then 0 else (now - g.start) % g.cycle
  let rec go : List (Nat × Nat) → Nat → Nat → Nat
    | [], _, k => k - 1
    | e :: t, at_, k => if at_ < 64 * e.2 then k else if t.isEmpty then k else go t (at_ - 64 * e.2) (k + 1)
  go g.entries off 0

/-- Lists resume at the entry that holds the new count (R115). -/
def gatesResume (c : Chip) : Chip :=
  { c with sched := { c.sched with gates := c.sched.gates.map (fun g =>
      (g.1, match g.2.oper with
        | none => g.2
        | some l => if l.start ≤ c.now then { g.2 with entry := entryAt l c.now } else g.2)) } }

/-- The first instant base + n × period, n ≥ 0, at or after `lo`. -/
def firstInstant (base period lo : Nat) : Nat := if lo ≤ base then base else base + ceilDiv (lo - base) (max period 1) * period

/-- Dump schedules resume at their first boundary at or after the new count (R52). -/
def dumpsResume (c : Chip) : Chip :=
  { c with ctr := { c.ctr with dumps := c.ctr.dumps.map (fun d =>
      (d.1, if d.2.due < c.now then { d.2 with due := firstInstant d.2.base (us d.2.period) c.now } else d.2)) } }

/-- Shapers do not credit the skipped time: a shaper that waits on a wheel waits as long as before (R52, R122). -/
def shapersMove (t : Tbl Shaper) (delta : Nat) : Tbl Shaper :=
  t.map (fun s => (s.1, { s.2 with release := s.2.release.map (· + delta) }))

/-- R52 for a forward step from `old`: leases move, skipped groups become due at the first quantum after the step. -/
def groupsStep (c : Chip) (old delta : Nat) : Chip :=
  { c with grp := { c.grp with groups := c.grp.groups.map (fun g =>
      let x := g.2
      let skip := x.state == .armed && decide (old < x.applyAt) && decide (x.applyAt ≤ c.now)
      (g.1, { x with expiry := x.expiry + delta, skipped := x.skipped || skip,
                     due := if skip then ceilDiv c.now quantum * quantum else x.due })) } }

/-- R43: a load made in FREE moves every apply instant and lease with the count. -/
def groupsShift (c : Chip) (delta : Nat) : Chip :=
  { c with grp := { c.grp with groups := c.grp.groups.map (fun g =>
      (g.1, { g.2 with expiry := g.2.expiry + delta,
                       applyAt := if g.2.state = .armed then g.2.applyAt + delta else g.2.applyAt,
                       due := g.2.due + delta })) } }

/-- The count jumps forward by `delta` ticks: what every jump does to the timed blocks. -/
def jump (c : Chip) (delta : Nat) : Chip :=
  let c := { c with ft := { c.ft with count := c.ft.count + BitVec.ofNat 64 delta,
                                      newSlot := c.ft.newSlot || (c.now + delta) / 64 != c.now / 64 },
                    sched := { c.sched with tShapers := shapersMove c.sched.tShapers delta,
                                            pShapers := shapersMove c.sched.pShapers delta } }
  dumpsResume (gatesResume c)

/-- R45, R43: a forward step of the count; more than 1 ms raises source 36. -/
def stepCount (c : Chip) (delta : Nat) : Chip :=
  if delta = 0 then c
  else
    let old := c.now
    let c := groupsStep (jump c delta) old delta
    let c := { c with ft := { c.ft with stepped := true } }
    if ms 1 < delta then raise c 36 else c

/-- A load of the count in FREE: no step, no fault (R43). The load on FREE to ACQUIRE moves apply instants and leases as TIME_SET's does
(the model's choice, notes/assumptions/157.md). -/
def loadCount (c : Chip) (delta : Nat) : Chip := if delta = 0 then c else groupsShift (jump c delta) delta

/-! ### States (Table 2.4) -/

/-- The class a device announces in a state (Table 2.2), for a root of class `k`. -/
def classIn (m : FtMode) (k : Nat) : Nat :=
  match m with
  | .free => 15
  | .acquire | .locked => k
  | .holdover => 12
  | .holdoverExpired => 13
  | .set => 14

/-- The TIME event (Table 12.6). -/
def timeEvent (c : Chip) (old : FtMode) (stepped : Bool) : Chip :=
  unsolMgr c 0x800A (leBytes 1 old.code ++ leBytes 1 c.ft.mode.code ++ leBytes 1 c.ft.source.code ++ leBytes 1 (nat1 stepped))

/-- The state becomes `m`; a change posts the TIME event, and the time spent in the old state is counted. -/
def ftMove (c : Chip) (m : FtMode) : Chip :=
  let old := c.ft.mode
  if old = m then c
  else timeEvent { c with ft := { c.ft with mode := m, good := 0, bad := 0, stateIvl := c.ivl,
                                            everLocked := c.ft.everLocked || m == .locked,
                                            timeIn := c.ft.timeIn.upd old.code (· + (c.ivl - c.ft.stateIvl)) } } old false

/-- Comparison of candidates: class, root serial, hops, then FT_SYNC_IN before the links by number (R38). -/
def candLess (a : FtCand × Nat) (b : FtCand × Nat) : Bool :=
  if a.1.cls ≠ b.1.cls then decide (a.1.cls < b.1.cls)
  else if a.1.root ≠ b.1.root then decide (a.1.root < b.1.root)
  else if a.1.hops ≠ b.1.hops then decide (a.1.hops < b.1.hops)
  else decide (a.2 < b.2)

/-- The candidate with key 0 for FT_SYNC_IN, l + 1 for link l. Class 15 is never selected. -/
def candOf (c : Chip) (k : Nat) : Option FtCand :=
  let x := if k = 0 then (if c.ft.syncUse then c.ft.syncCand else none) else c.ft.cands.look (k - 1)
  match x with
  | some y => if y.cls < 15 ∧ !(c.ft.mode = .set ∧ y.cls = 14) then some y else none
  | none => none

/-- All candidates. -/
def candidates (c : Chip) : List (FtCand × Nat) := (List.range 17).filterMap (fun k => (candOf c k).map (fun x => (x, k)))

/-- The best candidate (R38). -/
def bestCand (c : Chip) : Option (FtCand × Nat) :=
  (candidates c).foldl (fun b x => match b with
    | none => some x
    | some y => if candLess x y then some x else some y) none

/-- The key of the selected source. -/
def selectedKey (c : Chip) : Option Nat :=
  match c.ft.source with
  | .sync => some 0
  | .link => some (c.ft.link + 1)
  | .none | .manager => none

/-- A candidate becomes the selected source (R38, R39, Table 2.4). -/
def selectSource (c : Chip) (x : FtCand × Nat) : Chip :=
  let old := c.ft.mode
  let c := { c with ft := { c.ft with source := if x.2 = 0 then .sync else .link, link := x.2 - 1, root := x.1.root,
                                      hops := x.1.hops, cls := x.1.cls, better := [],
                                      loadDue := c.ft.loadDue || old == .free } }
  match old with
  | .free | .set | .holdover | .holdoverExpired => ftMove c .acquire
  | .acquire | .locked => c

/-- R50: HOLDOVER, at the corrected rate, or HOLDOVER_EXPIRED at once, at the last disciplined rate. -/
def holdEnter (c : Chip) (expired : Bool) : Chip :=
  let m : FtMode := if expired then .holdoverExpired else .holdover
  ftMove { c with ft := { c.ft with holdSince := c.ivl, cls := classIn m 0, rate := if expired then c.ft.rate else holdRate c.ft } } m

/-- The selected source is lost (R39, R50, Table 2.4): selection runs again at once. -/
def sourceLost (c : Chip) : Chip :=
  match bestCand c with
  | some x =>
    let c := selectSource c x
    if c.ft.mode = .locked then ftMove c .acquire else c
  | none =>
    let expired := !c.ft.oscOk || !c.ft.everLocked
    let was := c.ft.mode
    let c := { c with ft := { c.ft with source := .none, better := [] } }
    match was with
    | .locked =>
      let c := raise (holdEnter c expired) 32
      if expired then raise c 33 else c
    | .acquire => if expired then raise (holdEnter c true) 33 else holdEnter c false
    | .free | .holdover | .holdoverExpired | .set => c

/-- The table of better candidates against the selected `(y, j)`: an announcement interval counts once (R39). -/
def betterTable (c : Chip) (y : FtCand) (j : Nat) : Tbl (Nat × Nat) :=
  let p := c.now / 2 ^ 20
  (List.range 17).foldl (fun t k => match candOf c k with
    | some x =>
      let b := t.look k
      if candLess (x, k) (y, j) then (if b.1 ≠ 0 ∧ b.2 = p then t else t.put k (b.1 + 1, p)) else t.put k (0, 0)
    | none => t.put k (0, 0)) c.ft.better

/-- R38, R39: a candidate is selected at once where no source stands, else after three intervals in which it was better. -/
def timeReview (c : Chip) : Chip :=
  match selectedKey c with
  | none => (match bestCand c with
    | some x => selectSource c x
    | none => c)
  | some j => match candOf c j with
    | none => (match bestCand c with
      | some x => selectSource c x
      | none => c)
    | some y =>
      let t := betterTable c y j
      let c := { c with ft := { c.ft with better := t } }
      match (candidates c).foldl (fun b x => if (t.look x.2).1 < 3 then b else match b with
          | none => some x
          | some z => if candLess x z then some x else some z) (none : Option (FtCand × Nat)) with
      | some x => selectSource c x
      | none => c

/-- The candidate with key `k` has been reported again: the selected source's values follow, and the sources are reviewed. -/
def candReported (c : Chip) (k : Nat) : Chip :=
  timeReview (match candOf c k with
    | some x => if selectedKey c = some k then
        { c with ft := { c.ft with root := x.root, hops := x.hops, cls := classIn c.ft.mode x.cls } } else c
    | none => c)

/-- HOLDOVER_EXPIRED is entered, with source 33. -/
def holdoverExpire (c : Chip) : Chip := raise (ftMove { c with ft := { c.ft with cls := 13 } } .holdoverExpired) 33

/-- A measurement of the selected source: `off` is how far the source is ahead of the count, in ticks (R44, R45, R49). -/
def measure (c : Chip) (off : Int) : Chip :=
  if c.ft.loadDue then loadCount { c with ft := { c.ft with loadDue := false } } off.toNat
  else
    let small := decide (off.natAbs ≤ ns 20)
    let large := decide (ns 100 < off.natAbs)
    let f : FabricTime := { c.ft with
      good := if small then c.ft.good + 1 else 0, bad := if large then c.ft.bad + 1 else 0,
      rate := if off < 0 then BitVec.ofInt 32 (-(rateLimit : Int)) else freeRate c.freeCtr,
      learned := if c.ft.mode = .locked then Config.freeNat (c.freeCtr + 1) else c.ft.learned }
    let f := if f.mode = .acquire ∧ (us f.stepThresh : Int) < off ∧ f.pendStep.isNone then
        { f with pendStep := some (off.toNat, (c.now / quantum + 1) * quantum) } else f
    let c := { c with ft := f, freeCtr := c.freeCtr + 2 }
    if f.mode = .acquire ∧ 16 ≤ f.good then ftMove c .locked
    else if f.mode = .locked ∧ 4 ≤ f.bad then raise (ftMove c .acquire) 37
    else c

/-- Half of a number in whole ticks; which way a half is rounded is not given (R46; notes/assumptions/3.md). -/
def halfTicks (n : Int) (free : Nat) : Int := n / 2 + (if n % 2 = 0 then 0 else ((Config.freeNat free % 2 : Nat) : Int))

/-! ### FT_SYNC_IN and FT_SYNC_OUT -/

/-- CRC-8 of R41 (polynomial 0x07, initial value 0) over bits [55:0], bit 55 first (notes/assumptions/17.md). -/
def crc8 (v : DWord) : Nat :=
  (List.range 56).foldl (fun r i =>
    let top := decide (128 ≤ r) != v.getLsbD (55 - i)
    if top then Nat.xor (r * 2 % 256) 7 else r * 2 % 256) 0

/-- A high time within 256 ns of `w` ns (R40). -/
def pulseNear (high w : Nat) : Bool := decide (ns (w - 256) ≤ high) && decide (high ≤ ns (w + 256))

/-- The bit that a pulse of a frame carries (R40); none for an invalid pulse. -/
def pulseBit (high : Nat) : Option Bool :=
  if pulseNear high 1024 then some false else if pulseNear high 2048 then some true else none

/-- The 64 bits of a frame, least significant first; none where a pulse is invalid (R40, R41). -/
def frameBits (f : SyncFrame) : Option DWord :=
  if f.pulses.length = 64 ∧ f.pulses.all (fun h => (pulseBit h).isSome) then
    some (BitVec.ofNat 64 (f.pulses.foldr (fun h n => nat1 (pulseBit h == some true) + 2 * n) 0))
  else none

/-- The expected NEXT moves on by one period. -/
def expectOn (f : FabricTime) : FabricTime := { f with usable := false, expect := f.expect.map (fun e => (e + 1) % 2 ^ 40) }

/-- FT_SYNC_MARKER (R40, R41, R44): a pulse whose edge lies `sub` ticks into the core cycle. A marker of a
good frame is valid and renews the source (R39); another, or an invalid pulse, is not used. -/
def ftSyncMarker (m : MarkPulse) (c : Chip) : Chip :=
  let own : Int := ((c.now + m.sub : Nat) : Int) - c.ft.inDelay
  let valid := pulseNear m.high 3072 && c.ft.usable
  let c' := { c with ft := { expectOn c.ft with lastMarker := if valid then c.ivl else c.ft.lastMarker } }
  match c.ft.expect with
  | some e => if valid && c.ft.syncUse && c.ft.source == .sync then measure c' (((e * 2 ^ 24 : Nat) : Int) - own) else c'
  | none => c'

/-- A frame that is discarded (R41); `last` is its own next value, for the two-frame rule. -/
def frameDiscard (c : Chip) (last : Option Nat) : Chip :=
  raise { c with ft := { c.ft with usable := false, lastFrame := last } } 34

/-- A frame that is accepted makes FT_SYNC_IN a candidate (R38, R41, R42). -/
def frameAccept (c : Chip) (bits : Nat) : Chip :=
  let next := bits % 2 ^ 40
  let k := field bits 40 4
  candReported { c with ft := { c.ft with
    usable := true, expect := some next, lastFrame := some ((next + 1) % 2 ^ 40), frameTrace := bitOf bits 44,
    lastMarker := if c.ft.syncCand.isNone then c.ivl else c.ft.lastMarker,
    syncCand := some { cls := if k ≤ 11 then k else 11, root := c.regs.serial.toNat, hops := 0 } } } 0

/-- FT_SYNC_FRAME (R41): the frame is checked, and accepted or discarded. -/
def ftSyncFrame (f : SyncFrame) (c : Chip) : Chip :=
  match frameBits f with
  | none => frameDiscard c none
  | some b =>
    let next := b.toNat % 2 ^ 40
    if crc8 b ≠ b.toNat / 2 ^ 56 then frameDiscard c none
    else if c.ft.expect = none ∨ c.ft.expect = some next ∨ c.ft.lastFrame = some next then frameAccept c b.toNat
    else frameDiscard c (some ((next + 1) % 2 ^ 40))

/-- FT_SYNC_IN_LOST (R39): no valid marker for three periods. -/
def ftSyncInLost (c : Chip) : Chip :=
  if !c.past c.ft.lastMarker (3 * 2 ^ 24) ∨ c.ft.syncCand.isNone then c
  else
    let was : FtSource := c.ft.source
    let f : FabricTime := { c.ft with syncCand := none, usable := false, expect := none, lastFrame := none, frameTrace := false }
    let c : Chip := { c with ft := f }
    if was = .sync then sourceLost c else c

/-- FT_SYNC_OUT_MARKER (R42): the marker and frame of a new period of 2^20 ns. -/
def ftSyncOutMarker (c : Chip) : Chip :=
  let p := c.now / 2 ^ 24
  if c.ft.lastOut = some p then c
  else
    let trace : Bool := c.ft.frameTrace && c.ft.source == .sync
    Chip.emit { c with ft := { c.ft with lastOut := some p } } (.syncOut (p + 1) c.ft.cls trace)

/-! ### The time exchange -/

/-- A link no longer gives time: its candidate goes, and the source is lost if it was selected (R39). -/
def linkTimeLost (c : Chip) (l : Nat) : Chip :=
  let sel := c.ft.source == .link && c.ft.link == l
  let c := { c with ft := { c.ft with cands := c.ft.cands.put l none, missed := c.ft.missed.put l 0,
                                      exch := c.ft.exch.put l {} } }
  if sel then sourceLost c else c

/-- A time exchange of a link is missed; the fourth in a row loses the source (R39). -/
def exchangeMissed (c : Chip) (l : Nat) : Chip :=
  let n := c.ft.missed.look l + 1
  let c := { c with ft := { c.ft with exch := c.ft.exch.put l {}, missed := c.ft.missed.put l n } }
  if 4 ≤ n then linkTimeLost c l else c

/-- R250: the CTRL_UNSEQ messages of a 2^16 ns period are due on an ACTIVE link; on another link that gives time the exchange of the
period is missed (R39). The sources are reviewed once in the period. -/
def timeExchange (l : Nat) (c : Chip) : Chip :=
  let p := c.now / 2 ^ 20
  let x := c.link l
  if !linkExists c l ∨ c.ft.lastXchg.look l = some p then c
  else
    let c := { c with ft := { c.ft with lastXchg := c.ft.lastXchg.put l (some p) } }
    if x.state ≠ .active then timeReview (if (c.ft.cands.look l).isSome then exchangeMissed c l else c)
    else
      let e := c.ft.nextExch
      timeReview ({ c with ft := { c.ft with nextExch := (e + 1) % 256 } }.setLink l
        { x with unseq := x.unseq ++ [(0, e, 0), (2, 0, 0)] })

/-- A control message has arrived in a flit of the link and is not yet acted on (R249, R250). -/
def hasArrived (c : Chip) (l : Nat) (m : CtrlMsg) : Bool := linkExists c l && (c.link l).inbox.contains m

/-- The message is acted on. -/
def takeMsg (c : Chip) (l : Nat) (m : CtrlMsg) : Chip := c.modLink l (fun x => { x with inbox := x.inbox.erase m })

/-- TIME_REQ (R250): the answer is due, with T2 the Fabric Time of arrival. -/
def timeReq (l e : Nat) (t1 : DWord) (sub : Nat) (c : Chip) : Chip :=
  let x := c.link l
  if !hasArrived c l (.timeReq e t1) then c
  else c.setLink l { x with inbox := x.inbox.erase (.timeReq e t1), unseq := x.unseq ++ [(1, e, c.ft.count + BitVec.ofNat 64 sub)] }

/-- R260: time messages of a link with IDE required and no keys are not used for discipline. -/
def timeTrusted (x : StvLink) : Bool := !(x.ideReq && x.haveTx.isEmpty && x.haveRx.isEmpty)

/-- TIME_RSP (R46, R49): delay and offset of the exchange. -/
def timeRsp (l e : Nat) (t2 t3 : DWord) (sub : Nat) (c : Chip) : Chip :=
  let x := c.ft.exch.look l
  if !hasArrived c l (.timeRsp e t2 t3) then c
  else if !x.active ∨ x.exchId ≠ e then takeMsg c l (.timeRsp e t2 t3)
  else
    let c := takeMsg c l (.timeRsp e t2 t3)
    let t4 : Int := ((c.now + sub : Nat) : Int)
    let t1 : Int := (x.t1 : Nat)
    let a : Int := ((t2.toNat : Nat) : Int) - t1
    let b : Int := t4 - ((t3.toNat : Nat) : Int)
    let dly := halfTicks ((t4 - t1) - (((t3.toNat : Nat) : Int) - ((t2.toNat : Nat) : Int)) - c.ft.linkAsym.look l) c.freeCtr
    let off := halfTicks (a - b) (c.freeCtr + 1)
    let trust := timeTrusted (c.link l)
    let c := { c with ft := { c.ft with exch := c.ft.exch.put l {}, missed := c.ft.missed.put l 0,
                                        offset := c.ft.offset.put l off, delay := c.ft.delay.put l dly },
                      freeCtr := c.freeCtr + 2 }
    let c := c.modLink l (fun y => { y with delay := dly.toNat % 2 ^ 24, measured := true })
    if c.ft.source = .link ∧ c.ft.link = l ∧ trust then measure c off else c

/-- TIME_ANNOUNCE (R38, R39): the announcement is a candidate; 63 hops or more are discarded. -/
def timeAnnounce (l cls hops : Nat) (traceable : Bool) (root : DWord) (c : Chip) : Chip :=
  let m : CtrlMsg := .announce cls hops traceable root
  if !hasArrived c l m then c
  else if 63 ≤ hops ∨ !timeTrusted (c.link l) then takeMsg c l m
  else
    let c := takeMsg c l m
    let x : FtCand := { cls := cls, root := root.toNat, hops := hops + 1 }
    candReported { c with ft := { c.ft with cands := c.ft.cands.put l (some x) } } (l + 1)

/-- TIME_RSP_MISSED (R250, R39): no TIME_RSP within 16 µs; four in a row lose the source. -/
def timeRspMissed (l : Nat) (c : Chip) : Chip :=
  let x := c.ft.exch.look l
  if !x.active ∨ !c.past x.since (us 16) then c
  else exchangeMissed c l

/-- FT_HOLDOVER_LIMIT_EXPIRE (R49). -/
def ftHoldoverLimitExpire (c : Chip) : Chip :=
  if c.ft.mode = .holdover ∧ c.past c.ft.holdSince (sec c.ft.holdLimit) then holdoverExpire c else c

/-- R43: in SET the count runs at the frequency of FT_OSC while OSC_OK is 1, otherwise at the nominal one. -/
def setRate (c : Chip) : Chip :=
  if c.ft.mode = .set then { c with ft := { c.ft with rate := if c.ft.oscOk then freeRate c.freeCtr else 0 } }.usedFree else c

/-- FT_OSC_FAIL (R43, R49). -/
def ftOscFail (c : Chip) : Chip :=
  if !c.ft.oscOk then c
  else
    let c := raise (setRate { c with ft := { c.ft with oscOk := false } }) 35
    if c.ft.mode = .holdover then holdoverExpire c else c

/-- FT_OSC_RESTORED: FT_OSC is present and within 50 ppm of disciplined time (Table 2.1). -/
def ftOscRestored (c : Chip) : Chip := if c.ft.oscOk then c else setRate { c with ft := { c.ft with oscOk := true } }

/-- FT_STEP (R45): the step that waits takes effect at its commit quantum boundary. -/
def ftStep (c : Chip) : Chip :=
  match c.ft.pendStep with
  | none => c
  | some (d, due) =>
    if c.now < due then c
    else
      let c' := { c with ft := { c.ft with pendStep := none } }
      if c.ft.mode = .acquire then stepCount c' d else c'

/-! ### The time commands (Table 12.8) -/

/-- TIME_SET's own checks (R43). -/
def timeSetCheck (c : Chip) (d : Desc) : Option Status :=
  if !d.zeroBut [(16, 8)] then some .badParam
  else if c.ft.mode ≠ .free ∧ c.ft.mode ≠ .set then some .notPermitted
  else if d.u64 16 < c.now then some .badParam
  else none

/-- TIME_SET (R43): accepted, it waits for its load cycle, the next commit quantum boundary. -/
def timeSet (r : Nat) (d : Desc) (c : Chip) : Chip :=
  runCmd 0x0A00 (fun c x => match timeSetCheck c d with
    | some st => refuse c x st
    | none =>
      let p : FtPending := { value := d.u64 16, load := (c.now / quantum + 1) * quantum, cmd := x }
      { c with ft := { c.ft with pendSet := c.ft.pendSet ++ [p] } }) r d c

/-- One accepted TIME_SET is loaded: the count becomes the larger of VALUE and the running count. A TIME_SET whose load cycle comes in
ACQUIRE is loaded as in SET (the model's choice, notes/assumptions/156.md). -/
def loadOne (c : Chip) (p : FtPending) : Chip :=
  let old := c.ft.mode
  let delta := p.value - c.now
  let c := if old = .free then loadCount c delta else stepCount c delta
  let c := setRate { c with ft := { c.ft with mode := .set, source := .manager, cls := 14, hops := 0, root := c.regs.serial.toNat,
                                              stateIvl := c.ivl, timeIn := c.ft.timeIn.upd old.code (· + (c.ivl - c.ft.stateIvl)) } }
  let c := timeEvent c old (old != .free && decide (0 < delta))
  endCmd c p.cmd .ok (leBytes 8 c.now)

/-- TIME_SET_LOAD (R43): the load cycle of every accepted TIME_SET that is due, in order. -/
def timeSetLoad (c : Chip) : Chip :=
  let due := c.ft.pendSet.filter (fun p => decide (p.load ≤ c.now))
  let c := { c with ft := { c.ft with pendSet := c.ft.pendSet.filter (fun p => decide (c.now < p.load)) } }
  due.foldl loadOne c

/-- TIME_CONFIG's own checks (Tables 2.5, 12.8). -/
def timeConfigCheck (c : Chip) (d : Desc) : Option Status :=
  let m := d.u16 16
  if !d.zeroBut [(16, 14)] ∨ 32 ≤ m then some .badParam
  else if bitOf m 1 ∧ (d.u32 20 < 1 ∨ 1000000 < d.u32 20) then some .badParam
  else if bitOf m 2 ∧ (d.u16 24 < 1 ∨ 3600 < d.u16 24) then some .badParam
  else if bitOf m 3 ∧ 1 < d.byte 26 then some .badParam
  else if bitOf m 4 ∧ 15 < d.byte 27 then some .badParam
  else if bitOf m 4 ∧ !linkExists c (d.byte 27) then some .noSuchTarget
  else none

/-- TIME_CONFIG: the selected parameters of Table 2.5. -/
def timeConfigSet (c : Chip) (d : Desc) : Chip :=
  let m := d.u16 16
  { c with ft := { c.ft with
    inDelay := if bitOf m 0 then d.u16 18 else c.ft.inDelay,
    stepThresh := if bitOf m 1 then d.u32 20 else c.ft.stepThresh,
    holdLimit := if bitOf m 2 then d.u16 24 else c.ft.holdLimit,
    syncUse := if bitOf m 3 then d.byte 26 == 1 else c.ft.syncUse,
    linkAsym := if bitOf m 4 then c.ft.linkAsym.put (d.byte 27) (signed 16 (d.u16 28)) else c.ft.linkAsym } }

/-- A use of FT_SYNC_IN that ends loses it as a source (Table 2.5, R39). -/
def syncUseEnds (c : Chip) : Chip := if !c.ft.syncUse ∧ c.ft.source = .sync then sourceLost c else c

/-- TIME_CONFIG. -/
def timeConfig (r : Nat) (d : Desc) (c : Chip) : Chip :=
  runCmd 0x0A01 (fun c x => match timeConfigCheck c d with
    | some st => refuse c x st
    | none => endCmd (syncUseEnds (timeConfigSet c d)) x .ok) r d c

/-- What TIME_QUERY reports: FT_STATUS, FT_NOW, offset and delay per link, time in each state (Table 12.8). -/
def timeValues (c : Chip) : List Nat :=
  [(ftStatus c.ft).toNat, c.now] ++
  (List.range 16).flatMap (fun l => [(BitVec.ofInt 64 (c.ft.offset.look l)).toNat, (BitVec.ofInt 64 (c.ft.delay.look l)).toNat]) ++
  (List.range 6).map (fun i => c.ft.timeIn.look i + (if c.ft.mode.code = i then c.ivl - c.ft.stateIvl else 0))

/-- TIME_QUERY. -/
def timeQuery (r : Nat) (d : Desc) (c : Chip) : Chip :=
  runCmd 0x0A02 (fun c x =>
    if !d.bufferOk r ∨ !d.zeroBut [(16, 12)] then refuse c x .badParam
    else endQuery c x d (Config.queryBytes 0x0A02) (openFields (timeValues c))) r d c

end Sys2Proof.Machine
end

