-- ==== Sys2Proof/Machine/Permits.lean ====
section
/-!
DEFINITION. Permits on Stolevo paths (R80–R85), the path guard and duplicate suppression (R86–R89), fabric ID entries
(R59–R61).
-/
namespace Sys2Proof.Machine

/-- A fabric ID entry. -/
abbrev feOf (c : Chip) (id : Nat) : DWord := c.sw.fabric.look id

/-- This device's own management-complex ID (R238). -/
def ownId (c : Chip) : Nat :=
  ((c.sw.fabric.find? (fun e => feValid e.2 && feLocal e.2 && feKind e.2 == 2)).map (·.1)).getD 0

/-- The link that path index `j` takes towards an ID (R60). -/
def routeLink (c : Chip) (id j : Nat) : Option Nat :=
  let e := feOf c id
  if feValid e ∧ !feLocal e ∧ linkExists c (feLink e j) then some (feLink e j) else none

/-- The external port of a Stolevo Link (R230): 16 c_k + 4 (l mod 4), that is four times its quarter-course. -/
def linkPort (c : Chip) (l : Nat) : Nat := 4 * (linkQuarter c l).getD 0

/-- The device that holds a fabric ID (R81): free, since no rule gives it (notes/assumptions/12.md). -/
abbrev deviceOf (id : Nat) : Nat := Config.deviceOf id

/-- The path index of a packet at its source (R60). -/
def pathFor (e : DWord) : Option Nat :=
  if feUsable e (fePrimary e) then some (fePrimary e) else (List.range 4).find? (feUsable e)

/-- A permit message joins those that wait for a link (R82). -/
def sendPermit (c : Chip) (l : Nat) (k : PermitKind) (m : PermitMsg) (debited : Nat) : Chip :=
  c.modLink l (fun x => { x with permits := x.permits ++ [{ kind := k, m := m, debited := debited, since := c.ivl }] })

/-! ### The permit pool (R80) -/

/-- The key of a balance, and of a debit on behalf of a source; class 10 is the standing SC0 balance. -/
abbrev balKey (dev path cls : Nat) : Nat := (dev * 4 + path) * 11 + cls
/-- Permits debited on behalf of a source device. -/
def debitsOf (c : Chip) (src : Nat) : Nat := (c.sw.debits.filter (fun e => e.1 / 44 == src)).foldl (fun n e => n + e.2) 0

/-- Cells of the permit pool. -/
abbrev poolCells : Nat := 16777216
/-- The shared remainder of the pool. -/
def poolShared (c : Chip) : Nat := poolCells - 10 * c.sw.timers.classReserve - c.sw.sc0Part

/-- Permits outstanding on this device's pool, with the standing ones still owed (R30). -/
def poolOut (c : Chip) : Nat := c.sw.permShared + c.sw.permSc0 + c.sw.sc0Owed + c.sw.permCls.foldl (fun n e => n + e.2) 0

/-- What the pool can debit for a class: its class reserve and the shared part; for SC0 the SC0 part. Never more than R30 leaves. -/
def permitRoom (c : Chip) (cls : Nat) (sc0 : Bool) : Nat :=
  min (poolCells - poolOut c)
    (if sc0 then c.sw.sc0Part - c.sw.permSc0
     else (poolShared c - c.sw.permShared) + (c.sw.timers.classReserve - c.sw.permCls.look cls))

/-- `n` permits are debited on behalf of a source device and path, shared part first. -/
def debitPool (c : Chip) (src path cls n : Nat) (sc0 : Bool) : Chip :=
  let a := min n (poolShared c - c.sw.permShared)
  let d := c.sw.debits.upd (balKey src path (if sc0 then 10 else cls)) (· + n)
  { c with sw :=
    if sc0 then { c.sw with permSc0 := c.sw.permSc0 + n, debits := d }
    else { c.sw with permShared := c.sw.permShared + a, permCls := c.sw.permCls.upd cls (· + (n - a)), debits := d } }

/-- Standing SC0 permits that are owed are debited as far as R30 leaves room. -/
def settleStanding (c : Chip) : Chip :=
  let k := min c.sw.sc0Owed (poolCells + c.sw.sc0Owed - poolOut c)
  { c with sw := { c.sw with sc0Owed := c.sw.sc0Owed - k, permSc0 := c.sw.permSc0 + k } }

/-- `n` permits are credited, class reserve first (R83). -/
def creditPool (c : Chip) (src path cls n : Nat) (sc0 : Bool) : Chip :=
  let a := min n (c.sw.permCls.look cls)
  let d := c.sw.debits.upd (balKey src path (if sc0 then 10 else cls)) (· - n)
  settleStanding { c with sw :=
    if sc0 then { c.sw with permSc0 := c.sw.permSc0 - n, debits := d }
    else { c.sw with permShared := c.sw.permShared - (n - a), permCls := c.sw.permCls.upd cls (· - a), debits := d } }

/-- Every permit debited under one key of `debits`, but for `keep` of them, is credited. -/
def creditKey (c : Chip) (key keep : Nat) : Chip :=
  creditPool c (key / 44) (key / 11 % 4) (key % 11) (c.sw.debits.look key - keep) (key % 11 == 10)

/-! ### Balances at the source (R81–R83) -/

def setBalance (c : Chip) (k : Nat) (b : Balance) : Chip := { c with sw := { c.sw with balances := c.sw.balances.put k b } }

/-- R82: a source asks when a balance is below 32 cells and no request is outstanding, for PERMIT_MAX_REQ cells. -/
def askPermits (c : Chip) (dev path cls : Nat) : Chip :=
  let k := balKey dev path cls
  let b := c.sw.balances.look k
  if 10 ≤ cls ∨ 32 ≤ b.permits ∨ b.reqAt.isSome ∨ b.retryAt.isSome then c
  else match routeLink c dev path with
    | none => c
    | some l =>
      sendPermit (setBalance c k { b with reqAt := some c.ivl }) l .req
        { src := ownId c, dst := dev, path := path, cls := cls, count := c.sw.timers.maxReq } 0

/-- The class of a packet's balance. -/
abbrev balCls (q : QPkt) : Nat := if q.sc = 0 then 10 else q.cls.code

/-- A packet leaves this source onto a Stolevo Link: its permits are used (R81). -/
def usePermits (c : Chip) (q : QPkt) : Chip :=
  let k := balKey (deviceOf q.dst) q.path (balCls q)
  let b := c.sw.balances.look k
  askPermits (setBalance c k { b with permits := b.permits - q.cells, lastUse := c.ivl }) (deviceOf q.dst) q.path (balCls q)

/-- PERMIT_REQ (R82, R249), applied once its flit is released: relayed, or at the far egress debited and answered with a grant. -/
def permitReq (l : Nat) (m : PermitMsg) (c : Chip) : Chip :=
  if !hasArrived c l (.permit .req m) then c
  else
    let c := takeMsg c l (.permit .req m)
    if m.dst = ownId c then
      match routeLink c m.src m.path with
      | none => c
      | some back =>
        let g := min m.count (permitRoom c m.cls m.sc0)
        sendPermit (debitPool c m.src m.path m.cls g m.sc0) back .grant { m with count := g } g
    else match routeLink c m.dst m.path with
      | none => c
      | some on => sendPermit c on .req m 0

/-- PERMIT_GRANT (R82, R84, R249): added to the balance at the source, which asks again while it stays below 32 cells; a transit
device debits what it holds, relays that, and returns the rest. A standing SC0 permit passes unchanged. -/
def permitGrant (l : Nat) (m : PermitMsg) (c : Chip) : Chip :=
  if !hasArrived c l (.permit .grant m) then c
  else
    let c := takeMsg c l (.permit .grant m)
    if m.src = ownId c then
      let k := balKey m.dst m.path (if m.sc0 then 10 else m.cls)
      let b := c.sw.balances.look k
      let again := if m.count = 0 then some c.ivl else b.retryAt
      askPermits (setBalance c k { b with permits := b.permits + m.count, reqAt := none, lastUse := c.ivl, retryAt := again })
        m.dst m.path (if m.sc0 then 10 else m.cls)
    else match routeLink c m.src m.path with
      | none => c
      | some back =>
        if m.sc0 then sendPermit c back .grant m 0
        else
          let g := min m.count (permitRoom c m.cls false)
          let c := sendPermit (debitPool c m.src m.path m.cls g false) back .grant { m with count := g } g
          if g = m.count then c
          else match routeLink c m.dst m.path with
            | none => c
            | some on => sendPermit c on .ret { m with count := m.count - g } 0

/-- PERMIT_RETURN (R83, R249): each device on the path credits the amount. -/
def permitReturn (l : Nat) (m : PermitMsg) (c : Chip) : Chip :=
  if !hasArrived c l (.permit .ret m) then c
  else
    let c := creditPool (takeMsg c l (.permit .ret m)) m.src m.path m.cls m.count m.sc0
    if m.dst = ownId c then c
    else match routeLink c m.dst m.path with
      | none => c
      | some on => sendPermit c on .ret m 0

/-- PERMIT_REQUEST_RETRY (Table 3.6): 1 µs after a grant of 0 the source asks again. -/
def permitRequestRetry (dst path cls : Nat) (c : Chip) : Chip :=
  let k := balKey dst path cls
  let b := c.sw.balances.look k
  match b.retryAt with
  | none => c
  | some t => if c.past t (us 1) then askPermits (setBalance c k { b with retryAt := none }) dst path cls else c

/-- PERMIT_IDLE_EXPIRE (R83): an unused balance is returned. Standing SC0 balances stay (R84). -/
def permitIdleExpire (dst path cls : Nat) (c : Chip) : Chip :=
  let k := balKey dst path cls
  let b := c.sw.balances.look k
  if 10 ≤ cls ∨ b.permits = 0 ∨ !c.past b.lastUse (us c.sw.timers.permitIdle) then c
  else match routeLink c dst path with
    | none => c
    | some l => sendPermit (setBalance c k { b with permits := 0 }) l .ret
        { src := ownId c, dst := dst, path := path, cls := cls, count := b.permits } 0

/-- PERMIT_REQ_LOST (R255): 100 µs without a grant; the source may ask again. -/
def permitReqLost (dst path cls : Nat) (c : Chip) : Chip :=
  let k := balKey dst path cls
  let b := c.sw.balances.look k
  match b.reqAt with
  | none => c
  | some t => if c.past t (us 100) then askPermits (setBalance c k { b with reqAt := none }) dst path cls else c

/-- R83, R84: `n` cells of a packet that permits of this device cover leave it. `far`: it is their far egress, from which an SC0
cell's permit goes back to its source. -/
def permitLeaves (c : Chip) (q : QPkt) (n : Nat) (far : Bool) : Chip :=
  if !q.fromStv ∨ n = 0 then c
  else if q.sc ≠ 0 then creditPool c q.srcDev q.path q.cls.code n false
  else if !far then c
  else match routeLink c q.srcDev q.path with
    | none => c
    | some back => sendPermit c back .grant
        { src := q.srcDev, dst := ownId c, path := q.path, cls := q.cls.code, sc0 := true, count := n } 0

/-! ### PATH_USABLE -/

/-- The entry with a PATH_USABLE bit written. -/
def withUsable (e : DWord) (j : Nat) (b : Bool) : DWord :=
  if b then e ||| (1#64 <<< (12 + j)) else e &&& ~~~(1#64 <<< (12 + j))

/-- The output, path and link by which a packet of this device leaves for an ID; on the preferred path when none is usable. -/
def sourceRoute (c : Chip) (id : Nat) : Nat × Nat × Bool :=
  let e := feOf c id
  match pathFor e with
  | some j => (feLink e j, j, false)
  | none => (feLink e (fePrimary e), fePrimary e, true)

/-- A packet at its source with the route that the entry now gives (R60). -/
def rerouted (c : Chip) (q : QPkt) : QPkt :=
  let (l, j, no) := sourceRoute c q.dst
  { q with egress := .link l (linkPort c l), output := (linkQuarter c l).getD 0, path := j, noPath := no }

/-- A packet that comes from another lane takes its place among those that have not begun, in order of lookup (R62). -/
def joinBySeq (q : QPkt) : List QPkt → List QPkt
  | [] => [q]
  | h :: t => if h.moved = 0 ∧ q.seq < h.seq then q :: h :: t else h :: joinBySeq q t

/-- Packets that wait for want of a path take the one that has become usable (R60). One whose lane stays the same keeps its place in
it (R62). -/
def rerouteWaiting (c : Chip) (id : Nat) : Chip :=
  let waits := fun (q : QPkt) => q.noPath && q.dst == id
  let leaves := fun (key : Nat) (q : QPkt) => waits q && laneOf (rerouted c q) != key
  let out := (c.sw.voq.flatMap (fun l => l.2.filter (leaves l.1))).map (rerouted c)
  let voq := c.sw.voq.filterMap (fun l =>
    let r := (l.2.filter (fun q => !leaves l.1 q)).map (fun q => if waits q then rerouted c q else q)
    if r.isEmpty then none else some (l.1, r))
  out.foldl (fun c q => { c with sw := { c.sw with voq := c.sw.voq.upd (laneOf q) (joinBySeq q) } })
    { c with sw := { c.sw with voq := voq } }

/-- R155, R195: caching agents and backing devices behind an ID lose, or have again, a usable path. -/
def reachChanged (c : Chip) (id : Nat) : Chip :=
  let e := feOf c id
  if feLocal e then c
  else
    let up := feValid e && (pathFor e).isSome
    let mark : Option Nat → Option Nat := fun d => if up then none else some (d.getD c.ivl)
    let agents : Domain → Domain := fun d => { d with agents := d.agents.map (fun a =>
      (a.1, if a.2.bound && a.2.fab == id then { a.2 with downAt := mark a.2.downAt } else a.2)) }
    let devs := c.pool.devs.map (fun d =>
      (d.1, if d.2.present && d.2.remote && d.2.loc == id then { d.2 with downAt := mark d.2.downAt } else d.2))
    let doms := c.home.domains.map (fun d => (d.1, agents d.2))
    { c with home := { c.home with domains := doms }, pool := { c.pool with devs := devs } }

/-- The switch writes a PATH_USABLE bit (R87, R256). -/
def setUsable (c : Chip) (id j : Nat) (b : Bool) : Chip :=
  let c := reachChanged { c with sw := { c.sw with fabric := c.sw.fabric.put id (withUsable (feOf c id) j b) } } id
  if b then rerouteWaiting c id else c

/-! ### The path guard (R86, R87) -/

/-- The next guard tag for a device, skipping values in quarantine. -/
def nextTagOf (c : Chip) (dev : Nat) : Nat :=
  let held := c.sw.srcHeld
  let rec go : Nat → Nat → Nat
    | 0, t => t
    | n + 1, t => if held.any (fun h => h.1 == dev && h.2.1 == t) then go n ((t + 1) % 65536) else t
  go (held.length + 1) (c.sw.nextTag.look dev)

/-- The oldest tag that awaits a response from a device. -/
def oldestTag (c : Chip) (dev : Nat) : Nat :=
  ((c.sw.guardStore.find? (fun g => g.dst == dev)).map (·.tag)).getD (nextTagOf c dev)

/-- R86: a further deadline-bearing request may be issued to a device. -/
def mayGuard (c : Chip) (dev : Nat) : Bool :=
  decide (c.sw.guardStore.length < 16384) && decide ((nextTagOf c dev + 65536 - oldestTag c dev) % 65536 < 32768)

/-- A deadline-bearing request is issued: its tag and the oldest tag that awaits a response, and its copy in the guard store; source
72 when the store first fills. -/
def issueGuard (c : Chip) (q : QPkt) : Chip × QPkt :=
  let dev := deviceOf q.dst
  let t := nextTagOf c dev
  let q : QPkt := { q with tag := t, oldest := oldestTag c dev }
  let g : GuardEntry := { dst := dev, dstId := q.dst, tag := t, pid := q.pid, path := q.path, since := c.ivl, pkt := q }
  let c := { c with sw := { c.sw with guardStore := c.sw.guardStore ++ [g], nextTag := c.sw.nextTag.put dev ((t + 1) % 65536) } }
  (if c.sw.guardStore.length = 16384 ∧ !c.sw.guardFull then raise { c with sw := { c.sw with guardFull := true } } 72 else c, q)

/-- R86: source 72 may be raised again once occupancy has fallen below half. -/
def guardRoom (c : Chip) : Chip :=
  if c.sw.guardFull ∧ c.sw.guardStore.length < 8192 then { c with sw := { c.sw with guardFull := false } } else c

/-- The next usable path index after `j` (R87): searched upward from `j`, modulo 4 (notes/assumptions/165.md). -/
def nextPath (e : DWord) (j : Nat) : Option Nat := ([1, 2, 3].map (fun i => (j + i) % 4)).find? (feUsable e)

/-- The copy of a re-issued request, ready to be enqueued on path `j`. -/
def reissueCopy (c : Chip) (g : GuardEntry) (j : Nat) : QPkt :=
  let l := feLink (feOf c g.dstId) j
  { g.pkt with path := j, egress := .link l (linkPort c l), output := (linkQuarter c l).getD 0, moved := 0, places := [],
               spilled := 0, taken := 0, noPath := false, whole := true, tails := [], noCredit := true, reissue := true,
               oldest := oldestTag c g.dst }

/-- PATH_GUARD_EXPIRE (R87, R89). The far quarantine list counts as full at 16,384 tags held here for that device
(notes/assumptions/166.md). -/
def pathGuardExpire (dst tag : Nat) (c : Chip) : Chip :=
  match c.sw.guardStore.findIdx? (fun g => g.dst == dst && g.tag == tag) with
  | none => c
  | some i =>
    let g := c.sw.guardStore.getD i {}
    if g.reissued ∨ g.expired ∨ !c.past g.since (ns c.sw.timers.pathGuard) then c
    else
      let keep := fun (c : Chip) (g : GuardEntry) => { c with sw := { c.sw with guardStore := setAt c.sw.guardStore i g } }
      if 16384 ≤ (c.sw.srcHeld.filter (fun h => h.1 == dst)).length then
        raise (keep c { g with expired := true }) 75
      else match nextPath (feOf c g.dstId) g.path with
        | none => raise (keep c { g with expired := true }) 74
        | some j =>
          let c := keep c { g with reissued := true, since := c.ivl, path := j }
          let (c, q) := placeCells c (reissueCopy c g j)
          let c := joinLane c q
          let c := setUsable c g.dstId g.path false
          let c := { c with sw := { c.sw with probes :=
            (c.sw.probes.filter (fun p => p.id ≠ g.dstId ∨ p.path ≠ g.path)) ++ [{ id := g.dstId, path := g.path, last := c.ivl }] } }
          raise c 73

/-- PATH_PROBE (R87): every 100 µs. -/
def pathProbe (id path : Nat) (c : Chip) : Chip :=
  match c.sw.probes.findIdx? (fun p => p.id == id && p.path == path) with
  | none => c
  | some i =>
    let p := c.sw.probes.getD i {}
    if !c.past p.last (us 100) then c
    else Chip.emit { c with sw := { c.sw with probes := setAt c.sw.probes i { p with last := c.ivl } } } (.probe id path)

/-- PROBE_RETURN (R87): the bit is set again. -/
def probeReturn (id path : Nat) (c : Chip) : Chip :=
  if c.sw.probes.any (fun p => p.id == id && p.path == path) then
    setUsable { c with sw := { c.sw with probes := c.sw.probes.filter (fun p => p.id ≠ id ∨ p.path ≠ path) } } id path true
  else c

/-- The window of executed tags of a source follows its announced oldest tag (R88). -/
def windowTo (c : Chip) (src oldest : Nat) : Chip :=
  let b := c.sw.base.look src
  let inWin : List Nat → List Nat := fun ts => ts.filter (fun t => (t + 65536 - oldest) % 65536 < 32768)
  if (oldest + 65536 - b) % 65536 < 32768 then
    { c with sw := { c.sw with base := c.sw.base.put src oldest, executed := c.sw.executed.upd src inWin,
                               applied := c.sw.applied.upd src inWin } }
  else c

/-- Table 3.7: a re-issued write whose bit is set is answered on its path, now if the original write is applied, else once it is. -/
def answerWrite (c : Chip) (src tag path : Nat) : Chip :=
  if (c.sw.applied.look src).contains tag then c.emit (.guardAnswer src tag path false)
  else { c with sw := { c.sw with owed := c.sw.owed ++ [(src, tag, path)] } }

/-- This device has answered a guarded request: it is applied, and the answers owed for it go (Table 3.7). -/
def requestApplied (c : Chip) (r : Option (Nat × Nat)) : Chip :=
  match r with
  | none => c
  | some (src, tag) =>
    let mine : Nat × Nat × Nat → Bool := fun o => o.1 == src && o.2.1 == tag
    let go := c.sw.owed.filter mine
    Chip.emits { c with sw := { c.sw with applied := c.sw.applied.upd src (addOnce · tag),
                                          owed := c.sw.owed.filter (fun o => !mine o) } }
      (go.map (fun o => Msg.guardAnswer o.1 o.2.1 o.2.2 false))

/-- GUARDED_REQUEST_ARRIVAL (R88, Table 3.7). -/
def guardedRequestArrival (src : Nat) (g : GuardedReq) (c : Chip) : Chip :=
  let c := windowTo c src g.oldest
  let done := (c.sw.executed.look src).contains g.tag
  let listed : Nat × Nat × Nat → Bool := fun q => q.1 == src && q.2.1 == g.tag
  if c.sw.quarantine.any listed then
    Chip.emit { c with sw := { c.sw with quarantine := c.sw.quarantine.eraseP listed } } (.guardAnswer src g.tag g.path true)
  else if 32768 ≤ (g.tag + 65536 - c.sw.base.look src) % 65536 then
    { c with sw := { c.sw with belowWin := c.sw.belowWin + 1 } }
  else if !done then
    let c := Chip.emit { c with sw := { c.sw with executed := c.sw.executed.upd src (g.tag :: ·) } } (.execute src g.pid g.write)
    if !g.reissue then c
    else if 16384 ≤ c.sw.quarantine.length then raise c 75
    else { c with sw := { c.sw with quarantine := c.sw.quarantine ++ [(src, g.tag, g.path)] } }
  else if !g.reissue then c
  else if g.write then answerWrite c src g.tag g.path
  else c.emit (.execute src g.pid false)

/-- GUARDED_RESPONSE (R89): the first response frees the entry; `executed`: the original copy had been executed. -/
def guardedResponse (dst tag : Nat) (executed : Bool) (c : Chip) : Chip :=
  match c.sw.guardStore.find? (fun g => g.dst == dst && g.tag == tag) with
  | none => { c with sw := { c.sw with guardLate := c.sw.guardLate + 1 } }
  | some g =>
    guardRoom { c with sw := { c.sw with
      guardStore := c.sw.guardStore.filter (fun x => x.dst ≠ dst ∨ x.tag ≠ tag),
      srcHeld := if g.reissued && !executed then c.sw.srcHeld ++ [(dst, tag, g.pid)] else c.sw.srcHeld } }

/-- DUPLICATE (R89): the tag's value may be used again. -/
def duplicate (dst tag : Nat) (c : Chip) : Chip := 
  { c with sw := { c.sw with srcHeld := c.sw.srcHeld.eraseP (fun h => h.1 == dst && h.2.1 == tag) } }

/-- R91: a peer device has restarted. -/
def peerRestarted (c : Chip) (dev : Nat) : Chip :=
  let c := (c.sw.debits.filter (fun e => e.1 / 44 == dev)).foldl (fun c e => creditKey c e.1 0) c
  guardRoom { c with sw := { c.sw with
    executed := c.sw.executed.del dev, applied := c.sw.applied.del dev, base := c.sw.base.del dev,
    owed := c.sw.owed.filter (fun o => o.1 ≠ dev),
    quarantine := c.sw.quarantine.filter (fun q => q.1 ≠ dev),
    balances := c.sw.balances.filter (fun b => b.1 / 44 ≠ dev),
    srcHeld := c.sw.srcHeld.filter (fun q => q.1 ≠ dev) } }

/-! ### FABRIC_ID_SET and FABRIC_ID_QUERY (R61) -/

/-- A port of this device: one with a role, or the port of a Stolevo Link. -/
def portPresent (c : Chip) (p : Nat) : Bool :=
  decide (p < 128) && ((c.port p).role != 0 || (p % 4 == 0 && (quarterLink c (p / 4)).isSome))

/-- FABRIC_ID_SET's own checks, on the state it would change. -/
def fabricIdSetCheck (c : Chip) (d : Desc) : Option Status :=
  let e := BitVec.ofNat 64 (d.u64 16)
  if !d.zeroBut [(16, 8)] ∨ feKind e = 3 ∨ bitOf e.toNat 11 ∨ e.toNat / 2 ^ 40 ≠ 0 then some .badParam
  else if feLocal e ∧ ((feKind e = 0 ∧ !portPresent c (feIndex e)) ∨ (feKind e = 1 ∧ 4 ≤ feIndex e)) then some .badParam
  else if (List.range 4).any (fun j => feUsable e j && !linkExists c (feLink e j)) then some .badParam
  else none

/-- The entry is written; probes of the ID end, and packets that waited for a path take the new entry's. -/
def fabricIdSetDo (c : Chip) (d : Desc) : Chip :=
  let e := BitVec.ofNat 64 (d.u64 16)
  let links := c.stv.links.map (fun l => (l.1, { l.2 with cleared := l.2.cleared.filter (fun k => k.1 ≠ d.tgt) }))
  let c := { c with stv := { c.stv with links := links } }
  rerouteWaiting (reachChanged { c with sw := { c.sw with
    fabric := c.sw.fabric.put d.tgt e, probes := c.sw.probes.filter (fun p => p.id ≠ d.tgt) } } d.tgt) d.tgt

/-- FABRIC_ID_QUERY: the entry as it stands. -/
def fabricIdQuery (r : Nat) (d : Desc) (c : Chip) : Chip :=
  runCmd 0x0161 (fun c x => if !d.zeroBut [] then refuse c x .badParam else endCmd c x .ok (leBytes 8 (feOf c d.tgt).toNat)) r d c

end Sys2Proof.Machine
end

