-- ==== Sys2Proof/Machine/Codes.lean ====
section
/-!
DEFINITION. The codes of the wire and of HBM: CRC-64 (R235), arithmetic in GF(2^8) and the Reed–Solomon code of a Stolevo flit
(R236).
-/
namespace Sys2Proof.Machine

/-! ### Evaluation in order

A fold over the bytes of a flit evaluates its value at each byte, so that the kernel does not build up one deep term. -/

/-- `k n`, with `n` evaluated first. -/
def strictly {α : Type} (n : Nat) (k : Nat → α) : α :=
  match n with
  | 0 => k 0
  | m + 1 => k (m + 1)

/-- A fold of bytes, evaluated byte by byte. -/
def foldBytes (f : Byte → Byte → Byte) : List Byte → Byte → Byte
  | [], s => s
  | d :: t, s => strictly (f s d).toNat (fun n => foldBytes f t (BitVec.ofNat 8 n))

/-- The list itself, each byte evaluated. -/
def evalBytes : List Byte → List Byte
  | [] => []
  | b :: t => strictly b.toNat (fun n => BitVec.ofNat 8 n :: evalBytes t)

/-! ### CRC-64 (R235) and CRC-32C -/

/-- The polynomial 0x42F0E1EBA9EA3693 with its bits reversed: data is processed least significant bit first. -/
abbrev crc64Poly : Nat := 0xC96C5795D7870F42

/-- One bit of the CRC register. -/
def crc64Bit (r : Nat) : Nat := if r % 2 = 0 then r / 2 else Nat.xor (r / 2) crc64Poly

/-- The bytes, one after the other. -/
def crc64Run : List Byte → Nat → Nat
  | [], r => r
  | b :: t, r => strictly (Nat.repeat crc64Bit 8 (Nat.xor r b.toNat)) (crc64Run t)

/-- CRC-64 of R235: the register starts at all ones and is XORed with all ones at the end. -/
def crc64 (bs : List Byte) : DWord := ~~~(BitVec.ofNat 64 (crc64Run bs 0xFFFFFFFFFFFFFFFF))

/-- CRC-32C of bytes, reflected, initial value and final inversion all ones. -/
def crc32c (bs : List Byte) : Nat :=
  let step : BitVec 32 → Byte → BitVec 32 := fun r b =>
    (List.range 8).foldl (fun (r : BitVec 32) _ => if r.getLsbD 0 then (r >>> 1) ^^^ 0x82F63B78#32 else r >>> 1)
      (r ^^^ b.setWidth 32)
  (~~~(bs.foldl step 0xFFFFFFFF#32)).toNat

/-! ### GF(2^8) -/

/-- Multiplication by x modulo x^8 + `p`. -/
def gfTwice (p a : Byte) : Byte := if a.msb then (a <<< 1) ^^^ p else a <<< 1

/-- The product of two elements of GF(2^8) modulo x^8 + `p`. -/
def gfMul (p a b : Byte) : Byte :=
  (List.range 8).foldl (fun s i => let s := gfTwice p s; if b.getLsbD (7 - i) then s ^^^ a else s) 0

/-- The field of the Reed–Solomon codes: 0x11D (R211, R236). -/
abbrev rsPoly : Byte := 0x1D

/-- The power n of α = 0x02. -/
def gfAlpha (n : Nat) : Byte := Nat.repeat (gfTwice rsPoly) n 1

/-- The inverse, a^254. -/
def gfInv (a : Byte) : Byte := foldBytes (gfMul rsPoly) (List.replicate 253 a) a

/-- The value of a word, highest degree first, at α^k. -/
def gfEval (k : Nat) (w : List Byte) : Byte := foldBytes (fun s d => gfMul rsPoly (gfAlpha k) s ^^^ d) w 0

/-! ### The Reed–Solomon code of a stored line (R211) -/

/-- The generator polynomial (x − α^0) … (x − α^4), without its leading 1, highest degree first. -/
def hbmGen : List Byte :=
  ((List.range 5).foldl (fun (g : List Byte) i =>
    (g ++ [0]).zipWith (· ^^^ ·) (0 :: g.map (gfMul rsPoly (gfAlpha i)))) [1]).drop 1

/-- The five check symbols of 67 symbols, symbol 0 the highest degree: the remainder by the generator. -/
def hbmCheck (ds : List Byte) : List Byte :=
  ds.foldl (fun r d =>
    let f := d ^^^ r.getD 0 0
    evalBytes ((r.drop 1 ++ [0]).zipWith (fun x g => x ^^^ gfMul rsPoly f g) hbmGen)) [0, 0, 0, 0, 0]

/-- A stored line: 64 data bytes in address order, 24 bits of metadata, five check symbols. -/
def hbmEncode (ds : List Byte) (meta_ : BitVec 24) : List Byte :=
  let w := ds ++ [meta_.extractLsb' 0 8, meta_.extractLsb' 8 8, meta_.extractLsb' 16 8]
  w ++ hbmCheck w

/-- What the decoder finds: no error, the corrected word with the number of symbols corrected, or an error it cannot correct. -/
inductive HbmDecoded where
  | clean | fixed (symbols : Nat) (word : List Byte) | detected
  deriving DecidableEq, Repr

/-- One symbol error: its place, from the syndromes. -/
def hbmOne (s : Nat → Byte) : Option (Nat × Byte) :=
  if s 0 = 0 then none
  else ((List.range 72).find? (fun i => (List.range 4).all (fun k => gfMul rsPoly (s k) (gfAlpha (71 - i)) == s (k + 1)))).map (fun i => (i, s 0))

/-- Two symbol errors: the roots of the locator that the syndromes give, and the values there. -/
def hbmTwo (s : Nat → Byte) : Option ((Nat × Byte) × (Nat × Byte)) :=
  let m := gfMul rsPoly
  let det := m (s 1) (s 1) ^^^ m (s 0) (s 2)
  let l1 := m (gfInv det) (m (s 0) (s 3) ^^^ m (s 1) (s 2))
  let l2 := m (gfInv det) (m (s 1) (s 3) ^^^ m (s 2) (s 2))
  let root : Nat → Bool := fun i => let x := gfAlpha (71 - i); m x x ^^^ m l1 x ^^^ l2 == 0
  if det = 0 ∨ s 4 ^^^ m l1 (s 3) ^^^ m l2 (s 2) ≠ 0 then none
  else match (List.range 72).filter root with
    | [i, j] =>
      let e := m (gfInv (gfAlpha (71 - i) ^^^ gfAlpha (71 - j))) (s 1 ^^^ m (s 0) (gfAlpha (71 - j)))
      if e = 0 ∨ s 0 = e then none else some ((i, e), (j, s 0 ^^^ e))
    | _ => none

/-- The decoder of R211: it corrects up to two symbols. Three are always detected; four or more may be detected, or taken for another word. -/
def hbmDecode (w : List Byte) : HbmDecoded :=
  let s : Nat → Byte := fun k => gfEval k w
  let put : List Byte → Nat × Byte → List Byte := fun w e => setAt w e.1 (w.getD e.1 0 ^^^ e.2)
  if (List.range 5).all (fun k => s k == 0) then .clean
  else match hbmOne s with
    | some e => .fixed 1 (put w e)
    | none => match hbmTwo s with
      | some (a, b) => .fixed 2 (put (put w a) b)
      | none => .detected

/-! ### The Reed–Solomon code of an interleave (R236) -/

/-- The two check symbols of data symbols, highest degree first: the remainder by (x − 1)(x − α) = x² + 3x + 2. -/
def fecCheck : List Byte → (r : Byte × Byte := (0, 0)) → Byte × Byte
  | [], r => r
  | d :: t, r =>
    let f := d ^^^ r.1
    strictly (gfTwice rsPoly f).toNat (fun b => strictly (r.2 ^^^ f ^^^ BitVec.ofNat 8 b).toNat (fun a =>
      fecCheck t (BitVec.ofNat 8 a, BitVec.ofNat 8 b)))

/-- The syndromes of a word: its values at 1 and at α. -/
def fecSyndrome (w : List Byte) : Byte × Byte :=
  (foldBytes (fun s d => s ^^^ d) w 0, foldBytes (fun s d => gfTwice rsPoly s ^^^ d) w 0)

/-- One interleave of 66 symbols decoded: the corrected word and how many symbols were corrected, none where it cannot be. -/
def fecFix (w : List Byte) : Option (List Byte × Nat) :=
  let w := evalBytes w
  let s := fecSyndrome w
  if s.1 = 0 ∧ s.2 = 0 then some (w, 0)
  else if s.1 = 0 then none
  else ((List.range 66).find? (fun i => gfMul rsPoly s.1 (gfAlpha (65 - i)) == s.2)).map (fun i => (setAt w i (w.getD i 0 ^^^ s.1), 1))

/-- Every fourth byte, the first one first. -/
def everyFourth : List Byte → List Byte
  | a :: _ :: _ :: _ :: t => a :: everyFourth t
  | a :: _ => [a]
  | [] => []

/-- Interleave `i` of a list of bytes: those at places b with b mod 4 = i. -/
def interleave (i : Nat) (bs : List Byte) : List Byte := everyFourth (bs.drop i)

/-- The 264 wire bytes of a link flit of 256 bytes. -/
def fecEncode (bs : List Byte) : List Byte :=
  let cs := (List.range 4).map (fun i => fecCheck (interleave i bs))
  bs ++ cs.map (·.1) ++ cs.map (·.2)

/-- The 256 bytes of a link flit from its wire bytes, and the symbols corrected (R237 step 1). -/
def fecDecode (ws : List Byte) : Option (List Byte × Nat) :=
  match fecFix (interleave 0 ws), fecFix (interleave 1 ws), fecFix (interleave 2 ws), fecFix (interleave 3 ws) with
  | some a, some b, some c, some d =>
    some (((((a.1.zip b.1).zip (c.1.zip d.1)).map (fun x => [x.1.1, x.1.2, x.2.1, x.2.2])).take 64).flatten, a.2 + b.2 + c.2 + d.2)
  | _, _, _, _ => none

end Sys2Proof.Machine
end

