-- ==== Sys2Proof/Machine/Gcm.lean ====
section
/-!
DEFINITION. AES-GCM with a 256-bit key and a 128-bit tag, which R258 names and FIPS 197 and NIST SP 800-38D define
(notes/assumptions/161.md).
-/
namespace Sys2Proof.Machine

/-! ### AES-256 -/

/-- The AES field: 0x11B. -/
abbrev aesPoly : Byte := 0x1B

/-- The inverse a^254; 0 for 0. -/
def aesInv (a : Byte) : Byte :=
  let m := gfMul aesPoly
  let a2 := m a a
  let a3 := m a2 a
  let a6 := m a3 a3
  let a12 := m a6 a6
  let a15 := m a12 a3
  let a30 := m a15 a15
  let a60 := m a30 a30
  let a120 := m a60 a60
  let a126 := m a120 a6
  let a127 := m a126 a
  m a127 a127

/-- The S-box. -/
def aesSub (a : Byte) : Byte :=
  let b := aesInv a
  b ^^^ b.rotateLeft 1 ^^^ b.rotateLeft 2 ^^^ b.rotateLeft 3 ^^^ b.rotateLeft 4 ^^^ 0x63

/-- Two lists of bytes added. -/
def xorBytes (a b : List Byte) : List Byte := List.zipWith (· ^^^ ·) a b

/-- The word that follows in the key schedule; `ws` newest first, `i` its number. -/
def keyWord (ws : List (List Byte)) (i : Nat) : List Byte :=
  let t := ws.getD 0 []
  let t := if i % 8 = 0 then xorBytes ((t.drop 1 ++ t.take 1).map aesSub) [Nat.repeat (gfTwice aesPoly) (i / 8 - 1) 1, 0, 0, 0]
    else if i % 8 = 4 then t.map aesSub else t
  xorBytes (ws.getD 7 []) t

/-- The 60 words of the key schedule. -/
def keySchedule (key : List Byte) : List (List Byte) :=
  let ks := (List.range 8).map (fun i => (key.drop (4 * i)).take 4)
  ((List.range 52).foldl (fun ws i => keyWord ws (i + 8) :: ws) ks.reverse).reverse

/-- The key of a round, 16 bytes. -/
def roundKey (ws : List (List Byte)) (n : Nat) : List Byte := ((ws.drop (4 * n)).take 4).flatten

/-- SubBytes and ShiftRows. -/
def aesShift (s : List Byte) : List Byte := (List.range 16).map (fun i => aesSub (s.getD ((i + 4 * (i % 4)) % 16) 0))

/-- MixColumns. -/
def aesMix (s : List Byte) : List Byte :=
  (List.range 16).map (fun i =>
    let at_ := fun k => s.getD (i / 4 * 4 + (i + k) % 4) 0
    gfTwice aesPoly (at_ 0) ^^^ gfTwice aesPoly (at_ 1) ^^^ at_ 1 ^^^ at_ 2 ^^^ at_ 3)

/-- One block. -/
def aesBlock (ws : List (List Byte)) (b : List Byte) : List Byte :=
  let s := (List.range 13).foldl (fun s n => xorBytes (aesMix (aesShift s)) (roundKey ws (n + 1))) (xorBytes b (roundKey ws 0))
  xorBytes (aesShift s) (roundKey ws 14)

/-! ### GCM -/

/-- Bytes as a number, most significant first, and back. -/
def ofBe (bs : List Byte) : Nat := bs.foldl (fun n b => 256 * n + b.toNat) 0
def beBytes (n v : Nat) : List Byte := (leBytes n v).reverse

/-- The product in GF(2^128) as GCM orders its bits. -/
def ghashMul (x y : BitVec 128) : BitVec 128 :=
  ((List.range 128).foldl (fun (zv : BitVec 128 × BitVec 128) i =>
    (if x.getLsbD (127 - i) then zv.1 ^^^ zv.2 else zv.1,
     if zv.2.getLsbD 0 then (zv.2 >>> 1) ^^^ 0xE1000000000000000000000000000000#128 else zv.2 >>> 1)) (0, y)).1

/-- 16-byte blocks, the last one padded with zeros. -/
def blocks (bs : List Byte) : List (List Byte) :=
  (List.range (ceilDiv bs.length 16)).map (fun i => let b := (bs.drop (16 * i)).take 16; b ++ List.replicate (16 - b.length) 0)

/-- GHASH over associated data and ciphertext. -/
def ghash (h : BitVec 128) (aad ct : List Byte) : BitVec 128 :=
  (blocks aad ++ blocks ct ++ [beBytes 8 (8 * aad.length) ++ beBytes 8 (8 * ct.length)]).foldl
    (fun y b => ghashMul (y ^^^ BitVec.ofNat 128 (ofBe b)) h) 0

/-- Counter mode from counter 2 on. -/
def gcmStream (ws : List (List Byte)) (iv pt : List Byte) : List Byte :=
  xorBytes pt ((List.range (ceilDiv pt.length 16)).flatMap (fun i => aesBlock ws (iv ++ beBytes 4 (i + 2))))

/-- The tag. -/
def gcmTag (ws : List (List Byte)) (iv aad ct : List Byte) : List Byte :=
  let h := BitVec.ofNat 128 (ofBe (aesBlock ws (List.replicate 16 0)))
  xorBytes (beBytes 16 (ghash h aad ct).toNat) (aesBlock ws (iv ++ beBytes 4 1))

/-- Ciphertext and tag. -/
def gcmSeal (key iv aad pt : List Byte) : List Byte × List Byte :=
  let ws := keySchedule key
  let ct := gcmStream ws iv pt
  (ct, gcmTag ws iv aad ct)

/-- The plaintext, none where the tag does not verify. -/
def gcmOpen (key iv aad ct tag : List Byte) : Option (List Byte) :=
  let ws := keySchedule key
  if gcmTag ws iv aad ct = tag then some (gcmStream ws iv ct) else none

end Sys2Proof.Machine
end

