-- ==== Sys2Proof/Machine/StvWire.lean ====
section
/-!
DEFINITION. The wire format of a Stolevo Link (08_stolevo_link.md): symbols and lanes (R231, R232), the link flit (R234–R236),
packets and control messages in flits (R238, R248), training (R252) and protection (R259).
-/
namespace Sys2Proof.Machine

/-! ### Symbols and lanes (R231, R232) -/

/-- The level of two bits: Gray code (R231). -/
def pamLevel (v : Nat) : Pam4 := if v = 0 then .m3 else if v = 1 then .m1 else if v = 3 then .p1 else .p3

/-- The two bits of a level. -/
def pamBits : Pam4 → Nat
  | .m3 => 0
  | .m1 => 1
  | .p1 => 3
  | .p3 => 2

/-- The symbols of a nibble, bits [1:0] first. -/
def nibbleSymbols (n : Nat) : List Pam4 := [pamLevel (n % 4), pamLevel (n / 4 % 4)]

/-- The nibbles of bytes: nibble 2b is bits [3:0] of byte b. -/
def nibblesOf (bs : List Byte) : List Nat := bs.flatMap (fun b => [b.toNat % 16, b.toNat / 16])

/-- The bytes of nibbles. -/
def bytesOfNibbles : List Nat → List Byte
  | a :: b :: t => BitVec.ofNat 8 (a + 16 * b) :: bytesOfNibbles t
  | _ => []

/-- Nibbles of a wire flit. -/
abbrev flitNibbles : Nat := 528

/-- The first `n` rows of `w` elements. -/
def rowsOf {α : Type} (w : Nat) : Nat → List α → List (List α)
  | 0, _ => []
  | n + 1, l => l.take w :: rowsOf w n (l.drop w)

/-- The logical lane of nibble `i` of row `r`, nibble n = r × `w` + `i`, at width `w`: (n + 2r) mod `w`. -/
abbrev nibbleLane (w r i : Nat) : Nat := (i + 2 * r) % w

/-- The lanes of a wire flit at width `w`, each with its nibbles in increasing order: lane j carries of row r the nibble i with
(i + 2r) mod `w` = j. -/
def toLanes (w : Nat) (bs : List Byte) : List (List Pam4) :=
  let rows := (rowsOf w (flitNibbles / w) (nibblesOf bs)).zipIdx
  (List.range w).map (fun j => rows.flatMap (fun row => nibbleSymbols (row.1.getD ((j + (w - 1) * (2 * row.2)) % w) 0)))

/-- The nibbles of `n` rows from row `r` on, of which `lanes` hold the symbols. -/
def rowNibbles (w : Nat) : Nat → Nat → List (List Pam4) → List Nat
  | 0, _, _ => []
  | n + 1, r, lanes =>
    (List.range w).map (fun i => match lanes.getD (nibbleLane w r i) [] with
      | a :: b :: _ => pamBits a + 4 * pamBits b
      | [a] => pamBits a
      | [] => 0) ++ rowNibbles w n (r + 1) (lanes.map (·.drop 2))

/-- The bytes of a wire flit from its lanes. -/
def fromLanes (lanes : List (List Pam4)) : List Byte :=
  evalBytes (bytesOfNibbles (rowNibbles lanes.length (flitNibbles / lanes.length) 0 lanes))

/-! ### The link flit (Tables 8.1, 8.2) -/

/-- Bytes with zeros up to `n`. -/
def padTo (n : Nat) (bs : List Byte) : List Byte := bs.take n ++ List.replicate (n - bs.length) 0

/-- The link flit header (Table 8.2). -/
def FlitHead.pack (h : FlitHead) : List Byte :=
  leBytes 2 h.seq ++ leBytes 2 h.ack ++ leBytes 2 h.snack ++ leBytes 1 (h.cls % 16 + 16 * h.typ) ++
    leBytes 1 (nat1 h.poison + 2 * nat1 h.keySet + 4 * h.hop)

/-- The header that 8 bytes hold. -/
def FlitHead.parse (bs : List Byte) : FlitHead :=
  let v := ofLe bs
  { seq := field v 0 16, ack := field v 16 16, snack := field v 32 16, cls := field v 48 4, typ := field v 52 4,
    poison := bitOf v 56, keySet := bitOf v 57, hop := field v 58 6 }

/-- The 264 bytes of a wire flit (R235, R236); `bad`: its CRC-64 is inverted (R70). -/
def wireBytes (h : FlitHead) (payload : List Byte) (bad : Bool) : List Byte :=
  let bs := evalBytes (h.pack ++ padTo 240 payload)
  let k := crc64 bs
  fecEncode (bs ++ leBytes 8 (if bad then ~~~k else k).toNat)

/-- What steps 1 and 2 of R237 show of a wire flit. -/
inductive FlitCheck where
  | uncorrectable                                                 -- an interleave cannot be decoded
  | crcError (corrected : Nat)
  | good (corrected : Nat) (h : FlitHead) (payload : List Byte)
  deriving DecidableEq, Repr

/-- R237, steps 1 and 2. -/
def checkFlit (ws : List Byte) : FlitCheck :=
  match fecDecode ws with
  | none => .uncorrectable
  | some (bs, n) =>
    if leBytes 8 (crc64 (bs.take 248)).toNat = bs.drop 248 then .good n (FlitHead.parse (bs.take 8)) ((bs.drop 8).take 240)
    else .crcError n

/-! ### Packets in flits (R238) -/

/-- The packet header (Table 8.5). -/
def packHeader (h : StvHeader) : List Byte :=
  leBytes 16 (h.dst % 4096 + 2 ^ 12 * (h.src % 4096) + 2 ^ 24 * (h.path % 4) + 2 ^ 26 * (h.sc % 8) + 2 ^ 29 * nat1 h.guarded +
    2 ^ 30 * nat1 h.reissue + 2 ^ 32 * (h.bytes % 8192) + 2 ^ 48 * (h.tag % 65536) + 2 ^ 64 * (h.oldest % 65536) +
    2 ^ 80 * (h.tenant % 4096) + 2 ^ 92 * (h.srcDev % 4096))

/-- The packet header that 16 bytes hold. -/
def parseHeader (bs : List Byte) : StvHeader :=
  let v := ofLe bs
  { dst := field v 0 12, src := field v 12 12, path := field v 24 2, sc := field v 26 3, guarded := bitOf v 29,
    reissue := bitOf v 30, bytes := field v 32 13, tag := field v 48 16, oldest := field v 64 16, tenant := field v 80 12,
    srcDev := field v 92 12 }

/-- Data bytes of a packet's first and further flits (R238, R259). -/
abbrev firstBytes (ide : Bool) : Nat := if ide then 208 else 224
abbrev moreBytes (ide : Bool) : Nat := if ide then 224 else 240

/-- Flits a packet of `b` bytes takes on a Stolevo Link. -/
def stvFlits (ide : Bool) (b : Nat) : Nat := 1 + ceilDiv (b - firstBytes ide) (moreBytes ide)

/-- The bytes of a packet that its flit `k` carries: from the first up to, not including, the second. -/
def stvSpan (ide : Bool) (b k : Nat) : Nat × Nat :=
  let lo := if k = 0 then 0 else firstBytes ide + (k - 1) * moreBytes ide
  (lo, min b (if k = 0 then firstBytes ide else lo + moreBytes ide))

/-- The cells that bytes of a packet lie in (R54). -/
def spanCells (s : Nat × Nat) : List Nat :=
  if s.2 ≤ s.1 then [] else (List.range ((s.2 - 1) / 256 + 1 - s.1 / 256)).map (· + s.1 / 256)

/-- The cells of a packet of `b` bytes that end before byte `n` of it. -/
def cellsBefore (b n : Nat) : Nat := if b ≤ n then ceilDiv b 256 else n / 256

/-- The payload of flit `k` of a packet; bytes past LENGTH are 0. -/
def packetPayload (ide : Bool) (h : StvHeader) (body : List Byte) (k : Nat) : List Byte :=
  let s := stvSpan ide h.bytes k
  let data := padTo (s.2 - s.1) ((body.take h.bytes).drop s.1)
  if k = 0 then packHeader h ++ data else data

/-! ### Control messages (R248, Table 8.6) -/

/-- The MSG code of a permit message. -/
def PermitKind.code : PermitKind → Nat
  | .req => 1
  | .grant => 2
  | .ret => 3

/-- Slots of a message. -/
def CtrlMsg.slots : CtrlMsg → Nat
  | .timeRsp _ _ _ => 2
  | .permit _ _ | .timeReq _ _ | .announce _ _ _ _ => 1

/-- A message's slots. -/
def CtrlMsg.pack : CtrlMsg → List Byte
  | .permit k m => leBytes 16 (k.code + 2 ^ 8 * (m.src % 4096) + 2 ^ 20 * (m.dst % 4096) + 2 ^ 32 * (m.path % 4) +
      2 ^ 34 * (m.cls % 16) + 2 ^ 38 * nat1 m.sc0 + 2 ^ 64 * (m.count % 2 ^ 25))
  | .timeReq e t => leBytes 8 (0x10 + 256 * (e % 256)) ++ leBytes 8 t.toNat
  | .timeRsp e t2 t3 => leBytes 8 (0x11 + 256 * (e % 256)) ++ leBytes 8 t2.toNat ++ leBytes 16 t3.toNat
  | .announce cls hops tr root =>
    leBytes 8 (0x12 + 2 ^ 8 * (cls % 16) + 2 ^ 12 * (hops % 64) + 2 ^ 18 * nat1 tr) ++ leBytes 8 root.toNat

/-- A permit message from its slot; none where a field lies outside Table 8.6. -/
def permitOf (k : PermitKind) (v : Nat) : Option CtrlMsg :=
  let m : PermitMsg := { src := field v 8 12, dst := field v 20 12, path := field v 32 2, cls := field v 34 4, sc0 := bitOf v 38,
                         count := field v 64 25 }
  if 10 ≤ m.cls ∨ 16777216 < m.count ∨ (m.count = 0 ∧ k ≠ .grant) then none else some (.permit k m)

/-- The message that starts at a slot: permit messages only in CTRL_SEQ (`sequenced`), time messages only in CTRL_UNSEQ; a
two-slot message does not cross the end of the flit. -/
def messageAt (sequenced : Bool) (bs : List Byte) : Option CtrlMsg :=
  let v := ofLe (bs.take 16)
  let code := v % 256
  if sequenced then
    if code = 1 then permitOf .req v else if code = 2 then permitOf .grant v else if code = 3 then permitOf .ret v else none
  else if code = 0x10 then some (.timeReq (field v 8 8) (BitVec.ofNat 64 (field v 64 64)))
  else if code = 0x11 ∧ 32 ≤ bs.length then
    some (.timeRsp (field v 8 8) (BitVec.ofNat 64 (field v 64 64)) (BitVec.ofNat 64 (ofLe ((bs.drop 16).take 8))))
  else if code = 0x12 then some (.announce (field v 8 4) (field v 12 6) (bitOf v 18) (BitVec.ofNat 64 (field v 64 64)))
  else none

/-- The messages of a control payload of `n` slots, and whether one was skipped as unknown. -/
def messagesOf (sequenced : Bool) : Nat → List Byte → List CtrlMsg × Bool
  | 0, _ => ([], false)
  | n + 1, bs =>
    if bs.isEmpty then ([], false)
    else if bs.headD 0 = 0 then messagesOf sequenced n (bs.drop 16)
    else match messageAt sequenced bs with
      | some m => let (ms, bad) := messagesOf sequenced n (bs.drop (16 * m.slots)); (m :: ms, bad)
      | none => ((messagesOf sequenced n (bs.drop 16)).1, true)

/-- Slots of a control flit (R248, R259). -/
def ctrlSlots (ide sequenced : Bool) : Nat := if !ide then 15 else if sequenced then 14 else 13

/-! ### Training (R252, Table 8.8) -/

/-- A TRAIN flit's payload. -/
def packTrain (t : TrainSeq) : List Byte :=
  leBytes 8 t.serial.toNat ++ leBytes 4 t.epoch.toNat ++ leBytes 1 t.link ++ leBytes 1 t.phase ++ leBytes 1 t.countdown ++
    leBytes 1 t.caps.toNat ++ leBytes 2 t.rxLanes.toNat ++ leBytes 1 t.chosen.toNat ++ leBytes 1 (nat1 t.resume) ++
    leBytes 2 t.rxExpected

/-- The training sequence of a payload. -/
def parseTrain (bs : List Byte) : TrainSeq :=
  let v := ofLe (bs.take 32)
  { serial := BitVec.ofNat 64 (field v 0 64), epoch := BitVec.ofNat 32 (field v 64 32), link := field v 96 8,
    phase := field v 104 8, countdown := field v 112 8, caps := BitVec.ofNat 4 (field v 120 4),
    rxLanes := BitVec.ofNat 16 (field v 128 16), chosen := BitVec.ofNat 5 (field v 144 5), resume := bitOf v 152,
    rxExpected := field v 160 16 }

/-- The 33 nibbles of a lane's marker (R252). -/
def markerNibbles (l : Nat) : List Nat :=
  (List.range 16).map (fun i => if i % 2 = 0 then 9 else 6) ++ [l, 15 - l, l, 15 - l] ++ List.replicate 13 0

/-- The markers on all sixteen lanes. -/
def markerLanes : List (List Pam4) := (List.range 16).map (fun l => (markerNibbles l).flatMap nibbleSymbols)

/-- A nibble of an inverted lane: both symbols change sign (R231). -/
abbrev invertNibble (n : Nat) : Nat := Nat.xor n 0xA

/-- A marker as received: whether the lane is inverted (0x3 and 0xC in the sync nibbles), and its logical lane. -/
def readMarker (ns : List Nat) : Option (Bool × Nat) :=
  let flip := ns.headD 0 == 3
  let us := if flip then ns.map invertNibble else ns
  let l := us.getD 16 0
  if l < 16 ∧ us = markerNibbles l then some (flip, l) else none

/-! ### Protection (R258, R259) -/

/-- The initialisation vector: a 4-byte field, then a 64-bit one. -/
def stvIv (lead index : Nat) : List Byte := leBytes 4 lead ++ leBytes 8 index

/-- The additional authenticated data of a sequenced flit: its header with ACK and SNACK zeroed. -/
def stvAad (h : FlitHead) : List Byte := { h with ack := 0, snack := 0 : FlitHead }.pack

/-- A key as bytes. -/
abbrev keyBytes (k : BitVec 256) : List Byte := leBytes 32 k.toNat

/-- A sequenced flit's payload encrypted, with its tag in the last 16 bytes. -/
def sealSeq (key : BitVec 256) (index : Nat) (h : FlitHead) (payload : List Byte) : List Byte :=
  let s := gcmSeal (keyBytes key) (stvIv 0 index) (stvAad h) (padTo 224 payload)
  s.1 ++ s.2

/-- The clear payload of a sequenced flit; none where its tag fails. -/
def openSeq (key : BitVec 256) (index : Nat) (h : FlitHead) (payload : List Byte) : Option (List Byte) :=
  gcmOpen (keyBytes key) (stvIv 0 index) (stvAad h) (payload.take 224) (payload.drop 224)

/-- The tag of a CTRL_UNSEQ flit over its bytes 0–231. -/
def unseqTag (key : BitVec 256) (counter : Nat) (h : FlitHead) (clear : List Byte) : List Byte :=
  (gcmSeal (keyBytes key) (stvIv 1 counter) (h.pack ++ clear) []).2

/-- A CTRL_UNSEQ payload under IDE: 13 clear slots, the counter, zeros, the tag. -/
def sealUnseq (key : BitVec 256) (counter : Nat) (h : FlitHead) (payload : List Byte) : List Byte :=
  let clear := padTo 208 payload ++ leBytes 8 counter ++ List.replicate 8 0
  clear ++ unseqTag key counter h clear

/-- The tag of a CTRL_UNSEQ payload under IDE is good. -/
def unseqGood (key : BitVec 256) (h : FlitHead) (payload : List Byte) : Bool :=
  unseqTag key (ofLe ((payload.drop 208).take 8)) h (payload.take 224) == payload.drop 224

end Sys2Proof.Machine
end

