-- ==== Sys2Proof/Machine/Scheduling.lean ====
section
/-!
DEFINITION. Arbiters, gate lists and shapers (04_arbitration_scheduling.md): fret tables, candidates, decisions, preemption,
gates, credit buckets and timing wheels.
-/
namespace Sys2Proof.Machine

/-! ### Rates and flit times -/

/-- Lanes of a width code: 0 x16, 1 x8, 2 x4, 3 x2, 4 x1. -/
def widthLanes (w : Nat) : Nat := if w = 0 then 16 else if w = 1 then 8 else if w = 2 then 4 else if w = 3 then 2 else 1

/-- Lanes of a CHOSEN group (Table 8.8). -/
def groupLanes (g : Nat) : Nat := if g = 0 then 16 else if g ≤ 2 then 8 else 4

/-- Twice the rate in GT/s of a RATE_MAX code. -/
def rate2 (r : Nat) : Nat := if r = 0 then 5 else if r = 1 then 10 else if r = 2 then 16 else if r = 3 then 32 else if r = 4 then 64 else 128

/-- The raw rate of a port: twice GT/s times lanes (R67). -/
def rawRate (c : Chip) (p : Nat) : Nat :=
  match quarterLink c (p / 4) with
  | some l => let x := c.link l; (if x.rate then 256 else 128) * groupLanes x.group
  | none => let x := c.port p; rate2 x.rate * widthLanes x.active

/-- Flit time F of a CXL port in ticks: R127, which Table 4.6 follows. -/
def cxlFlitTime (rate width : Nat) (flit256 : Bool) : Nat :=
  let bits := if flit256 then 2048 else 544
  let (a, b) := if rate ≤ 1 then (10, 8) else if rate ≤ 4 then (130, 128) else (1, 1)
  8 * ceilDiv (6 * bits * a) (b * rate2 rate * widthLanes width)

/-- Flit time F of a Stolevo Link in ticks (Table 4.6, R127). -/
def stvFlitTime (fast : Bool) (group : Nat) : Nat := (if fast then 24 else 48) * 16 / groupLanes group

/-- Flit time F of a port as it runs, in ticks. -/
def flitTime (c : Chip) (p : Nat) : Nat :=
  match quarterLink c (p / 4) with
  | some l => let x := c.link l; stvFlitTime x.rate x.group
  | none => let x := c.port p; cxlFlitTime x.rate x.active x.flit256

/-! ### SC0 flows on this device -/

/-- The egress of an ID on this device, for path index `j`: crossbar output and egress port (128 for none). -/
def idOutput (c : Chip) (id j : Nat) : Nat × Nat :=
  let e := feOf c id
  if feLocal e then
    if feKind e = 0 then (portXbar (feIndex e), feIndex e)
    else if feKind e = 1 then (32 + feIndex e, 128)
    else (37, 128)
  else let l := feLink e j; ((linkQuarter c l).getD 0, linkPort c l)

/-- An admitted SC0 flow enters on port `p` or leaves through it (R125). -/
def portHasFlow (c : Chip) (p : Nat) : Bool :=
  c.sched.flows.any (fun f => f.2.present && (f.2.ingress == p || (idOutput c f.2.dst f.2.path).2 == p))

/-- An admitted SC0 flow crosses an output. -/
def outputHasFlow (c : Chip) (o : Nat) : Bool :=
  c.sched.flows.any (fun f => f.2.present && (idOutput c f.2.dst f.2.path).1 == o)

/-- A flow's destination is where a packet leaves. -/
def flowReaches (c : Chip) (f : Flow) (e : Egress) (dst : Nat) : Bool :=
  let x := feOf c f.dst
  match e with
  | .port p => feValid x && feLocal x && feKind x == 0 && feIndex x == p
  | .quad q => feValid x && feLocal x && feKind x == 1 && feIndex x == q
  | .link _ _ => f.dst == dst
  | .mover => false
  | .mgmt => feValid x && feLocal x && feKind x == 2

/-- The admitted flow that covers an ingress port and a destination, for a tenant if one is named (R119, R124). -/
def flowCover (c : Chip) (tenant : Option Nat) (ingress : Nat) (e : Egress) (dst : Nat) : Option Nat :=
  (c.sched.flows.find? (fun f => f.2.present && f.2.ingress == ingress && flowReaches c f.2 e dst &&
    (match tenant with
     | none => true
     | some t => f.2.tenant == t))).map (·.1)

/-! ### Gate lists (R110–R115) -/

/-- The entries of a list as (start, end, mask) within its cycle: cut at the cycle end, the last one extended to it (R111). -/
def segments (l : GateList) : List (Nat × Nat × Nat) :=
  let rec go : List (Nat × Nat) → Nat → List (Nat × Nat × Nat)
    | [], _ => []
    | e :: t, at_ =>
      if l.cycle ≤ at_ then []
      else
        let stop := if t.isEmpty then l.cycle else min l.cycle (at_ + 64 * e.2)
        (at_, stop, e.1) :: go t stop
  go l.entries 0

/-- The OPEN_MASK of a list at an instant at or after its start. -/
def maskAt (l : GateList) (t : Nat) : Nat := (l.entries.getD (entryAt l t) (0xFF, 1)).1

/-- The gates of a port at a future instant: the pending list from its start on. -/
def futureMask (g : Gate) (t : Nat) : Nat :=
  match g.pending with
  | some l => if l.start ≤ t then maskAt l t else
      match g.oper with
      | some o => if o.start ≤ t then maskAt o t else 0xFF
      | none => 0xFF
  | none => match g.oper with
    | some o => if o.start ≤ t then maskAt o t else 0xFF
    | none => 0xFF

/-- The current OPEN_MASK of a port (GATE_STATE.OPEN). -/
def openMask (g : Gate) : Nat :=
  match g.oper with
  | some l => (l.entries.getD g.entry (0xFF, 1)).1
  | none => 0xFF

/-- R95: the class gate is open, or opens within 32 ns. Entries begin at multiples of 64 ticks. -/
def gateSoon (c : Chip) (p sc : Nat) : Bool :=
  let g := c.gate p
  bitOf (openMask g) sc ||
  (List.range 8).any (fun i =>
    let t := (c.now / 64 + i + 1) * 64
    decide (t ≤ c.now + ns 32) && bitOf (futureMask g t) sc)

/-- The first closing of a class in a list at or after `t`. -/
def closingOf (l : GateList) (t sc : Nat) : Option Nat :=
  let off := if l.cycle = 0 then 0 else (t - l.start) % l.cycle
  let segs := segments l
  let two := segs ++ segs.map (fun s => (s.1 + l.cycle, s.2.1 + l.cycle, s.2.2))
  (two.find? (fun s => decide (off < s.2.1) && !bitOf s.2.2 sc)).map (fun s => t + (s.1 - off))

/-- The next closing of a class's gate on a port (R114). -/
def nextClosing (c : Chip) (p sc : Nat) : Option Nat :=
  let g := c.gate p
  let a := g.oper.bind (fun l => closingOf l c.now sc)
  match g.pending with
  | none => a
  | some l =>
    let b := closingOf l (max l.start c.now) sc
    match a with
    | some t => if t < l.start then some t else b
    | none => b

/-- The longest open interval of a class in a list; `none`: it never closes. -/
def longestOpen (l : GateList) (sc : Nat) : Option Nat :=
  let segs := segments l
  if segs.all (fun s => bitOf s.2.2 sc) then none
  else
    let two := segs ++ segs
    let r := two.foldl (fun (b : Nat × Nat) s =>
      if bitOf s.2.2 sc then (max b.1 (b.2 + (s.2.1 - s.1)), b.2 + (s.2.1 - s.1)) else (b.1, 0)) (0, 0)
    some r.1

/-- R114: the guard lets a packet of `flits` flits start now. -/
def guardPass (c : Chip) (p sc flits : Nat) : Bool :=
  match nextClosing c p sc with
  | none => true
  | some t => decide (c.now + flits * flitTime c p ≤ t)

/-- R114: no whole open interval fits the packet. -/
def guardNever (c : Chip) (p sc flits : Nat) : Bool :=
  match (c.gate p).oper with
  | none => false
  | some l => match longestOpen l sc with
    | none => false
    | some n => decide (n < flits * flitTime c p)

/-- GATE_LIST_START (R112): the committed list becomes operational at its start instant. -/
def gateListStart (p : Nat) (c : Chip) : Chip :=
  let g := c.gate p
  match g.pending with
  | none => c
  | some l => if c.now < l.start then c else c.setGate p { g with oper := some l, pending := none, entry := entryAt l c.now }

/-- GATE_ENTRY_BOUNDARY (R111): the list moves to the entry that holds the instant. -/
def gateEntryBoundary (p : Nat) (c : Chip) : Chip :=
  let g := c.gate p
  match g.oper with
  | none => c
  | some l => if c.now < l.start then c else c.setGate p { g with entry := entryAt l c.now }

/-! ### Shapers (R117–R122) -/

/-- Credit as it stands now, in 1/65,536 B: RATE is in 1/4,096 B per ns and a tick is 1/16 ns (Table 4.4). -/
def creditNow (c : Chip) (s : Shaper) : Int :=
  min ((s.burst * 65536 : Nat) : Int) (s.credit + ((s.rate * (c.ivl - s.updated) : Nat) : Int))

/-- R117: the credit covers a counted length `len`, or has reached BURST where BURST is less. -/
def creditCovers (c : Chip) (s : Shaper) (len : Nat) : Bool :=
  decide (((len * 65536 : Nat) : Int) ≤ creditNow c s) ||
  (decide (s.burst < len) && decide (((s.burst * 65536 : Nat) : Int) ≤ creditNow c s))

/-- R117, R121: packet `w` of counted length `len` meets the shaper; the head packet for which the shaper stands on a wheel waits for
its release. -/
def shaperMet (c : Chip) (s : Shaper) (w : Nat × Nat) (len : Nat) : Bool :=
  !s.enable || (s.who != some w && creditCovers c s len)

/-- The shaper after a grant of `len` bytes. -/
def shaperUse (c : Chip) (s : Shaper) (len : Nat) : Shaper :=
  if s.enable then { s with credit := creditNow c s - ((len * 65536 : Nat) : Int), updated := c.ivl } else s

/-- R121: a shaper on the wheel that its release instant selects. Fine buckets of 256 ticks, 4,096 of them; coarse buckets of
1,048,576 ticks, at most 4,095 ahead. -/
def onWheel (now : Nat) (s : Shaper) (rel : Nat) : Shaper :=
  if rel / 256 < now / 256 + 4096 then { s with release := some rel, coarse := false, bucket := rel / 256 }
  else { s with release := some rel, coarse := true, bucket := min (rel / 1048576) (now / 1048576 + 4095) }

/-- R121: a shaper that lacks credit for its head packet `w` is placed at its release instant. -/
def parkShaper (c : Chip) (s : Shaper) (w : Nat × Nat) (len : Nat) : Shaper :=
  if !s.enable ∨ s.release.isSome ∨ creditCovers c s len then s
  else
    let want : Int := ((min len s.burst * 65536 : Nat) : Int) - creditNow c s
    let wait := ceilDiv want.toNat (max s.rate 1)
    onWheel c.now { s with need := len, who := some w } (ceilDiv (c.now + wait) 256 * 256)

/-- A shaper leaves its wheel. -/
def Shaper.free (s : Shaper) : Shaper := { s with release := none, coarse := false, bucket := 0, need := 0, who := none }

/-- Keys of the shapers in due fine buckets, in bucket order: tenant shapers as 2k, port-class shapers as 2k + 1. -/
def dueShapers (c : Chip) : List (Nat × Nat) :=
  let pick := fun (t : Tbl Shaper) (odd : Nat) =>
    t.filterMap (fun s => match s.2.release with
      | some r => if !s.2.coarse ∧ r ≤ c.now then some (s.2.bucket, 2 * s.1 + odd) else none
      | none => none)
  (pick c.sched.tShapers 0 ++ pick c.sched.pShapers 1).mergeSort (fun a b => decide (a.1 < b.1) || (a.1 == b.1 && decide (a.2 ≤ b.2)))

/-- One shaper is released; more than 1 µs late raises source 83. -/
def releaseOne (c : Chip) (k : Nat) : Chip :=
  let s := (if k % 2 = 0 then c.sched.tShapers else c.sched.pShapers).look (k / 2)
  let late := match s.release with
    | some r => decide (r + us 1 < c.now)
    | none => false
  let c := { c with sched :=
    if k % 2 = 0 then { c.sched with tShapers := c.sched.tShapers.put (k / 2) s.free }
    else { c.sched with pShapers := c.sched.pShapers.put (k / 2) s.free } }
  if late then raise c 83 else c

/-- SHAPER_RELEASE (R122): up to 32 shapers of the due fine buckets, in bucket order. -/
def shaperRelease (c : Chip) : Chip :=
  let b := c.now / 256
  let used := if c.sched.releasedAt = b then c.sched.released else 0
  let due := (dueShapers c).take (32 - used)
  let c := { c with sched := { c.sched with released := used + due.length, releasedAt := b } }
  due.foldl (fun c d => releaseOne c d.2) c

/-- COARSE_BUCKET_START (R121): the shapers of the coarse buckets that have come due are placed again. -/
def coarseBucketStart (c : Chip) : Chip :=
  let again := fun (s : Shaper) => match s.release with
    | some r => if s.coarse ∧ s.bucket ≤ c.now / 1048576 then onWheel c.now s r else s
    | none => s
  { c with sched := { c.sched with tShapers := c.sched.tShapers.map (fun s => (s.1, again s.2)),
                                   pShapers := c.sched.pShapers.map (fun s => (s.1, again s.2)) } }

/-! ### Fret tables and priorities -/

/-- The default fret entry (R97, R228). -/
def fretDefault (x s : Nat) : BitVec 16 :=
  if x ≤ 37 then (if s % 4 = 0 then 0x0001 else 0)
  else if s % 16 = 0 then 0x0042 else if s % 16 = 8 then 0x0046 else 0

/-- An entry of a bank; `b`: bank B. -/
def fretEntry (a : Arbiter) (x : Nat) (b : Bool) (s : Nat) : BitVec 16 := (if b then a.bankB else a.bankA).lookD (fretDefault x s) s

/-- The owner of a slot (Table 4.1, R98). -/
inductive Owner where
  | open_ | sc (n : Nat) | req (n : Nat)
  deriving DecidableEq, Repr

/-- What an entry means at arbiter `x` (R98). -/
def ownerOf (x : Nat) (e : BitVec 16) : Owner :=
  let k := e.toNat % 4
  let o := e.toNat / 4 % 64
  if k = 1 ∧ x ≤ 37 ∧ o < 8 then .sc o
  else if k = 2 ∧ (38 ≤ x ∨ o < 38) then .req o
  else .open_

/-- R98: an entry that admission refuses. -/
def badEntry (x : Nat) (e : BitVec 16) : Bool := (e.toNat % 4 == 1 || e.toNat % 4 == 2 || e.toNat % 4 == 3) && ownerOf x e == .open_

/-- The slot current at an instant (R96). -/
abbrev slotAt (t : Nat) : Nat := t / 64 % 512

/-- The owner of slot `s` in the active table. -/
def slotOwner (a : Arbiter) (x s : Nat) : Owner :=
  if !a.enable ∨ (if a.active then a.badB else a.badA).contains s then .open_ else ownerOf x (fretEntry a x a.active s)

/-- ARB_PRIO[x][k] after reset (R103, R227). -/
def prioDefault (x k : Nat) : Word :=
  if x ≤ 37 then (if k = 0 then 0x02468ACF else 0)
  else if k = 0 then 0xAAAAAAAA else if k = 1 then 0x44444444 else if k = 2 then 0x002816CF else 0

/-- The base priority that a decision of this cycle reads (R103). -/
def basePrio (c : Chip) (x : Nat) (a : Arbiter) (j : Nat) : Nat :=
  let t := if a.prioAt = c.ivl then a.prioOld else a.prio
  (t.lookD (prioDefault x (j / 8)) (j / 8)).toNat / 2 ^ (4 * (j % 8)) % 16

/-- The thermal step in force at an arbiter (Table 18.4, R465, R469, R471); SC0 outputs are not touched (R470). -/
def stepAt (c : Chip) (x : Nat) : Nat :=
  let all := max (max c.pow.tStep (if c.pow.curStep then 1 else 0)) (if c.pow.quadStep ∨ c.pow.busStep then 2 else 0)
  if 32 ≤ x ∧ x ≤ 37 then 0
  else if x ≤ 31 then (if outputHasFlow c x then 0 else all)
  else max all (if c.pow.hbmStep.getD ((x - 38) / 32) false then 1 else 0)

/-- R470: open slots are granted in at most one slot in two, in four, or not at all. -/
def openAllowed (c : Chip) (x slot : Nat) : Bool :=
  let n := stepAt c x
  let last := c.pow.skip.look x
  if n = 0 then true
  else if 3 ≤ n then false
  else last == 0 || last == slot + 1 || decide (last + (if n = 1 then 2 else 4) ≤ slot + 1)

/-! ### Candidates (R64, R65, R95) -/

/-- The bytes of a packet that flit `k` of its `n` flits on a CXL port carries. -/
def cxlSpan (q : QPkt) (k : Nat) : Nat × Nat := (k * q.bytes / max q.flits 1, (k + 1) * q.bytes / max q.flits 1)

/-- The cells of which its egress link layer has taken every byte (R65): on a CXL port, and on a Stolevo Link. -/
def takenCells (q : QPkt) : Nat := if q.flits ≤ q.taken then q.cells else cellsBefore q.bytes (q.taken * q.bytes / max q.flits 1)
def linkTaken (ide : Bool) (q : QPkt) : Nat := if q.taken = 0 then 0 else cellsBefore q.bytes (stvSpan ide q.bytes (q.taken - 1)).2

/-- Cells in egress staging of a port and class (R65), with those its link layer holds that have not gone out. -/
def stagedCells (c : Chip) (p sc : Nat) : Nat :=
  (c.sw.staging.look (p * 8 + sc)).foldl (fun n q => n + (q.moved - takenCells q)) 0 +
  (match quarterLink c (p / 4) with
   | some l => let x := c.link l; ((x.sendSc0 ++ x.sendData).filter (fun q => q.sc == sc)).foldl
       (fun n q => n + (q.cells - linkTaken x.ideOn q)) 0
   | none => 0)

/-- The egress port of a packet that leaves through one. -/
def Egress.portNo : Egress → Option Nat
  | .port p => some p
  | .link _ p => some p
  | .quad _ => none
  | .mover => none
  | .mgmt => none

/-- Staging has room for `n` more cells of a packet (R65). -/
def stagingRoom (c : Chip) (q : QPkt) (n : Nat) : Bool :=
  match q.egress.portNo with
  | some p => decide (stagedCells c p q.sc + n ≤ 32)
  | none => true

/-- R67, R125: the packet is cut through. -/
def cutsThrough (c : Chip) (q : QPkt) : Bool :=
  match q.egress.portNo with
  | some p => decide (q.input < 32) && decide (rawRate c p ≤ rawRate c q.port) && !portHasFlow c p && q.spilled == 0
  | none => decide (q.input < 32)

/-- The counted length at a port (R118). -/
abbrev countedLen (c : Chip) (p bytes : Nat) : Nat := bytes + c.sched.overhead.look p

/-- R119: the shapers of a packet, as (tenant?, key, counted length). -/
def shapersOf (c : Chip) (q : QPkt) : List (Bool × Nat × Nat) :=
  (if q.shaped then [(true, q.tenant, countedLen c q.port q.bytes)] else []) ++
  (match q.egress.portNo with
   | some p => [(false, 8 * p + q.sc, countedLen c p q.bytes)]
   | none => [])

def shaperAt (c : Chip) (ten : Bool) (k : Nat) : Shaper := (if ten then c.sched.tShapers else c.sched.pShapers).look k
def setShaper (c : Chip) (ten : Bool) (k : Nat) (s : Shaper) : Chip :=
  { c with sched := if ten then { c.sched with tShapers := c.sched.tShapers.put k s }
                    else { c.sched with pShapers := c.sched.pShapers.put k s } }

/-- The packet enters the Stolevo fabric on this device. -/
def isSource (q : QPkt) : Bool := match q.egress with
  | .link _ _ => !q.fromStv
  | .port _ | .quad _ | .mover | .mgmt => false

/-- R65, R95 but for the shapers: a head packet that has not begun to move may be granted. -/
def headReady (c : Chip) (q : QPkt) : Bool :=
  !q.places.isEmpty && !q.noPath &&
  (if cutsThrough c q then stagingRoom c q 1 else q.whole && q.spilled + q.unplaced == 0 && stagingRoom c q q.cells) &&
  (match q.egress.portNo with
   | some p => gateSoon c p q.sc
   | none => true) &&
  (!isSource q ||
    (decide (q.cells ≤ (c.sw.balances.look (balKey (deviceOf q.dst) q.path (balCls q))).permits) &&
     (!q.guarded || q.reissue || mayGuard c (deviceOf q.dst))))

/-- A head packet is eligible (R65, R95, R105). -/
def headEligible (c : Chip) (q : QPkt) : Bool :=
  if 0 < q.moved then !q.places.isEmpty && stagingRoom c q 1
  else headReady c q && (shapersOf c q).all (fun s => shaperMet c (shaperAt c s.1 s.2.1) (q.pid, q.seq) s.2.2)

/-- The head of a lane. -/
def laneHead (c : Chip) (key : Nat) : Option QPkt := (c.sw.voq.look key).head?

/-- R64, PCIe ordering: head `q` may pass the older posted packet `p`. Relaxed Ordering lets a completion, and a non-posted packet
with data, pass; ID-Based Ordering lets a packet of another ID pass. -/
def mayPass (q p : QPkt) : Bool := (q.ro && (q.cls == .cpl || q.data)) || (q.ido && q.reqId != p.reqId)

/-- R64: an older P that it may not pass waits in the same VOQ. -/
def behindPosted (c : Chip) (voq : Nat) (q : QPkt) : Bool :=
  (c.sw.voq.look (voq * 10 + 6)).any (fun p => decide (p.seq < q.seq) && !mayPass q p)

/-- The lane that a VOQ offers (R64): the VOQ is (input × 38 + output) × 8 + SC; the answer is a class code. -/
def offeredLane (c : Chip) (v : Nat) : Option Nat :=
  let ok := fun (k : Nat) => match laneHead c (v * 10 + k) with
    | some q => headEligible c q && !((k == 7 || k == 8) && q.moved == 0 && behindPosted c v q)
    | none => false
  let preempted := fun (k : Nat) => match laneHead c (v * 10 + k) with
    | some q => decide (0 < q.moved)
    | none => false
  match (List.range 10).find? (fun k => preempted k && ok k) with
  | some k => some k
  | none =>
    let mem := [5, 4, 3, 2, 1, 0].find? ok
    let io := [6, 8, 7].find? ok
    let mgt := [9].find? ok
    let turn := c.sw.turn.look v          -- group served last + 1
    let order := if turn = 1 then [io, mgt, mem] else if turn = 2 then [mgt, mem, io] else [mem, io, mgt]
    order.findSome? id

/-- The turn-taking group of a class code (R64). -/
def laneGroup (k : Nat) : Nat := if k ≤ 5 then 1 else if k ≤ 8 then 2 else 3

/-- The VOQs towards output `o` that hold packets, in the order of input and class. -/
def voqsOf (c : Chip) (o : Nat) : List Nat :=
  ((c.sw.voq.filter (fun l => l.1 / 80 % 38 == o)).map (fun l => l.1 / 10)).eraseDups

/-- The candidates of output `o`: (input, SC, class of the offered lane). -/
def candsOf (c : Chip) (o : Nat) : List (Nat × Nat × Nat) :=
  (voqsOf c o).filterMap (fun v => (offeredLane c v).map (fun k => (v / 304, v % 8, k)))

/-- Rank of a candidate with loss key `lk` and priority index `j` (R101). -/
def rankOf (c : Chip) (x : Nat) (a : Arbiter) (lk j : Nat) : Nat := min 31 (basePrio c x a j + a.loss.look lk)

/-- Cyclic distance after the input last granted, 1 … n (R101 step 4). -/
def distAfter (last n i : Nat) : Nat := let d := (i + n - last) % n; if d = 0 then n else d

/-- Whether candidate `y` beats `z`: rank, then cyclic order of the input, then the lower class. -/
def beats (y z : Nat × Nat × Nat) : Bool :=
  if y.1 ≠ z.1 then decide (z.1 < y.1)
  else if y.2.1 ≠ z.2.1 then decide (y.2.1 < z.2.1)
  else decide (y.2.2 < z.2.2)

/-- R101: the index in `cs` of the candidate granted; `cs` are (input or requester, SC, lane class), `kind` the slot's owner. -/
def winner (c : Chip) (x : Nat) (a : Arbiter) (own : Owner) (openOk : Bool) (cs : List (Nat × Nat × Nat)) :
    Option (Nat × Nat × Nat) :=
  let n := if x ≤ 37 then 38 else 64
  let last := a.last.getD (n - 1)
  let matching := match own with
    | .open_ => []
    | .sc s => cs.filter (fun y => y.2.1 == s)
    | .req i => cs.filter (fun y => y.1 == i)
  let rest := if x ≤ 37 then (let r := cs.filter (fun y => y.2.1 != 7); if r.isEmpty then cs else r) else cs
  let pool := if !matching.isEmpty then matching else if own == .open_ && !openOk then [] else rest
  let score := fun (y : Nat × Nat × Nat) =>
    if x ≤ 37 then (rankOf c x a (y.1 * 8 + y.2.1) y.2.1, distAfter last n y.1, y.2.1)
    else (rankOf c x a y.1 y.1, distAfter last n y.1, 0)
  pool.foldl (fun b y => match b with
    | none => some y
    | some z => if beats (score y) (score z) then some y else some z) none

/-- R102: loss counts after a decision. -/
def lossAfter (x : Nat) (loss : Tbl Nat) (cs : List (Nat × Nat × Nat)) (g : Nat × Nat × Nat) : Tbl Nat :=
  cs.foldl (fun t y =>
    let k := if x ≤ 37 then y.1 * 8 + y.2.1 else y.1
    if y.1 = g.1 ∧ (38 ≤ x ∨ y.2.1 = g.2.1) then t.put k 0
    else if x ≤ 37 ∧ y.2.1 = 7 then t
    else t.put k (min 16 (t.look k + 1))) loss

/-- The first cell of a packet is granted: shapers are debited, permits used, the guard tag given (R117, R81, R86). Answers the packet
with its tag. -/
def firstGrant (c : Chip) (q : QPkt) : Chip × QPkt :=
  let c := (shapersOf c q).foldl (fun c s => setShaper c s.1 s.2.1 (shaperUse c (shaperAt c s.1 s.2.1) s.2.2)) c
  if !isSource q then (c, q)
  else
    let c := usePermits c q
    if q.guarded ∧ !q.reissue then issueGuard c q else (c, q)

/-- R121: the shapers whose head packets lack credit go onto a wheel. -/
def parkHeads (c : Chip) : Chip :=
  c.sw.voq.foldl (fun c l => match l.2.head? with
    | none => c
    | some q =>
      if 0 < q.moved then c
      else (shapersOf c q).foldl (fun c s =>
        setShaper c s.1 s.2.1 (parkShaper c (shaperAt c s.1 s.2.1) (q.pid, q.seq) s.2.2)) c) c

/-- Grants and their counter event (Table 19.1). -/
def xbarEvent (q : QPkt) (o code : Nat) : Happening :=
  { code := code, quad := if o < 32 then o / 8 else if o < 36 then o - 32 else 4, inst := o, port := q.port, tenant := q.tenant,
    fab := q.srcDev, sc := q.sc, mc := q.cls.code, switch := decide (32 ≤ q.input ∧ q.input ≤ 36) }

/-- The head of a lane is replaced. -/
def setHead (c : Chip) (key : Nat) (q : QPkt) : Chip :=
  { c with sw := { c.sw with voq := c.sw.voq.upd key (fun l => q :: l.drop 1) } }

/-- R101, R102: output `o`, whose arbiter reads as `a`, decides for the slot of an instant. -/
def decideWith (c : Chip) (a : Arbiter) (o t : Nat) : Chip :=
  let slot := t / 64
  let own := slotOwner a o (slot % 512)
  let cs := candsOf c o
  match winner c o a own (openAllowed c o slot) cs with
  | none => c
  | some g =>
    let v := (g.1 * 38 + o) * 8 + g.2.1
    match laneHead c (v * 10 + g.2.2) with
    | none => c
    | some q =>
      let (c, q) := if q.moved = 0 then firstGrant c q else (c, q)
      let c := setHead c (v * 10 + g.2.2) q
      let a' := { c.arb o with loss := lossAfter o a.loss cs g, last := some g.1,
                               carry := some { lane := v * 10 + g.2.2, pid := q.pid, sc := q.sc } }
      let c := { c.setArb o a' with
        sw := { c.sw with turn := if q.moved = 0 then c.sw.turn.put v (laneGroup g.2.2) else c.sw.turn },
        pow := if own = .open_ then { c.pow with skip := c.pow.skip.put o (slot + 1) } else c.pow }
      parkHeads (countEvent c (xbarEvent q o 0x020))

/-- The decision with the arbiter as it stands. -/
def decideOutput (c : Chip) (o t : Nat) : Chip := decideWith c (c.arb o) o t

/-- The BAR0 offset of FRET_CTL[x] (R99). -/
abbrev fretCtlAt (x : Nat) : Nat := 0x80000 + 0x800 * x + 0x400

/-- R100, R107: the arbiter as it stands at the start of the next core cycle, when the groups that are due then have applied. -/
def arbNext (c : Chip) (x : Nat) : Arbiter :=
  let due := c.grp.groups.filter (fun g => g.2.state == .armed && decide (g.2.due ≤ c.nextNow))
  due.foldl (fun a g => g.2.items.foldl (fun (a : Arbiter) i => match i with
    | .reg o v => if o = fretCtlAt x then { a with active := v.getLsbD 1, enable := v.getLsbD 2 } else a
    | .cmd _ _ _ => a) a) (c.arb x)

/-- ARBITER_DECISION (R100–R103): an arbiter whose output is idle decides for the slot of the next core cycle, by the table that is
active in it. `waiting`: the requesters of a pseudo-channel arbiter that have a transfer waiting (R227). -/
def arbiterDecision (x : Nat) (waiting : List Nat) (c : Chip) : Chip :=
  if x ≤ 37 then
    if (c.arb x).carry.isSome then c else decideWith (parkHeads c) (arbNext c x) x c.nextNow
  else if 101 < x then c
  else
    let a := arbNext c x
    let slot := c.nextNow / 64
    let own := slotOwner a x (slot % 512)
    let cs := (waiting.filter (· ≤ 21)).eraseDups.map (fun i => (i, 8, 0))
    match winner c x a own (openAllowed c x slot) cs with
    | none => c
    | some g =>
      let c := c.setArb x { c.arb x with loss := lossAfter x a.loss cs g, last := some g.1 }
      let c := if own = .open_ then { c with pow := { c.pow with skip := c.pow.skip.put x (slot + 1) } } else c
      countEvent c { code := 0x061, quad := (x - 38) / 16, inst := x - 38 }

/-- SLOT_START (R104): at the first cycle of an SC0-owned slot an eligible SC0 candidate preempts a packet of another class. -/
def slotStart (x : Nat) (c : Chip) : Chip :=
  let a := c.arb x
  match a.carry with
  | none => c
  | some k =>
    if 37 < x ∨ !c.ft.newSlot ∨ slotOwner a x (slotAt c.now) ≠ .sc 0 ∨ k.sc = 0 then c
    else if !((candsOf c x).any (fun y => y.2.1 == 0)) then c
    else
      let c := countEvent c { code := 0x021, quad := if x < 32 then x / 8 else if x < 36 then x - 32 else 4, inst := x, sc := k.sc,
                              mc := k.lane % 10 }
      decideOutput (c.setArb x { a with carry := none }) x c.now

/-- FRET_PARITY (R132): an active entry is treated as open until the bank is next written and switched. -/
def fretParity (x slot : Nat) (c : Chip) : Chip :=
  if 101 < x ∨ 511 < slot then c
  else
    let a := c.arb x
    raise (c.setArb x (if a.active then { a with badB := addOnce a.badB slot } else { a with badA := addOnce a.badA slot })) 84
      (srcInfo 5 x)

/-- The packet that an output carries has moved a cell. -/
def midPacket (c : Chip) (x : Nat) : Bool :=
  match (c.arb x).carry with
  | none => false
  | some k => match laneHead c k.lane with
    | some q => q.pid == k.pid && decide (0 < q.moved)
    | none => false

/-- R107: the bank or ENABLE of an arbiter changes at an apply instant; a packet in flight becomes a candidate and the arbiter
decides again. A packet granted for this slot by the new table (R100) has not moved and stays granted. -/
def bankSwitch (c : Chip) (x : Nat) (select enable : Bool) : Chip :=
  let a := c.arb x
  if a.active = select ∧ a.enable = enable then c
  else
    let mid := x ≤ 37 ∧ midPacket c x
    let c := c.setArb x { a with active := select, select := select, enable := enable, carry := if mid then none else a.carry }
    if mid then decideOutput c x c.now else c

end Sys2Proof.Machine
end

