-- ==== Sys2Proof/Machine/Admission.lean ====
section
/-!
DEFINITION. The admission check (R371–R373, Table 13.6) as a function of the end state, and the SC0 bound it rests on
(R123–R128).
-/
namespace Sys2Proof.Machine

/-! ### The SC0 bound -/

/-- The Stolevo Link of a port. -/
def portLink (c : Chip) (p : Nat) : Option Nat := if p % 4 = 0 then quarterLink c (p / 4) else none

/-- A port's configured flit time in ticks (R373, Table 4.6). -/
def cfgFlitTime (c : Chip) (p : Nat) : Nat :=
  match portLink c p with
  | some l => stvFlitTime (c.link l).rateMax 0
  | none => let x := c.port p; cxlFlitTime x.rateMax x.cfgWidth (x.rateMax == 5)

/-- A port's configured raw rate in 1/4,096 B per ns. -/
def cfgRate (c : Chip) (p : Nat) : Nat :=
  match portLink c p with
  | some l => (if (c.link l).rateMax then 256 else 128) * 16 * 256
  | none => let x := c.port p; rate2 x.rateMax * widthLanes x.cfgWidth * 256

/-- Flits per MAC epoch (IDE_AGG; 0 selects 5 in 68 B mode and 2 in 256 B mode). -/
def ideAggOf (x : Port) : Nat := if x.ideAgg = 0 then (if x.rateMax = 5 then 2 else 5) else x.ideAgg

/-- Condition 2 of R123 for a port: 256 B flits at 64 GT/s, at x16, x8 or x4; a Stolevo Link is x16. -/
def sc0PortOk (c : Chip) (p : Nat) : Bool :=
  match portLink c p with
  | some _ => true
  | none => let x := c.port p; x.role != 0 && x.rateMax == 5 && decide (x.cfgWidth ≤ 2)

/-- MAX_FLITS of a flow as used: 0 selects 1 (R124). -/
abbrev Flow.m (f : Flow) : Nat := max 1 f.maxFlits

/-- A flow's burst in cells: that of its tenant's shaper (R124). -/
def flowBurst (c : Chip) (f : Flow) : Nat := ceilDiv (c.sched.tShapers.look f.tenant).burst 256

/-- A flow's rate in 1/4,096 B per ns. -/
def flowRate (c : Chip) (f : Flow) : Nat := (c.sched.tShapers.look f.tenant).rate

/-- Crossbar output and egress port (128: none) of a flow on this device. -/
def flowOut (c : Chip) (f : Flow) : Nat × Nat := idOutput c f.dst f.path

/-- The flow leaves this device, or reached it, over a Stolevo Link. -/
def flowCrosses (c : Chip) (f : Flow) : Bool := decide (0 < f.hopsIn) || !feLocal (feOf c f.dst)

/-- The flow ends in a home quadrant of this device (R128). -/
def flowHome (c : Chip) (f : Flow) : Bool := feLocal (feOf c f.dst) && feKind (feOf c f.dst) == 1

/-- Slots of the active table at crossbar output `o` that SC0 owns, in order (R108, R126). -/
def sc0Slots (c : Chip) (o : Nat) : List Nat :=
  let a := c.arb o
  if !a.enable then [] else (List.range 512).filter (fun s => ownerOf o (fretEntry a o a.active s) == .sc 0)

/-- The largest gap between two cyclically consecutive slots of a list (R126). -/
def maxGap : List Nat → Nat
  | [] => 0
  | s :: t =>
    let rec go : Nat → List Nat → Nat → Nat
      | prev, [], g => max g (s + 512 - prev)
      | prev, x :: r, g => go x r (max g (x - prev))
    go s t 0

/-- Present flows of the device. -/
def flowsOf (c : Chip) : List (Nat × Flow) := c.sched.flows.filter (·.2.present)

/-- Time that link IDE adds at a port, in ticks (R286, R260). -/
def ideIn (c : Chip) (p : Nat) : Nat :=
  match portLink c p with
  | some _ => 0
  | none => let x := c.port p; if x.ideReq ∨ x.ideOn then ns 4 + (ideAggOf x - 1) * cfgFlitTime c p else 0
def ideOut (c : Chip) (p : Nat) : Nat :=
  match portLink c p with
  | some l => let x := c.link l; if x.ideReq ∨ x.ideOn then ns 8 else 0
  | none => let x := c.port p; if x.ideReq ∨ x.ideOn then ns 4 else 0

/-- This device's term of R128 for a flow, in ticks. -/
def flowTerm (c : Chip) (id : Nat) (f : Flow) : Nat :=
  let (o, p) := flowOut c f
  let stv := (portLink c f.ingress).isSome
  let w := 64 * maxGap (sc0Slots c o)
  let head := w + ns 4 + f.m * cfgFlitTime c f.ingress + ideIn c f.ingress
  if flowHome c f then (if stv then ns 22 else ns 20) + head
  else
    let fo := cfgFlitTime c p
    let q := (flowsOf c).foldl (fun n g =>
      if g.1 ≠ id ∧ (flowOut c g.2).2 = p then n + flowBurst c g.2 * g.2.m else n) 0
    let d := match portLink c p with
      | some l => (c.link l).delay
      | none => 0
    let last := if feLocal (feOf c f.dst) then (f.m - 1) * fo else 0
    (if stv then ns 34 else ns 32) + head + 3 * fo + q * fo + d + ideOut c p + last

/-! ### Totals -/

/-- Groups that hold reservations, but for group `g` (R373). -/
def reservers (c : Chip) (g : Nat) : List Group := (c.grp.groups.filter (fun x => x.1 ≠ g)).map (·.2)

/-- The buffer sum (R73). -/
def bufSum (c : Chip) : Nat := sumBelow 38 (fun k => (c.sw.xports.look k).portLimit)

/-- Line-cache minima in MiB (R224). -/
def lcMinSum (c : Chip) : Nat := c.ten.tenants.foldl (fun n t => n + t.2.lcMin) 0

/-- The line cache in MiB. -/
def cacheMiB (c : Chip) : Nat := c.hbm.lcWays * 8192

/-- Reserved slots of a requester on a pseudo-channel: 32 for 16 and 17 after reset (R229). -/
def resvDef (key : Nat) : Nat := if key / 64 = 16 ∨ key / 64 = 17 then 32 else 0
def resvOf (c : Chip) (req pc : Nat) : Nat := c.hbm.reserve.lookD (resvDef (req * 64 + pc)) (req * 64 + pc)

/-- Sum of a pseudo-channel's reserved slots. -/
def resvSum (c : Chip) (pc : Nat) : Nat := sumBelow 22 (fun r => resvOf c r pc)

/-- Slots of the active table of arbiter `x` that requester `r` owns; none with ENABLE 0 (R108). -/
def slotsOwned (c : Chip) (x r : Nat) : Nat :=
  let a := c.arb x
  if !a.enable then 0 else ((List.range 512).filter (fun s => ownerOf x (fretEntry a x a.active s) == .req r)).length

/-- Resync bitmaps that the windows own (R199). -/
def bitmaps (c : Chip) : Nat :=
  c.pool.windows.foldl (fun n w => if w.2.present ∧ w.2.mode ≠ .plain then n + w.2.members.length else n) 0

/-- The virtual CXL switch of a port, and whether the port is its upstream port. -/
def vcsOfPort (c : Chip) (p : Nat) : Option (Nat × Bool) :=
  c.ports.vcs.findSome? (fun v =>
    if !v.2.present then none
    else if v.2.up = p then some (v.1, true)
    else if v.2.vppbs.any (fun b => match b.2.bound with
      | .port q => q == p
      | .ld q _ => q == p
      | .none => false) then some (v.1, false)
    else none)

/-- Bound vPPBs of the device (R271): vPPBs 16–47, and a tenant's binding on a port that has a virtual CXL switch. -/
def boundVppbs (c : Chip) : Nat :=
  c.ports.vcs.foldl (fun n v => n + (v.2.vppbs.filter (fun b => b.2.bound != .none)).length) 0 +
  c.ten.tenants.foldl (fun n t => n + (t.2.binds.filter (fun b => match vcsOfPort c b.1 with
    | some (_, up) => up
    | none => false)).length) 0

/-- Windows of a tenant. -/
def windowsOf (c : Chip) (t : Nat) : List Nat := (c.pool.windows.filter (fun w => w.2.present && w.2.tenant == t)).map (·.1)

/-- The SC0 part of the permit pool: the bursts of the flows that cross Stolevo Links (R80, R84). -/
def sc0Need (c : Chip) : Nat := (flowsOf c).foldl (fun n f => if flowCrosses c f.2 then n + flowBurst c f.2 else n) 0

/-! ### Window deadlines (R175, R90) -/

/-- R90: PATH_GUARD and the round trip of the alternate path towards a fabric ID across Stolevo Links, in ns. -/
def acrossTerms (c : Chip) (id : Nat) : Nat :=
  let e := feOf c id
  if !feValid e ∨ feLocal e then 0
  else
    let alt := match ([0, 1, 2, 3].filter (fun j => feUsable e j && j != fePrimary e)).head? with
      | some j => (c.link (feLink e j)).delay
      | none => 0
    c.sw.timers.pathGuard + ceilDiv (2 * alt) 16

/-- R90 for a backing device. -/
def remoteTerms (c : Chip) (d : Device) : Nat := if d.remote then acrossTerms c d.loc else 0

/-- R90 for the home: the agents of a window's domain on other devices reach it across Stolevo Links. -/
def homeTerms (c : Chip) (w : Window) : Nat :=
  if 256 ≤ w.domain then 0
  else (c.domain w.domain).agents.foldl (fun n a => if a.2.bound then max n (acrossTerms c a.2.fab) else n) 0

/-- ALT_TIME of a window in ns. -/
def altTime (c : Chip) (w : Window) : Nat :=
  let lat := w.members.foldl (fun n m => let d := c.dev m.2.dev; max n (d.latBound + remoteTerms c d)) 0
  lat + (if w.mode = .stripe then 80 else 50)

/-- What R175 and R90 require of DEADLINE, in ns. -/
def deadlineNeed (c : Chip) (w : Window) : Nat := max (100 + w.trigger + altTime c w) (homeTerms c w)

/-! ### The checks of Table 13.6 -/

/-- KIND 0x01: the first bad slot of a bank that becomes active. -/
def badBank (e : Chip) (x : Nat) : Option Nat :=
  let a := e.arb x
  findBelow 512 (fun s => badEntry x (fretEntry a x a.active s))

/-- A bandwidth of n/4,096 B per ns in MB/s, rounded up. -/
abbrev toMBs (n : Nat) : Nat := ceilDiv (n * 1000) 4096

/-- Pass 1: structure. `c` is the live state, `e` the end state. -/
def structural (c e : Chip) : List Refuse :=
  ((List.range 102).filterMap (fun x =>
    if (e.arb x).active = (c.arb x).active then none
    else (badBank e x).map (fun s => { status := .checkFailed, kind := 0x01, obj := x, need := s }))) ++
  ((flowsOf e).filterMap (fun f =>
    let x := feOf e f.2.dst
    let p := (flowOut e f.2).2
    if feLocal x ∧ feKind x ≠ 0 ∧ feKind x ≠ 1 then
      some { status := .badParam, kind := 0x04, obj := f.1, need := 1, have_ := 0xFFFFFFFF }
    else if !sc0PortOk e f.2.ingress then some { status := .badParam, kind := 0x04, obj := f.1, need := 2, have_ := f.2.ingress }
    else if !flowHome e f.2 ∧ !sc0PortOk e p then some { status := .badParam, kind := 0x04, obj := f.1, need := 2, have_ := p }
    else none))

/-- Pass 2: capacity. `g`: the group that is checked, 0 for an immediate command. -/
def capacity (c e : Chip) (g : Nat) : List Refuse :=
  let rs := reservers c g
  let buf := bufSum e + (rs.map (·.rsvBuf)).sum
  let lc := lcMinSum e + (rs.map (·.rsvLc)).sum
  let logs := bitmaps e + (rs.map (·.rsvLog)).sum
  let sc0 := sc0Need e + (rs.map (·.rsvSc0)).sum
  (if e.sw.bufCells < buf then [{ kind := 0x10, need := buf, have_ := e.sw.bufCells }] else []) ++
  ((List.range 38).filterMap (fun k =>
    let x := e.sw.xports.look k
    if x.portLimit < reservesOf e k x then some { kind := 0x11, obj := k, need := reservesOf e k x, have_ := x.portLimit }
    else none)) ++
  (if e.hbm.reserve = c.hbm.reserve then [] else
    (List.range 64).filterMap (fun k =>
      let n := resvSum e k + (rs.map (fun r => r.rsvHbm.look k)).sum
      if 512 < n then some { kind := 0x12, obj := k, need := n, have_ := 512 } else none)) ++
  ((List.range 64).filterMap (fun k =>
    if (e.arb (38 + k)).active = (c.arb (38 + k)).active ∧ (e.arb (38 + k)).enable = (c.arb (38 + k)).enable ∧
       e.hbm.reserve = c.hbm.reserve then none
    else
      ((List.range 22).find? (fun r => decide (slotsOwned e (38 + k) r < resvOf e r k))).map (fun r =>
        { kind := 0x13, obj := 38 + k, need := resvOf e r k, have_ := slotsOwned e (38 + k) r }))) ++
  (if cacheMiB e < lc then [{ kind := 0x14, need := lc, have_ := cacheMiB e }] else []) ++
  (if 131072 < logs then [{ kind := 0x15, obj := 199, need := logs, have_ := 131072 }] else []) ++
  (if 2048 < boundVppbs e then [{ kind := 0x15, obj := 271, need := boundVppbs e, have_ := 2048 }] else []) ++
  (e.ten.tenants.flatMap (fun t =>
    let w := (windowsOf e t.1).length + (rs.map (fun r => r.rsvWin.look t.1)).sum
    if 64 < w then [{ kind := 0x15, obj := 314 + 2 ^ 16, need := w, have_ := 64 }] else [])) ++
  (e.ten.tenants.flatMap (fun t =>
    let b := t.2.binds.length
    if 8 < b then [{ kind := 0x15, obj := 314 + 2 * 2 ^ 16, need := b, have_ := 8 }] else [])) ++
  (let room := poolCells - 10 * e.sw.timers.classReserve
   if room < sc0 then [{ kind := 0x16, need := sc0, have_ := room }] else [])

/-- KIND 0x21 for crossbar outputs and egress ports. -/
def sc0Rates (e : Chip) : List Refuse :=
  let fs := (flowsOf e).map (·.2)
  let outs := (List.range 38).filterMap (fun o =>
    let here := fs.filter (fun f => (flowOut e f).1 == o)
    if here.isEmpty then none
    else
      let rate := (here.map (flowRate e)).sum
      let burst := (here.map (flowBurst e)).sum
      let slots := (sc0Slots e o).length
      if slots * 4096 < rate ∨ 8 < burst ∨ slots = 0 then
        some { status := .deadlineInfeasible, kind := 0x21, obj := o, need := toMBs rate, have_ := slots * 1000 }
      else none)
  let ports := (List.range 128).filterMap (fun p =>
    let here := fs.filter (fun f => (flowOut e f).2 == p)
    if here.isEmpty then none
    else
      let rate := (here.map (flowRate e)).sum
      if cfgRate e p < rate then
        some { status := .deadlineInfeasible, kind := 0x21, obj := p, need := toMBs rate, have_ := cfgRate e p * 1000 / 4096 }
      else none)
  (outs ++ ports).mergeSort (fun a b => decide (a.obj ≤ b.obj))

/-- Windows whose record the change touches, in order. -/
def windowsTouched (c e : Chip) : List (Nat × Window) :=
  if c.pool.windows = e.pool.windows then [] else e.pool.windows.filter (fun w => w.2.present && decide (c.window w.1 ≠ w.2))

/-- The first entry of a list that closes SC0 (R113). -/
def closesSc0 (l : Option GateList) : Option Nat :=
  l.bind (fun x => x.entries.findIdx? (fun n => !bitOf n.1 0))

/-- Pass 3: deadlines. -/
def deadlines (c e : Chip) : List Refuse :=
  let fs := flowsOf e
  let r := fun (k obj need have_ : Nat) => ({ status := .deadlineInfeasible, kind := k, obj := obj, need := need, have_ := have_ } : Refuse)
  let rates := sc0Rates e
  (fs.filterMap (fun f =>
    if (sc0Slots e (flowOut e f.2).1).isEmpty then none
    else let t := flowTerm e f.1 f.2; if ns f.2.share < t then some (r 0x20 f.1 t (ns f.2.share)) else none)) ++
  rates ++
  (if fs.isEmpty then [] else (List.range 128).filterMap (fun p =>
    if !portHasFlow e p then none
    else
      let g := e.gate p
      match closesSc0 g.pending with
      | some n => some (r 0x22 p n 0)
      | none => (closesSc0 g.oper).map (fun n => r 0x22 p n 0))) ++
  ((windowsTouched c e).filterMap (fun w =>
    if w.2.mode ≠ .plain ∧ w.2.deadline < deadlineNeed e w.2 then some (r 0x23 w.1 (deadlineNeed e w.2) w.2.deadline) else none)) ++
  (fs.filterMap (fun f =>
    let h := f.2.hopsIn + feHops (feOf e f.2.dst)
    if 4 < h then some (r 0x24 f.1 h 4) else none)) ++
  (fs.filterMap (fun f =>
    if !(e.sched.tShapers.look f.2.tenant).enable then some (r 0x25 f.1 0xFFFFFFFF 8)
    else if 8 < flowBurst e f.2 then some (r 0x25 f.1 (flowBurst e f.2) 8) else none)) ++
  (if fs.isEmpty then [] else (List.range 32).filterMap (fun k =>
    let here := fs.filter (fun f => portXbar f.2.ingress == k)
    if here.isEmpty then none
    else
      let need := (here.map (fun f => flowBurst e f.2)).sum + 16
      let have_ := (e.sw.xports.look k).sc0Reserve
      if have_ < need then some (r 0x26 k need have_) else none))

/-- R371: the first failure of the end state `e` reached from the live state `c` by group `g` (0: one command). -/
def admitFail (c e : Chip) (g : Nat) : Option Refuse :=
  match structural c e with
  | f :: _ => some f
  | [] => match capacity c e g with
    | f :: _ => some f
    | [] => (deadlines c e).head?

/-- What a check of KIND `k` on object `o` reads in a state (R372: the item that changes it is named). -/
def subject (k o : Nat) (e : Chip) : List Nat :=
  let fl := fun (f : Flow) => [nat1 f.present, f.tenant, f.ingress, f.hopsIn, f.dst, f.path, f.maxFlits, f.share,
    (feOf e f.dst).toNat, nat1 (e.sched.tShapers.look f.tenant).enable, flowRate e f, flowBurst e f]
  if k = 0x01 ∨ k = 0x13 then
    let a := e.arb o
    [nat1 a.active, nat1 a.enable] ++ (if k = 0x13 then (List.range 22).map (fun r => resvOf e r (o - 38)) else [])
  else if k = 0x04 then fl (e.flow o) ++ [(e.port (e.flow o).ingress).rateMax, (e.port (flowOut e (e.flow o)).2).rateMax]
  else if k = 0x10 then [bufSum e, e.sw.bufCells]
  else if k = 0x11 then let x := e.sw.xports.look o; [x.portLimit, x.sc0Reserve]
  else if k = 0x12 then [resvSum e o]
  else if k = 0x14 then [lcMinSum e]
  else if k = 0x15 then
    if o = 199 then [bitmaps e]
    else if o = 271 then [boundVppbs e]
    else e.ten.tenants.flatMap (fun t => [t.1, if o / 2 ^ 16 = 1 then (windowsOf e t.1).length else t.2.binds.length])
  else if k = 0x16 then [sc0Need e, e.sw.timers.classReserve]
  else if k = 0x20 then fl (e.flow o) ++ [flowTerm e o (e.flow o)]
  else if k = 0x21 then
    (flowsOf e).flatMap (fun f => if (flowOut e f.2).1 = o ∨ (flowOut e f.2).2 = o then f.1 :: fl f.2 else []) ++
    [nat1 (e.arb o).active, nat1 (e.arb o).enable, cfgRate e o]
  else if k = 0x22 then
    let g := e.gate o
    [nat1 (portHasFlow e o), nat1 g.pending.isSome, nat1 g.oper.isSome] ++
      (match g.pending with
       | some l => l.base :: l.entries.map (·.1)
       | none => [])
  else if k = 0x23 then let w := e.window o; [nat1 w.present, w.deadline, w.trigger, w.extents]
  else if k = 0x24 ∨ k = 0x25 then fl (e.flow o)
  else if k = 0x26 then
    (e.sw.xports.look o).sc0Reserve :: (flowsOf e).flatMap (fun f => if portXbar f.2.ingress = o then f.1 :: fl f.2 else [])
  else []

/-- What a check that has passed reserves: the increases of the device-wide totals (R373). -/
def reservation (c e : Chip) (g : Group) : Group :=
  { g with rsvBuf := bufSum e - bufSum c, rsvLc := lcMinSum e - lcMinSum c, rsvSc0 := sc0Need e - sc0Need c,
           rsvLog := bitmaps e - bitmaps c,
           rsvHbm := if e.hbm.reserve = c.hbm.reserve then [] else
             ((List.range 64).map (fun k => (k, resvSum e k - resvSum c k))).filter (fun x => x.2 ≠ 0),
           rsvWin := (e.ten.tenants.map (fun t => (t.1, (windowsOf e t.1).length - (windowsOf c t.1).length))).filter
             (fun x => x.2 ≠ 0) }

/-- An immediate command: `e` is its end state; a refused one has no effect and carries Table 13.4 with INDEX 0. -/
def admitOr (c : Chip) (x : CmdRef) (e : Chip) (go : Chip → Chip) : Chip :=
  match admitFail c e 0 with
  | some f => endCmd c x f.status (f.bytes 0)
  | none => go e

end Sys2Proof.Machine
end

