-- ==== Sys2Proof/Machine/Flows.lean ====
section
/-!
DEFINITION. The commands of chapter 4: gate lists (R110–R116), port-class shapers (R120), SC0 flows (R123, R124).
-/
namespace Sys2Proof.Machine

/-! ### Gate lists -/

/-- ENTRY_COUNT of a GATE_LIST_SET (Table 4.8, offsets from byte 16). -/
abbrev glCount (d : Desc) : Nat := d.u16 32
/-- ENTRY[n]: byte `i` of the block past descriptor byte 63 too. -/
def glEntry (d : Desc) (n : Nat) : Nat := d.u32 (40 + 4 * n)

/-- GATE_LIST_SET's own checks (R111, R116). -/
def gateListSetCheck (c : Chip) (d : Desc) : Option Status :=
  let n := glCount d
  let tail := if d.indirect then d.block.drop (24 + 4 * n) else d.params.drop (24 + 4 * n)
  if 256 < n ∨ (!d.indirect ∧ 6 < n) ∨ (d.indirect ∧ d.blockLen < 24 + 4 * n) then some .badParam
  else if d.le 34 6 ≠ 0 ∨ d.le 29 3 ≠ 0 ∨ !tail.all (· == 0) then some .badParam
  else if n = 0 then none
  else if d.u64 16 % 64 ≠ 0 ∨ d.le 24 5 < 1024 ∨ sec 1 < d.le 24 5 ∨ d.le 24 5 % 64 ≠ 0 then some .badParam
  else if !((List.range n).all (fun i => field (glEntry d i) 8 16 != 0 && glEntry d i / 2 ^ 24 == 0)) then some .badParam
  else if c.ft.mode = .free then some .notPermitted
  else none

/-- The list that a GATE_LIST_SET commits now, and whether it starts at n > 0 (R112). -/
def gateListOf (c : Chip) (d : Desc) : GateList × Bool :=
  let base := d.u64 16
  let cycle := d.le 24 5
  let start := firstInstant base cycle (c.now + us 2)
  ({ base := base, cycle := cycle, start := start,
     entries := (List.range (glCount d)).map (fun i => (field (glEntry d i) 0 8, field (glEntry d i) 8 16)) },
   decide (base < start))

/-- The list is committed (R112). -/
def gateListSetDo (c : Chip) (d : Desc) : Chip :=
  let g := c.gate d.tgt
  if glCount d = 0 then c.setGate d.tgt { g with oper := none, pending := none, entry := 0 }
  else
    let (l, past) := gateListOf c d
    c.setGate d.tgt { g with pending := some l, basePast := past }

/-- The status and result of a commit: the start instant, or the commit instant of a removal. -/
def gateListSetEnd (c : Chip) (x : CmdRef) (d : Desc) : Chip :=
  if glCount d = 0 then endCmd c x .ok (leBytes 8 c.now)
  else
    let g := c.gate d.tgt
    let start := (g.pending.map (·.start)).getD 0
    endCmd c x (if g.basePast then .okBasePast else .ok) (leBytes 8 start)

/-- GATE_LIST_SET. -/
def gateListSet (r : Nat) (d : Desc) (c : Chip) : Chip :=
  runCmd 0x0150 (fun c x => match gateListSetCheck c d with
    | some st => refuse c x st
    | none => admitOr c x (gateListSetDo c d) (fun e => gateListSetEnd e x d)) r d c

/-- A list as GATE_LIST_QUERY writes it: its start instant, then Table 4.8. -/
def gateListBytes (l : Option GateList) : List Byte :=
  match l with
  | none => []
  | some l => leBytes 8 l.start ++ leBytes 8 l.base ++ leBytes 8 l.cycle ++ leBytes 2 l.entries.length ++ List.replicate 6 0 ++
      l.entries.flatMap (fun e => leBytes 4 (e.1 + e.2 * 256))

/-- GATE_LIST_QUERY. -/
def gateListQuery (r : Nat) (d : Desc) (c : Chip) : Chip :=
  runCmd 0x0151 (fun c x =>
    let g := c.gate d.tgt
    if !d.bufferOk r ∨ !d.zeroBut [(16, 12)] then refuse c x .badParam
    else
      let bs := gateListBytes g.oper ++ gateListBytes g.pending
      endQuery c x d bs.length bs) r d c

/-! ### Shapers -/

/-- A shaper with new parameters: newly enabled it starts with credit BURST (R119). -/
def shaperTo (c : Chip) (s : Shaper) (en : Bool) (rate burst : Nat) : Shaper :=
  if !en then { enable := false, rate := rate, burst := burst, credit := 0, updated := c.ivl }
  else
    let full : Int := ((burst * 65536 : Nat) : Int)
    { enable := true, rate := rate, burst := burst, credit := if s.enable then min full (creditNow c s) else full,
      updated := c.ivl }

/-- PORT_SHAPER_SET's own checks (R120). -/
def portShaperSetCheck (d : Desc) : Option Status :=
  if !d.zeroBut [(16, 1), (20, 7)] ∨ 1 < d.byte 16 ∨ 2 ^ 28 ≤ d.u32 20 then some .badParam
  else if d.byte 16 = 1 ∧ (d.u32 20 = 0 ∨ 2097152 < d.u32 20 ∨ d.u24 24 < 4351) then some .badParam
  else none

/-- The shaper is set. -/
def portShaperSetDo (c : Chip) (d : Desc) : Chip :=
  { c with sched := { c.sched with
      pShapers := c.sched.pShapers.put d.tgt (shaperTo c (c.sched.pShapers.look d.tgt) (d.byte 16 == 1) (d.u32 20) (d.u24 24)) } }

/-- PORT_SHAPER_SET. -/
def portShaperSet (r : Nat) (d : Desc) (c : Chip) : Chip :=
  runCmd 0x0104 (fun c x => match portShaperSetCheck d with
    | some st => refuse c x st
    | none => admitOr c x (portShaperSetDo c d) (fun e => endCmd e x .ok)) r d c

/-! ### SC0 flows -/

/-- The flow that a SC0_FLOW_ADD declares (Table 4.9). -/
def flowFrom (d : Desc) : Flow :=
  { present := true, tenant := d.u16 16, ingress := d.byte 18, hopsIn := d.byte 19, dst := d.u16 20, path := d.byte 22,
    maxFlits := d.byte 23, bound := d.u32 24, share := d.u32 28 }

/-- SC0_FLOW_ADD's own checks (R124, Table 4.9). -/
def sc0FlowAddCheck (c : Chip) (d : Desc) : Option Status :=
  let f := flowFrom d
  if !d.zeroBut [(16, 16)] ∨ f.tenant = 0 ∨ 4095 < f.tenant ∨ 127 < f.ingress ∨ 4 < f.hopsIn ∨ 3 < f.path ∨ 2 < f.maxFlits then
    some .badParam
  else if f.bound = 0 ∨ 1000000 < f.bound ∨ f.share = 0 ∨ f.bound < f.share then some .badParam
  else if 4095 < f.dst ∨ !feValid (feOf c f.dst) then some .noSuchTarget
  else none

/-- A flow's standing permits are established, or given up (R84): at the source its SC0 balance, elsewhere the pool's part. -/
def standingPermits (c : Chip) (f : Flow) (add : Bool) : Chip :=
  let n := flowBurst c f
  if !f.present ∨ !flowCrosses c f then c
  else if f.hopsIn = 0 then
    let k := balKey (deviceOf f.dst) f.path 10
    let b := c.sw.balances.look k
    setBalance c k { b with permits := if add then b.permits + n else b.permits - n }
  else if add then settleStanding { c with sw := { c.sw with sc0Owed := c.sw.sc0Owed + n } }
  else
    let k := min n c.sw.sc0Owed
    { c with sw := { c.sw with sc0Owed := c.sw.sc0Owed - k, permSc0 := c.sw.permSc0 - (n - k) } }

/-- Every flow's term on this device as it now stands (R128). -/
def flowsRetimed (c : Chip) : Chip :=
  { c with sched := { c.sched with flows := c.sched.flows.map (fun f =>
      (f.1, if f.2.present then { f.2 with term := flowTerm c f.1 f.2 } else f.2)) },
           sw := { c.sw with sc0Part := sc0Need c } }

/-- The flow is declared. -/
def sc0FlowAddDo (c : Chip) (d : Desc) : Chip :=
  let c := standingPermits c (c.flow d.tgt) false
  flowsRetimed (standingPermits (c.setFlow d.tgt (flowFrom d)) (flowFrom d) true)

/-- SC0_FLOW_ADD ends with the term in ns, rounded up. -/
def sc0FlowAddEnd (c : Chip) (x : CmdRef) (d : Desc) : Chip := endCmd c x .ok (leBytes 4 (ceilDiv (c.flow d.tgt).term 16))

/-- SC0_FLOW_ADD. -/
def sc0FlowAdd (r : Nat) (d : Desc) (c : Chip) : Chip :=
  runCmd 0x0240 (fun c x => match sc0FlowAddCheck c d with
    | some st => refuse c x st
    | none => admitOr c x (sc0FlowAddDo c d) (fun e => sc0FlowAddEnd e x d)) r d c

/-- A tenant has an admitted flow on this device. -/
def tenantHasFlow (c : Chip) (t : Nat) : Bool := (flowsOf c).any (fun f => f.2.tenant == t)

/-- The last flow of a tenant whose SC is 0 may not go: judged on the end state `e` (R124). -/
def sc0FlowRemoveEnd (c e : Chip) (d : Desc) : Option Status :=
  let t := (c.flow d.tgt).tenant
  if (e.tenant t).state ≠ .none ∧ (e.tenant t).sc = 0 ∧ !tenantHasFlow e t then some .busy else none

/-- The flow is removed. -/
def sc0FlowRemoveDo (c : Chip) (d : Desc) : Chip :=
  flowsRetimed ((standingPermits c (c.flow d.tgt) false).setFlow d.tgt {})

/-- SC0_FLOW_REMOVE. -/
def sc0FlowRemove (r : Nat) (d : Desc) (c : Chip) : Chip :=
  runCmd 0x0241 (fun c x =>
    let e := sc0FlowRemoveDo c d
    if !d.zeroBut [] then refuse c x .badParam
    else match sc0FlowRemoveEnd c e d with
      | some st => refuse c x st
      | none => admitOr c x e (fun e => endCmd e x .ok)) r d c

/-- SC0_FLOW_QUERY (R124). -/
def sc0FlowQuery (r : Nat) (d : Desc) (c : Chip) : Chip :=
  runCmd 0x0242 (fun c x =>
    let f := c.flow d.tgt
    if !d.zeroBut [] then refuse c x .badParam
    else endCmd c x .ok (leBytes 2 f.tenant ++ leBytes 1 f.ingress ++ leBytes 1 f.hopsIn ++ leBytes 2 f.dst ++
      leBytes 1 (f.path + 4 * f.m) ++ leBytes 4 (ceilDiv f.term 16) ++ leBytes 4 f.share)) r d c

end Sys2Proof.Machine
end

