-- ==== Sys2Proof/Machine/Switching.lean ====
section
/-!
DEFINITION. The path of a packet: header lookup (R57–R60, R318–R320, R329), the crossbar (R66), egress staging and the flits of
a CXL egress (R69, R109, R114, R131).
-/
namespace Sys2Proof.Machine

/-! ### Host routing (R58) -/

/-- The home slice of a pool address (R133). -/
def homeSlice (a : Nat) : Nat :=
  (List.range 8).foldl (fun x j => Nat.xor x (field a (6 + 5 * j) 5)) (field a 46 2)

/-- The port that a vPPB 16–47 of a vCS leads to. -/
def vppbPort (c : Chip) (v i : Nat) : Option Nat :=
  match (c.vppb v i).bound with
  | .port p => some p
  | .ld p _ => some p
  | .none => none

/-- The host configuration of a vCS. -/
def hostOf (c : Chip) (v : Nat) : HostCfg := c.sw.host.look (c.vcsOf v).up

/-- Where function `fn` of a vCS routes: vPPB `fn − 1`, or the management endpoint. -/
def fnEgress (c : Chip) (v fn : Nat) : Option Egress :=
  if fn = 49 then some .mgmt else if fn = 0 then none else (vppbPort c v (fn - 1)).map .port

/-- A CXL.io request or completion: down through the function whose range it lies in, else up from a downstream port. -/
def ioRoute (c : Chip) (p : Nat) (hits : HostCfg → Nat → Bool) : Option Egress :=
  match vcsOfPort c p with
  | none => none
  | some (v, up) =>
    let h := hostOf c v
    match ((List.range 49).map (· + 1)).findSome? (fun fn => if hits h fn then fnEgress c v fn else none) with
    | some e => some e
    | none => if up ∨ hits h 0 then none else some (.port (c.vcsOf v).up)

/-- An address lies in a range of a function. -/
def inRange (a : Nat) (h : HostCfg) (fn : Nat) : Bool :=
  h.ranges.any (fun r => r.1 == fn && decide (r.2.2.1 ≤ a) && decide (a ≤ r.2.2.2))
/-- An ID lies behind a function: its bus in the bus range of the function, or bus, device and function number are those it holds. -/
def inBuses (b d f : Nat) (h : HostCfg) (fn : Nat) : Bool :=
  h.buses.any (fun r => r.1 == fn && decide (r.2.1 ≤ b) && decide (b ≤ r.2.2)) || h.ids.contains (fn, b, d, f)

/-- Every downstream port of a vCS. -/
def downPorts (c : Chip) (v : Nat) : List Nat :=
  (((c.vcsOf v).vppbs.filterMap (fun b => vppbPort c v b.1))).eraseDups

/-- The downstream port of a vCS behind the vPPB that a list of the host's settings gives an ID. -/
def portById (c : Chip) (v : Nat) (ids : List (Nat × Nat)) (id : Nat) : Option Nat :=
  (ids.find? (fun e => e.2 == id)).bind (fun e => vppbPort c v e.1)

/-- The peer of a port for CXL.cache (Table 3.1, R265): the host of a device, the device that the CacheID names. -/
def cachePeer (c : Chip) (p id : Nat) : Option Nat :=
  match vcsOfPort c p with
  | none => none
  | some (v, up) =>
    if up then (portById c v (hostOf c v).cacheIds id).filter (fun q => (c.port q).cacheEn) else some (c.vcsOf v).up

/-- The peer of a port for back-invalidation (R265): the host of a device, the device that the BI-ID names. -/
def biPeer (c : Chip) (p id : Nat) : Option Nat :=
  match vcsOfPort c p with
  | none => none
  | some (v, up) => if up then portById c v (hostOf c v).biIds id else some (c.vcsOf v).up

/-! ### Pooled memory (R173, R318–R320) -/

/-- The tenant bound to a port under a pool LD-ID (R316). -/
def tenantAt (c : Chip) (p ld : Nat) : Option Nat :=
  (c.ten.tenants.find? (fun t => t.2.binds.contains (p, ld))).map (·.1)

/-- The port through which a private window is presented (Table 6.3): PORT, or the tenant's first binding. -/
def windowPort (c : Chip) (w : Window) : Option Nat :=
  if w.port = 255 then ((c.tenant w.tenant).binds.head?).map (·.1) else some w.port

/-- A window is presented through a port (R135). -/
def presented (c : Chip) (w : Window) (p : Nat) : Bool := decide (w.domain < 256) || windowPort c w == some p

/-- The DC region and offset of a DPA (notes/assumptions/13.md): a region spans 2^60 bytes. -/
abbrev dpaRegion (a : Nat) : Nat := a / 2 ^ 60
abbrev dpaOffset (a : Nat) : Nat := a % 2 ^ 60

/-- R173: the window of a tenant that a DPA selects through a port, and the index of the extent in it; where none does, the window from whose
end the extent has been removed (R180). -/
def findWindow (c : Chip) (t p dpa : Nat) : Option (Nat × Nat) :=
  let x := dpaOffset dpa / 2 ^ 28
  let within : (Window → Nat) → Nat × Window → Bool := fun len w =>
    w.2.present && w.2.tenant == t && w.2.region == dpaRegion dpa && decide (w.2.dpaOff ≤ x) && decide (x < w.2.dpaOff + len w.2) &&
    presented c w.2 p
  ((c.pool.windows.find? (within (·.extents))).or (c.pool.windows.find? (within (·.span)))).map (fun w => (w.1, x - w.2.dpaOff))

/-- R180: the extent has been accepted by the port's host and neither released nor removed. -/
def extentOpen (w : Window) (i p : Nat) : Bool :=
  let e := w.ext.look i
  e.present && e.accepted.contains p && !e.released.contains p

/-- The pool address of a DPA in a window. -/
def poolAddress (w : Window) (i dpa : Nat) : Nat := (w.ext.look i).pool * 2 ^ 28 + dpaOffset dpa % 2 ^ 28

/-- The ACCESS_FAULT event is due: EVT_INTERVAL has passed since the last one (R320). -/
def evtDue (c : Chip) (t : Nat) (last : Option Nat) : Bool :=
  match last with
  | none => true
  | some a => c.past a (us (c.tenant t).evtIvl)

/-- The result of an ACCESS_FAULT event (Table 12.6). -/
def accessResult (w dpa n : Nat) : List Byte := leBytes 2 w ++ leBytes 8 dpa ++ leBytes 4 n

/-- R319, R329: an access fault of tenant `t`, in a window or in none, is counted, raised and reported (R320). -/
def accessFault (c : Chip) (t : Nat) (w : Option Nat) (dpa src : Nat) : Chip :=
  let c := raise (countTenant c t 7 1) src (srcInfo 10 t)
  match w with
  | some i =>
    let x := c.window i
    let first := if x.faults = 0 then dpa else x.faultDpa
    if evtDue c t x.faultAt then
      unsolTenant (c.setWindow i { x with faults := 0, faultAt := some c.ivl, faultDpa := 0 }) t 0x8002
        (accessResult i first (x.faults + 1))
    else c.setWindow i { x with faults := x.faults + 1, faultDpa := first }
  | none =>
    let x := c.tenant t
    let first := if x.missCnt = 0 then dpa else x.missDpa
    if evtDue c t x.missAt then
      unsolTenant (c.setTenant t { x with missCnt := 0, missAt := some c.ivl, missDpa := 0 }) t 0x8002
        (accessResult 0xFFFF first (x.missCnt + 1))
    else c.setTenant t { x with missCnt := x.missCnt + 1, missDpa := first }

/-- What a pooled request meets on its way to the home slice (R318). -/
inductive MemRoute where
  | home (tenant window ext addr : Nat)
  | device (port : Nat)
  | fault (tenant : Nat) (window : Option Nat) (dpa src : Nat)
  | miss
  deriving DecidableEq, Repr

/-- R318: the HDM decoders of the port's vCS, the tenant's state, the window. -/
def memRoute (c : Chip) (p hpa : Nat) : MemRoute :=
  match vcsOfPort c p with
  | none => .miss
  | some (v, _) => match (hostOf c v).hdm.find? (fun d => decide (d.base ≤ hpa) && decide (hpa < d.base + d.size)) with
    | none => .miss
    | some d =>
      let dpa := d.dpa + (hpa - d.base)
      if 16 ≤ d.vppb then
        (match vppbPort c v d.vppb with
         | some q => .device q
         | none => .miss)
      else match tenantAt c p d.vppb with
        | none => .miss
        | some t => match (c.tenant t).state with
          | .none => .miss
          | .disabled => .fault t ((findWindow c t p dpa).map (·.1)) dpa 193
          | .enabled | .draining => match findWindow c t p dpa with
            | none => .fault t none dpa 192
            | some (w, i) =>
              if extentOpen (c.window w) i p then .home t w i (poolAddress (c.window w) i dpa) else .fault t (some w) dpa 192

/-! ### The lookup -/

/-- The result of a lookup: where the packet goes, or what becomes of it. -/
inductive Look where
  | go (q : QPkt)
  | copies (qs : List QPkt)
  | done (c : Chip)

/-- A packet of this device or of a host for an ID on another device (R60). -/
def toFabric (c : Chip) (q : QPkt) (id : Nat) : QPkt := rerouted c { q with dst := id }

/-- SC0 only where an admitted flow covers the ingress port and the destination, else SC1 (R119, R124). -/
def coveredSc (c : Chip) (q : QPkt) (tenant : Option Nat) : Chip × QPkt :=
  if q.sc ≠ 0 then (c, q)
  else match flowCover c tenant q.port q.egress q.dst with
    | some f => (c, { q with flow := some f })
    | none =>
      let q := { q with sc := 1 }
      match tenant.bind (fun t => ((flowsOf c).find? (fun f => f.2.tenant == t)).map (·.1)) with
      | some f => (c.setFlow f { c.flow f with outside := (c.flow f).outside + 1 }, q)
      | none => (c, q)

/-- A local target (Table 3.2). -/
def localEgress (e : DWord) : Egress × Nat :=
  if feKind e = 0 then (.port (feIndex e), portXbar (feIndex e))
  else if feKind e = 1 then (.quad (feIndex e), 32 + feIndex e)
  else (.mgmt, 37)

/-- A packet bound for a port of this device. -/
def toPort (q : QPkt) (p : Nat) : QPkt := { q with egress := .port p, output := portXbar p }

/-- The packet as it is enqueued, before its route is known. -/
def packetOf (c : Chip) (p : PacketIn) : QPkt :=
  { pid := p.pid, input := p.input, port := p.port, cls := p.class, tenant := p.tenant, bytes := p.bytes, flits := p.flits,
    cells := ceilDiv p.bytes 256, whole := p.whole || decide (32 ≤ p.input), ecrc := p.ecrc, poison := p.poison, data := p.data,
    arrival := c.now - p.age, lookAt := c.ivl, guarded := p.guarded, ro := p.ro, ido := p.ido, reqId := p.reqId, srcId := p.srcId,
    srcDev := ownId c, body := p.body, seq := c.sw.lookups, sc := p.answers.getD 5 }

/-- LOOKUP_MISS of a CXL packet (Table 3.1). -/
def lookupMiss (c : Chip) (p : Nat) (a : Option Answer) : Chip :=
  raise (match a with
    | some x => c.emit (.tlpAnswer p x)
    | none => c) 64 (srcInfo 1 p)

/-- The header lookup of Table 3.1. -/
def lookup (c : Chip) (p : PacketIn) : Look :=
  let q := packetOf c p
  match p.traffic with
  | .ioAddr a => match ioRoute c p.port (inRange a) with
    | some .mgmt => .go { q with egress := .mgmt, output := 37 }
    | some (.port x) => .go (toPort q x)
    | some (.link _ _) | some (.quad _) | some .mover | none => .done (lookupMiss c p.port (some .unsupported))
  | .ioId b d f cpl => match ioRoute c p.port (inBuses b d f) with
    | some .mgmt => .go { q with egress := .mgmt, output := 37 }
    | some (.port x) => .go (toPort q x)
    | some (.link _ _) | some (.quad _) | some .mover | none =>
      .done (lookupMiss c p.port (if cpl then none else some .unsupported))
  | .ioMsg r => match vcsOfPort c p.port with
    | none => .done (lookupMiss c p.port none)
    | some (v, up) =>
      if r = 4 then .done c
      else if (r = 0 ∨ r = 5) ∧ !up then .go (toPort q (c.vcsOf v).up)
      else if r = 3 ∧ up ∧ !(downPorts c v).isEmpty then .copies ((downPorts c v).map (toPort q))
      else .done (lookupMiss c p.port none)
  | .cache _ id => match cachePeer c p.port id with
    | some x => .go (toPort q x)
    | none => .done c
  | .bi id _ => match biPeer c p.port id with
    | some x => .go (toPort q x)
    | none => .done (lookupMiss c p.port none)
  | .mem hpa write => match memRoute c p.port hpa with
    | .home t _ _ a =>
      let s := homeSlice a
      .go { q with tenant := t, shaped := true, sc := (c.tenant t).sc, egress := .quad (s / 8), output := 32 + s / 8, slice := some s }
    | .device x => .go (toPort q x)
    | .fault t w dpa src =>
      .done ((accessFault c t w dpa src).emit (.tlpAnswer p.port (if write then .cmp .invalid else .poison .invalid)))
    | .miss => .done (lookupMiss c p.port (some (if write then .cmp .invalid else .poison .invalid)))
  | .backing b =>
    let d := c.dev b
    let s := match p.answers with
      | some s => s
      | none => (c.tenant p.tenant).sc
    let q := { q with sc := if s = 0 then 1 else s }
    if d.remote then
      let e := feOf c d.loc
      if feValid e ∧ feLocal e then .go { q with egress := (localEgress e).1, output := (localEgress e).2, dst := d.loc }
      else .go (toFabric c q d.loc)
    else .go (toPort q d.loc)
  | .toPort x => .go (toPort q x)
  | .stolevo h hop =>
    let e := feOf c h.dst
    let q := { q with dst := h.dst, path := h.path, hop := hop, srcDev := h.srcDev, srcId := h.src, fromStv := true, sc := h.sc,
                      tenant := h.tenant, bytes := h.bytes, cells := ceilDiv h.bytes 256, guarded := h.guarded,
                      reissue := h.reissue, tag := h.tag, oldest := h.oldest }
    let back := fun (c : Chip) => creditPool c h.srcDev h.path q.cls.code q.cells (h.sc == 0)
    if !feValid e then .done (raise (back c) 65)
    else if feLocal e then .go { q with egress := (localEgress e).1, output := (localEgress e).2 }
    else if 63 ≤ hop then .done (raise (back c) 155)
    else
      let l := feLink e h.path
      .go { q with egress := .link l (linkPort c l), output := (linkQuarter c l).getD 0, hop := hop + 1 }

/-- The service class with which a packet is carried (R119, R124). -/
def withClass (c : Chip) (p : PacketIn) (q : QPkt) : Chip × QPkt :=
  match p.traffic with
  | .mem _ _ => coveredSc c q (if q.shaped then some q.tenant else none)
  | .stolevo h _ => coveredSc c q (some h.tenant)
  | .backing _ => (c, q)
  | .ioAddr _ | .ioId _ _ _ _ | .ioMsg _ | .cache _ _ | .bi _ _ | .toPort _ =>
    match p.answers with
    | some _ => coveredSc c q none
    | none => if p.input < 32 then (c, { q with sc := 5 }) else (c, { q with sc := p.sc })

/-- Cells that permits of this device cover and that it holds (R80, R85), per packet of `ok`: in the VOQs, in egress staging, with the
egress link layers and in the replay stores. -/
def coveredCells (c : Chip) (ok : QPkt → Bool) : Nat :=
  let mine : QPkt → Bool := fun q => q.fromStv && ok q
  let sum : List QPkt → (QPkt → Nat) → Nat := fun qs n => (qs.filter mine).foldl (fun s q => s + n q) 0
  let inLink : StvLink → Nat := fun x =>
    sum (x.sendSc0 ++ x.sendData) (fun q => q.cells - linkTaken x.ideOn q) +
    x.replay.foldl (fun s e => match e.load with
      | .packet q _ _ => if mine q then s + e.done else s
      | .permits _ => s) 0
  c.sw.voq.foldl (fun s l => s + sum l.2 (fun q => q.cells - q.moved)) 0 +
  c.sw.staging.foldl (fun s l => s + sum l.2 (fun q => q.moved - takenCells q)) 0 +
  c.stv.links.foldl (fun s l => s + inLink l.2) 0

/-- Cells of a source device that this device holds under its permits (R80). -/
def coveredHeld (c : Chip) (src : Nat) : Nat := coveredCells c (fun q => q.srcDev == src)

/-- PERMIT_ACCOUNT (Table 3.9): a received cell finds its permits exhausted; it is still sunk. -/
def permitAccount (c : Chip) (q : QPkt) : Chip :=
  if q.fromStv ∧ debitsOf c q.srcDev < coveredHeld c q.srcDev + q.cells then raise c 71 else c

/-- Counting a packet received on a port (Table 19.1, R479). -/
def countReceived (c : Chip) (p : PacketIn) (q : QPkt) : Chip :=
  if 32 ≤ p.input then c
  else countBandwidth (countEvent (countEvent c (portEvent q 0x010)) (portEvent q 0x012) q.bytes) p.port q.bytes true

/-- The tenant's request counters (Table 19.2). -/
def countRequest (c : Chip) (p : PacketIn) (q : QPkt) : Chip :=
  match p.traffic with
  | .mem _ w => if q.shaped then countTenant c q.tenant (if w then 1 else 0) 1 else c
  | .ioAddr _ | .ioId _ _ _ _ | .ioMsg _ | .cache _ _ | .bi _ _ | .backing _ | .stolevo _ _ | .toPort _ => c

/-- One packet whose route is known is enqueued. -/
def enqueueRouted (c : Chip) (p : PacketIn) (q : QPkt) : Chip :=
  let (c', q) := withClass c p q
  match enqueue (permitAccount c' q) q p.joins with
  | none => c
  | some c' =>
    let c' := parkHeads (requestApplied (countRequest (countReceived c' p q) p q) p.responds)
    if isSource q then
      let c' := askPermits c' (deviceOf q.dst) q.path (balCls q)
      if q.noPath then raise c' 74 else c'
    else c'

/-- R56: the most bytes of a packet: 16 cells, 9 for a CXL.io TLP. -/
def maxBytes : Traffic → Nat
  | .ioAddr _ | .ioId _ _ _ _ | .ioMsg _ => 2304
  | .cache _ _ | .mem _ _ | .bi _ _ | .backing _ | .stolevo _ _ | .toPort _ => 4096

/-- The stored length of a packet: a Stolevo packet's header gives it (Table 8.5). -/
def PacketIn.length (p : PacketIn) : Nat := match p.traffic with
  | .stolevo h _ => h.bytes
  | .ioAddr _ | .ioId _ _ _ _ | .ioMsg _ | .cache _ _ | .mem _ _ | .bi _ _ | .backing _ | .toPort _ => p.bytes

/-- A packet can reach the lookup: the fabric runs, its ingress port lies on its crossbar input and its link is up. -/
def lookable (c : Chip) (p : PacketIn) : Bool :=
  c.rst.running && decide (p.input < 38) && decide (1 ≤ PacketIn.length p) &&
  decide (PacketIn.length p ≤ maxBytes p.traffic) &&
  (decide (32 ≤ p.input) ||
    (decide (p.port < 128) && p.port / 4 == p.input &&
      (match p.traffic with
       | .stolevo _ _ => (portLink c p.port).isSome
       | .ioAddr _ | .ioId _ _ _ _ | .ioMsg _ | .cache _ _ | .mem _ _ | .bi _ _ | .backing _ | .toPort _ => linkUp (c.port p.port))))

/-- R288: while IDE is required and not active, a port completes every CXL.io request with Unsupported Request and carries
neither CXL.cache nor CXL.mem. -/
def ideHeld (c : Chip) (p : PacketIn) : Bool :=
  let x := c.port p.port
  decide (p.input < 32) && (portLink c p.port).isNone && x.ideReq && !x.ideOn

/-- PACKET_LOOKUP (R57). -/
def packetLookup (p : PacketIn) (c : Chip) : Chip :=
  if !lookable c p then c
  else if ideHeld c p then
    (match p.traffic with
     | .ioAddr _ | .ioId _ _ _ false | .ioMsg _ => c.emit (.tlpAnswer p.port .unsupported)
     | .ioId _ _ _ true | .cache _ _ | .mem _ _ | .bi _ _ | .backing _ | .stolevo _ _ | .toPort _ => c)
  else
    let c := { c with sw := { c.sw with lookups := c.sw.lookups + 1 } }
    match lookup c p with
    | .go q => enqueueRouted c p q
    | .copies qs => qs.foldl (fun c q => enqueueRouted c p q) c
    | .done d => countReceived d p (packetOf c p)

/-! ### The crossbar (R66) and egress staging (R65) -/

/-- The packet carries the message that a command names: its own, or one that shares its cell (R55). -/
def QPkt.holds (q : QPkt) (pid : Nat) : Bool := q.pid == pid || q.mates.contains pid

/-- `f` applied to every copy of a packet's descriptors that has not gone out: in the VOQs, in staging, with the egress link
layers. -/
def mapQueued (c : Chip) (f : QPkt → QPkt) : Chip :=
  { c with
    sw := { c.sw with voq := c.sw.voq.map (fun l => (l.1, l.2.map f)), staging := c.sw.staging.map (fun l => (l.1, l.2.map f)) }
    stv := { c.stv with links := c.stv.links.map (fun l =>
      (l.1, { l.2 with sendData := l.2.sendData.map f, sendSc0 := l.2.sendSc0.map f })) } }

/-- Every such packet. -/
def allQueued (c : Chip) : List QPkt :=
  c.sw.voq.flatMap (·.2) ++ c.sw.staging.flatMap (·.2) ++ c.stv.links.flatMap (fun l => l.2.sendData ++ l.2.sendSc0)

/-- R68: a bad verdict on a flit tail-marks the cells it carries: (packet, cell). -/
def markTail (c : Chip) (cells : List (Nat × Nat)) : Chip :=
  mapQueued c (fun q => cells.foldl (fun q k => if q.holds k.1 then { q with tails := addOnce q.tails k.2 } else q) q)

/-- Packets whose data arrive poisoned (Table 8.2). -/
def poisonPkts (c : Chip) (cells : List (Nat × Nat)) : Chip :=
  mapQueued c (fun q => if cells.any (fun k => q.holds k.1) then { q with poison := true } else q)

/-- R67: the last cells of these packets have been received. -/
def lastCells (c : Chip) (pids : List Nat) : Chip :=
  if pids.isEmpty then c else mapQueued c (fun q => if pids.any q.holds then { q with whole := true } else q)

/-- R131: an SC0 cell whose time on the device exceeds its flow's term is counted and raises source 81. -/
def sc0Late (c : Chip) (q : QPkt) (extra : Nat) : Chip :=
  match q.flow with
  | none => c
  | some f =>
    let x := c.flow f
    if q.sc = 0 ∧ x.present ∧ x.term < c.now + extra - q.arrival then
      raise (c.setFlow f { x with late := x.late + q.cells }) 81 (srcInfo 17 f)
    else c

/-- The cells of a packet that have reached staging. -/
def stageCell (c : Chip) (p : Nat) (q : QPkt) : Chip :=
  let key := p * 8 + q.sc
  let l := c.sw.staging.look key
  match l.findIdx? (fun x => x.pid == q.pid && x.seq == q.seq) with
  | some i => { c with sw := { c.sw with staging := c.sw.staging.put key (setAt l i { l.getD i {} with moved := q.moved }) } }
  | none => { c with sw := { c.sw with staging := c.sw.staging.put key (l ++ [q]) } }

/-- R66: crossbar input `i` has sent no cell in this core cycle, and output `o` has accepted none. -/
def crossbarFree (c : Chip) (i o : Nat) : Bool := c.sw.inCell.look i != c.ivl + 1 && c.sw.outCell.look o != c.ivl + 1

/-- R66, R74, R76, R83: the next cell of the packet that output `o` carries leaves the buffer. -/
def cellMove (o : Nat) (c : Chip) : Chip :=
  let a := c.arb o
  match a.carry with
  | none => c
  | some k => match c.sw.voq.look k.lane with
    | [] => c
    | q :: rest =>
      if q.pid ≠ k.pid ∨ !stagingRoom c q 1 ∨ !crossbarFree c q.input o then c
      else match q.places with
        | [] => c
        | pl :: more =>
          let q' := { q with moved := q.moved + 1, places := more }
          let last := decide (q.cells ≤ q'.moved)
          let c := { c with sw := { c.sw with inCell := c.sw.inCell.put q.input (c.ivl + 1),
                                              outCell := c.sw.outCell.put o (c.ivl + 1) } }
          let c := freePlace c q.input q.sc q.cls.code pl
          let c := if q.input < 32 ∧ !q.fromStv ∧ !q.noCredit then giveBack c q.port q.cls.code else c
          let c := { c with sw := { c.sw with voq := c.sw.voq.put k.lane (if last then rest else q' :: rest) } }
          let c := if last then parkHeads (c.setArb o { a with carry := none }) else c
          let c := match q.egress.portNo with
            | some p => stageCell c p q'
            | none =>
              let c := permitLeaves c q 1 true
              let c := match q.slice with
                | some s => c.emit (.toSlice s q.pid q.moved)
                | none => c
              if last then sc0Late c q 0 else c
          offerAll c q.input

/-! ### Egress of a CXL port -/

/-- The staged head of a port and class. -/
def stagedHead (c : Chip) (p sc : Nat) : Option QPkt := (c.sw.staging.look (p * 8 + sc)).head?

/-- The next flit of a staged packet is at hand: every cell it carries has reached staging. -/
def flitAtHand (q : QPkt) : Bool := decide (min q.cells (ceilDiv (cxlSpan q q.taken).2 256) ≤ q.moved)

/-- R109: a staged packet that has not begun may start now. -/
def mayStart (c : Chip) (p sc : Nat) (q : QPkt) : Bool :=
  flitAtHand q && !(!q.tails.isEmpty && portHasFlow c p) && bitOf (openMask (c.gate p)) sc &&
  (guardPass c p sc q.flits || c.sched.overran.any (fun o => o.1 == q.pid && decide (o.2 ≤ c.now)))

/-- R114: a packet that no whole open interval of its class fits starts in the next open interval, from `when` on; one that the end
of that interval finds not selected waits for the following one, which needs no new mark. -/
def markOverrun (c : Chip) (p : Nat) : Chip :=
  (List.range 8).foldl (fun c sc => match stagedHead c p sc with
    | none => c
    | some q =>
      if q.taken = 0 ∧ !guardPass c p sc q.flits ∧ guardNever c p sc q.flits ∧ !(c.sched.overran.any (fun o => o.1 == q.pid)) then
        let next := if bitOf (openMask (c.gate p)) sc then (nextClosing c p sc).getD c.now else c.now
        { c with sched := { c.sched with overran := c.sched.overran ++ [(q.pid, next)] } }
      else c) c

/-- The class whose flit is sent at a flit boundary (R109): SC0 between the flits of a packet in progress, the packet in
progress, the lowest class that may start. -/
def pickClass (c : Chip) (p : Nat) : Option Nat :=
  let inProgress := fun (sc : Nat) => match stagedHead c p sc with
    | some q => decide (0 < q.taken)
    | none => false
  let starts := fun (sc : Nat) => match stagedHead c p sc with
    | some q => q.taken == 0 && mayStart c p sc q
    | none => false
  let goes := fun (sc : Nat) => match stagedHead c p sc with
    | some q => flitAtHand q
    | none => false
  if inProgress 0 then (if goes 0 then some 0 else none)
  else if starts 0 then some 0
  else match [1, 2, 3, 4, 5, 6, 7].find? inProgress with
    | some k => if goes k then some k else none
    | none => [1, 2, 3, 4, 5, 6, 7].find? starts

/-- A packet that starts with the guard set aside raises GATE_OVERRUN (R114). -/
def overrunStart (c : Chip) (p sc : Nat) (q : QPkt) : Chip :=
  if q.taken = 0 ∧ c.sched.overran.any (fun o => o.1 == q.pid) then
    let c := { c with sched := { c.sched with overran := c.sched.overran.filter (fun o => o.1 ≠ q.pid) } }
    if guardPass c p sc q.flits then c else raise c 82 (srcInfo 1 p)
  else c

/-- The packet has left: counters, bandwidth, SC0 lateness (R131: the last bit is one flit and the transmit PHY later). -/
def packetSent (c : Chip) (p : Nat) (q : QPkt) : Chip :=
  let e := fun code => { portEvent q code with inst := p, quad := p / 32 }
  let c := countBandwidth (countEvent (countEvent c (e 0x011)) (e 0x013) q.bytes) p q.bytes false
  sc0Late c q (flitTime c p + ns 8)

/-- Traffic of CXL.io (R63). -/
def isIo (k : MsgClass) : Bool := k == .p || k == .np || k == .cpl

/-- One flit of the staged head of a class goes out on a CXL port; one that carries a tail-marked cell is stomped (R69). The permits
of the cells that leave with it are credited (R83). -/
def sendCxlFlit (c : Chip) (p sc : Nat) (q : QPkt) : Chip :=
  let c := overrunStart c p sc q
  let n := c.sw.txSeq.look p
  let q' := { q with taken := q.taken + 1 }
  let done := decide (q.flits ≤ q'.taken)
  let bad := (spanCells (cxlSpan q q.taken)).any q.tails.contains
  let key := p * 8 + sc
  let rest := (c.sw.staging.look key).drop 1
  let c := { c with sw := { c.sw with txSeq := c.sw.txSeq.put p (n + 1),
                                      staging := c.sw.staging.put key (if done then rest else q' :: rest) } }
  let c := c.emit (.cxlFlit p n q.pid bad (q.poison && !isIo q.cls) (q.poison && isIo q.cls))
  let c := if bad then
      { c with sw := { c.sw with
          replay := c.sw.replay.upd p (· ++ [{ seq := n, pid := q.pid, bad := true }]),
          stomped := if (c.sw.stomped.look p).any (fun s => s.pid == q.pid) then c.sw.stomped
            else c.sw.stomped.upd p (· ++ [{ pid := q.pid, since := c.ivl, seq := n, pkt := q }]) } }
    else c
  let c := permitLeaves c q (takenCells q' - takenCells q) true
  if done then packetSent c p q' else c

/-- A staged packet passes to the link layer of a Stolevo Link (R109, R247). -/
def toLink (c : Chip) (p l sc : Nat) (q : QPkt) : Chip :=
  let c := overrunStart c p sc q
  let key := p * 8 + sc
  let c := { c with sw := { c.sw with staging := c.sw.staging.put key ((c.sw.staging.look key).drop 1) } }
  c.modLink l (fun x => if sc = 0 then { x with sendSc0 := x.sendSc0 ++ [q] } else { x with sendData := x.sendData ++ [q] })

/-- EGRESS_FLIT_BOUNDARY (R109). -/
def egressFlitBoundary (p : Nat) (c : Chip) : Chip :=
  if 128 ≤ p then c
  else
    let c := markOverrun c p
    match portLink c p with
    | some l =>
      let x := c.link l
      let ready : Nat → Bool := fun sc => match stagedHead c p sc with
        | some q => decide (q.cells ≤ q.moved) && mayStart c p sc q
        | none => false
      let pick := if x.sendSc0.isEmpty ∧ ready 0 then some 0
        else if x.sendData.isEmpty then [1, 2, 3, 4, 5, 6, 7].find? ready else none
      match pick.bind (fun sc => (stagedHead c p sc).map (fun q => (sc, q))) with
      | some (sc, q) => toLink c p l sc q
      | none => c
    | none =>
      if (c.port p).state ≠ .l0 ∧ (c.port p).state ≠ .l0p then c
      else match (pickClass c p).bind (fun sc => (stagedHead c p sc).map (fun q => (sc, q))) with
        | some (sc, q) => sendCxlFlit c p sc q
        | none => c

/-! ### HOST_CONFIG_WRITE (R58) and FABRIC_ID_SET -/

/-- A port whose link a host had turned off, or contained, may train again. -/
def slotBack (c : Chip) (p : Nat) : Chip :=
  let y := c.port p
  if y.state = .disabled ∧ !y.disable then c.setPort p { y with state := .training } else c

/-- The host on an upstream port has released the containment of a vPPB: the link of its port may train again (R265). -/
def dpcReleased (c : Chip) (p b : Nat) : Chip :=
  match vcsOfPort c p with
  | some (v, true) =>
    if !(c.sw.host.look p).dpcOn.contains b ∨ (c.vppb v b).off then c
    else (match vppbPort c v b with
      | some q => slotBack c q
      | none => c)
  | some (_, false) | none => c

/-- A vector is unmasked: an interrupt that was held behind its mask is sent (R351). -/
def sendHeld (c : Chip) (p fn vector : Nat) : Chip :=
  let h := c.rings.pba.look p
  match h.find? (fun e => e.1 == fn && e.2.1 == vector) with
  | none => c
  | some e =>
    let c : Chip := { c with rings := { c.rings with pba := c.rings.pba.put p (h.erase e) } }
    (c.modRing (e.2.2 / 2) (fun r => { r with intAt := some c.ivl, intWait := false })).emit (.interrupt e.2.2 vector)

/-- HOST_CONFIG_WRITE: what the host on an upstream port programs in the functions of its virtual CXL switch. -/
def hostConfigWrite (p : Nat) (w : ConfigWrite) (c : Chip) : Chip :=
  if (c.port p).role ≠ 1 ∧ (c.port p).role ≠ 3 then c
  else
    let h := c.sw.host.look p
    let h' : HostCfg := match w with
      | .range fn k b l => { h with ranges := h.ranges.filter (fun r => r.1 ≠ fn ∨ r.2.1 ≠ k) ++ [(fn, k, b, l)] }
      | .buses fn s t => { h with buses := h.buses.filter (fun r => r.1 ≠ fn) ++ [(fn, s, t)] }
      | .captured fn b d f => { h with ids := h.ids.filter (fun r => r.1 ≠ fn) ++ [(fn, b, d, f)] }
      | .hdm i b s v a =>
        { h with hdm := h.hdm.filter (fun x => x.index ≠ i) ++
            (if s = 0 then [] else [{ index := i, base := b, size := s, vppb := v, dpa := a }]) }
      | .busMaster fn on => { h with busMaster := if on then addOnce h.busMaster fn else h.busMaster.erase fn }
      | .vectorMask fn v m => { h with masked := if m then addOnce h.masked (fn, v) else h.masked.erase (fn, v) }
      | .maxPayload n => { h with maxPayload := min n 2048 }
      | .dcEvents on => { h with dcEvents := on }
      | .cacheId v i => { h with cacheIds := h.cacheIds.filter (fun e => e.1 ≠ v) ++ (if i < 16 then [(v, i)] else []) }
      | .biId v i => { h with biIds := h.biIds.filter (fun e => e.1 ≠ v) ++ (if i < 256 then [(v, i)] else []) }
      | .dpc v on => { h with dpcEn := if on then addOnce h.dpcEn v else h.dpcEn.erase v }
      | .dpcClear v => { h with dpcOn := h.dpcOn.erase v }
      | .hotPlug v on => { h with hotEn := if on then addOnce h.hotEn v else h.hotEn.erase v }
      | .aerClear fn bits => { h with aer := h.aer.upd fn (· &&& ~~~bits) }
    let c := match w with
      | .dpcClear b => dpcReleased c p b
      | .range _ _ _ _ | .buses _ _ _ | .captured _ _ _ _ | .hdm _ _ _ _ _ | .busMaster _ _ | .vectorMask _ _ _ | .maxPayload _
      | .dcEvents _ | .cacheId _ _ | .biId _ _ | .dpc _ _ | .hotPlug _ _ | .aerClear _ _ => c
    let c : Chip := { c with sw := { c.sw with host := c.sw.host.put p h' } }
    match w with
    | .vectorMask fn v false => sendHeld c p fn v
    | .vectorMask _ _ true | .range _ _ _ _ | .buses _ _ _ | .captured _ _ _ _ | .hdm _ _ _ _ _ | .busMaster _ _ | .maxPayload _
    | .dcEvents _ | .cacheId _ _ | .biId _ _ | .dpc _ _ | .dpcClear _ | .hotPlug _ _ | .aerClear _ _ => c

/-- FABRIC_ID_SET (R61). -/
def fabricIdSet (r : Nat) (d : Desc) (c : Chip) : Chip :=
  runCmd 0x0160 (fun c x => match fabricIdSetCheck c d with
    | some st => refuse c x st
    | none => admitOr c x (flowsRetimed (fabricIdSetDo c d)) (fun e => endCmd e x .ok)) r d c

end Sys2Proof.Machine
end

