-- ==== Sys2Proof/Machine/Backing.lean ====
section
/-!
DEFINITION. Backing under the windows (06_memory_pooling.md): data placement (R181–R184), member states and the resync log
(R195–R200), window states (R197), backing reads and writes, the stripe leader (R193).
-/
namespace Sys2Proof.Machine

/-! ### GF(2^8) and stripes (R183) -/

/-- Multiplication by g = 0x02 under 0x11D. -/
abbrev gfDouble (b : Byte) : Byte := gfTwice rsPoly b

/-- Multiplication by g^k. -/
def gfPow (b : Byte) : Nat → Byte
  | 0 => b
  | k + 1 => gfPow (gfDouble b) k

/-- A function of bytes applied to every byte of a line. -/
def lineMap (f : Byte → Byte) (l : Line) : Line :=
  (List.range 64).foldr (fun i (r : Line) => (r <<< 8) ||| ((f (l.extractLsb' (8 * i) 8)).setWidth 512)) 0#512

/-- P of a stripe: the byte-wise XOR of its data lines. -/
def parityP (ds : List Line) : Line := ds.foldl (· ^^^ ·) 0#512

/-- Q of a stripe: Σ g^j · D_j over the data lines in order. -/
def parityQ (ds : List Line) : Line := (ds.zipIdx).foldl (fun r d => r ^^^ lineMap (fun b => gfPow b d.2) d.1) 0#512

/-- Data line `j` from the other lines of its stripe (R183): `d` gives the data lines that are known. -/
def solveData (d : Nat → Option Line) (p q : Option Line) (j : Nat) : Option Line :=
  let others := (List.range 8).filter (· != j)
  let gone := others.filter (fun k => (d k).isNone)
  let sumP : Line := others.foldl (fun r k => r ^^^ (d k).getD 0) 0#512
  let sumQ : Line := others.foldl (fun r k => r ^^^ lineMap (fun b => gfPow b k) ((d k).getD 0)) 0#512
  match gone, p, q with
  | [], some p, _ => some (p ^^^ sumP)
  | [], none, some q => some (lineMap (fun b => gfMul rsPoly (gfInv (gfPow 1#8 j)) b) (q ^^^ sumQ))
  | [k], some p, some q =>
    let x := p ^^^ sumP
    let y := q ^^^ sumQ
    let inv := gfInv (gfPow 1#8 j ^^^ gfPow 1#8 k)
    some (lineMap (fun b => gfMul rsPoly inv b) (lineMap (fun b => gfPow b k) x ^^^ y))
  | _, _, _ => none

/-! ### Where a line lies -/

/-- The window of a line by its pool extent. -/
def winOf (c : Chip) (n : Nat) : Option Nat :=
  let k := c.pool.poolMap.look (n / 2 ^ 22)
  if k = 0 then none else some (k - 1)

/-- The index in its window of a line's pool extent. -/
def extOf (w : Window) (n : Nat) : Nat := ((w.ext.find? (fun e => e.2.present && e.2.pool == n / 2 ^ 22)).map (·.1)).getD 0

/-- The first index of the extent or stripe group. -/
def unitOf (w : Window) (i : Nat) : Nat := if w.mode = .stripe then i / 8 * 8 else i

/-- Line offset in the stripe group, and in the extent (R183). -/
def groupOff (i n : Nat) : Nat := i % 8 * 2 ^ 22 + n % 2 ^ 22

/-- The offset of a line in its member extents, in lines. -/
def memberOff (w : Window) (i n : Nat) : Nat := if w.mode = .stripe then groupOff i n / 8 else n % 2 ^ 22

/-- Members of P, Q and data line `j` of stripe `s` (R183). -/
abbrev memP (s : Nat) : Nat := s % 10
abbrev memQ (s : Nat) : Nat := (s % 10 + 1) % 10
abbrev memD (s j : Nat) : Nat := (s % 10 + 2 + j) % 10

/-- Members of a unit by mode. -/
def memberCount (m : WinMode) : Nat :=
  match m with
  | .plain => 1
  | .mirror => 2
  | .stripe => 10

/-- The member that holds a line itself. -/
def dataMember (w : Window) (i n : Nat) : Nat :=
  match w.mode with
  | .plain => 0
  | .mirror => 0
  | .stripe => let l := groupOff i n; memD (l / 8) (l % 8)

/-- A member of a unit. -/
abbrev Window.member (w : Window) (u m : Nat) : Member := w.members.look (u * 10 + m)
def Window.setMember (w : Window) (u m : Nat) (x : Member) : Window := { w with members := w.members.put (u * 10 + m) x }

/-- The device and extent of a member for a line: the destination below a migration's cursor (R203). -/
def placeOf (x : Member) (off : Nat) : Nat × Nat :=
  match x.migr with
  | some g => if off < g.page * 64 + g.line then (g.dev, g.ext) else (x.dev, x.ext)
  | none => (x.dev, x.ext)

/-! ### The resync log (R199, R200) -/

/-- A page's log bit. -/
def pageSet (x : Member) (pg : Nat) : Bool := if x.logAll then !x.clean.contains pg else x.log.contains pg
/-- The bit is set. -/
def setPage (x : Member) (pg : Nat) : Member :=
  if x.logAll then { x with clean := x.clean.erase pg } else { x with log := addOnce x.log pg }
/-- The bit is cleared. -/
def clearPage (x : Member) (pg : Nat) : Member :=
  if x.logAll then
    let cl := addOnce x.clean pg
    if 65536 ≤ cl.length then { x with logAll := false, clean := [], log := [] } else { x with clean := cl }
  else { x with log := x.log.erase pg }
/-- Every bit is set. -/
def setAllPages (x : Member) : Member := { x with logAll := true, clean := [], log := [] }
/-- Some bit is set. -/
def anyPage (x : Member) : Bool := x.logAll || !x.log.isEmpty
/-- Bits set. -/
def pagesSet (x : Member) : Nat := if x.logAll then 65536 - x.clean.length else x.log.length

/-- A member is missing for a page (R190, R193): LOST, or its bit is set. -/
def missingAt (x : Member) (pg : Nat) : Bool := x.state == .lost || pageSet x pg

/-! ### Window states (R197) -/

/-- A member that R197 counts as missing for a page. -/
def countsMissing (x : Member) (pg : Nat) : Bool := x.state == .lost || (x.state == .resyncing && pageSet x pg)

/-- The members of a unit. -/
def unitMembers (w : Window) (u : Nat) : List Member := (List.range (memberCount w.mode)).map (fun m => w.member u m)

/-- The least of some numbers. -/
def leastNat : List Nat → Option Nat
  | [] => none
  | a :: t => some (t.foldl min a)

/-- The pages that the logs of a unit's RESYNCING members list one by one; all others are alike. -/
def listedPages (ms : List Member) : List Nat :=
  ((ms.filter (fun x => x.state == .resyncing)).flatMap (fun x => if x.logAll then x.clean else x.log)).eraseDups

/-- A page that is not listed, for all of them. -/
def otherPage (ms : List Member) : Option Nat :=
  let listed := listedPages ms
  findBelow 65536 (fun p => !listed.contains p)

/-- Pages that between them show every combination of missing members. -/
def probePages (ms : List Member) : List Nat :=
  match otherPage ms with
  | some p => p :: listedPages ms
  | none => listedPages ms

/-- Table 6.7. -/
def stateFor (m : WinMode) (missing : Nat) : WinState :=
  match m, missing with
  | _, 0 => .optimal
  | .plain, _ => .dataLoss
  | .mirror, 1 => .exposed
  | .mirror, _ => .dataLoss
  | .stripe, 1 => .degraded
  | .stripe, 2 => .exposed
  | .stripe, _ => .dataLoss

/-- The order of window states by severity. -/
def WinState.rank : WinState → Nat
  | .optimal => 0
  | .degraded => 1
  | .exposed => 2
  | .dataLoss => 3

/-- Missing members at a page of a unit. -/
def missingCount (ms : List Member) (pg : Nat) : Nat := (ms.filter (fun x => countsMissing x pg)).length

/-- The units of a window by first index. -/
def unitsOf (w : Window) : List Nat :=
  let k := if w.mode = .stripe then 8 else 1
  (w.ext.map (·.1)).filter (fun i => i % k == 0)

/-- The worst state over the units (R197). -/
def worstState (w : Window) : WinState :=
  (unitsOf w).foldl (fun s u =>
    let ms := unitMembers w u
    let n := (probePages ms).foldl (fun k p => max k (missingCount ms p)) 0
    let t := stateFor w.mode n
    if s.rank < t.rank then t else s) .optimal

/-- Pages whose missing members put them into a state at least as bad (R198). -/
def pagesIn (w : Window) (s : WinState) : Nat :=
  (unitsOf w).foldl (fun n u =>
    let ms := unitMembers w u
    let bad : Nat → Bool := fun p => decide (s.rank ≤ (stateFor w.mode (missingCount ms p)).rank)
    n + ((listedPages ms).filter bad).length + (match otherPage ms with
      | some p => if bad p then 65536 - (listedPages ms).length else 0
      | none => 0)) 0

/-- The state a window reports: 4 is VERIFY (R197). -/
def Window.shown (w : Window) : Nat := if w.verify.isSome ∧ w.state ≠ .dataLoss then 4 else w.state.rank

/-- WINDOW_STATE_CHANGE (R197): entry into DEGRADED, EXPOSED or DATA_LOSS. -/
def reviewWindow (c : Chip) (id : Nat) : Chip :=
  let w := c.window id
  let s := worstState w
  if !w.present ∨ s = w.state then c
  else
    let c := c.setWindow id { w with state := s }
    if s = .optimal then c
    else
      let c := raise c (113 + s.rank) (srcInfo 13 id)
      unsolTenant c w.tenant 0x8004
        (leBytes 2 id ++ leBytes 1 (c.window id).shown ++ leBytes 4 (min (pagesIn w s) 0xFFFFFFFF))

/-- The windows that hold a member on a device. -/
def windowsOn (c : Chip) (b : Nat) : List Nat :=
  (c.pool.windows.filter (fun w => w.2.present && w.2.members.any (fun m => m.2.present &&
    (m.2.dev == b || (match m.2.migr with
      | some g => g.dev == b
      | none => false))))).map (·.1)

/-- Loss of one member (Table 6.6); a Plain member has no log (R199). -/
def lostMember (mode : WinMode) (now : Nat) (x : Member) : Member :=
  let y : Member := { x with state := .lost, lostAt := now, noSpare := false }
  match x.state with
  | .lost => x
  | .resyncing => y
  | .online | .slow => if mode = .plain then y else setAllPages y

/-- The member has an extent on a device: its own, or a migration's destination. -/
def onDevice (b : Nat) (m : Member) : Bool :=
  m.present && (m.dev == b || (match m.migr with
    | some g => g.dev == b
    | none => false))

/-- Every member of a window on a device is lost; the window's state follows. Source 113 is raised for those that were ONLINE or
SLOW, and under MEMBER_FAIL (`named`) for every one that was not LOST (Table 6.6). -/
def loseIn (c : Chip) (b id : Nat) (named : Bool) : Chip :=
  let w := c.window id
  let hit : Member → Bool := fun m => onDevice b m && m.state != .lost
  let n := (w.members.filter (fun m => hit m.2 && (named || m.2.state != .resyncing))).length
  let w' := { w with members := w.members.map (fun m => (m.1, if hit m.2 then lostMember w.mode c.ivl m.2 else m.2)) }
  let c := (List.range n).foldl (fun c _ => raise c 113 (srcInfo 13 id)) (c.setWindow id w')
  reviewWindow c id

/-- R195: a backing device is lost, with every member extent on it; its extents in SCRUB become RETIRED (Table 6.2). -/
def loseDevice (c : Chip) (b : Nat) (named : Bool := false) : Chip :=
  let d := c.dev b
  if !d.present ∨ d.lost then c
  else
    let ext := d.ext.map (fun e => (e.1, if e.2 = .scrub then .retired else e.2))
    let c := c.setDev b { d with lost := true, lostAt := c.ivl, ext := ext }
    (windowsOn c b).foldl (fun c id => loseIn c b id named) c

/-- R195: one failed access of a device; MEMBER_ERR_LIMIT of them within 1 s lose it. -/
def deviceFails (c : Chip) (b : Nat) : Chip :=
  let d := c.dev b
  if !d.present then c
  else
    let ts := d.errs.filter (fun t => !c.past t (sec 1)) ++ [c.ivl]
    let c := c.setDev b { d with errs := ts }
    if d.errLimit ≤ ts.length then loseDevice c b else c

/-- R187: a double-stop read that a member caused, on device `b`; SLOW_THRESH of them within 1 ms make it SLOW. -/
def memberSlow (c : Chip) (id u m b : Nat) : Chip :=
  let w := c.window id
  let x := w.member u m
  let ts := x.ds.filter (fun t => !c.past t (ms 1)) ++ [c.ivl]
  let slow := decide ((c.dev b).slowThr ≤ ts.length) && x.state == .online
  let c := c.setWindow id (w.setMember u m { x with ds := ts, dsLast := c.ivl, state := if slow then .slow else x.state })
  if slow then raise c 112 (srcInfo 14 b) else c

/-- A LOST member whose extent is there again (Table 6.6): RESYNCING, and ONLINE at once where no bit is set, as for Plain. -/
def returned (mode : WinMode) (x : Member) : Member :=
  if mode = .plain ∨ !anyPage x then { x with state := .online } else { x with state := .resyncing }

/-- Table 6.6: the same device returns: members LOST on their extents are resynced from their logged pages. -/
def deviceReturns (c : Chip) (b : Nat) : Chip :=
  let d := c.dev b
  if !d.present ∨ !d.lost then c
  else
    let ext := d.ext.map (fun e => (e.1, if e.2 = .retired && d.replaced.contains e.1 then .scrub else e.2))
    let c := c.setDev b { d with lost := false, downAt := none, errs := [], ext := ext, replaced := [] }
    let there : Member → Bool := fun m => !(c.dev m.dev).lost && (match m.migr with
      | some g => !(c.dev g.dev).lost
      | none => true)
    let back : Member → Bool := fun m => onDevice b m && m.state == .lost && there m &&
      (d.spareDelay == 0 || !c.past m.lostAt (ms d.spareDelay))
    (windowsOn c b).foldl (fun c id =>
      let w := c.window id
      let n := (w.members.filter (fun m => back m.2 && (returned w.mode m.2).state == .online)).length
      let c := c.setWindow id { w with members := w.members.map (fun m => (m.1, if back m.2 then returned w.mode m.2 else m.2)) }
      reviewWindow ((List.range n).foldl (fun c _ => raise c 121 (srcInfo 13 id)) c) id) c

/-! ### Extents (Table 6.2) -/

def extState (c : Chip) (b e : Nat) : ExtState := (c.dev b).ext.look e
def setExt (c : Chip) (b e : Nat) (s : ExtState) : Chip := c.modDev b (fun d => { d with ext := d.ext.put e s })

/-- R172: an extent may join a unit whose other members lie on the given devices. -/
def mayJoin (c : Chip) (strict : Bool) (others : List Nat) (b : Nat) : Bool :=
  let d := c.dev b
  d.present && !d.lost && others.all (fun o => (c.dev o).serial != d.serial &&
    (!strict || (c.dev o).faultDom == 0 || d.faultDom == 0 || (c.dev o).faultDom != d.faultDom))

/-- R175 with one member moved to a device: the deadline still holds. -/
def latencyOk (c : Chip) (w : Window) (b : Nat) : Bool :=
  let d := c.dev b
  w.mode == .plain || decide (100 + w.trigger + d.latBound + remoteTerms c d + (if w.mode = .stripe then 80 else 50) ≤ w.deadline)

/-- The lowest extent of a device in a state; one of an ADOPT device counts as FREE only once it is zero-filled (R171). -/
def firstExt (d : Device) (s : ExtState) : Option Nat :=
  let cands := if s = .free then (if d.adopt then d.zeroed else 0 :: d.ext.map (fun e => e.1 + 1)) else d.ext.map (·.1)
  leastNat (cands.filter (fun e => decide (e < d.extents) && d.ext.look e == s && !d.purging.contains e))

/-- The first extent in a state on the lowest backing index that R172 and R175 allow (R196). -/
def chooseExtent (c : Chip) (w : Window) (others : List Nat) (s : ExtState) : Option (Nat × Nat) :=
  c.pool.devs.findSome? (fun d =>
    if d.2.present && mayJoin c w.strict others d.1 && latencyOk c w d.1 then
      (firstExt d.2 s).map (fun e => (d.1, e))
    else none)

/-- The devices of a unit's members other than `m`, those that a migration moves them to among them (R172). -/
def othersOf (w : Window) (u m : Nat) : List Nat :=
  ((List.range (memberCount w.mode)).filter (fun k => k != m && (w.member u k).present)).flatMap (fun k =>
    (w.member u k).dev :: ((w.member u k).migr.map (·.dev)).toList)

/-! ### Backing reads (R185–R190) -/

/-- What an event on a line carries for the counters (Table 19.1). -/
def lineEvent (c : Chip) (n code : Nat) (fab : Nat := 0) : Happening :=
  let s := homeSlice (n * 64)
  let id := (winOf c n).getD 0
  { code := code, quad := s / 8, inst := s, window := id, tenant := (c.window id).tenant, fab := fab, switch := decide (4096 ≤ fab) }

/-- A tenant's fixed counter, for a request of fabric ID `fab`: mover jobs are not counted (R477). -/
def countFor (c : Chip) (fab t i n : Nat) : Chip := if 4096 ≤ fab then c else countTenant c t i n

def setRead (c : Chip) (n : Nat) (r : Option BackRead) : Chip :=
  { c with pool := { c.pool with reads := c.pool.reads.put n r } }

/-- Data for a line's open transaction is at hand; a write-back that it has already taken stays its data (R148). -/
def giveData (c : Chip) (n : Nat) (d : Line) (poison : Bool) : Chip :=
  match c.tracker n with
  | none => c
  | some t => if t.data.isSome then c else c.setTracker n (some { t with data := some (d, poison) })

/-- A read goes to a member. -/
def sendRead (c : Chip) (w : Window) (u m off : Nat) : Chip :=
  let p := placeOf (w.member u m) off
  c.emit (.backRead p.1 p.2 off)

/-- The bytes of a write applied to a line under its byte enables. -/
def mergeLine (old new : Line) (mask : BitVec 64) : Line :=
  (List.range 64).foldr (fun i (r : Line) =>
    (r <<< 8) ||| (((if mask.getLsbD i then new else old).extractLsb' (8 * i) 8).setWidth 512)) 0#512

/-- The writes of a line that are on their way to backing, oldest first: bytes, byte enables, poison. -/
def newerWrites (c : Chip) (n : Nat) : List (Line × BitVec 64 × Bool) :=
  (c.pool.writes.filter (fun x => x.line == n && !x.late)).map (fun x => (x.data, x.mask, x.poison)) ++
  (c.pool.ops.filter (fun o => o.line == n && !o.recon && o.repair.isNone)).map (fun o => (o.new, BitVec.allOnes 64, o.poison)) ++
  (c.pool.held.filter (fun x => x.line == n)).map (fun x => (x.data, x.mask, x.poison))

/-- A line with newer writes over it. -/
def overlay (ws : List (Line × BitVec 64 × Bool)) (x : Line × Bool) : Line × Bool :=
  ws.foldl (fun x w => if w.2.1 = BitVec.allOnes 64 then (w.1, w.2.2) else (mergeLine x.1 w.1 w.2.1, x.2 || w.2.2)) x

/-- Data of a line that a whole write-back in flight still holds: it stands in the line cache until that is confirmed (R184). -/
def inFlight (c : Chip) (n : Nat) : Option (Line × Bool) :=
  let ws := newerWrites c n
  if ws.any (fun w => w.2.1 == BitVec.allOnes 64) then some (overlay ws (0, false)) else none

/-- The member of a Mirror that a read prefers (R182): even pages of the window from A, odd from B, with READ_PREF 2. -/
def mirrorPref (w : Window) (i n : Nat) : Nat :=
  if w.readPref = 2 then (i * 2 ^ 22 + n % 2 ^ 22) / 64 % 2 else w.readPref % 2

/-- A reconstruction is asked of the line's stripe leader; it is counted (R209). -/
def askRecon (c : Chip) (n id i : Nat) (w : Window) : Chip :=
  let o : StripeOp := { line := n, window := id, unit := unitOf w i, stripe := groupOff i n / 8, recon := true }
  let c := c.modWindow id (fun w => { w with recons := w.recons + 1 })
  { c with pool := { c.pool with ops := c.pool.ops ++ [o] } }

/-- The number of a member page in its window. -/
abbrev pageNo (w : Window) (u pg : Nat) : Nat := u / (if w.mode = .stripe then 8 else 1) * 65536 + pg

/-- R207: a page that the verification has not verified: not reached yet, or passed over for want of a data member. -/
def unverified (w : Window) (u pg : Nat) : Bool :=
  match w.verify with
  | none => false
  | some n => let k := pageNo w u pg; (decide (n ≤ k) && !w.verified.contains k) || w.skipped.contains k

/-- R207: a page that a write-back must have verified first: a verification has not reached it. -/
def unreached (w : Window) (u pg : Nat) : Bool := unverified w u pg && !w.skipped.contains (pageNo w u pg)

/-- A read that misses the line cache is issued to backing, or has no source (R185, R198). -/
def startRead (c : Chip) (n : Nat) : Chip :=
  match winOf c n with
  | none => giveData c n 0 true
  | some id =>
    match inFlight c n with
    | some (d, p) => giveData c n d p
    | none =>
      let w := c.window id
      let i := extOf w n
      let u := unitOf w i
      let off := memberOff w i n
      let pg := off / 64
      let r : BackRead := { window := id, ext := i, since := c.ivl, newer := newerWrites c n }
      match w.mode with
      | .plain =>
        if (w.member u 0).state = .lost then giveData c n 0 true
        else sendRead (setRead c n (some r)) w u 0 off
      | .mirror =>
        let a := mirrorPref w i n
        let b := 1 - a
        let bad := fun m => missingAt (w.member u m) pg
        let pick := if (bad a || (w.member u a).state == .slow) && !bad b then b else a
        if bad pick then giveData c n 0 true
        else sendRead (setRead c n (some { r with member := pick, alt := 1 - pick })) w u pick off
      | .stripe =>
        let m := dataMember w i n
        if missingAt (w.member u m) pg then
          if unverified w u pg then setRead c n (some { r with member := m, alt := 10, asked := true })
          else askRecon (setRead c n (some { r with member := m, alt := 10, asked := true })) n id i w
        else sendRead (setRead c n (some { r with member := m, alt := 10 })) w u m off

/-- Double-stop reads that a slice holds (R187). -/
def dsHeld (c : Chip) (s : Nat) : Nat :=
  (c.pool.reads.filter (fun r => homeSlice (r.1 * 64) == s && (match r.2 with
    | some x => x.dstop && !x.waits
    | none => false))).length

/-- A double-stop read is issued, or waits for one of the slice's 64 (R186, R187). -/
def doubleStop (c : Chip) (n : Nat) (r : BackRead) : Chip :=
  let w := c.window r.window
  let u := unitOf w r.ext
  let off := memberOff w r.ext n
  if 64 ≤ dsHeld c (homeSlice (n * 64)) then setRead c n (some { r with dstop := true, waits := true })
  else
    let c := c.setWindow r.window { w with dsReads := w.dsReads + 1 }
    let c := countTenant (countEvent c (lineEvent c n 0x050)) w.tenant 6 1
    let c := memberSlow (setRead c n (some { r with dstop := true, waits := false, altAt := c.ivl })) r.window u r.member
      (placeOf (w.member u r.member) off).1
    if w.mode = .mirror then
      if missingAt (w.member u r.alt) (off / 64) then c else sendRead c w u r.alt off
    else if unverified w u (off / 64) then c
    else askRecon c n r.window r.ext w

/-- One of a slice's 64 becomes free: the oldest that waits is issued (R187). -/
def dsNext (c : Chip) (s : Nat) : Chip :=
  match c.pool.reads.find? (fun r => homeSlice (r.1 * 64) == s && (match r.2 with
    | some x => x.waits
    | none => false)) with
  | some (n, some r) => doubleStop c n { r with waits := false }
  | _ => c

/-- A line's backing read is over. -/
def endRead (c : Chip) (n : Nat) : Chip :=
  match c.pool.reads.look n with
  | none => c
  | some r =>
    let c := setRead c n none
    if r.dstop ∧ !r.waits then dsNext c (homeSlice (n * 64)) else c

/-! ### Backing writes (R191–R194) -/

/-- The answer to a line of a mover engine, which is uncached requester 4,096 + e: its job stages the data of a read, and counts a write as
complete (R389, R390, R393). -/
def toMover (c : Chip) (m : MemReq) (x : Option (Line × Bool)) : Chip :=
  let n := m.id % 2 ^ 36
  let got : Job → Job := fun j =>
    if j.engine == some (m.fab - 4096) && j.run == m.id / 2 ^ 36 then
      match x with
      | some r => { j with staged := j.staged ++ [(n, r)] }
      | none => { j with done := addOnce j.done n }
    else j
  { c with mov := { c.mov with jobs := c.mov.jobs.map got } }

/-- A completion to the requester of a write. -/
def sendCmp (c : Chip) (m : MemReq) : Chip := if 4096 ≤ m.fab then toMover c m none else c.emit (.drs m.fab m.id (.cmp m.want))

/-- A member's page is logged; a walk that stands on the page does not clear its bit (R201). The window's state follows (R197). -/
def logPage (c : Chip) (id u m pg : Nat) : Chip :=
  let c := c.modWindow id (fun w => w.setMember u m (setPage (w.member u m) pg))
  let hit : Job → Bool := fun j => j.kind == .resync && j.engine.isSome && j.window == id && j.extent == u && j.member == m &&
    j.cursor == pg
  let c := { c with mov := { c.mov with jobs := c.mov.jobs.map (fun j => if hit j then { j with dirty := true } else j) } }
  if ((c.window id).member u m).state = .resyncing then reviewWindow c id else c

/-- A write goes to a member and is outstanding. -/
def sendWrite (c : Chip) (n id i m : Nat) (d : Line) (mask : BitVec 64) (poison : Bool) (cmp : Option MemReq) : Chip :=
  let w := c.window id
  let off := memberOff w i n
  let p := placeOf (w.member (unitOf w i) m) off
  let e : BackWrite := { line := n, window := id, ext := i, member := m, since := c.ivl, data := d, mask := mask, poison := poison,
                         cmp := cmp }
  Chip.emit { c with pool := { c.pool with writes := c.pool.writes ++ [e] } } (.backWrite p.1 p.2 off d mask poison)

/-- A write that has no member to go to is discarded and counted, and still completes (R198). -/
def discardWrite (c : Chip) (id : Nat) (cmp : Option MemReq) : Chip :=
  let c := c.modWindow id (fun w => { w with discards := w.discards + 1 })
  match cmp with
  | some m => sendCmp c m
  | none => c

/-- R198: a line of a window has no surviving source: every member that could give it counts as missing for its page. -/
def noSource (w : Window) (i n : Nat) : Bool :=
  let u := unitOf w i
  let pg := memberOff w i n / 64
  match w.mode with
  | .plain => (w.member u 0).state == .lost
  | .mirror => countsMissing (w.member u 0) pg && countsMissing (w.member u 1) pg
  | .stripe => countsMissing (w.member u (dataMember w i n)) pg && decide (3 ≤ missingCount (unitMembers w u) pg)

/-- A whole or partial line goes to each member of a Plain or Mirror extent that is not LOST (R192). -/
def writeMembers (c : Chip) (n id : Nat) (d : Line) (mask : BitVec 64) (poison : Bool) (cmp : Option MemReq) : Chip :=
  let w := c.window id
  let i := extOf w n
  let dsts := (List.range (memberCount w.mode)).filter (fun m => (w.member (unitOf w i) m).state != .lost)
  if dsts.isEmpty ∨ noSource w i n then discardWrite c id cmp
  else dsts.foldl (fun c m => sendWrite c n id i m d mask poison cmp) c

/-- The writes of a line that a completion closes: when none is left, the Cmp that waits is sent (R191, R192). -/
def closeWrite (c : Chip) (e : BackWrite) : Chip :=
  if c.pool.writes.any (fun x => x.line == e.line && x.cmp == e.cmp && !x.late) then c
  else match e.cmp with
    | some m => sendCmp c m
    | none => c

/-! ### Line transactions: what they read (R201, R203, R207) -/

/-- Every member of a unit that is not missing for a page. -/
def survivors (w : Window) (u pg : Nat) : List Nat :=
  (List.range (memberCount w.mode)).filter (fun m => (w.member u m).present && !missingAt (w.member u m) pg)

/-- Members of a stripe in the order data, P, Q. -/
def stripeOrder (s : Nat) : List Nat := (List.range 8).map (memD s) ++ [memP s, memQ s]

/-- A data member of the stripe is missing for its page. -/
def dataMissing (w : Window) (u s : Nat) : Bool :=
  (List.range 8).any (fun j => missingAt (w.member u (memD s j)) (s / 64))

/-- The members that a transaction reads first; `none`: the line cannot be computed. -/
def txSources (w : Window) (t : LineTx) : Option (List Nat) :=
  let pg := t.off / 64
  match t.kind with
  | .move => some [t.member]
  | .rebuild =>
    if w.mode = .mirror then
      let a := 1 - t.member
      if missingAt (w.member t.unit a) pg then none else some [a]
    else
      let from_ := (stripeOrder t.off).filter (fun m => m != t.member && !missingAt (w.member t.unit m) pg)
      if from_.length < 8 ∨ unverified w t.unit pg then none else some (from_.take 8)
  | .verify =>
    if w.mode = .mirror then
      let from_ := survivors w t.unit pg
      some (if from_.length = 2 then from_ else [])
    else if dataMissing w t.unit t.off then none
    else some ((stripeOrder t.off).filter (fun m => !missingAt (w.member t.unit m) pg))

/-- The line transaction of a place that `p` picks, with `f` applied; `none` removes it. -/
def editTx (p : LineTx → Bool) (f : LineTx → Option LineTx) : List LineTx → List LineTx
  | [] => []
  | t :: r => if p t then (match f t with
      | some y => y :: r
      | none => r) else t :: editTx p f r

/-- Two transactions are the same one: for the same line of the same engine, or for the same page. -/
def sameTx (a b : LineTx) : Bool :=
  a.engine == b.engine && a.window == b.window && a.unit == b.unit && a.member == b.member &&
  (if a.engine.isSome then a.off == b.off else a.off / 64 == b.off / 64)

def setTx (c : Chip) (t : LineTx) (new : Option LineTx) : Chip :=
  { c with pool := { c.pool with txs := editTx (sameTx t) (fun _ => new) c.pool.txs } }

/-- A transaction begins: its reads go out; with nothing to read it is over, and has failed where the line cannot be computed. -/
def txBegin (c : Chip) (t : LineTx) : Chip :=
  let w := c.window t.window
  let ms := txSources w t
  let t' : LineTx := { t with need := ms.getD [], got := [], bad := [], writes := [], since := c.ivl, ok := ms.isSome, differ := false,
                              done := (ms.getD []).isEmpty }
  let c := { c with pool := { c.pool with txs := c.pool.txs ++ [t'] } }
  t'.need.foldl (fun c m => sendRead c w t.unit m t.off) c

/-- The index of the line that names a transaction: the line itself, or data line 0 of the stripe. -/
def txLine (w : Window) (u off : Nat) : Nat :=
  let g := if w.mode = .stripe then 8 * off else off
  (w.ext.look (u + g / 2 ^ 22)).pool * 2 ^ 22 + g % 2 ^ 22

/-- A page counts as verified, or as passed over (R207); the count of walked pages takes in those verified ahead of it. -/
def markPage (w : Window) (k : Nat) (ok : Bool) : Window :=
  let w := { w with verified := if ok then addOnce w.verified k else w.verified,
                    skipped := if ok then w.skipped.erase k else addOnce w.skipped k }
  w

/-- R207: the verification of a page starts before a write-back to it, unless one runs or a data member is missing. -/
def verifyFirst (c : Chip) (id u pg : Nat) : Chip :=
  let w := c.window id
  if c.pool.txs.any (fun t => t.engine.isNone && t.window == id && t.unit == u && t.off / 64 == pg) then c
  else if w.mode = .stripe ∧ (List.range 64).any (fun i => dataMissing w u (pg * 64 + i)) then
    c.setWindow id (markPage w (pageNo w u pg) false)
  else if w.mode = .mirror ∧ (survivors w u pg).length < 2 then c.setWindow id (markPage w (pageNo w u pg) true)
  else txBegin c { kind := .verify, window := id, unit := u, off := pg * 64, line := txLine w u (pg * 64) }

/-- A line of a Plain or Mirror window has an engine's transaction under way (R201). -/
def lineBusy (c : Chip) (n : Nat) : Bool :=
  c.pool.txs.any (fun t => !t.done && t.engine.isSome && t.line == n && (c.window t.window).mode != .stripe)

/-- A line is written to backing under its window's mode; a write-back to an unverified page verifies that page
first (R207), one to a line with a transaction under way waits for its end (R201). -/
def writeBack (c : Chip) (n : Nat) (d : Line) (mask : BitVec 64) (poison : Bool) (cmp : Option MemReq) : Chip :=
  match winOf c n with
  | none => match cmp with
    | some m => sendCmp c m
    | none => c
  | some id =>
    let w := c.window id
    let i := extOf w n
    let u := unitOf w i
    let pg := memberOff w i n / 64
    match w.mode with
    | .stripe =>
      let o : StripeOp := { line := n, window := id, unit := u, stripe := groupOff i n / 8, new := d, poison := poison, cmp := cmp }
      { c with pool := { c.pool with ops := c.pool.ops ++ [o] } }
    | .plain | .mirror =>
      let c := if w.mode = .mirror ∧ unreached w u pg then verifyFirst c id u pg else c
      if !lineBusy c n && !(w.mode == .mirror && unreached (c.window id) u pg) then writeMembers c n id d mask poison cmp
      else { c with pool := { c.pool with held := c.pool.held ++ [{ line := n, data := d, mask := mask, poison := poison, cmp := cmp }] } }

/-! ### The stripe leader (R184, R193, R207) -/

/-- Members an operation may not use: missing for the page, or found bad. -/
def opMissing (w : Window) (o : StripeOp) : List Nat :=
  (List.range 10).filter (fun m => missingAt (w.member o.unit m) (o.stripe / 64) || o.bad.contains m)

/-- The data line index an operation concerns. -/
def opLine (w : Window) (o : StripeOp) : Nat := groupOff (extOf w o.line) o.line % 8

/-- The members that an operation reads, with `o.miss` missing (R186, Table 6.5); `none`: it cannot be carried out. An unverified
stripe is never solved (R207). -/
def opReads (w : Window) (o : StripeOp) : Option (List Nat) :=
  let miss := o.miss
  let s := o.stripe
  let dm := memD s (opLine w o)
  let all := List.range 10
  let data := (List.range 8).map (memD s)
  let unv := unverified w o.unit (s / 64)
  if o.repair.isSome then some []
  else if o.recon then
    let gone := data.filter (fun m => m != dm && miss.contains m)
    let rest := data.filter (fun m => m != dm && !miss.contains m)
    if unv then none
    else match gone, miss.contains (memP s), miss.contains (memQ s) with
    | [], false, _ => some (rest ++ [memP s])
    | [], true, false => some (rest ++ [memQ s])
    | [_], false, false => some (rest ++ [memP s, memQ s])
    | _, _, _ => none
  else if miss.isEmpty then some (if unv then all else [dm, memP s, memQ s])
  else match miss with
    | [m] =>
      if m = dm then some (data.filter (· != dm))
      else if m = memP s then some [dm, memQ s]
      else if m = memQ s then some [dm, memP s]
      else some [dm, memP s, memQ s]
    | [_, _] =>
      if unv && miss.any (fun m => m != memP s && m != memQ s) then some [] else some (all.filter (fun m => !miss.contains m))
    | _ => some []

/-- What an operation writes, by member, once its reads are at hand; and whether a verified stripe did not match. -/
def opWrites (w : Window) (o : StripeOp) : List (Nat × Line) × Bool :=
  let miss := o.miss
  let s := o.stripe
  let j := opLine w o
  let dm := memD s j
  let unv := unverified w o.unit (s / 64)
  let val : Nat → Option Line := fun m => (o.got.find? (fun g => g.1 == m)).map (·.2)
  let old := (val dm).getD 0
  let diff := old ^^^ o.new
  let p' := (val (memP s)).getD 0 ^^^ diff
  let q' := (val (memQ s)).getD 0 ^^^ lineMap (fun b => gfPow b j) diff
  let dat : Nat → Option Line := fun k => val (memD s k)
  let full : List Line := (List.range 8).map (fun k => match dat k with
    | some d => d
    | none => (solveData dat (val (memP s)) (val (memQ s)) k).getD 0)
  let news := setAt full j o.new
  let whole := [(dm, o.new), (memP s, parityP news), (memQ s, parityQ news)]
  let alone := if miss.contains dm then [] else [(dm, o.new)]
  match o.repair with
  | some m => (if miss.contains m then [] else [(m, o.new)], false)
  | none =>
    if miss.isEmpty then
      if unv then (whole, val (memP s) != some (parityP full) || val (memQ s) != some (parityQ full))
      else ([(dm, o.new), (memP s, p'), (memQ s, q')], false)
    else match miss with
      | [m] =>
        if m = dm then ([(memP s, parityP news), (memQ s, parityQ news)], false)
        else if m = memP s then ([(dm, o.new), (memQ s, q')], false)
        else if m = memQ s then ([(dm, o.new), (memP s, p')], false)
        else ([(dm, o.new), (memP s, p'), (memQ s, q')], false)
      | [_, _] =>
        let every := ((List.range 8).map (fun k => (memD s k, news.getD k 0))) ++ [(memP s, parityP news), (memQ s, parityQ news)]
        if unv && miss.any (fun m => m != memP s && m != memQ s) then (alone, false)
        else (every.filter (fun e => !miss.contains e.1), false)
      | _ => (alone, false)

/-- The members that a write operation records in the resync log (R193): those of Table 6.5 that it cannot write. Another data
member is left as it was. -/
def opLogged (w : Window) (o : StripeOp) (ws : List Nat) : List Nat :=
  let s := o.stripe
  let dm := memD s (opLine w o)
  let three := [dm, memP s, memQ s].filter (fun m => !ws.contains m)
  match o.miss with
  | [_] => three
  | [a, b] => addOnce (addOnce three a) b
  | ms => ms.foldl addOnce three

/-- An operation in the list of leaders' operations. -/
def opIs (o : StripeOp) (x : StripeOp) : Bool :=
  x.line == o.line && x.recon == o.recon && x.window == o.window && x.repair == o.repair

/-- The first operation that is the given one is replaced, or removed. -/
def putOp (ops : List StripeOp) (o : StripeOp) (new : Option StripeOp) : List StripeOp :=
  match ops with
  | [] => []
  | x :: t => if opIs o x then (match new with
      | some y => y :: t
      | none => t) else x :: putOp t o new

def setOp (c : Chip) (o : StripeOp) (new : Option StripeOp) : Chip :=
  { c with pool := { c.pool with ops := putOp c.pool.ops o new } }

/-- A leader's writes are issued; members it cannot write are logged; with nothing to write the operation is over. -/
def opIssue (c : Chip) (o : StripeOp) : Chip :=
  let w := c.window o.window
  let i := extOf w o.line
  let (ws, bad) := opWrites w o
  let c := if o.repair.isSome then c
    else (opLogged w o (ws.map (·.1))).foldl (fun c m => logPage c o.window o.unit m (o.stripe / 64)) c
  let c := if bad then raise (c.modWindow o.window (fun w => { w with mismatch := w.mismatch + 1 })) 123 (srcInfo 13 o.window) else c
  let c := if ws.isEmpty ∧ o.repair.isNone then c.modWindow o.window (fun w => { w with discards := w.discards + 1 }) else c
  let c := setOp c o (some { o with need := [], writes := ws.map (·.1), since := c.ivl, begun := true })
  ws.foldl (fun c x =>
    let p := placeOf ((c.window o.window).member o.unit x.1) (memberOff w i o.line)
    c.emit (.backWrite p.1 p.2 o.stripe x.2 (BitVec.allOnes 64) (o.poison && x.1 == memD o.stripe (opLine w o)))) c

/-- A reconstruction cannot be carried out: a read whose first source is still to answer waits for it (R186), any other has no
source (R198). -/
def reconFails (c : Chip) (n : Nat) : Chip :=
  match c.pool.reads.look n with
  | none => c
  | some r =>
    if r.asked ∨ r.timed ∨ r.bad.contains r.member then giveData (endRead c n) n 0 true
    else setRead c n (some { r with noAlt := true })

/-- An operation begins: its reads go out (R184: one per stripe at a time). -/
def opBegin (c : Chip) (o : StripeOp) : Chip :=
  let w := c.window o.window
  let o := { o with miss := opMissing w o }
  match opReads w o with
  | none => reconFails (setOp c o none) o.line
  | some ms =>
    let left := ms.filter (fun m => !o.got.any (fun g => g.1 == m))
    let o' := { o with begun := true, need := left }
    let c := setOp c o (some { o' with since := c.ivl })
    if left.isEmpty ∧ !o.recon then opIssue c o'
    else left.foldl (fun c m => sendRead c w o.unit m o.stripe) c

/-- The operation with the least measure. -/
def firstOp (f : StripeOp → Nat) : List StripeOp → Option StripeOp
  | [] => none
  | o :: t => match firstOp f t with
    | none => some o
    | some x => if f x < f o then some x else some o

/-- The operation of a stripe that its leader handles: the one under way, else the first that has entered (R184). -/
def opHead (c : Chip) (id u s : Nat) : Option StripeOp :=
  firstOp (fun o => if o.begun then 0 else o.order + 1)
    (c.pool.ops.filter (fun o => o.taken && o.window == id && o.unit == u && o.stripe == s))

/-- A write operation is over: its Cmp is sent (R191). -/
def opClose (c : Chip) (o : StripeOp) : Chip :=
  let c := setOp c o none
  match o.cmp with
  | some m => sendCmp c m
  | none => c

/-- A line transaction is under way on a stripe. -/
def txOn (c : Chip) (id u s : Nat) : Bool :=
  c.pool.txs.any (fun t => !t.done && t.window == id && t.unit == u && t.off == s && (c.window id).mode == .stripe)

/-- A stripe's operations go on: one that is over is closed, and the next one begins. A write-back to an unverified page waits
for the verification of the page (R207), any operation for a line transaction on its stripe (R201). -/
def opPump : Nat → Chip → Nat → Nat → Nat → Chip
  | 0, c, _, _, _ => c
  | k + 1, c, id, u, s =>
    match opHead c id u s with
    | none => c
    | some o =>
      if !o.begun then
        if txOn c id u s then c
        else if !o.recon && o.repair.isNone && unreached (c.window id) u (s / 64) then
          let c := verifyFirst c id u (s / 64)
          if unreached (c.window id) u (s / 64) then c else opPump k (opBegin c o) id u s
        else opPump k (opBegin c o) id u s
      else if o.need.isEmpty ∧ o.writes.isEmpty ∧ !o.recon then opPump k (opClose c o) id u s
      else c

/-- The operations of a stripe go on. -/
def stripeGo (c : Chip) (id u s : Nat) : Chip := opPump (2 * c.pool.ops.length + 2) c id u s

/-- The stripe of an operation goes on. -/
def opGo (c : Chip) (o : StripeOp) : Chip := stripeGo c o.window o.unit o.stripe

end Sys2Proof.Machine
end

