-- ==== Sys2Proof/Machine/LineCache.lean ====
section
/-!
DEFINITION. The line cache (R212, R220–R226): lookup, victims, fills, evictions, the placement loop, writes by policy (R191,
R222).
-/
namespace Sys2Proof.Machine

/-- Slice, set and tag of a line (R133, R220). -/
abbrev lineSlice (n : Nat) : Nat := homeSlice (n * 64)
abbrev lineSet (n : Nat) : Nat := field (n * 64) 11 22
abbrev lineTag (n : Nat) : Nat := field (n * 64) 33 15
/-- The key of a way. -/
abbrev wayKey (s set i : Nat) : Nat := (s * 2 ^ 22 + set) * 4 + i

/-- The pseudo-channel of a set (R220). -/
def pcOfSet (s set : Nat) : Nat := 16 * (s / 8) + Nat.xor (Nat.xor (set % 16) (set / 16 % 16)) (s % 8)

/-- The line that a way holds: the slice recovers bits [10:6] (R133, R220). -/
def lineOfWay (s set tag : Nat) : Nat :=
  let a := tag * 2 ^ 33 + set * 2 ^ 11
  a / 64 + Nat.xor s (homeSlice a)

def Chip.way (c : Chip) (k : Nat) : Way := c.hbm.ways.look k
def setWay (c : Chip) (k : Nat) (w : Way) : Chip := { c with hbm := { c.hbm with ways := c.hbm.ways.put k w } }

/-- The TKI expected for a line: that of its window's tenant (R212). -/
def tkiOf (c : Chip) (n : Nat) : Nat := (c.tenant (c.window ((winOf c n).getD 0)).tenant).tki

/-- A pseudo-channel's line-cache sets miss: it has failed (R219), or a slice test isolates it (Table 16.2). -/
def pcOut (c : Chip) (k : Nat) : Bool := (c.pcOf k).failed || (c.pcOf k).isolated

/-- The way predictor of a set (R221). -/
abbrev predKey (s set : Nat) : Nat := s * 2 ^ 18 + set % 2 ^ 18

/-- The predictor of a set. -/
def setPredict (c : Chip) (s set i : Nat) : Chip := { c with hbm := { c.hbm with predict := c.hbm.predict.put (predKey s set) i } }

/-- One way is read (R212): it holds the line, or not; a way with the line's TAG and another TKI is discarded, with source 132. -/
def readWay (c : Chip) (n i : Nat) : Chip × Bool :=
  let s := lineSlice n
  let set := lineSet n
  let w := c.way (wayKey s set i)
  if w.tki = 0 ∨ w.tag ≠ lineTag n then (c, false)
  else if w.tki ≠ tkiOf c n then (raise (setWay c (wayKey s set i) {}) 132 (srcInfo 7 (pcOfSet s set)), false)
  else (c, true)

/-- The ways of a list are read. -/
def readWays (c : Chip) (n : Nat) (ways : List Nat) : Chip × Option Nat :=
  ways.foldl (fun (r : Chip × Option Nat) i =>
    let (c, hit) := readWay r.1 n i
    (c, if hit then some i else r.2)) (c, none)

/-- R221: the way that holds a line: the predicted way first, the remaining ones where that misses. The predictor is set to the way
that hits. -/
def findWay (c : Chip) (n : Nat) : Chip × Option Nat :=
  let s := lineSlice n
  let set := lineSet n
  let p := c.hbm.predict.look (predKey s set)
  if pcOut c (pcOfSet s set) ∨ c.hbm.lcWays = 0 then (c, none)
  else
    let (c, hit) := if p < c.hbm.lcWays then readWay c n p else (c, false)
    if hit then (c, some p)
    else match readWays c n ((List.range c.hbm.lcWays).filter (· != p)) with
      | (c, some i) => (setPredict c s set i, some i)
      | (c, none) => (c, none)

/-- The sample groups of the placement loop (R225): 1 runs at T − 1, 2 at T + 1, 0 is none. Each is 1/128 of the sets; which sets,
nothing states (notes/assumptions/3.md). -/
def sampleGroup (set : Nat) : Nat :=
  let a := Config.sampleLow % 128
  let b := (a + 1 + Config.sampleHigh % 127) % 128
  if set % 128 = a then 1 else if set % 128 = b then 2 else 0

/-- R225: a read miss raises the counter of its page; it may allocate if the counter is then at least the threshold. -/
def countMiss (c : Chip) (n : Nat) : Chip × Bool :=
  let s := lineSlice n
  let l := c.hbm.loops.look s
  let k := Config.pageHash (n / 64) % 8192
  let v := min 7 (l.misses.look k + 1)
  let g := sampleGroup (lineSet n)
  let t := if g = 1 then l.thresh - 1 else if g = 2 then l.thresh + 1 else l.thresh
  ({ c with hbm := { c.hbm with loops := c.hbm.loops.put s { l with misses := l.misses.put k v, missed := l.missed + 1 } } },
   decide (t ≤ v))

/-- What a lookup for a read finds: a hit in a way, or in a write-back still in flight (R184); or a miss, and whether it may
allocate. -/
inductive LookUp where
  | hit | miss (alloc : Bool)
  deriving DecidableEq, Repr

/-- A lookup for a read (R221): hits, misses and mispredictions are counted. -/
def lookupLine (c : Chip) (n fab : Nat) : Chip × LookUp :=
  let s := lineSlice n
  let set := lineSet n
  let t := (c.window ((winOf c n).getD 0)).tenant
  let p := c.hbm.predict.look (predKey s set)
  let (c, r) := findWay c n
  if r.isSome ∨ (inFlight c n).isSome then
    let l := c.hbm.loops.look s
    let g := sampleGroup set
    let l' : Placement := { l with hits := l.hits + 1, hitsLo := if g = 1 then l.hitsLo + 1 else l.hitsLo,
                                   hitsHi := if g = 2 then l.hitsHi + 1 else l.hitsHi }
    let c := countFor (countEvent c (lineEvent c n 0x040 fab)) fab t 4 1
    let c := if r.isSome && r != some p then countEvent c (lineEvent c n 0x042 fab) else c
    ({ c with hbm := { c.hbm with loops := c.hbm.loops.put s l' } }, .hit)
  else
    let (c, go) := countMiss (countFor (countEvent c (lineEvent c n 0x041 fab)) fab t 5 1) n
    (c, .miss go)

/-- Ways of a tenant in a slice (R224). -/
def occupancy (c : Chip) (t s : Nat) : Nat :=
  (c.hbm.ways.filter (fun w => w.1 / 4 / 2 ^ 22 == s && w.2.tki != 0 && w.2.tenant == t)).length

/-- The shares of a tenant in a slice, in lines (R224). -/
def capMin (c : Chip) (t : Nat) : Nat := (c.tenant t).lcMin * 512
def capMax (c : Chip) (t : Nat) : Nat := ((c.tenant t).lcMax.getD (cacheMiB c)) * 512

/-- The least element by a measure. -/
def leastBy (f : Nat → Nat) : List Nat → Option Nat
  | [] => none
  | i :: t => match leastBy f t with
    | none => some i
    | some j => if f i ≤ f j then some i else some j

/-- R223: the way that a fill by tenant `t` takes. -/
def victimWay (c : Chip) (t n : Nat) : Option Nat :=
  let s := lineSlice n
  let set := lineSet n
  let at_ := fun i => c.way (wayKey s set i)
  let ways := List.range c.hbm.lcWays
  if pcOut c (pcOfSet s set) then none
  else match ways.find? (fun i => (at_ i).tki == 0) with
    | some i => some i
    | none =>
      let cands := if capMax c t ≤ occupancy c t s then ways.filter (fun i => (at_ i).tenant == t)
        else ways.filter (fun i => (at_ i).tenant == t || decide (capMin c (at_ i).tenant < occupancy c (at_ i).tenant s))
      let cands := cands.filter (fun i => (c.tracker (lineOfWay s set (at_ i).tag)).isNone)
      let pred := c.hbm.predict.look (predKey s set)
      leastBy (fun i => nat1 (at_ i).dirty * 8 + nat1 (i == pred) * 4 + i) cands

/-- A way is emptied; a dirty line goes to the backing path first (R223), where it still counts as held by the cache until its write-back
is confirmed (`inFlight`, R184). -/
def evictWay (c : Chip) (s set i : Nat) : Chip :=
  let w := c.way (wayKey s set i)
  let n := lineOfWay s set w.tag
  let c := setWay c (wayKey s set i) {}
  if w.tki ≠ 0 ∧ w.dirty then
    writeBack (countEvent c (lineEvent c n 0x043)) n w.data (BitVec.allOnes 64) w.poison none
  else c

/-- A fill: the way taken and the predictor set; `none` where no way can be had (R222, R223). -/
def fillLine (c : Chip) (n : Nat) (d : Line) (dirty poison : Bool) : Option Chip :=
  let id := (winOf c n).getD 0
  let t := (c.window id).tenant
  let s := lineSlice n
  let set := lineSet n
  match victimWay c t n with
  | none => none
  | some i =>
    let c := evictWay c s set i
    let w : Way := { tag := lineTag n, tki := tkiOf c n, dirty := dirty, poison := poison, data := d, tenant := t, window := id }
    let c := setWay c (wayKey s set i) w
    some (setPredict c s set i)

/-- A line read from backing fills the cache as CACHE_POLICY and the placement loop allow (R185, R222, R225). -/
def fillRead (c : Chip) (n : Nat) (d : Line) (poison alloc : Bool) : Chip :=
  let w := c.window ((winOf c n).getD 0)
  if w.policy = 2 ∨ (winOf c n).isNone ∨ !alloc then c else (fillLine c n d false poison).getD c

/-- CACHE_POLICY as it stands: while the tenant drains, write-back is handled as 1 (R325). -/
def policyOf (c : Chip) (w : Window) : Nat :=
  if w.policy = 0 ∧ (c.tenant w.tenant).state = .draining then 1 else w.policy

/-- A whole line goes into the cache, and to backing as the policy asks; `cmp` is the host write that waits (R191, R222). A line with no
surviving source is not cached: its write is discarded (R198). -/
def putLine (c : Chip) (n : Nat) (d : Line) (poison : Bool) (cmp : Option MemReq) : Chip :=
  let w := c.window ((winOf c n).getD 0)
  let (c, hit) := findWay c n
  let k := fun i => wayKey (lineSlice n) (lineSet n) i
  let done := fun (c : Chip) => match cmp with
    | some m => sendCmp c m
    | none => c
  if policyOf c w = 0 then
    match hit with
    | some i => done (setWay c (k i) { c.way (k i) with data := d, dirty := true, poison := poison })
    | none =>
      if noSource w (extOf w n) n then writeBack c n d (BitVec.allOnes 64) poison cmp
      else match fillLine c n d true poison with
        | some c => done c
        | none => writeBack c n d (BitVec.allOnes 64) poison cmp
  else
    let c := match hit with
      | some i => setWay c (k i) { c.way (k i) with data := d, dirty := false, poison := poison }
      | none => c
    writeBack c n d (BitVec.allOnes 64) poison cmp

/-- A partial write of an uncached line must read the line first: it allocates under write-back, and a stripe is written in
whole lines (R222, R193). -/
def mustRead (c : Chip) (n : Nat) (ptl : Bool) : Bool :=
  let w := c.window ((winOf c n).getD 0)
  ptl && (findWay c n).2.isNone && (policyOf c w == 0 || w.mode == .stripe)

/-- The data of a host write is applied (R149, R191, R222); a full line clears POISON (Table 7.1), unless a job writes it poisoned (R392). -/
def applyWrite (c : Chip) (m : MemReq) (ptl : Bool) (base : Option (Line × Bool)) : Chip :=
  let n := m.line
  let t := (c.window ((winOf c n).getD 0)).tenant
  let c := countFor c m.fab t 3 64
  if !ptl then putLine c n m.data m.poison (some m)
  else
    let (c, hit) := findWay c n
    match hit, base with
    | some i, _ =>
      let w := c.way (wayKey (lineSlice n) (lineSet n) i)
      putLine c n (mergeLine w.data m.data m.mask) w.poison (some m)
    | none, some (d, p) => putLine c n (mergeLine d m.data m.mask) p (some m)
    | none, none => writeBack c n m.data m.mask false (some m)

/-- The home copy of a line reads as poison until the next full-line write (R155). -/
def poisonLine (c : Chip) (n : Nat) : Chip :=
  let (c, hit) := findWay c n
  let d : Line := match hit with
    | some i => (c.way (wayKey (lineSlice n) (lineSet n) i)).data
    | none => 0
  putLine c n d true none

/-- R226: the ways of pool extents are set to TKI 0 without write-back. -/
def purgeLines (c : Chip) (pools : List Nat) : Chip :=
  let hit : Nat × Way → Bool := fun w =>
    pools.contains (lineOfWay (w.1 / 4 / 2 ^ 22) (w.1 / 4 % 2 ^ 22) w.2.tag / 2 ^ 22)
  { c with hbm := { c.hbm with ways := c.hbm.ways.filter (fun w => !hit w) } }

/-- Dirty lines of windows that satisfy `p` are written back; the count of them. -/
def flushDirty (c : Chip) (p : Nat → Bool) : Chip × Nat :=
  let ws := c.hbm.ways.filter (fun w => w.2.dirty && p w.2.window)
  (ws.foldl (fun c w =>
    let n := lineOfWay (w.1 / 4 / 2 ^ 22) (w.1 / 4 % 2 ^ 22) w.2.tag
    writeBack (setWay c w.1 { w.2 with dirty := false }) n w.2.data (BitVec.allOnes 64) w.2.poison none) c, ws.length)

end Sys2Proof.Machine
end

