-- ==== Sys2Proof/Machine/Home.lean ====
section
/-!
DEFINITION. The coherence home (05_coherence.md): tracking storage and its victims, requests, writes, snoops, NACKs, the
removal of agents, domains.
-/
namespace Sys2Proof.Machine

/-! ### Domains, agents and sets (R135–R147) -/

/-- The coherence domain of a line's window; private windows have none (R135). -/
def lineDomain (c : Chip) (n : Nat) : Option Nat :=
  match winOf c n with
  | none => none
  | some id =>
    let d := (c.window id).domain
    if d < 256 ∧ (c.domain d).present then some d else none

/-- The bound agents of a domain that are not being swept (R155). -/
def liveAgents (x : Domain) : List Nat := (x.agents.filter (fun a => a.2.bound && !a.2.dead)).map (·.1)

/-- The bound agent that a request comes from; none for an uncached requester (R139). -/
def boundAgent (c : Chip) (d : Nat) (m : MemReq) : Option Nat :=
  if !m.cached then none else ((c.domain d).agents.find? (fun a => a.2.bound && a.2.fab == m.fab)).map (·.1)

/-- The agent that a request comes from, as the record knows it: one whose sweep runs holds nothing and gains nothing (R155). -/
def agentOf (c : Chip) (d : Nat) (m : MemReq) : Option Nat := (boundAgent c d m).filter (fun a => !(c.agent d a).dead)

/-- Ways and sets of a domain in each slice (R140, Table 5.4). -/
def setWays (x : Domain) : Nat := if x.tags then 8 else 4
def setCount (x : Domain) : Nat := x.entries / 32 / setWays x
/-- The set of a line (R140). -/
def setOf (x : Domain) (n : Nat) : Nat := n % setCount x

/-- The key of a set among the lost ones (R147). -/
def lostKey (c : Chip) (d n : Nat) : Nat := (d * 32 + lineSlice n) * 2 ^ 22 + setOf (c.domain d) n

/-- The pseudo-channel of a directory set. -/
def dirPc (s set : Nat) : Nat := 16 * (s / 8) + Config.dirPlace s set % 16

/-- The line's set lies on a pseudo-channel that has failed: it is lost for good (R219). -/
def setFailed (c : Chip) (d n : Nat) : Bool := (c.pcOf (dirPc (lineSlice n) (setOf (c.domain d) n))).failed

/-- The stable state of a line: a line of a lost set is UNKNOWN until its first request (R147, notes/assumptions/10.md), one of a
failed pseudo-channel at every request (R219). -/
def stateOf (c : Chip) (d n : Nat) : LState :=
  if setFailed c d n then .unknown
  else
    let s := (c.line n).state
    if s ≠ .inv then s
    else match c.home.lost.look (lostKey c d n) with
      | some asked => if asked.contains n then .inv else .unknown
      | none => .inv

/-- The holders of a line: every bound agent where it is WIDE or UNKNOWN (R141, R143). -/
def holders (c : Chip) (d n : Nat) : List Nat :=
  match stateOf c d n with
  | .inv => []
  | .sh | .any => (c.line n).agents
  | .wide | .unknown => liveAgents (c.domain d)

/-- The lines with entries in the set of line `n`. -/
def setLines (c : Chip) (d n : Nat) : List (Nat × LineRec) :=
  let x := c.domain d
  c.home.lines.filter (fun l => l.2.domain == d && !l.2.ways.isEmpty && lineSlice l.1 == lineSlice n &&
    setOf x l.1 == setOf x n)

/-- Ways of a set in use; an UNKNOWN mark takes way 0 (R147). -/
def usedWays (c : Chip) (d n : Nat) : List Nat :=
  (setLines c d n).flatMap (·.2.ways) ++ (if (c.home.lost.look (lostKey c d n)).isSome then [0] else [])

/-- The lowest free way of the set. -/
def freeWay (c : Chip) (d n : Nat) : Option Nat :=
  findBelow (setWays (c.domain d)) (fun i => !(usedWays c d n).contains i)

/-- The way of each agent that has an entry of its own, in sympathetic mode. -/
def ownWays (x : Domain) (r : LineRec) : List (Nat × Nat) :=
  if !x.tags then [] else match r.state with
    | .sh | .any => r.agents.zip r.ways
    | .inv | .wide | .unknown => []

/-- The ways of some agents: an agent that has one keeps it, the others take from the free ones in order. -/
def takeWays (own : List (Nat × Nat)) : List Nat → List Nat → List Nat
  | [], _ => []
  | a :: t, free => match own.lookup a, free with
    | some w, _ => w :: takeWays own t free
    | none, w :: rest => w :: takeWays own t rest
    | none, [] => []

/-- The record of a line is written: its entries take as many ways as its state needs, and an entry keeps its way (R140–R144). -/
def putRec (c : Chip) (d n : Nat) (st : LState) (agents : List Nat) : Chip :=
  let x := c.domain d
  let r := c.line n
  if setFailed c d n then c
  else if st = .inv then c.setLine n {}
  else
    let own := ownWays x r
    let gone := (own.filter (fun e => !agents.contains e.1)).map (·.2)
    let free := r.ways.drop own.length ++ gone ++ (List.range (setWays x)).filter (fun i => !(usedWays c d n).contains i)
    let ways := match st with
      | .inv | .unknown => []
      | .sh => if x.tags then takeWays own agents free else free.take 1
      | .any => if x.tags then takeWays own agents free else free.take 1
      | .wide => free.take 1
    c.setLine n { r with state := st, agents := agents, domain := d, ways := ways }

/-- An agent in its place among the holders. -/
def insertAgent : List Nat → Nat → List Nat
  | [], a => [a]
  | b :: t, a => if a < b then a :: b :: t else if a = b then b :: t else b :: insertAgent t a

/-- Table 5.3: AGE of an accessed entry is 0 and rises for the other ways of its set. -/
def touchAge (c : Chip) (d n : Nat) : Chip :=
  if (c.domain d).tags then c
  else (setLines c d n).foldl (fun c l =>
    c.setLine l.1 { c.line l.1 with age := if l.1 = n then 0 else min 15 ((c.line l.1).age + 1) }) c

/-- A segment of a slice is out of use: excluded, or under a slice test (Tables 16.2, 16.5). -/
def segmentOut (c : Chip) (s seg : Nat) : Bool :=
  c.test.excluded.contains (s, seg) || (match c.test.running with
    | some t => t.kind == 1 && t.index == s && t.seg == seg
    | none => false)

/-- Shared trackers of a slice (R160, Table 16.5); with segment 7 (number 23) out, the reserved ones take segment 6. -/
def sharedTrackers (c : Chip) (s : Nat) : Nat :=
  448 - 64 * ((List.range 8).filter (fun i => segmentOut c s (16 + i))).length

/-- The directory set of a line, in its slice and domain. -/
abbrev dirKey (c : Chip) (d n : Nat) : Nat := (lineSlice n * 256 + d) * 2 ^ 22 + setOf (c.domain d) n

/-- R146: the set is brought into the directory cache; a miss is counted, and with 16,384 sets the one replaced is free. A set of
a segment that is out of use is read from HBM and not filled (Table 16.2). -/
def dirAccess (c : Chip) (d n : Nat) : Chip :=
  let key := dirKey c d n
  if c.home.dirCached.look key then c
  else if segmentOut c (lineSlice n) (Config.dirSegment (lineSlice n) key % 16) then countEvent c (lineEvent c n 0x034)
  else
    let c := countEvent c (lineEvent c n 0x034)
    let have_ := c.home.dirCached.filter (fun e => e.1 / 2 ^ 30 == lineSlice n)
    let c := if have_.length < 16384 then c
      else
        let k := ((have_[c.freeNat % have_.length]?).map (·.1)).getD 0
        Chip.usedFree { c with home := { c.home with dirCached := c.home.dirCached.put k false } }
    { c with home := { c.home with dirCached := c.home.dirCached.put key true } }

/-- A request has named a line of a lost set: its own entry takes over (R147). -/
def markAsked (c : Chip) (d n : Nat) : Chip :=
  match c.home.lost.look (lostKey c d n) with
  | some asked => { c with home := { c.home with lost := c.home.lost.put (lostKey c d n) (some (addOnce asked n)) } }
  | none => c

/-- R147: a set of a slice is lost; every domain with entries in it gets an UNKNOWN entry. `set` is the set index. The sets of this index
of all domains are taken to be lost together: the model's choice (notes/assumptions/167.md). -/
def loseSet (c : Chip) (s set : Nat) : Chip :=
  c.home.domains.foldl (fun c e =>
    let d := e.1
    let ls := c.home.lines.filter (fun l => l.2.domain == d && lineSlice l.1 == s && setOf e.2 l.1 == set)
    let key := (d * 32 + s) * 2 ^ 22 + set
    if !e.2.present ∨ (ls.isEmpty ∧ (c.home.lost.look key).isNone) then c
    else
      let c := ls.foldl (fun c l => c.setLine l.1 {}) c
      { c with home := { c.home with lost := c.home.lost.put key (some []) } }) c

/-! ### Trackers (R154, R160) -/

/-- Open trackers of a slice. -/
def sliceTrackers (c : Chip) (s : Nat) : List Tracker :=
  c.home.trackers.filterMap (fun t => if lineSlice t.1 = s then t.2 else none)
/-- Trackers of a slice taken from a pool: by open transactions, and by the writes held behind them. -/
def poolUsed (c : Chip) (s p : Nat) : Nat :=
  ((sliceTrackers c s).filter (fun t => t.pool == p)).length +
  ((sliceTrackers c s).flatMap (fun t => t.waiting.filter (fun w => w.pool == p))).length
/-- Starvation trackers in use. -/
def starveUsed (c : Chip) (s : Nat) : Nat :=
  poolUsed c s 2 + (sliceTrackers c s).foldl (fun n t => n + t.starving.length) 0 +
  (c.home.stalled.filter (fun q => lineSlice q.1.line == s)).length
/-- Fan-out maps in use. -/
def fanUsed (c : Chip) (s : Nat) : Nat := ((sliceTrackers c s).filter (fun t => t.fanout)).length

/-- A tracker for a write: the RWD reserve first, then a shared one. -/
def writePool (c : Chip) (s : Nat) : Option Nat :=
  if poolUsed c s 1 < 32 then some 1 else if poolUsed c s 0 < sharedTrackers c s then some 0 else none

/-! ### Answers -/

/-- The completion of a request has been sent: a BIConflict that waits for it is answered (R153). -/
def answered (c : Chip) (port n : Nat) : Chip :=
  if c.home.conflicts.contains (port, n) then
    Chip.emit { c with home := { c.home with conflicts := c.home.conflicts.erase (port, n) } } (.conflictAck port n)
  else c

/-- The DRS with the granted MetaValue (R148); poisoned responses count against the tenant (Table 19.2). -/
def sendDrs (c : Chip) (m : MemReq) (g : Meta) (d : Line) (poison : Bool) : Chip :=
  let id := (winOf c m.line).getD 0
  let t := (c.window id).tenant
  let c := if 4096 ≤ m.fab then toMover c m (some (d, poison)) else c.emit (.drs m.fab m.id (if poison then .poison g else .data d g))
  let c := countFor c m.fab t 2 64
  let c := if poison then countFor (c.modWindow id (fun w => { w with poisons := w.poisons + 1 })) m.fab t 7 1 else c
  answered c m.port m.line

/-- A Cmp to a request without data. -/
def sendDone (c : Chip) (m : MemReq) : Chip := answered (sendCmp c m) m.port m.line

/-- A NACK (R160, R161). -/
def sendNack (c : Chip) (m : MemReq) : Chip :=
  let c := countEvent c (lineEvent c m.line 0x031 m.fab)
  let c := match lineDomain c m.line with
    | some d => c.modDomain d (fun x => { x with nacks := x.nacks + 1 })
    | none => c
  c.emit (.nack m.fab m)

/-- A REQ that cannot proceed is held where it is starving and a starvation tracker is free, else NACKed (R160, R162). -/
def holdOrNack (c : Chip) (m : MemReq) (i : Bool) : Chip :=
  let s := lineSlice m.line
  if m.nacks < 4 then sendNack c m
  else if starveUsed c s < 32 then
    match c.tracker m.line with
    | some t => c.setTracker m.line (some { t with starving := t.starving ++ [(m, i)] })
    | none => { c with home := { c.home with stalled := c.home.stalled ++ [(m, i)] } }
  else
    let c := { c with home := { c.home with starveOvf := c.home.starveOvf.put s true } }
    sendNack (raise c 96 (srcInfo 6 s)) m

/-! ### Snoops (R152, R154) -/

/-- A snoop to the agent can be sent: its port is up, or a usable path exists (R154). -/
def reachable (c : Chip) (fab : Nat) : Bool :=
  let e := feOf c fab
  feValid e && (if feLocal e then linkUp (c.port (feIndex e)) else (pathFor e).isSome)

/-- The fabric ID of a home quadrant of this device; 0 where none names it. -/
def quadId (c : Chip) (q : Nat) : Nat :=
  ((c.sw.fabric.find? (fun e => feValid e.2 && feLocal e.2 && feKind e.2 == 1 && feIndex e.2 == q)).map (·.1)).getD 0

/-- The packet of a snoop that crosses Stolevo Links: class BISNP, deadline-bearing (R152). Its name is the model's
(notes/assumptions/168.md). -/
def snoopPkt (c : Chip) (fab n sc : Nat) : QPkt :=
  let q := lineSlice n / 8
  rerouted c { pid := 2 ^ 48 + c.sw.lookups, input := 32 + q, port := 128, cls := .bisnp, sc := if sc = 0 then 1 else sc, data := false,
               arrival := c.now, lookAt := c.ivl, dst := fab, guarded := true, srcDev := ownId c, srcId := quadId c q,
               seq := c.sw.lookups, slice := some (lineSlice n) }

/-- A snoop is sent, or held where its slice cannot send now (R154, R75): to an agent of another device it goes as a packet, under
permits and the path guard (R152). -/
def sendSnoop (c : Chip) (fab n sc : Nat) (op : SnoopOp) : Option Chip :=
  if !reachable c fab then none
  else if feLocal (feOf c fab) then some (c.emit (.snoop fab n sc op))
  else (enqueue { c with sw := { c.sw with lookups := c.sw.lookups + 1 } } (snoopPkt c fab n sc) none).map
    (fun c => c.emit (.snoop fab n sc op))

/-- Snoops of a line to agents, sent where they can be. -/
def snoopTo (c : Chip) (d n sc : Nat) (op : SnoopOp) (dsts : List Nat) : Chip × List SnoopDest :=
  dsts.foldl (fun (r : Chip × List SnoopDest) a =>
    let go := sendSnoop r.1 (r.1.agent d a).fab n sc op
    (go.getD r.1, r.2 ++ [{ agent := a, op := op, sent := go.isSome, since := r.1.ivl }])) (c, [])

/-- What a request's snoops are (Tables 5.6 and 5.7). -/
structure Plan where
  op  : SnoopOp := .inv
  dsts  : List Nat := []
  fan : Bool := false
  deriving DecidableEq, Repr, Inhabited

/-- The snoops of a MemRd or MemInv from `r` (Table 5.6). -/
def readPlan (st : LState) (hold : List Nat) (r : Option Nat) (want : Meta) : Plan :=
  let others := hold.filter (fun a => some a != r)
  match st with
  | .inv => {}
  | .sh => if want = .any then { dsts := others } else {}
  | .wide => if want = .any then { dsts := others, fan := !others.isEmpty } else {}
  | .any => match want with
    | .invalid => { op := .cur, dsts := others }
    | .shared => { op := .data, dsts := others }
    | .any => { dsts := others }
  | .unknown => { dsts := others, fan := !others.isEmpty }

/-- The record after a transaction's snoops: `all` says that every other holder was invalidated. -/
def stateAfter (st : LState) (hold gone toS : List Nat) (all : Bool) (r : Option Nat) : LState × List Nat :=
  match st with
  | .inv => (.inv, [])
  | .unknown => if all then (.inv, []) else (.unknown, [])
  | .wide => if !all then (.wide, []) else match r with
    | some a => if hold.contains a then (.sh, [a]) else (.inv, [])
    | none => (.inv, [])
  | .sh => let l := hold.filter (fun a => !gone.contains a); if l.isEmpty then (.inv, []) else (.sh, l)
  | .any =>
    if hold.any gone.contains then (.inv, [])
    else if hold.any toS.contains then (.sh, hold) else (.any, hold)

/-- The agent has an entry of its own for the line. -/
def hasEntry (c : Chip) (n a : Nat) : Bool := ((c.line n).state == .sh || (c.line n).state == .any) && (c.line n).agents.contains a

/-- A new entry of an agent joins the ring of its recent fills in the slice (R145). -/
def recentFill (c : Chip) (d a n : Nat) : Chip :=
  if !(c.domain d).tags then c
  else c.modAgent d a (fun x =>
    let here := x.recent.filter (fun k => lineSlice k == lineSlice n)
    { x with recent := n :: (here.take 63 ++ x.recent.filter (fun k => lineSlice k != lineSlice n)) })

/-- The record with `a` among its holders; a new entry is a fill of the agent. -/
def putFill (c : Chip) (d n : Nat) (st : LState) (l : List Nat) (a : Nat) : Chip :=
  let had := hasEntry c n a
  let c := putRec c d n st l
  if had then c else recentFill c d a n

/-- The record once `r` has been granted `want` (Table 5.6; R143 for the fifth S entry). -/
def grant (c : Chip) (d n : Nat) (s : LState × List Nat) (r : Option Nat) (want : Meta) : Chip :=
  match r, want with
  | none, _ | _, .invalid => putRec c d n s.1 s.2
  | some a, .any => putFill c d n .any [a] a
  | some a, .shared =>
    if s.1 = .wide then c
    else
      let l := insertAgent s.2 a
      if (c.domain d).tags ∧ 4 < l.length then putRec c d n .wide [] else putFill c d n .sh l a

/-! ### Capacity victims (R144, R145) -/

/-- Entries that a grant adds to the set, for the way it needs. -/
def addsWay (x : Domain) (st : LState) (hold : List Nat) (r : Option Nat) (want : Meta) : Bool :=
  match r, want with
  | none, _ | _, .invalid => false
  | some _, .any => st == .inv || st == .unknown
  | some a, .shared =>
    st == .inv || st == .unknown ||
    (x.tags && !hold.contains a && ((st == .sh && decide (hold.length < 4)) || st == .any))

/-- The grant gives the agent an entry that it does not have (R142). -/
def addsShare (x : Domain) (st : LState) (hold : List Nat) (r : Option Nat) (want : Meta) : Bool :=
  match r with
  | none => false
  | some a => x.tags && want != .invalid &&
    (match st with
     | .inv | .unknown => true
     | .sh => !hold.contains a && (want == .any || decide (hold.length < 4))
     | .any => !hold.contains a
     | .wide => want == .any)

/-- The lines in a slice in which an agent has an entry. -/
def agentLines (c : Chip) (d a s : Nat) : List Nat :=
  (c.home.lines.filter (fun l => l.2.domain == d && lineSlice l.1 == s &&
    (l.2.state == .sh || l.2.state == .any) && l.2.agents.contains a)).map (·.1)

/-- An open transaction whose snoops run will give the agent an entry that it does not have. -/
def pendingEntry (c : Chip) (d a : Nat) (t : Tracker) : Bool :=
  let will : MemReq → Bool := fun m =>
    agentOf c d m == some a && addsShare (c.domain d) (stateOf c d m.line) (holders c d m.line) (some a) t.want
  t.phase == .snpPend && t.domain == d && !t.answered && (match t.purpose with
    | .read m _ => will m
    | .write m _ => will m
    | .victim _ | .flush _ | .settle | .move _ => false)

/-- Entries of an agent in a slice, those about to be filled among them. -/
def agentEntries (c : Chip) (d a s : Nat) : Nat :=
  (agentLines c d a s).length + ((sliceTrackers c s).filter (pendingEntry c d a)).length

/-- The least by measure of the candidates. -/
def leastCand : List (Nat × Nat × List Nat) → Option (Nat × List Nat)
  | [] => none
  | (k, v) :: t => match t.foldl (fun (b : Nat × (Nat × List Nat)) x => if x.1 < b.1 then x else b) (k, v) with
    | (_, w) => some w

/-- R144: the victim of a full set, and the agents to snoop. -/
def setVictim (c : Chip) (d n : Nat) : Option (Nat × List Nat) :=
  let x := c.domain d
  let ls := (setLines c d n).filter (fun l => l.1 != n && (c.tracker l.1).isNone)
  leastCand (ls.flatMap (fun l =>
    let low := (leastBy id l.2.ways).getD 0
    if x.tags ∧ l.2.state = .sh then
      (l.2.ways.zip l.2.agents).map (fun e => (e.1, (l.1, [e.2])))
    else
      let dsts := if l.2.state = .wide then liveAgents x else l.2.agents
      let cls := if l.2.state = .sh then 0 else 1
      [(((cls * 2048 + (if x.tags then 1 else l.2.agents.length)) * 16 + (15 - l.2.age)) * 8 + low, (l.1, dsts))]))

/-- R145: the agent's own entry that gives way, and the scan's cursor afterwards. -/
def ownVictim (c : Chip) (d a n : Nat) : Option (Nat × Option Nat) :=
  let x := c.domain d
  let s := lineSlice n
  let own := (agentLines c d a s).filter (fun l => l != n && (c.tracker l).isNone)
  let y := c.agent d a
  match own.find? (fun l => setOf x l == setOf x n) with
  | some v => some (v, none)
  | none =>
    match (y.recent.filter (fun l => lineSlice l == s)).reverse.findSome?
        (fun l => own.find? (fun v => setOf x v == setOf x l)) with
    | some v => some (v, none)
    | none =>
      let k := setCount x
      let cur := y.cursor.look s
      (leastBy (fun v => (setOf x v + k - cur % k) % k) own).map (fun v => (v, some (setOf x v)))

/-- How a grant finds its entry. -/
inductive Fit where
  | ok (c : Chip)
  | victim (c : Chip) (line : Nat) (dsts : List Nat)
  | full

/-- The recall of a victim can begin: the fan-out of a WIDE line needs a map (R154). -/
def mapFor (c : Chip) (v : Nat) : Bool := (c.line v).state != .wide || decide (fanUsed c (lineSlice v) < 16)

/-- R144, R145: the entry that a grant needs: at hand, or behind a victim, or not to be had. A set of a failed pseudo-channel holds
none (R219). -/
def fit (c : Chip) (d n : Nat) (st : LState) (hold : List Nat) (r : Option Nat) (want : Meta) : Fit :=
  let x := c.domain d
  let a := r.getD 0
  if setFailed c d n then .ok c
  else if addsShare x st hold r want && decide ((c.agent d a).share ≤ agentEntries c d a (lineSlice n)) then
    match ownVictim c d a n with
    | some (v, cur) =>
      .victim (match cur with
        | some k => c.modAgent d a (fun y => { y with cursor := y.cursor.put (lineSlice n) k })
        | none => c) v [a]
    | none => .full
  else if addsWay x st hold r want then
    match freeWay c d n with
    | some w => .ok (c.setLine n { c.line n with domain := d, ways := (c.line n).ways ++ [w] })
    | none => match setVictim c d n with
      | some (v, dsts) => if mapFor c v then .victim c v dsts else .full
      | none => .full
  else .ok c

/-- The recall of a victim begins: the request waits in its tracker (R144). -/
def recallVictim (c : Chip) (d n v : Nat) (dsts : List Nat) (t : Tracker) : Chip :=
  let c := countEvent (c.modDomain d (fun x => { x with victims := x.victims + 1 })) (lineEvent c v 0x033)
  let sc := (c.domain d).sc
  let (c, ps) := snoopTo c d v sc .inv dsts
  let wide := (c.line v).state == .wide
  let c := c.setTracker v (some { phase := .vicPend, purpose := .victim n, pending := ps, pool := 3, fanout := wide,
                                  stamp := c.ivl, domain := d, sc := sc })
  c.setTracker n (some { t with phase := .vicPend })

/-! ### Requests (R148, R160) -/

/-- The data of a granted request: a hit waits for LINE_DATA_READY, a miss is read from backing (R151, R221). -/
def beginData (c : Chip) (n fab : Nat) : Chip :=
  match lookupLine c n fab with
  | (c, .hit) => c
  | (c, .miss go) =>
    let c := startRead c n
    setRead c n ((c.pool.reads.look n).map (fun r => { r with alloc := go }))

/-- The MetaValue that a request asks for: an uncached requester reads as for I; a MemInv asks for A, but has its own MetaValue where
Table 5.6 says "per MetaValue": on a line that it owns, and on an UNKNOWN one (notes/assumptions/169.md). -/
def wantOf (st : LState) (hold : List Nat) (r : Option Nat) (m : MemReq) (i : Bool) : Meta :=
  if r.isNone then .invalid
  else if i && !(st == .unknown || (st == .any && hold == r.toList)) then .any else m.want

/-- A MemRd or MemInv on a line with no open transaction, in a tracker of the given pool. `k` bounds the victims that have
no holder left. -/
def startReq : Nat → Chip → MemReq → Bool → Nat → Chip
  | 0, c, m, i, _ => holdOrNack c m i
  | k + 1, c, m, i, pool =>
    let n := m.line
    let t : Tracker := { purpose := .read m i, pool := pool, stamp := m.stamp.getD c.ivl, domain := 256, sc := m.sc, want := m.want }
    match lineDomain c n with
    | none => if i then sendDone c m else beginData (c.setTracker n (some t)) n m.fab
    | some d =>
      let r := agentOf c d m
      let st := stateOf c d n
      let hold := holders c d n
      let w := wantOf st hold r m i
      let t := { t with domain := d, want := w }
      let p := readPlan st hold r w
      if p.fan && decide (16 ≤ fanUsed c (lineSlice n)) then holdOrNack c m i
      else match fit c d n st hold r w with
        | .full => holdOrNack c m i
        | .victim c v dsts =>
          if dsts.isEmpty then startReq k (putRec c d v .inv []) m i pool else recallVictim c d n v dsts t
        | .ok c =>
          let c := markAsked c d n
          if p.dsts.isEmpty then
            let s := stateAfter st hold [] [] (st == .unknown || (st == .wide && w == .any)) r
            let c := grant c d n s r w
            if i then sendDone c m else beginData (c.setTracker n (some { t with before := s })) n m.fab
          else
            let (c, ps) := snoopTo c d n m.sc p.op p.dsts
            let c := c.setTracker n (some { t with phase := .snpPend, pending := ps, fanout := p.fan })
            if i then c else beginData c n m.fab

/-- A request or write has reached its slice: it is counted under its message class (Table 19.1). -/
def countReq (c : Chip) (m : MemReq) (mc : Nat) : Chip :=
  countEvent c { lineEvent c m.line 0x030 m.fab with port := m.port, sc := m.sc, mc := mc }

/-- What the SECDED code of the directory cache shows at a lookup that hits (R146): a double-bit error loses the set (R147). -/
def dirVerdict (c : Chip) (d n : Nat) (v : Ecc) : Chip :=
  let s := lineSlice n
  if !c.home.dirCached.look (dirKey c d n) then c
  else match v with
    | .clean => c
    | .corrected => raise (spendArmed c [101, 102]) 101 (srcInfo 6 s)
    | .double => raise (loseSet (raise (spendArmed c [101, 102]) 102 (srcInfo 6 s)) s (setOf (c.domain d) n)) 100 (srcInfo 6 s)

/-- The line's set is accessed (R146, Table 5.3). -/
def touchLine (c : Chip) (n : Nat) (v : Ecc := .clean) : Chip :=
  match lineDomain c n with
  | some d => if setFailed c d n then c else touchAge (dirAccess (dirVerdict c d n v) d n) d n
  | none => c

/-- R158, R188: a request has missed its deadline: source 117, and a DEADLINE event as R320 limits it. -/
def deadlineMissed (c : Chip) (n : Nat) : Chip :=
  let id := (winOf c n).getD 0
  let w := c.window id
  let c := countEvent (raise c 117 (srcInfo 13 id)) (lineEvent c n 0x052)
  let due := evtDue c w.tenant w.dlAt
  let c := c.modWindow id (fun w => { w with misses := w.misses + 1, dlAt := if due then some c.ivl else w.dlAt,
                                             dlSince := if due then 0 else w.dlSince + 1 })
  if due then unsolTenant c w.tenant 0x8006 (leBytes 2 id ++ leBytes 8 (n * 64) ++ leBytes 4 (w.dlSince + 1)) else c

/-- R188: the response deadline of a protected window has passed for a request; it has not been counted yet. -/
def isLate (c : Chip) (m : MemReq) : Bool :=
  let w := c.window ((winOf c m.line).getD 0)
  w.mode != .plain && !m.missed && (match m.stamp with
    | some s => c.past s (ns w.deadline)
    | none => false)

/-- The stamp of a request's first arrival at its slice stays with it (R188). -/
def stamped (c : Chip) (m : MemReq) : MemReq := { m with stamp := some (m.stamp.getD c.ivl) }

/-- R158: a request that has missed its deadline is answered with poison and MetaValue I. -/
def answerLate (c : Chip) (m : MemReq) : Chip := sendDrs (deadlineMissed c m.line) m .invalid 0 true

/-- A request enters its slice (R160). One whose deadline passed before a retry is answered at once (R158, R188). -/
def enterReq (c : Chip) (m : MemReq) (i : Bool) : Chip :=
  let n := m.line
  let s := lineSlice n
  let c := touchLine (countReq c m 0) n m.ecc
  let m := stamped c m
  if isLate c m then answerLate c m
  else if (c.tracker n).isSome then holdOrNack c m i
  else if poolUsed c s 0 < sharedTrackers c s then startReq 8 c m i 0
  else if 4 ≤ m.nacks ∧ starveUsed c s < 32 then startReq 8 c m i 2
  else holdOrNack c m i

/-! ### Writes (R149, R150, R157) -/

/-- A write that finds no tracker, map or way is NACKed (R151). -/
def nackWrite (c : Chip) (m : MemReq) : Chip := sendNack c { m with wr := true }

/-- The data of a write is applied, after a read of the line where it is partial and must read (R222): that takes a tracker of the
given pool. -/
def writeNow (c : Chip) (m : MemReq) (ptl : Bool) (pool d : Nat) : Chip :=
  if mustRead c m.line ptl then
    startRead (c.setTracker m.line (some { purpose := .write m ptl, pool := pool, stamp := c.ivl, domain := d, sc := m.sc })) m.line
  else applyWrite c m ptl none

/-- MetaValue that a write leaves its writer with. -/
def writeWant (r : Option Nat) (m : MemReq) : Meta := if r.isNone then .invalid else m.want

/-- The record once a write by one that was not the owner is applied: R holds per MetaValue. -/
def writeGrant (c : Chip) (d n : Nat) (s : LState × List Nat) (r : Option Nat) (want : Meta) : Chip :=
  match r, want with
  | some a, .invalid => let l := s.2.erase a; putRec c d n (if l.isEmpty then .inv else s.1) l
  | _, _ => grant c d n s r want

/-- The first two rows of Table 5.7 apply: R owns the line, or holds it and gives it up. -/
def writerHolds (c : Chip) (d n : Nat) (r : Option Nat) (want : Meta) : Bool :=
  let st := stateOf c d n
  let hold := holders c d n
  r.isSome && st != .unknown && ((st == .any && hold == r.toList) || (hold.contains (r.getD 0) && want == .invalid))

/-- The record after a write of its owner, or of a holder that gives the line up (Table 5.7). -/
def holderWrote (c : Chip) (d n a : Nat) (want : Meta) : Chip :=
  let st := stateOf c d n
  match want with
  | .any => c
  | .shared => putRec c d n .sh [a]
  | .invalid =>
    if st = .wide then c else let l := (holders c d n).erase a; putRec c d n (if l.isEmpty then .inv else st) l

/-- A write on a line with no open transaction (Table 5.7). `pool`: the tracker that it may take. An owner needs none (R160). -/
def startWrite : Nat → Chip → MemReq → Bool → Option Nat → Chip
  | 0, c, m, _, _ => nackWrite c m
  | k + 1, c, m, ptl, pool =>
    let n := m.line
    match lineDomain c n with
    | none => if mustRead c n ptl && pool.isNone then nackWrite c m else writeNow c m ptl (pool.getD 3) 256
    | some d =>
      let r := agentOf c d m
      let a := r.getD 0
      let st := stateOf c d n
      let hold := holders c d n
      if writerHolds c d n r m.want then
        if st != .any && mustRead c n ptl && pool.isNone then nackWrite c m
        else writeNow (holderWrote c d n a m.want) m ptl (if st = .any then 3 else pool.getD 3) d
      else
        let w := writeWant r m
        let others := hold.filter (fun b => some b != r)
        let fan := (st == .wide || st == .unknown) && !others.isEmpty
        let t : Tracker := { purpose := .write m ptl, pool := pool.getD 3, stamp := c.ivl, domain := d, sc := m.sc, want := w }
        if (pool.isNone && (!others.isEmpty || mustRead c n ptl)) || (fan && decide (16 ≤ fanUsed c (lineSlice n))) then nackWrite c m
        else match fit c d n st hold r w with
        | .full => nackWrite c m
        | .victim c v dsts =>
          if dsts.isEmpty then startWrite k (putRec c d v .inv []) m ptl pool
          else if pool.isNone then nackWrite c m else recallVictim c d n v dsts t
        | .ok c =>
          let c := markAsked c d n
          let c := if (boundAgent c d m).isSome ∧ st ≠ .unknown then raise c 103 (srcInfo 10 (c.agent d ((boundAgent c d m).getD 0)).tenant)
            else c
          if others.isEmpty then
            writeNow (writeGrant c d n (stateAfter st hold [] [] true r) r w) m ptl (pool.getD 3) d
          else
            let (c, ps) := snoopTo c d n m.sc .inv others
            let c := c.setTracker n (some { t with phase := .snpPend, pending := ps, fanout := fan })
            if mustRead c n ptl then startRead c n else c

/-- Partial writes that a later whole write covers receive their Cmp (R157). -/
def coverPatches (c : Chip) (n : Nat) : Chip :=
  match c.tracker n with
  | none => c
  | some t => (t.patch.filter (fun p => !p.done)).foldl (fun c p => sendCmp c p.req) (c.setTracker n (some { t with patch := [] }))

/-- A write on a line with an open transaction is applied once, as the data of the line (R157). A partial write whose line is not at
hand waits for it, unless backing takes its bytes as they are. -/
def takeWrite (c : Chip) (m : MemReq) (ptl : Bool) : Chip :=
  let n := m.line
  let keep := fun (c : Chip) (x : Line × Bool) => c.setTracker n ((c.tracker n).map (fun t => { t with data := some x, dataRcv := true }))
  let queue := fun (c : Chip) (p : Patch) =>
    c.setTracker n ((c.tracker n).map (fun t => { t with patch := t.patch ++ [p], dataRcv := true }))
  if !ptl then keep (applyWrite (coverPatches c n) m false none) (m.data, m.poison)
  else
    let (c, hit) := findWay c n
    let base : Option (Line × Bool) := match (c.tracker n).bind (·.data), hit with
      | some x, _ => some x
      | none, some i => let w := c.way (wayKey (lineSlice n) (lineSet n) i); some (w.data, w.poison)
      | none, none => none
    match base with
    | some x => keep (applyWrite c m true (some x)) (mergeLine x.1 m.data m.mask, x.2)
    | none =>
      if !mustRead c n true then queue (applyWrite c m true none) { req := m, done := true }
      else
        let c := queue c { req := m }
        if (c.pool.reads.look n).isSome then c else startRead c n

/-- R151: a write that no row of Table 5.7 takes on a transient line is held in a tracker, or NACKed where none is free. -/
def holdWrite (c : Chip) (m : MemReq) (ptl : Bool) : Chip :=
  match c.tracker m.line, writePool c (lineSlice m.line) with
  | some t, some p => c.setTracker m.line (some { t with waiting := t.waiting ++ [{ req := m, ptl := ptl, pool := p }] })
  | _, _ => nackWrite c m

/-- A MemWr or MemWrPtl enters its slice. On a transient line, a write of a snooped holder is the snoop's data (R157), one of the owner
or of a holder that gives the line up takes effect, any other is held. -/
def enterWrite (c : Chip) (m : MemReq) (ptl : Bool) : Chip :=
  let n := m.line
  let c := touchLine (countReq c m 1) n m.ecc
  let m := stamped c m
  match c.tracker n with
  | none => startWrite 8 c m ptl (writePool c (lineSlice n))
  | some t =>
    let r := if t.domain < 256 then agentOf c t.domain m else none
    match r with
    | none => holdWrite c m ptl
    | some a =>
      if t.pending.any (fun p => p.agent == a) then takeWrite c m ptl
      else if writerHolds c t.domain n r m.want then
        let c := c.setTracker n (some { t with before := if m.want = .invalid then
          (let l := t.before.2.erase a; (if l.isEmpty && t.before.1 != .wide then .inv else t.before.1, l)) else t.before })
        takeWrite (holderWrote c t.domain n a m.want) m ptl
      else holdWrite c m ptl

/-! ### The end of a transaction (R151, R160) -/

/-- Starving requests held behind a transaction are served in order; those that a new transaction stops stay held. -/
def serveHeld : List (MemReq × Bool) → Chip → Nat → Chip
  | [], c, _ => c
  | (m, i) :: rest, c, n =>
    let c := startReq 8 c m i 2
    match c.tracker n with
    | some t => c.setTracker n (some { t with starving := t.starving ++ rest })
    | none => serveHeld rest c n

/-- The writes held behind a transaction are served first, in order, then the starving requests (R159, R160). -/
def serveWrites : List HeldReq → List (MemReq × Bool) → Chip → Nat → Chip
  | [], rs, c, n => serveHeld rs c n
  | w :: rest, rs, c, n =>
    let c := startWrite 8 c w.req w.ptl (some w.pool)
    match c.tracker n with
    | some t => c.setTracker n (some { t with waiting := t.waiting ++ rest, starving := t.starving ++ rs })
    | none => serveWrites rest rs c n

/-- Starving requests of a slice that lacked a way or a map try again. -/
def serveStalled (c : Chip) (s : Nat) : Chip :=
  let qs := c.home.stalled.filter (fun q => lineSlice q.1.line == s)
  let c := { c with home := { c.home with stalled := c.home.stalled.filter (fun q => lineSlice q.1.line != s) } }
  qs.foldl (fun c q => if (c.tracker q.1.line).isSome then holdOrNack c q.1 q.2 else startReq 8 c q.1 q.2 2) c

/-- R156: BISnpInv to every line that an agent holds and that has no open transaction, while trackers are free. -/
def flushNext (c : Chip) (d a : Nat) : Chip :=
  match (c.agent d a).unbind with
  | none => c
  | some u =>
    let held := (c.home.lines.filter (fun l => l.2.domain == d && ((l.2.agents.contains a) ||
      (l.2.state == .wide && u.wide.contains l.1)))).map (·.1)
    held.foldl (fun c n =>
      if (c.tracker n).isSome ∨ sharedTrackers c (lineSlice n) ≤ poolUsed c (lineSlice n) 0 then c
      else
        let (c, ps) := snoopTo c d n (c.domain d).sc .inv [a]
        c.setTracker n (some { phase := .snpPend, purpose := .flush a, pending := ps, pool := 0, stamp := c.ivl, domain := d,
                                        sc := (c.domain d).sc })) c

/-- The flushes of a domain's agents go on. -/
def flushAll (c : Chip) : Chip :=
  c.home.domains.foldl (fun c d => (d.2.agents.filter (fun a => a.2.unbind.isSome)).foldl (fun c a => flushNext c d.1 a.1) c) c

/-- The transaction on a line is over: the requests that wait for it are served (R160). -/
def closeLine (c : Chip) (n : Nat) : Chip :=
  match c.tracker n with
  | none => c
  | some t => flushAll (serveStalled (serveWrites t.waiting t.starving (c.setTracker n none) n) (lineSlice n))

/-- Partial writes that wait for the line's bytes. -/
def openPatches (t : Tracker) : Bool := t.patch.any (fun p => !p.done)

/-- The line stays transient until the bytes that partial writes wait for are at hand: no tracker of the slice is taken. -/
def settleLine (c : Chip) (n : Nat) (t : Tracker) : Chip :=
  let c := c.setTracker n (some { t with phase := .rdPend, purpose := .settle, pending := [], pool := 3, fanout := false })
  if t.data.isSome ∨ (c.pool.reads.look n).isSome then c else startRead c n

/-- The transaction on a line ends, once the writes that it has taken are applied (R157). -/
def endLine (c : Chip) (n : Nat) : Chip :=
  match c.tracker n with
  | none => c
  | some t => if openPatches t then settleLine c n t else closeLine c n

/-- A line's tracker takes over what another transaction on the line had taken and held. -/
def inherit (c : Chip) (n : Nat) (t : Tracker) : Chip :=
  match c.tracker n with
  | some u => c.setTracker n (some { u with waiting := u.waiting ++ t.waiting, starving := u.starving ++ t.starving,
                                            patch := t.patch ++ u.patch, data := if t.data.isSome then t.data else u.data,
                                            dataRcv := t.dataRcv || u.dataRcv })
  | none => if openPatches t then settleLine c n t else serveWrites t.waiting t.starving c n

/-- A request whose victim has gone is taken up again (R144). A write waits for partial writes that were taken before it. -/
def resumeReq (c : Chip) (k : Nat) : Chip :=
  match c.tracker k with
  | none => c
  | some t =>
    match t.purpose with
    | .read m i => inherit (if t.answered then c.setTracker k none else startReq 8 (c.setTracker k none) m i t.pool) k t
    | .write m ptl =>
      if openPatches t then settleLine c k { t with waiting := { req := m, ptl := ptl, pool := t.pool } :: t.waiting }
      else inherit (startWrite 8 (c.setTracker k none) m ptl (some t.pool)) k t
    | .victim _ | .flush _ | .settle | .move _ => c

/-- Data for a line is at hand: partial writes that waited for it are applied, and a granted request is answered (R151). -/
def dataAtHand (c : Chip) (n : Nat) (d : Line) (poison : Bool) : Chip :=
  match c.tracker n with
  | none => c
  | some t =>
    let (c, x) := t.patch.foldl (fun (r : Chip × (Line × Bool)) p =>
      (if p.done then r.1 else applyWrite r.1 p.req true (some r.2), (mergeLine r.2.1 p.req.data p.req.mask, r.2.2)))
      (c, t.data.getD (d, poison))
    let c := c.setTracker n (some { t with data := some x, patch := [] })
    if t.phase ≠ .rdPend then c
    else match t.purpose with
      | .read m _ => closeLine (if t.answered then c else sendDrs c m t.want x.1 x.2) n
      | .write m ptl => closeLine (applyWrite c m ptl (some x)) n
      | .settle => closeLine c n
      | .victim _ | .flush _ | .move _ => c

/-- Every pending bit of a line is clear (R151): the record is updated once for the transaction (R157). -/
def snoopsDone (c : Chip) (n : Nat) : Chip :=
  match c.tracker n with
  | none => c
  | some t =>
    let d := t.domain
    let st := stateOf c d n
    let hold := holders c d n
    match t.purpose with
    | .read m i =>
      let r := agentOf c d m
      let w := t.want
      let s := stateAfter st hold t.gone t.toShared (st == .unknown || (st == .wide && w == .any)) r
      let c := if t.answered then putRec c d n s.1 s.2 else grant c d n s r w
      if t.answered then endLine c n
      else if i then endLine (sendDone c m) n
      else
        let c := c.setTracker n (some { t with phase := .rdPend, before := s })
        match t.data with
        | some x => dataAtHand c n x.1 x.2
        | none => c
    | .write m ptl =>
      let r := agentOf c d m
      let c := writeGrant c d n (stateAfter st hold t.gone t.toShared true r) r (writeWant r m)
      if !ptl then closeLine (applyWrite (coverPatches c n) m false none) n
      else if t.data.isSome ∨ !(openPatches t || mustRead c n ptl) then endLine (applyWrite c m ptl t.data) n
      else
        let c := c.setTracker n (some { t with phase := .rdPend })
        if (c.pool.reads.look n).isSome then c else startRead c n
    | .victim k =>
      let s := stateAfter st hold t.gone t.toShared true none
      let c := putRec c d n s.1 s.2
      if openPatches t then resumeReq (settleLine c n t) k
      else flushAll (serveStalled (serveWrites t.waiting t.starving (resumeReq (c.setTracker n none) k) n) (lineSlice n))
    | .flush a =>
      let c := if st = .wide then c else
        let s := stateAfter st hold t.gone t.toShared (st == .unknown) none
        putRec c d n s.1 s.2
      let c := c.modAgent d a (fun y => { y with unbind := y.unbind.map (fun u =>
        { u with flushed := u.flushed + 1, wide := u.wide.erase n }) })
      endLine c n
    | .settle | .move _ => c

/-- A pending bit is cleared; the last one ends the snoops. -/
def clearBit (c : Chip) (n a : Nat) (gone toS : Bool) : Chip :=
  match c.tracker n with
  | none => c
  | some t =>
    let ps := t.pending.filter (fun p => p.agent != a)
    let t := { t with pending := ps, gone := if gone then addOnce t.gone a else t.gone,
                      toShared := if toS then addOnce t.toShared a else t.toShared }
    let c := c.setTracker n (some t)
    if ps.isEmpty then snoopsDone c n else c

/-! ### Removal of agents (R155, R156) -/

/-- An agent leaves the record of one line; true where the home copy has been poisoned. -/
def dropHolder (c : Chip) (d a n : Nat) (keep : Bool) : Chip × Bool :=
  let r := c.line n
  let l := r.agents.erase a
  match r.state with
  | .any =>
    let saved := match c.tracker n with
      | some t => t.dataRcv && t.pending.any (fun p => p.agent == a)
      | none => false
    let lose := !keep && !saved
    let c := if lose then poisonLine c n else c
    let c := if lose then c.setTracker n ((c.tracker n).map (fun t => { t with data := some (0, true) })) else c
    (if (c.tracker n).isSome then c else putRec c d n .inv [], lose)
  | .sh => (if (c.tracker n).isSome then c else putRec c d n (if l.isEmpty then .inv else .sh) l, false)
  | .inv | .wide | .unknown => (c, false)

/-- The record of a transient line without the agent, where no pending bit of it is set. -/
def dropTransient (c : Chip) (d a n : Nat) : Chip :=
  match c.tracker n with
  | none => c
  | some t =>
    if t.domain ≠ d then c
    else if t.pending.any (fun p => p.agent == a) then clearBit c n a true false
    else
      let l := (c.line n).agents.erase a
      if (c.line n).agents.contains a then putRec c d n (if l.isEmpty then .inv else (c.line n).state) l else c

/-- The tenants with a window in a domain. -/
def domainTenants (c : Chip) (d : Nat) : List Nat :=
  c.pool.windows.foldl (fun l w => if w.2.present && w.2.domain == d then addOnce l w.2.tenant else l) []

/-- R155: an agent is declared dead: it leaves every entry of the domain, its pending bits are cleared, tenants are told.
The lines released and poisoned are counted. `told` is false where R156 removes it without fault source 98. An agent whose sweep already
runs is only marked to leave the domain; its counts are those of the sweep. -/
def killAgent (c : Chip) (d a : Nat) (removed told : Bool) : Chip × Nat × Nat :=
  let x := c.agent d a
  if !x.bound then (c, 0, 0)
  else if x.dead then (c.setAgent d a { x with removed := removed || x.removed }, x.released, x.poisoned)
  else
    let keep := (c.domain d).keep
    let held := (c.home.lines.filter (fun l => l.2.domain == d && l.2.agents.contains a)).map (·.1)
    let (c, lost) := held.foldl (fun (r : Chip × Nat) n =>
      let (c, b) := dropHolder r.1 d a n keep
      (c, r.2 + nat1 b)) (c, 0)
    let c := c.modAgent d a (fun y => { y with dead := true, removed := removed || y.removed, downAt := none, recent := [],
                                                released := held.length, poisoned := lost,
                                                unbind := y.unbind.map (fun u => { u with wide := [] }) })
    let c := { c with home := { c.home with sweeps := addOnce c.home.sweeps (d, a) } }
    let c := (c.home.trackers.map (·.1)).foldl (fun c n => dropTransient c d a n) c
    let c := if told then raise c 98 (srcInfo 15 d a) else c
    let c := if 0 < lost then raise c 99 (srcInfo 15 d a) else c
    let res := leBytes 1 d ++ leBytes 2 a ++ leBytes 4 lost
    let c := (domainTenants c d).foldl (fun c t => if t = 0 then c else unsolRing c t 0x8005 res) c
    (unsolMgr c 0x8005 res, held.length, lost)

/-- R156: the agents of a host port are removed without fault source 98. `t`: of one tenant only, or of any. -/
def removePortAgents (c : Chip) (p : Nat) (t : Option Nat) : Chip :=
  let here : Agent → Bool := fun a => a.bound && feLocal (feOf c a.fab) && feKind (feOf c a.fab) == 0 &&
    feIndex (feOf c a.fab) == p && (match t with
      | some k => a.tenant == k
      | none => true)
  (c.home.domains.flatMap (fun d => (d.2.agents.filter (fun a => here a.2)).map (fun a => (d.1, a.1)))).foldl
    (fun c e => (killAgent c e.1 e.2 true false).1) c

/-- Responses owed to requests that satisfy `p` are discarded (R331, R332). -/
def discardOwed (c : Chip) (p : MemReq → Bool) : Chip :=
  let held : List (MemReq × Bool) → List (MemReq × Bool) := fun l => l.filter (fun q => !p q.1)
  let fix : Tracker → Tracker := fun t =>
    { t with starving := held t.starving, answered := t.answered || (match t.purpose with
        | .read m _ => p m
        | .write _ _ | .victim _ | .flush _ | .settle | .move _ => false) }
  let cut : Option MemReq → Option MemReq := fun o => o.filter (fun m => !p m)
  { c with
    home := { c.home with trackers := c.home.trackers.map (fun t => (t.1, t.2.map fix)), stalled := held c.home.stalled,
                          nacked := c.home.nacked.filter (fun w => !p w.req) }
    pool := { c.pool with held := c.pool.held.map (fun w => { w with cmp := cut w.cmp })
                          writes := c.pool.writes.map (fun w => { w with cmp := cut w.cmp })
                          ops := c.pool.ops.map (fun o => { o with cmp := cut o.cmp }) } }

/-- The sweep of an agent has ended (R155). One that AGENT_REMOVE, a PERST or a tenant reset named leaves its domain; one that a timeout
or R149 declared dead stays bound and starts empty: the model's choice (notes/assumptions/170.md). -/
def endSweep (c : Chip) (d a : Nat) : Chip :=
  let c := { c with home := { c.home with sweeps := c.home.sweeps.erase (d, a) } }
  if (c.agent d a).removed then c.setAgent d a {}
  else c.modAgent d a (fun y => { y with dead := false, released := 0, poisoned := 0 })

/-- An agent holds no line of its domain: none recorded, none still to be flushed, no flush open (R156). Lines of lost sets, which any
agent may hold, are not flushed: the model's choice (notes/assumptions/171.md). -/
def holdsNothing (c : Chip) (d a : Nat) : Bool :=
  !(c.home.lines.any (fun l => l.2.domain == d && l.2.agents.contains a)) &&
  (match (c.agent d a).unbind with
   | some u => u.wide.isEmpty
   | none => true) &&
  !(c.home.trackers.any (fun t => match t.2 with
    | some t => t.domain == d && t.purpose == .flush a
    | none => false))

/-- The flush of an agent begins (R156). -/
def beginFlush (c : Chip) (d a deadline : Nat) (cmd : Option CmdRef) : Chip :=
  let wide := (c.home.lines.filter (fun l => l.2.domain == d && l.2.state == .wide)).map (·.1)
  let u : Unbinding := { deadline := c.ivl + deadline, cmd := cmd, tenant := (c.agent d a).tenant, wide := wide }
  flushNext (c.modAgent d a (fun y => { y with unbind := some u })) d a

/-! ### Evictions, snoop responses, NACKs, deadlines -/

/-- A MemClnEvct enters its slice: R removed from the holders. It is NACKed on a transient line, or where no shared tracker is free, and
not retried (R148, R160, R161). -/
def enterEvict (c : Chip) (m : MemReq) : Chip :=
  let n := m.line
  let s := lineSlice n
  let c := countReq c m 0
  if (c.tracker n).isSome ∨ sharedTrackers c s ≤ poolUsed c s 0 then sendNack c { m with evict := true }
  else
    let c := match lineDomain c n with
      | none => c
      | some d =>
        let c := touchLine c n m.ecc
        let r := c.line n
        match agentOf c d m with
        | some a =>
          if r.agents.contains a then let l := r.agents.erase a; putRec c d n (if l.isEmpty then .inv else r.state) l else c
        | none => c
    sendDone c m

/-- A snoop response is discarded with source 103 (Table 5.7). -/
def discardRsp (c : Chip) (d a : Nat) : Chip :=
  raise { c with home := { c.home with protoOnce := c.home.protoOnce + 1 } } 103 (srcInfo 10 (c.agent d a).tenant)

/-- A snoop response enters its slice (Table 5.7). -/
def enterRsp (c : Chip) (m : SnoopRsp) : Chip :=
  let d := match c.tracker m.line with
    | some t => t.domain
    | none => (lineDomain c m.line).getD 256
  let dest : Option SnoopDest := match c.tracker m.line with
    | some t => t.pending.find? (fun p => p.agent == m.agent && p.sent)
    | none => none
  match dest, m.block with
  | none, _ | _, true => discardRsp c d m.agent
  | some p, false =>
    let wrong := (m.kind != .rspI && p.op == .inv) || (m.kind == .rspE && p.op == .data)
    if !wrong then clearBit c m.line m.agent (m.kind == .rspI) (m.kind == .rspS)
    else
      let c := raise c 103 (srcInfo 10 (c.agent d m.agent).tenant)
      if p.again then (killAgent c d m.agent false true).1
      else
        let go := sendSnoop c (c.agent d m.agent).fab m.line (((c.tracker m.line).map (·.sc)).getD 5) .inv
        let turn : SnoopDest → SnoopDest := fun q =>
          if q.agent = m.agent then { q with op := .inv, again := true, sent := go.isSome } else q
        let c := go.getD c
        c.setTracker m.line ((c.tracker m.line).map (fun t => { t with pending := t.pending.map turn }))

/-- A request of a port for a line is open at its slice. -/
def requestOpen (c : Chip) (port n : Nat) : Bool :=
  (match c.tracker n with
   | some t => (match t.purpose with
      | .read m _ => m.port == port && !t.answered
      | .write _ _ | .victim _ | .flush _ | .settle | .move _ => false) || t.starving.any (fun q => q.1.port == port)
   | none => false) || c.home.stalled.any (fun q => q.1.line == n && q.1.port == port)

/-- BICONFLICT (R153): answered at once, or after the completion of the request that its slice has accepted. -/
def biconflict (port line : Nat) (accepted : Bool) (c : Chip) : Chip :=
  if accepted && requestOpen c port line then
    { c with home := { c.home with conflicts := c.home.conflicts ++ [(port, line)] } }
  else c.emit (.conflictAck port line)

/-- NACK (R161): the port agent holds the request with NACK_COUNT raised; a MemClnEvct is not retried. -/
def nack (port : Nat) (m : MemReq) (c : Chip) : Chip :=
  if m.evict then c
  else
    let k := min 7 (m.nacks + 1)
    let c := if m.nacks < 4 ∧ 4 ≤ k then
        let c := countEvent c (lineEvent c m.line 0x032 m.fab)
        match lineDomain c m.line with
        | some d => c.modDomain d (fun x => { x with starving := x.starving + 1 })
        | none => c
      else c
    { c with home := { c.home with nacked := c.home.nacked ++ [{ port := port, since := c.ivl, req := { m with nacks := k } }] } }

/-- The first of a list that satisfies `p`, and the others. -/
def takeFirst {α : Type} (p : α → Bool) : List α → Option (α × List α)
  | [] => none
  | w :: t => if p w then some (w, t) else (takeFirst p t).map (fun r => (r.1, w :: r.2))

/-- RETRY_BACKOFF_EXPIRE (R161): the request is sent again. -/
def retryBackoffExpire (port line : Nat) (c : Chip) : Chip :=
  match takeFirst (fun w => w.port == port && w.req.line == line && c.past w.since (ns c.home.backoff)) c.home.nacked with
  | none => c
  | some (w, rest) => Chip.emit { c with home := { c.home with nacked := rest } } (.resend port w.req)

/-- A transaction waits for its line's data: a read or a write, or partial writes that it has taken. -/
def wantsData (t : Tracker) : Bool :=
  openPatches t || (match t.purpose with
    | .read _ i => !i
    | .write _ _ | .settle => true
    | .victim _ | .flush _ | .move _ => false)

/-- LINE_DATA_READY (R151): the line cache's data, or data that no source had, is ready. -/
def lineDataReady (line : Nat) (c : Chip) : Chip :=
  match c.tracker line with
  | none => c
  | some t =>
    if !wantsData t ∨ (t.phase = .vicPend ∧ !openPatches t) ∨ (c.pool.reads.look line).isSome then c
    else match t.data with
      | some x => dataAtHand c line x.1 x.2
      | none =>
        let (c, hit) := findWay c line
        match hit with
        | some i => let w := c.way (wayKey (lineSlice line) (lineSet line) i); dataAtHand c line w.data w.poison
        | none => if t.phase = .rdPend ∨ openPatches t then startRead c line else c

/-- SNOOP_REACHABLE (R154): a held destination has become reachable and its snoop is sent, in the class of the request that caused it
(R152). -/
def snoopReachable (line agent : Nat) (c : Chip) : Chip :=
  match c.tracker line with
  | none => c
  | some t =>
    match t.pending.find? (fun p => p.agent == agent && !p.sent) with
    | none => c
    | some p =>
      match sendSnoop c (c.agent t.domain agent).fab line t.sc p.op with
      | none => c
      | some c => c.setTracker line (some { t with pending := t.pending.map (fun q => if q.agent = agent then { q with sent := true } else q) })

/-- BISNP_TIMEOUT (R167). -/
def bisnpTimeout (line agent : Nat) (c : Chip) : Chip :=
  match c.tracker line with
  | none => c
  | some t =>
    match t.pending.find? (fun p => p.agent == agent && !p.raised && c.past p.since (us c.home.snpTime)) with
    | none => c
    | some _ =>
      let ps := t.pending.map (fun q => if q.agent = agent then { q with raised := true } else q)
      raise (c.setTracker line (some { t with pending := ps })) 97 (srcInfo 6 (lineSlice line))

/-- AGENT_DEAD_TIME_EXPIRE (R155): its port has been down, or a snoop to it has been pending, for AGENT_DEAD_TIME. -/
def agentDeadTimeExpire (domain agent : Nat) (c : Chip) : Chip :=
  let x := c.agent domain agent
  let late : Nat → Bool := fun t => c.past t (ms c.home.deadTime)
  let down := match x.downAt with
    | some t => late t
    | none => false
  let stuck := c.home.trackers.any (fun e => match e.2 with
    | some t => t.domain == domain && t.pending.any (fun p => p.agent == agent && late p.since)
    | none => false)
  if x.bound && !x.dead && (down || stuck) then (killAgent c domain agent false true).1 else c

/-- The late requests of a list of held ones for a line, and the others. -/
def splitLate (c : Chip) (line : Nat) (l : List (MemReq × Bool)) : List (MemReq × Bool) × List (MemReq × Bool) :=
  l.partition (fun q => q.1.line == line && isLate c q.1)

/-- A write whose deadline has passed counts once (R188): it is marked. -/
def markLate (c : Chip) (line : Nat) (m : MemReq) : MemReq := if m.line = line ∧ isLate c m then { m with missed := true } else m

/-- The late writes of a list of waiting completions. -/
def lateCmps (c : Chip) (line : Nat) (l : List (Option MemReq)) : Nat :=
  (l.filter (fun o => match o with
    | some m => m.line == line && isLate c m
    | none => false)).length

/-- Each of `n` requests for a line has missed its deadline. -/
def missAll (c : Chip) (line n : Nat) : Chip := (List.range n).foldl (fun c _ => deadlineMissed c line) c

/-- The backing read of a line waits for a data member that has failed, in a stripe that may not be reconstructed (R207). -/
def readStuck (c : Chip) (line : Nat) : Bool :=
  match c.pool.reads.look line with
  | none => false
  | some r => (c.window r.window).mode == .stripe && (r.asked || r.timed || r.bad.contains r.member) &&
      !c.pool.ops.any (fun o => o.line == line && o.recon)

/-- The deadline of the request that a tracker serves, and of the requests held behind it. A read that can give nothing ends with it. -/
def trackerLate (c : Chip) (line : Nat) : Chip :=
  match c.tracker line with
  | none => c
  | some t =>
    let (late, rest) := splitLate c line t.starving
    let held := lateCmps c line (t.waiting.map (fun w => some w.req))
    let waiting := t.waiting.map (fun w => { w with req := markLate c line w.req })
    let t : Tracker := { t with starving := rest, waiting := waiting }
    let c' := c.setTracker line (some t)
    let c' := match t.purpose with
      | .read m _ =>
        if t.answered ∨ !isLate c m then c'
        else
          let c' := c'.setTracker line (some { t with answered := true })
          let c' := if t.phase = .rdPend ∧ t.domain < 256 then putRec c' t.domain line t.before.1 t.before.2 else c'
          let c' := answerLate c' m
          if readStuck c' line then endLine (endRead c' line) line else c'
      | .write m ptl =>
        if !isLate c m then c'
        else deadlineMissed (c'.setTracker line (some { t with purpose := .write { m with missed := true } ptl })) line
      | .victim _ | .flush _ | .settle | .move _ => c'
    missAll (late.foldl (fun c q => answerLate c q.1) c') line held

/-- The deadlines of requests for a line that wait outside its tracker: for a way or a map, at a port agent after a NACK, and of writes
whose Cmp waits for backing. -/
def waitingLate (c : Chip) (line : Nat) : Chip :=
  let (late, rest) := splitLate c line c.home.stalled
  let out : NackWait → Bool := fun w => w.req.line == line && !w.req.wr && isLate c w.req
  let n := lateCmps c line (c.home.nacked.map (fun w => if w.req.wr then some w.req else none)) +
    lateCmps c line (c.pool.writes.map (·.cmp)) + lateCmps c line (c.pool.ops.map (·.cmp)) + lateCmps c line (c.pool.held.map (·.cmp))
  let mark : Option MemReq → Option MemReq := fun o => o.map (markLate c line)
  let gone := c.home.nacked.filter out
  let c' := { c with
    home := { c.home with stalled := rest
                          nacked := (c.home.nacked.filter (fun w => !out w)).map (fun w => { w with req := markLate c line w.req }) }
    pool := { c.pool with writes := c.pool.writes.map (fun w => { w with cmp := mark w.cmp })
                          ops := c.pool.ops.map (fun o => { o with cmp := mark o.cmp })
                          held := c.pool.held.map (fun w => { w with cmp := mark w.cmp }) } }
  missAll (gone.foldl (fun c w => answerLate c w.req) (late.foldl (fun c q => answerLate c q.1) c')) line n

/-- RESPONSE_DEADLINE_EXPIRE (R158, R188): every request for the line that has missed its deadline is answered with poison and MetaValue I,
wherever it waits; the tracker runs on and the requester is not added to the record. A late write is counted; its Cmp is still owed. -/
def responseDeadlineExpire (line : Nat) (c : Chip) : Chip := trackerLate (waitingLate c line) line

/-! ### Coherence-domain commands (Tables 5.1, 5.2, 12.12) -/

/-- Bytes of the directory region that the domains take (R138). -/
def dirBytes (c : Chip) : Nat :=
  c.home.domains.foldl (fun n d => n + (if d.2.present then d.2.entries * (if d.2.tags then 8 else 16) else 0)) 0

/-- A timer field: all ones keep the value; `none` is out of range. -/
def timerField (bits lo hi step cur v : Nat) : Option Nat :=
  if v = 2 ^ bits - 1 then some cur else if lo ≤ v ∧ v ≤ hi ∧ v % step = 0 then some v else none

/-- DOMAIN_CREATE. -/
def domainCreate (r : Nat) (d : Desc) (c : Chip) : Chip :=
  runCmd 0x0B00 (fun c x =>
    let k := d.tgt
    let b := d.byte 16
    let tags := bitOf b 0
    let n := d.u32 20
    let sc := field b 2 3
    let y : Domain := { present := true, tags := tags, entries := n, keep := bitOf b 1, sc := if sc = 0 then 5 else sc }
    match timerField 16 0 1000 2 c.home.backoff (d.u16 24), timerField 32 1 100000 1 c.home.snpTime (d.u32 28),
        timerField 32 1 10000 1 c.home.deadTime (d.u32 32) with
    | some t1, some t2, some t3 =>
      if !d.zeroBut [(16, 1), (20, 4), (24, 2), (28, 4), (32, 4)] ∨ 32 ≤ b ∨ n = 0 ∨ n % (if tags then 256 else 128) ≠ 0 then
        refuse c x .badParam
      else if (c.domain k).present then refuse c x .busy
      else if c.hbm.dirSize * 2 ^ 28 < dirBytes (c.setDomain k y) then refuse c x .capacity
      else
        let c := c.setDomain k y
        endCmd { c with home := { c.home with backoff := t1, snpTime := t2, deadTime := t3 } } x .ok (leBytes 4 n)
    | _, _, _ => refuse c x .badParam) r d c

/-- A domain's tracking storage is freed. -/
def dropDomain (c : Chip) (k : Nat) : Chip :=
  { c with home := { c.home with domains := c.home.domains.put k {}
                                 lines := c.home.lines.filter (fun l => l.2.domain != k)
                                 lost := c.home.lost.filter (fun l => l.1 / 2 ^ 27 != k)
                                 dirCached := c.home.dirCached.filter (fun s => s.1 / 2 ^ 22 % 256 != k) } }

/-- DOMAIN_DESTROY. -/
def domainDestroy (r : Nat) (d : Desc) (c : Chip) : Chip :=
  runCmd 0x0B01 (fun c x =>
    let k := d.tgt
    if !d.zeroBut [] then refuse c x .badParam
    else if c.pool.windows.any (fun w => w.2.present && w.2.domain == k) ∨ (c.domain k).agents.any (fun a => a.2.bound) then
      refuse c x .busy
    else endCmd (dropDomain c k) x .ok) r d c

/-- Entries per slice of an agent's share (R142). -/
def shareOf (cap : Nat) : Nat := ceilDiv (cap * 5) 128

/-- Shares of a domain's agents in one slice. -/
def sharesOf (x : Domain) : Nat := x.agents.foldl (fun n a => if a.2.bound then n + a.2.share else n) 0

/-- R137, R142: how AGENT_BIND is refused. -/
def agentBindCheck (c : Chip) (d : Desc) : Option Status :=
  let x := c.domain d.tgt
  let a := d.u16 16
  let fab := d.u16 18
  let t := d.u16 20
  let cap := d.u24 24
  let e := feOf c fab
  let host := feValid e && feKind e == 0 && (!feLocal e || (c.port (feIndex e)).role == 1)
  let per := x.entries / 32
  if !d.zeroBut [(16, 8), (24, 3)] ∨ (if x.tags then 1024 else 64) ≤ a ∨ (x.agents.look a).bound ∨ 4096 ≤ fab ∨
      x.agents.any (fun y => y.2.bound && y.2.fab == fab) ∨ !host ∨ (if x.tags then cap = 0 else cap ≠ 0) ∨ t = 0 ∨ 4096 ≤ t then
    some .badParam
  else if !x.present ∨ (c.tenant t).state = .none then some .noSuchTarget
  else if x.tags ∧ per * 7 < 8 * (sharesOf x + shareOf cap) then some .capacity
  else none

/-- The agent is bound, holding nothing. -/
def agentBindDo (c : Chip) (d : Desc) : Chip :=
  let fab := d.u16 18
  c.setAgent d.tgt (d.u16 16)
    { bound := true, fab := fab, tenant := d.u16 20, capLines := d.u24 24,
      share := if (c.domain d.tgt).tags then shareOf (d.u24 24) else 0,
      downAt := if reachable c fab then none else some c.ivl }

/-- The result of AGENT_BIND. -/
def agentBindEnd (c : Chip) (x : CmdRef) (d : Desc) : Chip :=
  endCmd c x .ok (leBytes 4 (d.u16 16) ++ leBytes 4 (c.agent d.tgt (d.u16 16)).share)

/-- AGENT_BIND. -/
def agentBind (r : Nat) (d : Desc) (c : Chip) : Chip :=
  runCmd 0x0B02 (fun c x => match agentBindCheck c d with
    | some st => refuse c x st
    | none => agentBindEnd (agentBindDo c d) x d) r d c

/-- AGENT_UNBIND (R156): the flush of every line begins. -/
def agentUnbind (r : Nat) (d : Desc) (c : Chip) : Chip :=
  runCmd 0x0B03 (fun c x =>
    let a := d.u16 16
    let dl := if d.u32 20 = 0 then 100000 else d.u32 20
    let y := c.agent d.tgt a
    if !d.zeroBut [(16, 2), (20, 4)] ∨ 10000000 < dl then refuse c x .badParam
    else if !y.bound then refuse c x .noSuchTarget
    else if ((y.unbind).bind (·.cmd)).isSome then refuse c x .busy
    else beginFlush c d.tgt a (us dl) (some x)) r d c

/-- AGENT_UNBIND_END (R156): the agent holds nothing. An unbound agent leaves the domain; the flush of a drain ends (R325). -/
def agentUnbindEnd (domain agent : Nat) (c : Chip) : Chip :=
  match (c.agent domain agent).unbind with
  | none => c
  | some u =>
    if !holdsNothing c domain agent then c
    else match u.cmd with
      | some x =>
        let c := if (c.agent domain agent).dead then c.modAgent domain agent (fun y => { y with unbind := none, removed := true })
          else c.setAgent domain agent {}
        endCmd c x .ok (leBytes 4 u.flushed)
      | none =>
        let c := c.modAgent domain agent (fun y => { y with unbind := none })
        c.modTenant u.tenant (fun t => { t with drain := t.drain.map (fun dr => { dr with flushed := dr.flushed + u.flushed }) })

/-- AGENT_UNBIND_DEADLINE (R156): the remaining lines are handled as R155 prescribes. -/
def agentUnbindDeadline (domain agent : Nat) (c : Chip) : Chip :=
  match (c.agent domain agent).unbind with
  | none => c
  | some u =>
    match u.cmd with
    | none => c
    | some x =>
      if c.ivl < u.deadline then c
      else
        let c := c.modAgent domain agent (fun y => { y with unbind := none })
        endCmd (killAgent c domain agent true true).1 x .drainTimeout (leBytes 4 u.flushed)

/-- How AGENT_REMOVE is refused. -/
def agentRemoveCheck (c : Chip) (d : Desc) : Option Status :=
  if !d.zeroBut [(16, 2)] then some .badParam
  else if !(c.agent d.tgt (d.u16 16)).bound then some .noSuchTarget else none

/-- The agent is declared dead and leaves the domain (R155). -/
def agentRemoveDo (c : Chip) (d : Desc) : Chip := (killAgent c d.tgt (d.u16 16) true true).1

/-- AGENT_REMOVE. -/
def agentRemove (r : Nat) (d : Desc) (c : Chip) : Chip :=
  runCmd 0x0B04 (fun c x => match agentRemoveCheck c d with
    | some st => refuse c x st
    | none =>
      let (c, n, lost) := killAgent c d.tgt (d.u16 16) true true
      endCmd c x .ok (leBytes 4 n ++ leBytes 4 lost)) r d c

/-- Entries of a domain in use. -/
def entriesUsed (c : Chip) (k : Nat) : Nat :=
  c.home.lines.foldl (fun n l => if l.2.domain == k then n + l.2.ways.length else n) 0 +
  (c.home.lost.filter (fun l => l.1 / 2 ^ 27 == k && l.2.isSome)).length

/-- DOMAIN_QUERY: mode, agents, entries in use, victims, NACKs, starving requests. -/
def domainQuery (r : Nat) (d : Desc) (c : Chip) : Chip :=
  runCmd 0x0B05 (fun c x =>
    let y := c.domain d.tgt
    if !d.zeroBut [(16, 12)] ∨ !d.bufferOk x.ring then refuse c x .badParam
    else endQuery c x d (Config.queryBytes 0x0B05) (openFields
      [nat1 y.tags, (y.agents.filter (fun a => a.2.bound)).length, entriesUsed c d.tgt, y.victims, y.nacks, y.starving])) r d c

end Sys2Proof.Machine
end

