-- ==== Sys2Proof/Machine/LineTx.lean ====
section
/-!
DEFINITION. Line transactions in a home slice or a stripe's leader: the rebuild of a member (R201), verification (R207), migration
(R203): what is read, what is computed and written, and how a transaction ends.
-/
namespace Sys2Proof.Machine

/-- The device and extent that a transaction writes for a member: a migration's destination, or the member's place. -/
def txPlace (w : Window) (t : LineTx) (m : Nat) : Nat × Nat :=
  let x := w.member t.unit m
  match t.kind, x.migr with
  | .move, some g => if t.back then (x.dev, x.ext) else (g.dev, g.ext)
  | _, _ => placeOf x t.off

/-- The tracker on a line is that of an engine's transaction. -/
def moveTracker (c : Chip) (t : LineTx) : Bool :=
  match c.tracker t.line, t.engine with
  | some u, some e => u.purpose == .move e
  | _, _ => false

/-- The window's count of walked pages takes in the pages beyond it that write-backs have verified (R207). -/
def closeVerify (w : Window) (n total : Nat) : Window :=
  if n < total then { w with verify := some n }
  else if w.skipped.isEmpty then { w with verify := none, verified := [] }
  else { w with verify := some total }

/-- The write-backs that waited, and that nothing keeps waiting, are issued. -/
def releaseHeld (c : Chip) : Chip :=
  let free : HeldWrite → Bool := fun h =>
    let id := (winOf c h.line).getD 0
    let w := c.window id
    let i := extOf w h.line
    !lineBusy c h.line && !(w.mode == .mirror && unreached w (unitOf w i) (memberOff w i h.line / 64))
  let go := c.pool.held.filter free
  go.foldl (fun c h => writeMembers c h.line ((winOf c h.line).getD 0) h.data h.mask h.poison h.cmp)
    { c with pool := { c.pool with held := c.pool.held.filter (fun h => !free h) } }

/-- A page is verified or passed over: the write-backs that waited for it go on. -/
def releasePage (c : Chip) (id u pg : Nat) : Chip :=
  let c := releaseHeld c
  if (c.window id).mode = .stripe then (List.range 64).foldl (fun c i => stripeGo c id u (pg * 64 + i)) c else c

/-- A transaction of a write-back's verification goes to the next line of its page, and at the page's end releases the write-backs;
a page with a line that could not be verified is passed over. `n` bounds the lines that need no read. -/
def pageNext : Nat → Chip → LineTx → Chip
  | 0, c, _ => c
  | n + 1, c, t =>
    let c := setTx c t none
    let w := c.window t.window
    let pg := t.off / 64
    if !t.ok ∨ t.off % 64 = 63 then
      releasePage (c.setWindow t.window (markPage w (pageNo w t.unit pg) t.ok)) t.window t.unit pg
    else
      let t' : LineTx := { t with off := t.off + 1, line := txLine w t.unit (t.off + 1) }
      let c := txBegin c t'
      match c.pool.txs.find? (sameTx t') with
      | some x => if x.done then pageNext n c x else c
      | none => c

/-- A transaction is over. An engine's stays until MOVER_LINE_TRANSACTION counts it; the line is free again, or the stripe goes on. -/
def txFinish (c : Chip) (t : LineTx) : Chip :=
  let t := { t with done := true, need := [], writes := [] }
  let c := if t.differ then raise (c.modWindow t.window (fun w => { w with mismatch := w.mismatch + 1 })) 123 (srcInfo 13 t.window) else c
  let c := if t.engine.isNone then pageNext 64 (setTx c t (some t)) t
    else setTx c t (if t.engine = some 16 then none else some t)
  let c := if moveTracker c t then closeLine c t.line else c
  if (c.window t.window).mode = .stripe then stripeGo c t.window t.unit t.off else releaseHeld c

/-- A transaction writes lines, with what each is written as; with nothing to write it is over. -/
def txWrite (c : Chip) (t : LineTx) (ws : List (Nat × Line × Bool)) : Chip :=
  if ws.isEmpty then txFinish c t
  else
    let t := { t with need := [], writes := ws.map (·.1), since := c.ivl }
    let w := c.window t.window
    ws.foldl (fun c x => let p := txPlace w t x.1; c.emit (.backWrite p.1 p.2 t.off x.2.1 (BitVec.allOnes 64) x.2.2)) (setTx c t (some t))

/-- Good data that a transaction has read from a member. -/
def txGood (t : LineTx) (m : Nat) : Option Line := (t.got.find? (fun g => g.1 == m && !g.2.2)).map (·.2.1)

/-- Every line of the stripe from what has been read (R183): data in order, then P and Q; none where it cannot be solved. -/
def txSolve (t : LineTx) : Option (List Line) :=
  let s := t.off
  let dat : Nat → Option Line := fun k => txGood t (memD s k)
  let ds := (List.range 8).map (fun k => match dat k with
    | some d => some d
    | none => solveData dat (txGood t (memP s)) (txGood t (memQ s)) k)
  if ds.all (·.isSome) then
    let ls := ds.map (·.getD 0)
    some (ls ++ [parityP ls, parityQ ls])
  else none

/-- The line of a member from the solved stripe. -/
def txSolved (t : LineTx) (m : Nat) : Option Line :=
  (txSolve t).bind (fun ls => ((stripeOrder t.off).findIdx? (· == m)).map (fun i => ls.getD i 0))

/-- Further members that may give the line once those read have not: the other copy, or the rest of the stripe (R186). -/
def txMore (w : Window) (t : LineTx) : List Nat :=
  let pg := t.off / 64
  let tried : Nat → Bool := fun m => t.got.any (fun g => g.1 == m) || t.bad.contains m
  if t.kind = .verify ∨ (w.mode = .stripe ∧ unverified w t.unit pg) then []
  else (survivors w t.unit pg).filter (fun m => !tried m && (m != t.member))

/-- What has been read of the line that a copy of a Mirror or a migration is to hold: good data, else poison, else nothing. -/
def txValue (w : Window) (t : LineTx) : Option (Line × Bool) :=
  match t.got.find? (fun g => !g.2.2 && (w.mode != .stripe || g.1 == t.member)) with
  | some g => some (g.2.1, false)
  | none => match (if w.mode = .stripe then txSolved t t.member else none) with
    | some d => some (d, false)
    | none => if t.got.any (fun g => g.2.2 && (w.mode != .stripe || g.1 == t.member || memP t.off != t.member && memQ t.off != t.member))
      then some (0, true) else none

/-- A member's poison is written over with good data (R186). -/
def poisonRepaired (c : Chip) (id : Nat) : Chip :=
  raise (c.modWindow id (fun w => { w with repairs := w.repairs + 1 })) 118 (srcInfo 13 id)

/-- The verification of a Mirror line: member A wins; a copy that reads as poison takes the other's data (R186, R207). -/
def verifyMirror (c : Chip) (t : LineTx) : Chip :=
  match txGood t 0, txGood t 1 with
  | some a, some b => if a = b then txFinish c t else txWrite c { t with differ := true } [(1, a, false)]
  | some a, none =>
    if t.bad.isEmpty then txWrite (poisonRepaired c t.window) t [(1, a, false)]
    else txFinish c { t with ok := false }
  | none, some b =>
    if t.bad.isEmpty then txWrite (poisonRepaired c t.window) t [(0, b, false)]
    else txFinish c { t with ok := false }
  | none, none => txFinish c { t with ok := t.bad.isEmpty }

/-- The verification of a stripe: P and Q are rewritten from the data where they differ (R207). -/
def verifyStripe (c : Chip) (t : LineTx) : Chip :=
  let s := t.off
  let ds := (List.range 8).map (fun k => txGood t (memD s k))
  if ds.any (·.isNone) then txFinish c { t with ok := false }
  else
    let ls := ds.map (·.getD 0)
    let p := parityP ls
    let q := parityQ ls
    let had : Nat → Bool := fun m => t.got.any (fun g => g.1 == m) || t.bad.contains m
    let ws := (if had (memP s) && txGood t (memP s) != some p then [(memP s, p, false)] else []) ++
      (if had (memQ s) && txGood t (memQ s) != some q then [(memQ s, q, false)] else [])
    txWrite c { t with differ := !ws.isEmpty } ws

/-- The reads of a transaction are over: it reads further, or writes what it has computed, or cannot be carried out. -/
def txCompute (c : Chip) (t : LineTx) : Chip :=
  let w := c.window t.window
  match t.kind with
  | .verify => if w.mode = .mirror then verifyMirror c t else verifyStripe c t
  | .rebuild | .move =>
    let more := txMore w t
    match txValue w t with
    | some (d, false) =>
      txWrite (if t.got.any (fun g => g.1 == t.member && g.2.2) then poisonRepaired c t.window else c) t [(t.member, d, false)]
    | some (_, true) =>
      if more.isEmpty then txWrite c t [(t.member, 0, true)]
      else more.foldl (fun c m => sendRead c w t.unit m t.off) (setTx c t (some { t with need := more, since := c.ivl }))
    | none =>
      if more.isEmpty then txFinish c { t with ok := false }
      else more.foldl (fun c m => sendRead c w t.unit m t.off) (setTx c t (some { t with need := more, since := c.ivl }))

/-- A member's answer to a transaction's read; poison and an error count towards MEMBER_ERR_LIMIT (R195). -/
def txRead (c : Chip) (t : LineTx) (m : Nat) (r : ReadResult) : Chip :=
  let w := c.window t.window
  let t := { t with need := t.need.erase m }
  let (t, bad) : LineTx × Bool := match r with
    | .good d => ({ t with got := t.got ++ [(m, d, false)] }, false)
    | .poison => ({ t with got := t.got ++ [(m, 0, true)] }, true)
    | .error => ({ t with bad := t.bad ++ [m] }, true)
  let c := setTx c t (some t)
  let c := if bad then deviceFails c (placeOf (w.member t.unit m) t.off).1 else c
  if t.need.isEmpty then txCompute c t else c

/-- A line that a mover job has written counts (Table 19.1, event 0x070). -/
def moverWrote (c : Chip) (t : LineTx) : Chip :=
  match t.engine with
  | none => c
  | some e =>
    let t := ((c.mov.jobs.find? (fun j => j.engine == some e)).map (·.tenant)).getD 0
    countEvent c { code := 0x070, device := true, tenant := t } 64

/-- A write of a transaction ends. A failed one leaves the line unwritten, and the page logged (R194, R195). -/
def txWritten (c : Chip) (t : LineTx) (m : Nat) (ok : Bool) : Chip :=
  let w := c.window t.window
  let t := { t with writes := t.writes.erase m, ok := t.ok && ok }
  let c := setTx c t (some t)
  let c := if ok then moverWrote c t
    else deviceFails (if t.kind = .move ∨ w.mode = .plain then c else logPage c t.window t.unit m (t.off / 64)) (txPlace w t m).1
  if t.writes.isEmpty then txFinish c t else c

/-- A write of a transaction is late (R194): the member's page is logged, and the write counts as complete; it still runs. -/
def txLate (c : Chip) (t : LineTx) (m : Nat) : Chip :=
  let w := c.window t.window
  let e : BackWrite := { line := t.line, window := t.window, ext := extOf w t.line, member := m, since := t.since, late := true }
  let c := { c with pool := { c.pool with writes := c.pool.writes ++ [e] } }
  let t := { t with writes := t.writes.erase m }
  let c := logPage (moverWrote (setTx c t (some t)) t) t.window t.unit m (t.off / 64)
  if t.writes.isEmpty then txFinish c t else c

/-- A line of a Mirror or Plain window is free for a transaction: nothing is open on it, no write of it is on its way, and a shared tracker
is free (R160). -/
def lineIdle (c : Chip) (n : Nat) : Bool :=
  (c.tracker n).isNone && (newerWrites c n).isEmpty && decide (poolUsed c (lineSlice n) 0 < sharedTrackers c (lineSlice n))

/-- A stripe is free for a transaction: no operation of its leader is under way. -/
def stripeIdle (c : Chip) (id u s : Nat) : Bool :=
  !txOn c id u s && !(c.pool.ops.any (fun o => o.begun && o.window == id && o.unit == u && o.stripe == s))

/-- An engine asks the line's home slice, or the stripe's leader, to run a transaction (R391); where they are not free they NACK it, and
nothing changes. -/
def txAsk (c : Chip) (t : LineTx) : Chip :=
  let w := c.window t.window
  let line := txLine w t.unit t.off
  let t := { t with line := line }
  if w.mode = .stripe then (if stripeIdle c t.window t.unit t.off then txBegin c t else c)
  else if !lineIdle c line then c
  else
    let c := txBegin c t
    match c.pool.txs.find? (sameTx t), t.engine with
    | some x, some e => if x.done then c else
        c.setTracker line (some { purpose := .move e, phase := .rdPend, pool := 0, stamp := c.ivl, domain := (lineDomain c line).getD 256 })
    | _, _ => c

/-- The transaction of an engine. -/
def txOf (c : Chip) (e : Nat) : Option LineTx := c.pool.txs.find? (fun t => t.engine == some e)

/-- The engine's job has left it: a finished transaction goes, one under way ends by itself. -/
def txLeave (c : Chip) (e : Nat) : Chip :=
  match txOf c e with
  | none => c
  | some t =>
    let c := if moveTracker c t then c.setTracker t.line ((c.tracker t.line).map (fun u => { u with purpose := .move 16 })) else c
    setTx c t (if t.done then none else some { t with engine := some 16 })

end Sys2Proof.Machine
end

