-- ==== Sys2Proof/Machine/Pooling.lean ====
section
/-!
DEFINITION. Pooling commands and events (06_memory_pooling.md): backing devices, windows, dynamic capacity, the results of
backing accesses, members.
-/
namespace Sys2Proof.Machine

/-! ### Backing devices (R169–R171) -/

/-- A port or a logical device of it is bound to a vPPB (R273). -/
def boundToVppb (c : Chip) (p ld : Nat) : Bool :=
  c.ports.vcs.any (fun v => v.2.present && v.2.vppbs.any (fun b => b.2.bound == .port p || b.2.bound == .ld p ld))

/-- A parameter in range, or its default where it is 0. -/
def dflt (v d : Nat) : Nat := if v = 0 then d else v
/-- A value lies in a range. -/
abbrev within (lo hi v : Nat) : Bool := decide (lo ≤ v) && decide (v ≤ hi)

/-- The device that BACKING_ADD describes (Tables 6.1, 6.9). -/
def deviceOfDesc (c : Chip) (d : Desc) (f : DeviceFacts) : Device :=
  let loc := d.u16 16
  let remote := bitOf loc 15
  let room := (f.capacity - d.u64 20) / 2 ^ 28
  let at_ := loc % 2 ^ 15
  let asd := d.u32 56
  let up := if remote then feValid (feOf c at_) && (pathFor (feOf c at_)).isSome else linkUp (c.port at_)
  { present := true, remote := remote, loc := at_, ld := d.byte 18, dpaBase := d.u64 20,
    extents := if d.u32 28 = 0 then room else d.u32 28, serial := f.serial, faultDom := d.byte 19, latBound := d.u24 32,
    adopt := d.byte 35 == 1, timeout := dflt (d.u32 44) 1000, lossTime := dflt (d.u32 48) 10, errLimit := dflt (d.u16 52) 16,
    slowThr := dflt (d.u16 54) 100, spareDelay := if asd = 0xFFFFFFFF then 30000 else asd,
    downAt := if up then none else some c.ivl }

/-- Backing extents of all devices. -/
def extentSum (c : Chip) : Nat := c.pool.devs.foldl (fun n d => if d.2.present then n + d.2.extents else n) 0

/-- Backing devices that exist. -/
def devCount (c : Chip) : Nat := (c.pool.devs.filter (fun d => d.2.present)).length

/-- How BACKING_ADD is refused. With 1,024 devices it is refused with CAPACITY whatever index it names (R169): the limit comes before BUSY,
the model's choice (notes/assumptions/172.md). -/
def backingAddCheck (c : Chip) (d : Desc) (f : DeviceFacts) : Option Status :=
  let y := deviceOfDesc c d f
  let room := (f.capacity - y.dpaBase) / 2 ^ 28
  let there := if y.remote then decide (y.loc < 4096) && feValid (feOf c y.loc) && !feLocal (feOf c y.loc)
    else decide (y.loc < 128) && (c.port y.loc).role == 2
  let dc := d.u32 60
  if !there ∨ 15 < y.ld ∨ y.dpaBase % 2 ^ 28 ≠ 0 ∨ 1 < d.byte 35 ∨ !within 100 100000 y.latBound ∨
      !within 1 1048576 y.extents ∨ room < y.extents ∨ (d.u64 36 ≠ 0 ∧ d.u64 36 ≠ f.serial) ∨ !within 10 50000 y.timeout ∨
      !within 1 10000 y.lossTime ∨ !within 1 1000 y.errLimit ∨ !within 1 10000 y.slowThr ∨ 3600000 < y.spareDelay ∨
      (dc ≠ 0 ∧ !within 10 60000 dc) then some .badParam
  else if !y.remote && boundToVppb c y.loc y.ld then some .notPermitted
  else if 1024 ≤ devCount c then some .capacity
  else if (c.dev d.tgt).present then some .busy
  else if 1048576 < extentSum c + y.extents then some .capacity
  else none

/-- Extents of a device that have not been zero-filled since their last use (R171): those in SCRUB or RETIRED, and every extent of an ADOPT
device that has not been filled. -/
def unfilledOf (d : Device) : List Nat :=
  (List.range d.extents).filter (fun e => let s := d.ext.look e
    s == .scrub || s == .retired || (d.adopt && !d.zeroed.contains e))

/-- The device joins the pool. An extent of it that left the pool unfilled starts in SCRUB (R171), unless ADOPT keeps the contents. -/
def addDevice (c : Chip) (i : Nat) (y : Device) : Chip :=
  let lo := y.dpaBase / 2 ^ 28
  let mine : Nat × Nat → Bool := fun u => u.1 == y.serial && decide (lo ≤ u.2) && decide (u.2 < lo + y.extents)
  let dirty := (c.pool.unfilled.filter mine).map (fun u => u.2 - lo)
  let c := c.setDev i { y with ext := if y.adopt then y.ext else dirty.foldl (fun t e => t.put e .scrub) y.ext }
  { c with pool := { c.pool with unfilled := c.pool.unfilled.filter (fun u => !mine u) } }

/-- BACKING_ADD (R169). -/
def backingAdd (r : Nat) (d : Desc) (f : DeviceFacts) (c : Chip) : Chip :=
  runCmd 0x0210 (fun c x => match backingAddCheck c d f with
    | some st => refuse c x st
    | none =>
      let y := deviceOfDesc c d f
      let c := addDevice c d.tgt y
      let c := if d.u32 60 = 0 then c else { c with pool := { c.pool with dcTime := d.u32 60 } }
      endCmd c x .ok (leBytes 4 y.extents)) r d c

/-- The device leaves the pool; its unfilled extents are remembered (R171). -/
def removeDevice (c : Chip) (i : Nat) : Chip :=
  let d := c.dev i
  let us := (unfilledOf d).map (fun e => (d.serial, d.dpaBase / 2 ^ 28 + e))
  let c := c.setDev i {}
  { c with pool := { c.pool with unfilled := c.pool.unfilled ++ us } }

/-- BACKING_REMOVE (R170). -/
def backingRemove (r : Nat) (d : Desc) (c : Chip) : Chip :=
  runCmd 0x0211 (fun c x =>
    if !d.zeroBut [] then refuse c x .badParam
    else if (c.dev d.tgt).ext.any (fun e => e.2 == .inUse) then refuse c x .busy
    else endCmd (removeDevice c d.tgt) x .ok) r d c

/-- SPARE_SET (R170): extents in the other state stay as they are, and so do those that have not been zero-filled (R171). -/
def spareSet (r : Nat) (d : Desc) (c : Chip) : Chip :=
  runCmd 0x0212 (fun c x =>
    let y := c.dev d.tgt
    let first := d.u32 16
    let n := d.u32 20
    let toSpare := d.byte 24 == 1
    let from_ : ExtState := if toSpare then .free else .spare
    if !d.zeroBut [(16, 9)] ∨ 1 < d.byte 24 ∨ y.extents < first + n then refuse c x .badParam
    else
      let hit := (List.range n).filter (fun i => y.ext.look (first + i) == from_ &&
        (!y.adopt || y.zeroed.contains (first + i)))
      let c := hit.foldl (fun c i => setExt c d.tgt (first + i) (if toSpare then .spare else .free)) c
      endCmd c x .ok (leBytes 4 hit.length)) r d c

/-! ### Allocation (R171–R174) -/

/-- The first of `n` free pool extents in a row, the lowest ones; `used` are the extents in use. -/
def freeRun (used : List Nat) (n : Nat) : Option Nat :=
  leastNat ((0 :: used.map (· + 1)).filter (fun s => decide (s + n ≤ 1048576) &&
    used.all (fun k => decide (k < s) || decide (s + n ≤ k))))

/-- A member of a unit is allocated: the extent named, or the first FREE one that R172 allows. A named extent that is not FREE, or not zero-
filled, ends with BAD_PARAM: the model's choice (notes/assumptions/173.md). -/
def takeMember (named : Option (Nat × Nat)) (adopt : Bool) (s : Except Status (Chip × Window)) (u m : Nat) :
    Except Status (Chip × Window) :=
  match s with
  | .error e => .error e
  | .ok (c, w) =>
    let others := othersOf w u m
    let place := fun (b e : Nat) =>
      Except.ok (setExt c b e .inUse, w.setMember u m { present := true, dev := b, ext := e })
    match named with
    | some (b, e) =>
      let d := c.dev b
      let fresh := !d.adopt || d.zeroed.contains e || adopt
      if mayJoin c w.strict others b ∧ e < d.extents ∧ d.ext.look e = .free ∧ fresh then place b e else .error .badParam
    | none =>
      match c.pool.devs.findSome? (fun d =>
          if mayJoin c w.strict others d.1 then (firstExt d.2 .free).map (fun e => (d.1, e)) else none) with
      | some (b, e) => place b e
      | none => .error .capacity

/-- Extents `[first, first + n)` join a window: members unit by unit, and pool extents (R171–R174). -/
def allocExtents (c : Chip) (id : Nat) (w : Window) (first n : Nat) (named : Nat → Option (Nat × Nat)) : Except Status Chip :=
  let k := if w.mode = .stripe then 8 else 1
  let per := memberCount w.mode
  let jobs := (List.range (n / k)).flatMap (fun i => (List.range per).map (fun m => (first + i * k, m, i * per + m)))
  match jobs.foldl (fun s j => takeMember (named j.2.2) w.adopt s j.1 j.2.1) (.ok (c, w)) with
  | .error e => .error e
  | .ok (c, w) =>
    match freeRun ((c.pool.poolMap.filter (fun p => p.2 != 0)).map (·.1)) n with
    | none => .error .capacity
    | some base =>
      let c := c.setWindow id { w with
        extents := first + n, span := max w.span (first + n)
        ext := (List.range n).foldl (fun t i => t.put (first + i) { present := true, pool := base + i }) w.ext }
      .ok { c with pool := { c.pool with
        poolMap := (List.range n).foldl (fun t i => t.put (base + i) (id + 1)) c.pool.poolMap } }

/-- The host ports that map a window and have enabled dynamic-capacity events (R177, R178). -/
def dcPorts (c : Chip) (w : Window) : List Nat :=
  ((c.tenant w.tenant).binds.map (·.1)).filter (fun p => presented c w p && (c.sw.host.look p).dcEvents)

/-! ### Release of extents (R170, R176, R226) -/

/-- The lines of pool extents are purged from the line cache, and their tracking records go (R176, R179). -/
def forgetPools (c : Chip) (pools : List Nat) : Chip :=
  let c := purgeLines c pools
  { c with home := { c.home with lines := c.home.lines.filter (fun l => !pools.contains (l.1 / 2 ^ 22)) } }

/-- One backing extent is given back: to SCRUB or FREE, or RETIRED while its device is lost (Table 6.2). -/
def giveExt (c : Chip) (b e : Nat) (s : ExtState) (purge : Bool) : Chip :=
  if (c.dev b).lost then setExt c b e .retired
  else
    let c := setExt c b e s
    if s = .scrub then
      c.modDev b (fun d => { d with purging := if purge then addOnce d.purging e else d.purging, filled := d.filled.erase e,
                                    zeroed := d.zeroed.erase e })
    else c

/-- The members of a unit are given back, and its pool extents freed. The window's DPA range keeps their place (`span`, R180). -/
def freeUnit (c : Chip) (id u : Nat) (s : ExtState) : Chip :=
  let w := c.window id
  let k := if w.mode = .stripe then 8 else 1
  let idx := (List.range k).map (u + ·)
  let pools := (idx.filter (fun i => (w.ext.look i).present)).map (fun i => (w.ext.look i).pool)
  let c := (List.range (memberCount w.mode)).foldl (fun c m =>
    let x := w.member u m
    if !x.present then c
    else
      let c := giveExt c x.dev x.ext s true
      match x.migr with
      | some g => giveExt c g.dev g.ext s true
      | none => c) c
  let c := forgetPools c pools
  let ext := idx.foldl (fun t i => t.put i {}) w.ext
  let c := c.setWindow id { w with
    ext := ext, members := (List.range 10).foldl (fun t m => t.put (u * 10 + m) {}) w.members,
    extents := ext.foldl (fun n e => max n (e.1 + 1)) 0 }
  { c with pool := { c.pool with poolMap := pools.foldl (fun t p => t.put p 0) c.pool.poolMap } }

/-- Backing accesses of a window that has gone: reads have no source, writes and leaders' operations end with their Cmp (R176). -/
def dropWindowIo (c : Chip) (id : Nat) : Chip :=
  let rs := c.pool.reads.filter (fun r => match r.2 with
    | some x => x.window == id
    | none => false)
  let c := rs.foldl (fun c r => giveData (endRead c r.1) r.1 0 true) c
  let p := c.pool
  let cmps := (p.ops.filter (fun o => o.window == id)).map (·.cmp) ++ (p.writes.filter (fun e => e.window == id)).map (·.cmp) ++
    (p.held.filter (fun h => (winOf c h.line).isNone)).map (·.cmp)
  let ts := p.txs.filter (fun t => t.window == id)
  let c := { c with pool := { p with ops := p.ops.filter (fun o => o.window != id), writes := p.writes.filter (fun e => e.window != id),
                                     held := p.held.filter (fun h => (winOf c h.line).isSome),
                                     txs := p.txs.filter (fun t => t.window != id) } }
  let c := (cmps.eraseDups.filterMap (fun x => x)).foldl sendCmp c
  ts.foldl (fun c t => if moveTracker c t then closeLine c t.line else c) c

/-- R176: a window is destroyed; its members go to SCRUB. -/
def destroyWindow (c : Chip) (id : Nat) : Chip :=
  let c := (unitsOf (c.window id)).foldl (fun c u => freeUnit c id u .scrub) c
  dropWindowIo (c.setWindow id {}) id

/-- A commanded or running job works on a member (R204): a migration or resync of it, or a verification of its window. -/
def memberHasJob (c : Chip) (id u m : Nat) : Bool :=
  c.mov.jobs.any (fun j => (j.auto.isNone || j.engine.isSome) && (j.kind == .migrate || j.kind == .resync) && j.window == id &&
    (j.auto == some .verify || (j.extent == u && j.member == m)))

/-- A mover job works on the window. -/
def jobOnWindow (c : Chip) (id : Nat) : Bool :=
  c.mov.jobs.any (fun j => match j.kind with
    | .migrate | .resync => (j.engine.isSome || j.auto.isNone) && j.window == id
    | .copy => (j.srcSpace == 1 && j.src / 2 ^ 48 == id) || (j.dstSpace == 1 && j.dst / 2 ^ 48 == id)
    | .fill => j.dstSpace == 1 && j.dst / 2 ^ 48 == id
    | .dump => false)

/-! ### WINDOW_CREATE, WINDOW_GROW and dynamic capacity (R173–R178) -/

/-- The window that WINDOW_CREATE describes (Tables 6.3, 12.12), without extents. -/
def windowOfDesc (d : Desc) : Window :=
  let a := d.byte 18
  let b := d.byte 19
  let mode : WinMode := match field a 0 2 with
    | 0 => .plain
    | 1 => .mirror
    | _ => .stripe
  { present := true, tenant := d.u16 16, mode := mode, region := field a 2 3, strict := bitOf a 5, adopt := bitOf a 6,
    policy := field b 0 2, readPref := field b 2 2, dpaOff := d.u32 20, domain := d.u16 28, port := d.byte 30,
    deadline := dflt (d.u24 32) 2000, trigger := dflt (d.u24 36) 600 }

/-- The member that a WINDOW_CREATE block names at place `j`: device, extent, member and the byte that must be 0. -/
def namedMember (d : Desc) (j : Nat) : Nat × Nat × Nat × Nat :=
  let b := d.block.drop (48 + 8 * j)
  (ofLe (b.take 2), ofLe ((b.drop 2).take 4), ofLe ((b.drop 6).take 1), ofLe ((b.drop 7).take 1))

/-- WINDOW_CREATE names its members. -/
def namesMembers (d : Desc) : Bool := d.indirect && decide (48 < d.blockLen)

/-- R264: the window would be mapped to a host port that has trained without CXL. -/
def onPcie (c : Chip) (w : Window) : Bool :=
  (c.tenant w.tenant).binds.any (fun b => presented c w b.1 && linkUp (c.port b.1) && !(c.port b.1).cxl)

/-- Windows that exist. -/
def winCount (c : Chip) : Nat := (c.pool.windows.filter (fun w => w.2.present)).length

/-- How WINDOW_CREATE's parameters are refused. -/
def windowCreateBad (c : Chip) (d : Desc) : Bool :=
  let w := windowOfDesc d
  let n := d.u24 24
  let per := memberCount w.mode
  let count := n / (if w.mode = .stripe then 8 else 1) * per
  let bound : Nat → Bool := fun p => (c.tenant w.tenant).binds.any (fun b => b.1 == p)
  !d.zeroHead [(16, 11), (28, 3), (32, 3), (36, 3)] || decide (128 ≤ d.byte 18) || decide (16 ≤ d.byte 19) ||
  field (d.byte 18) 0 2 == 3 || w.policy == 3 || w.readPref == 3 || w.tenant == 0 || decide (4096 ≤ w.tenant) ||
  (c.tenant w.tenant).state == .none || !within 1 1048576 n || (w.mode == .stripe && (n % 8 != 0 || w.policy == 2)) ||
  decide (256 < w.domain) || (decide (w.domain < 256) && !(c.domain w.domain).present) ||
  (w.domain == 256 && w.port != 255 && !bound w.port) ||
  !within 500 1000000 w.deadline || !within 100 w.deadline w.trigger || onPcie c w ||
  (namesMembers d && (d.blockLen != 48 + 8 * count ||
    (List.range count).any (fun j => (namedMember d j).2.2.1 != j % per || (namedMember d j).2.2.2 != 0)))

/-- R207: how an adopted protected window starts. -/
def adoptStart (c : Chip) (id : Nat) : Chip :=
  let w := c.window id
  if !w.adopt ∨ w.mode = .plain then c
  else if c.rst.lastOrderly then
    let back : Member → Member := fun x =>
      if c.pool.memberList.contains ((c.dev x.dev).serial, x.ext) then setAllPages { x with state := .resyncing } else x
    reviewWindow (c.setWindow id { w with members := w.members.map (fun m => (m.1, back m.2)) }) id
  else c.setWindow id { w with verify := some 0 }

/-- The end state of WINDOW_CREATE. With 32,768 windows it is refused with CAPACITY whatever index it names (R174,
notes/assumptions/172.md). -/
def windowCreateMake (c : Chip) (d : Desc) : Except Status Chip :=
  if windowCreateBad c d then .error .badParam
  else if 32768 ≤ winCount c then .error .capacity
  else if (c.window d.tgt).present then .error .busy
  else allocExtents c d.tgt (windowOfDesc d) 0 (d.u24 24)
    (fun j => if namesMembers d then some ((namedMember d j).1, (namedMember d j).2.1) else none)

/-- R177: the extents of a window in a domain are sharable and carry its ID as their tag; all others are not. -/
def sharedTag (w : Window) (id : Nat) : Option Nat := if w.domain < 256 then some id else none

/-- R178: Add Capacity goes to each host port that maps the window; with none, the command ends at once. -/
def startAdd (c : Chip) (x : CmdRef) (id first n span : Nat) (create : Bool) : Chip :=
  let ps := dcPorts c (c.window id)
  let c := c.emits (ps.map (fun p => Msg.addCapacity p id n (sharedTag (c.window id) id)))
  if ps.isEmpty then endCmd c x .ok (leBytes 4 n)
  else
    let e : DcWait := { add := true, window := id, first := first, count := n, ports := ps, create := create,
                        since := c.ivl, cmd := x, span := span }
    { c with pool := { c.pool with dc := c.pool.dc ++ [e] } }

/-- WINDOW_CREATE. -/
def windowCreate (r : Nat) (d : Desc) (c : Chip) : Chip :=
  runCmd 0x0218 (fun c x => match windowCreateMake c d with
    | .error st => refuse c x st
    | .ok e => admitOr c x e (fun e => startAdd (adoptStart e d.tgt) x d.tgt 0 (d.u24 24) 0 true)) r d c

/-- WINDOW_DESTROY (R176). -/
def windowDestroy (r : Nat) (d : Desc) (c : Chip) : Chip :=
  runCmd 0x0219 (fun c x =>
    if !d.zeroBut [] then refuse c x .badParam
    else if jobOnWindow c d.tgt then refuse c x .busy
    else endCmd (destroyWindow c d.tgt) x .ok) r d c

/-- The end state of WINDOW_GROW. -/
def windowGrowMake (c : Chip) (d : Desc) : Except Status Chip :=
  let w := c.window d.tgt
  let n := d.u24 16
  if !d.zeroBut [(16, 3)] ∨ onPcie c w ∨ !within 1 1048576 (w.extents + n) ∨ n = 0 ∨ (w.mode = .stripe ∧ n % 8 ≠ 0) then .error .badParam
  else allocExtents c d.tgt w w.extents n (fun _ => none)

/-- How WINDOW_GROW is refused. -/
def windowGrowCheck (c : Chip) (d : Desc) : Option Status :=
  match windowGrowMake c d with
  | .error st => some st
  | .ok _ => none

/-- The window has grown. -/
def windowGrowDo (c : Chip) (d : Desc) : Chip :=
  match windowGrowMake c d with
  | .error _ => c
  | .ok e => e

/-- The exchange that WINDOW_GROW waits for; `c` is the state after the growth, `span` the window's range before it. -/
def windowGrowGo (c : Chip) (x : CmdRef) (d : Desc) (span : Nat) : Chip :=
  startAdd c x d.tgt ((c.window d.tgt).extents - d.u24 16) (d.u24 16) span false

/-- WINDOW_GROW. -/
def windowGrow (r : Nat) (d : Desc) (c : Chip) : Chip :=
  runCmd 0x021A (fun c x => match windowGrowCheck c d with
    | some st => refuse c x st
    | none => admitOr c x (windowGrowDo c d) (fun e => windowGrowGo e x d (c.window d.tgt).span)) r d c

/-- The list of exchanges without the first that satisfies `p`, and with it changed by `f` where that is given. -/
def editDc (p : DcWait → Bool) (f : DcWait → Option DcWait) : List DcWait → List DcWait
  | [] => []
  | e :: t => if p e then (match f e with
      | some y => y :: t
      | none => t) else e :: editDc p f t

def setDc (c : Chip) (p : DcWait → Bool) (f : DcWait → Option DcWait) : Chip :=
  { c with pool := { c.pool with dc := editDc p f c.pool.dc } }

/-- Units of a window from index `lo` on. -/
def unitsFrom (w : Window) (lo : Nat) : List Nat := (unitsOf w).filter (fun u => decide (lo ≤ u))

/-- Units leave a window, which then shows the state of those that are left (R197). -/
def freeUnits (c : Chip) (id : Nat) (us : List Nat) (s : Nat → ExtState) : Chip :=
  reviewWindow (us.foldl (fun c u => freeUnit c id u (s u)) c) id

/-- Every host has answered: extents that none accepted return to FREE without a fill (R178). -/
def closeAdd (c : Chip) (e : DcWait) : Chip :=
  let w := c.window e.window
  let k := if w.mode = .stripe then 8 else 1
  let keep := e.first + ceilDiv e.accepted k * k
  endCmd (freeUnits c e.window (unitsFrom w keep) (fun _ => .free)) e.cmd .ok (leBytes 4 e.accepted)

/-- DC_RESPONSE (R178): a host's answer to Add Capacity; `accepted` counts the extents it accepts, in order. -/
def dcResponse (port window accepted : Nat) (c : Chip) : Chip :=
  let mine : DcWait → Bool := fun e => e.add && e.window == window && e.ports.contains port
  match c.pool.dc.find? mine with
  | none => c
  | some e =>
    let n := min accepted e.count
    let take : Tbl WExtent → Nat → Tbl WExtent := fun t i =>
      t.upd (e.first + i) (fun x => if x.present then { x with accepted := addOnce x.accepted port } else x)
    let c := c.modWindow window (fun w => { w with ext := (List.range n).foldl take w.ext })
    let e' := { e with ports := e.ports.erase port, accepted := max e.accepted n }
    if e'.ports.isEmpty then closeAdd (setDc c mine (fun _ => none)) e' else setDc c mine (fun _ => some e')

/-- DC_RESPONSE_TIME_EXPIRE (R178): the allocation is undone and the command ends BUSY; extents that a host had already
accepted are scrubbed. -/
def dcResponseTimeExpire (window : Nat) (c : Chip) : Chip :=
  let mine : DcWait → Bool := fun e => e.add && e.window == window && c.past e.since (ms c.pool.dcTime)
  match c.pool.dc.find? mine with
  | none => c
  | some e =>
    let w := c.window window
    let k := if w.mode = .stripe then 8 else 1
    let used : Nat → Bool := fun u => (List.range k).any (fun i => !((w.ext.look (u + i)).accepted).isEmpty)
    let c := setDc c mine (fun _ => none)
    let c := freeUnits c window (unitsFrom w e.first) (fun u => if used u then .scrub else .free)
    let c := c.modWindow window (fun w => { w with span := e.span })
    let c := if e.create then dropWindowIo (c.setWindow window {}) window else c
    endCmd (raise c 124 (srcInfo 13 window)) e.cmd .busy

/-! ### WINDOW_SHRINK (R179) -/

/-- Every host port that maps the extent has released it. -/
def extReleased (e : WExtent) : Bool := e.accepted.all (fun p => e.released.contains p)

/-- Units of a range whose extents are all released go to SCRUB. -/
def freeReleased (c : Chip) (id first n : Nat) : Chip :=
  let w := c.window id
  let k := if w.mode = .stripe then 8 else 1
  let due := (unitsOf w).filter (fun u => decide (first ≤ u) && decide (u < first + n) &&
    (List.range k).all (fun i => extReleased (w.ext.look (u + i))))
  freeUnits c id due (fun _ => .scrub)

/-- How WINDOW_SHRINK is refused. The extents are named by their number in the window. -/
def windowShrinkCheck (c : Chip) (d : Desc) : Option Status :=
  let w := c.window d.tgt
  let first := d.u24 16
  let n := d.u24 20
  let dl := dflt (d.u32 24) 1000000
  if !d.zeroBut [(16, 3), (20, 3), (24, 5)] ∨ 1 < d.byte 28 ∨ n = 0 ∨ w.extents < first + n ∨ 10000000 < dl ∨
      (w.mode = .stripe ∧ (first % 8 ≠ 0 ∨ n % 8 ≠ 0)) ∨
      (List.range n).any (fun i => !(w.ext.look (first + i)).present) then some .badParam
  else none

/-- The host ports to which dynamic-capacity events may go: the host has enabled them (R177). -/
def dcEnabled (c : Chip) (ps : List Nat) : List Nat := ps.filter (fun p => (c.sw.host.look p).dcEvents)

/-- Release Capacity goes to the ports that map the extents; the release that WINDOW_SHRINK waits for begins. -/
def windowShrinkGo (c : Chip) (x : CmdRef) (d : Desc) : Chip :=
  let w := c.window d.tgt
  let first := d.u24 16
  let n := d.u24 20
  let idx := (List.range n).map (first + ·)
  let ps := idx.foldl (fun l i => (w.ext.look i).accepted.foldl addOnce l) []
  let c := c.emits ((dcEnabled c ps).map (fun p => Msg.releaseCapacity p d.tgt first n))
  let at_ := idx.filter (fun i => extReleased (w.ext.look i))
  let c := freeReleased c d.tgt first n
  if at_.length = n then endCmd c x .ok (leBytes 4 n)
  else
    let e : DcWait := { add := false, window := d.tgt, first := first, count := n, since := c.ivl,
                        deadline := c.ivl + us (dflt (d.u32 24) 1000000), force := d.byte 28 == 1,
                        done := at_.length, cmd := x }
    { c with pool := { c.pool with dc := c.pool.dc ++ [e] } }

/-- WINDOW_SHRINK. -/
def windowShrink (r : Nat) (d : Desc) (c : Chip) : Chip :=
  runCmd 0x021B (fun c x => match windowShrinkCheck c d with
    | some st => refuse c x st
    | none => windowShrinkGo c x d) r d c

/-- RELEASE_CAPACITY_RESPONSE (R179): a host has released one extent. -/
def releaseCapacityResponse (port window extent : Nat) (c : Chip) : Chip :=
  let mine : DcWait → Bool := fun e => !e.add && e.window == window && decide (e.first ≤ extent) && decide (extent < e.first + e.count)
  let x := (c.window window).ext.look extent
  match c.pool.dc.find? mine with
  | none => c
  | some e =>
    if !x.accepted.contains port ∨ x.released.contains port then c
    else
      let x' := { x with released := x.released ++ [port] }
      let c := c.modWindow window (fun w => { w with ext := w.ext.put extent x' })
      if !extReleased x' then c
      else
        let c := freeReleased c window e.first e.count
        let e' := { e with done := e.done + 1 }
        if e'.done = e.count then endCmd (setDc c mine (fun _ => none)) e.cmd .ok (leBytes 4 e'.done)
        else setDc c mine (fun _ => some e')

/-- SHRINK_DRAIN_DEADLINE (R179). -/
def shrinkDrainDeadline (window : Nat) (c : Chip) : Chip :=
  let mine : DcWait → Bool := fun e => !e.add && e.window == window && decide (e.deadline ≤ c.ivl)
  match c.pool.dc.find? mine with
  | none => c
  | some e =>
    let c := setDc c mine (fun _ => none)
    if !e.force then endCmd c e.cmd .drainTimeout (leBytes 4 e.done)
    else
      let w := c.window window
      let idx := (List.range e.count).map (e.first + ·)
      let ps := idx.foldl (fun l i => let x := w.ext.look i; (x.accepted.filter (fun p => !x.released.contains p)).foldl addOnce l) []
      let c := c.emits ((dcEnabled c ps).map (fun p => Msg.forcedRemoval p window e.first e.count))
      let left := (unitsOf w).filter (fun u => decide (e.first ≤ u) && decide (u < e.first + e.count))
      endCmd (freeUnits c window left (fun _ => .scrub)) e.cmd .ok (leBytes 4 e.count)

/-! ### WINDOW_SET and WINDOW_QUERY -/

/-- The window as WINDOW_SET leaves it (Table 12.12). -/
def windowSetNew (w : Window) (d : Desc) : Window :=
  { w with deadline := if d.mask 0 then d.u24 20 else w.deadline
           trigger := if d.mask 1 then d.u24 24 else w.trigger
           policy := if d.mask 2 then d.byte 28 else w.policy
           readPref := if d.mask 3 then d.byte 29 else w.readPref }

/-- How WINDOW_SET is refused. -/
def windowSetCheck (c : Chip) (d : Desc) : Option Status :=
  let w := windowSetNew (c.window d.tgt) d
  if !d.zeroBut [(16, 4), (20, 3), (24, 3), (28, 2)] ∨ 16 ≤ d.u32 16 ∨ !within 500 1000000 w.deadline ∨
      !within 100 w.deadline w.trigger ∨ 2 < w.policy ∨ 2 < w.readPref ∨ (w.mode = .stripe ∧ w.policy = 2) then some .badParam
  else none

/-- The window takes the values. -/
def windowSetDo (c : Chip) (d : Desc) : Chip := c.modWindow d.tgt (fun w => windowSetNew w d)

/-- WINDOW_SET. -/
def windowSet (r : Nat) (d : Desc) (c : Chip) : Chip :=
  runCmd 0x021C (fun c x => match windowSetCheck c d with
    | some st => refuse c x st
    | none => admitOr c x (windowSetDo c d) (fun e => endCmd e x .ok)) r d c

/-- A member's state as a number. -/
def MemberState.code : MemberState → Nat
  | .online => 0
  | .slow => 1
  | .lost => 2
  | .resyncing => 3

/-- WINDOW_QUERY (R197, R209): state, member states, log bits set, verify progress, double-stop, reconstruction, repair, discard and poison
counts. -/
def windowQuery (r : Nat) (d : Desc) (c : Chip) : Chip :=
  runCmd 0x021D (fun c x =>
    let w := c.window d.tgt
    let ms := w.members.filter (fun m => m.2.present)
    if !d.zeroBut [(16, 12)] ∨ !d.bufferOk x.ring then refuse c x .badParam
    else endQuery c x d (Config.queryBytes 0x021D)
      (openFields ([w.shown] ++ ms.flatMap (fun m => [m.1, m.2.dev, m.2.ext, m.2.state.code, pagesSet m.2]) ++
       [w.verify.getD 0, w.dsReads, w.poisons, w.altHits, w.late, w.misses, w.mismatch, w.discards, w.recons, w.repairs]))) r d c

/-! ### MEMBER_FAIL and MEMBER_REPLACE (R195, R196) -/

/-- The member that a command names: unit and member; none where it does not exist. -/
def namedUnit (w : Window) (d : Desc) : Option (Nat × Nat) :=
  let u := d.u32 16
  let m := d.byte 20
  if (w.ext.look u).present ∧ (w.mode = .stripe → u % 8 = 0) ∧ m < memberCount w.mode ∧ (w.member u m).present then some (u, m)
  else none

/-- MEMBER_FAIL: the loss is that of the backing device (R195). -/
def memberFail (r : Nat) (d : Desc) (c : Chip) : Chip :=
  runCmd 0x0220 (fun c x =>
    match namedUnit (c.window d.tgt) d with
    | none => refuse c x .badParam
    | some (u, m) =>
      if !d.zeroBut [(16, 5)] then refuse c x .badParam
      else endCmd (loseDevice c ((c.window d.tgt).member u m).dev true) x .ok) r d c

/-- A resync that walks a member starts its page again: the member has moved. -/
def restartWalk (c : Chip) (id u m : Nat) : Chip :=
  let hit : Job → Bool := fun j => j.kind == .resync && j.engine.isSome && j.auto != some .verify && j.window == id && j.extent == u && j.member == m
  let es := (c.mov.jobs.filter hit).filterMap (·.engine)
  es.foldl txLeave { c with mov := { c.mov with jobs := c.mov.jobs.map (fun j => if hit j then { j with lines := 0, dirty := false } else j) } }

/-- A LOST member is rebuilt on another extent: the old one is RETIRED while its device is lost, else SCRUB (Table 6.6). -/
def moveMember (c : Chip) (id u m b e : Nat) : Chip :=
  let w := c.window id
  let x := w.member u m
  let old := fun (c : Chip) (b e : Nat) =>
    let c := giveExt c b e .scrub false
    if (c.dev b).lost then c.modDev b (fun d => { d with replaced := addOnce d.replaced e }) else c
  let c := old c x.dev x.ext
  let c := match x.migr with
    | some g => old c g.dev g.ext
    | none => c
  let c := setExt c b e .inUse
  let x' : Member := { present := true, dev := b, ext := e, state := .resyncing }
  let c := restartWalk c id u m
  reviewWindow (c.modWindow id (fun w => w.setMember u m (setAllPages x'))) id

/-- MEMBER_REPLACE (Table 6.6). A member that a job works on cannot get another one (R204). -/
def memberReplace (r : Nat) (d : Desc) (c : Chip) : Chip :=
  runCmd 0x0221 (fun c x =>
    let w := c.window d.tgt
    let done := fun (c : Chip) (b e : Nat) => endCmd c x .ok (leBytes 2 b ++ leBytes 4 e)
    match namedUnit w d with
    | none => refuse c x .badParam
    | some (u, m) =>
      let y := w.member u m
      let b := d.u16 22
      let e := d.u32 24
      let others := othersOf w u m
      if !d.zeroBut [(16, 5), (22, 6)] then refuse c x .badParam
      else match y.state with
        | .online | .slow => refuse c x .badParam
        | .resyncing => refuse c x .busy
        | .lost =>
          if memberHasJob c d.tgt u m then refuse c x .busy
          else if e = 0xFFFFFFFF then
            match chooseExtent c w others .spare with
            | some (b, e) => done (moveMember c d.tgt u m b e) b e
            | none => refuse c x .capacity
          else if b = y.dev ∧ e = y.ext then
            if (c.dev b).lost then refuse c x .badParam
            else done (reviewWindow (c.modWindow d.tgt (fun w => w.setMember u m (returned w.mode y))) d.tgt) b e
          else if !mayJoin c w.strict others b ∨ (c.dev b).extents ≤ e ∨ extState c b e ≠ .spare then refuse c x .badParam
          else if !latencyOk c w b then refuse c x .deadlineInfeasible
          else done (moveMember c d.tgt u m b e) b e) r d c

/-! ### Backing reads (R186–R190) -/

/-- The bytes of a line that its transaction has for it: data that a write gave it, else what backing gave, with partial writes over it. -/
def lineValue (c : Chip) (n : Nat) (x : Line × Bool) : Line × Bool :=
  match c.tracker n with
  | none => x
  | some t => t.patch.foldl (fun y p => (mergeLine y.1 p.req.data p.req.mask, y.2)) (t.data.getD x)

/-- The fill that R185 allows, unless the line is present already. -/
def fillIfAbsent (c : Chip) (n : Nat) (x : Line × Bool) (alloc : Bool) : Chip :=
  let (c, hit) := findWay c n
  if hit.isSome then c else fillRead c n x.1 x.2 alloc

/-- R186: good data is written back to the members that returned poison or an error, with source 118; to a stripe by its leader (R184). -/
def repairBad (c : Chip) (n : Nat) (r : BackRead) (d : Line) : Chip :=
  r.bad.foldl (fun c m =>
    let c := poisonRepaired c r.window
    let w := c.window r.window
    if w.mode = .stripe then
      let o : StripeOp := { line := n, window := r.window, unit := unitOf w r.ext, stripe := groupOff r.ext n / 8, repair := some m, new := d }
      { c with pool := { c.pool with ops := c.pool.ops ++ [o] } }
    else sendWrite c n r.window r.ext m d (BitVec.allOnes 64) false none) c

/-- A line's backing read ends with good data, under the writes that were on their way when it was issued; `alt`: the alternate gave it. -/
def readGood (c : Chip) (n : Nat) (r : BackRead) (d : Line) (alt : Bool) : Chip :=
  let c := endRead c n
  let c := if alt then countEvent (c.modWindow r.window (fun w => { w with altHits := w.altHits + 1 })) (lineEvent c n 0x051) else c
  let x := overlay r.newer (d, false)
  dataAtHand (fillIfAbsent (repairBad c n r x.1) n (lineValue c n x) r.alloc) n x.1 x.2

/-- A line has no source: it completes with poison (R189, R198), but for newer writes of it. -/
def readPoison (c : Chip) (n : Nat) (r : BackRead) : Chip :=
  let x := overlay r.newer (0, true)
  dataAtHand (endRead c n) n x.1 x.2

/-- The device behind a member for a line. -/
def memberDev (w : Window) (i n m : Nat) : Nat := (placeOf (w.member (unitOf w i) m) (memberOff w i n)).1

/-- The read first issued can give nothing any more. -/
def firstFailed (r : BackRead) : Bool := r.asked || r.timed || r.bad.contains r.member

/-- The alternate can give nothing: it has failed, or is missing, or no reconstruction can be carried out. -/
def altFailed (c : Chip) (n : Nat) (r : BackRead) : Bool :=
  let w := c.window r.window
  match w.mode with
  | .plain => true
  | .mirror => r.altTimed || r.bad.contains r.alt || missingAt (w.member (unitOf w r.ext) r.alt) (memberOff w r.ext n / 64)
  | .stripe => r.noAlt

/-- A source of a read has failed, as `r` records: it goes on with the other one, a double-stop read at once (R186), or completes with
poison where none is left. -/
def sourceFailed (c : Chip) (n : Nat) (r : BackRead) : Chip :=
  let c := setRead c n (some r)
  if !firstFailed r then c
  else if altFailed c n r then readPoison c n r
  else if r.dstop ∨ r.asked then c
  else doubleStop c n r

/-- A member's read of a line ended with poison or an error: it counts towards MEMBER_ERR_LIMIT (R195). -/
def memberBad (c : Chip) (n : Nat) (r : BackRead) (m : Nat) : Chip :=
  let c := deviceFails c (memberDev (c.window r.window) r.ext n m)
  sourceFailed c n { r with bad := addOnce r.bad m }

/-- A result of the leader's reconstruction: the line is solved from what was read (R183, R186). -/
def reconDone (c : Chip) (o : StripeOp) : Chip :=
  let s := o.stripe
  let val : Nat → Option Line := fun m => (o.got.find? (fun g => g.1 == m)).map (·.2)
  let j := opLine (c.window o.window) o
  let c := setOp c o none
  match c.pool.reads.look o.line, solveData (fun k => val (memD s k)) (val (memP s)) (val (memQ s)) j with
  | some r, some d => readGood c o.line r d true
  | some r, none => sourceFailed c o.line { r with noAlt := true }
  | none, _ => c.modWindow o.window (fun w => { w with late := w.late + 1 })

/-- A member's answer to a leader's read. -/
def leaderResult (c : Chip) (o : StripeOp) (m : Nat) (r : ReadResult) : Chip :=
  match r with
  | .good d =>
    let o' := { o with need := o.need.erase m, got := o.got ++ [(m, d)] }
    let c := setOp c o (some o')
    if !o'.need.isEmpty then c else opGo (if o.recon then reconDone c o' else opIssue c o') o
  | .poison | .error =>
    let c := deviceFails c (placeOf ((c.window o.window).member o.unit m) o.stripe).1
    let o' := { o with need := [], bad := addOnce o.bad m }
    opGo (opBegin (setOp c o (some o')) o') o

/-- A result that nothing waits for is discarded and counted (R186). -/
def lateResult (c : Chip) (line : Nat) : Chip :=
  match winOf c line with
  | some id => c.modWindow id (fun w => { w with late := w.late + 1 })
  | none => c

/-- A member's answer to the read of a line: from the source first read, or from the alternate (R186). -/
def readResult (c : Chip) (line member : Nat) (r : ReadResult) : Chip :=
  match c.pool.reads.look line with
  | none => lateResult c line
  | some x =>
    let first := member == x.member && !x.asked && !x.bad.contains member
    let alt := (c.window x.window).mode == .mirror && x.dstop && member == x.alt && !x.bad.contains member
    if !first && !alt then lateResult c line
    else match r with
      | .good d => readGood c line x d (alt && !first)
      | .poison | .error => memberBad c line x member

/-- The line transaction that waits for a member's read, or for its write, of a line. -/
def txWaits (c : Chip) (line member : Nat) (write : Bool) : Option LineTx :=
  c.pool.txs.find? (fun t => !t.done && t.line == line && (if write then t.writes else t.need).contains member)

/-- A backing read of a line at a member ends (R186, R189): for a line transaction, a leader's operation, or the line's own read. -/
def enterReadResult (c : Chip) (line member : Nat) (r : ReadResult) : Chip :=
  match txWaits c line member false with
  | some t => txRead c t member r
  | none =>
    match c.pool.ops.find? (fun o => o.line == line && o.begun && o.need.contains member) with
    | some o => leaderResult c o member r
    | none => readResult c line member r

/-- DS_TRIGGER_EXPIRE (R186): the trigger passes with no good data. -/
def dsTriggerExpire (line : Nat) (c : Chip) : Chip :=
  match c.pool.reads.look line with
  | none => c
  | some r =>
    let w := c.window r.window
    if w.mode = .plain ∨ r.dstop ∨ r.asked ∨ !c.past r.since (ns w.trigger) then c else doubleStop c line r

/-! ### Accesses without an answer (R189, R195) -/

/-- BACKING_TIMEOUT of a device has passed since `t`. -/
def overTime (c : Chip) (b t : Nat) : Bool := c.past t (us (c.dev b).timeout)

/-- The line's own read: its first source, then its alternate. Each counts once; a Plain one completes with poison, with source 119. -/
def readTimeout (c : Chip) (line : Nat) : Chip :=
  match c.pool.reads.look line with
  | none => c
  | some r =>
    let w := c.window r.window
    let b := memberDev w r.ext line r.member
    let a := memberDev w r.ext line r.alt
    if !r.asked && !r.timed && !r.bad.contains r.member && overTime c b r.since then
      let c := if w.mode = .plain then raise c 119 (srcInfo 14 b) else c
      sourceFailed (deviceFails c b) line { r with timed := true }
    else if w.mode == .mirror && r.dstop && !r.waits && !r.altTimed && !r.bad.contains r.alt && overTime c a r.altAt then
      sourceFailed (deviceFails c a) line { r with altTimed := true }
    else c

/-- Reads and writes of a leader's operation: an unanswered read is as one that fails; a write counts once. -/
def opTimeout (c : Chip) (line : Nat) : Chip :=
  let dev : StripeOp → Nat → Nat := fun o m => (placeOf ((c.window o.window).member o.unit m) o.stripe).1
  match c.pool.ops.find? (fun o => o.line == line && o.begun && (o.need ++ o.writes).any (fun m => !o.timed.contains m && overTime c (dev o m) o.since)) with
  | none => c
  | some o =>
    let ms := (o.need ++ o.writes).filter (fun m => !o.timed.contains m && overTime c (dev o m) o.since)
    let c := ms.foldl (fun c m => deviceFails c (dev o m)) c
    if o.need.isEmpty then setOp c o (some { o with timed := o.timed ++ ms })
    else
      let o' := { o with need := [], bad := ms.foldl addOnce o.bad }
      opGo (opBegin (setOp c o (some o')) o') o

/-- Reads and writes of a line transaction: an unanswered one is as one that fails. -/
def txTimeout (c : Chip) (line : Nat) : Chip :=
  let dev : LineTx → Nat → Nat := fun t m =>
    if t.need.isEmpty then (txPlace (c.window t.window) t m).1 else (placeOf ((c.window t.window).member t.unit m) t.off).1
  match c.pool.txs.find? (fun t => !t.done && t.line == line && (t.need ++ t.writes).any (fun m => overTime c (dev t m) t.since)) with
  | none => c
  | some t =>
    match (t.need ++ t.writes).find? (fun m => overTime c (dev t m) t.since) with
    | none => c
    | some m => if t.need.isEmpty then txWritten c t m false else txRead c t m .error

/-- Writes of a line to a member: each counts once, and still runs. -/
def writeTimeout (c : Chip) (line : Nat) : Chip :=
  let dev : BackWrite → Nat := fun e =>
    let w := c.window e.window
    memberDev w e.ext line e.member
  let out : BackWrite → Bool := fun e => e.line == line && !e.timed && overTime c (dev e) e.since
  let late := c.pool.writes.filter out
  let c' := { c with pool := { c.pool with writes := c.pool.writes.map (fun e => if out e then { e with timed := true } else e) } }
  late.foldl (fun c e => deviceFails c (dev e)) c'

/-- BACKING_TIMEOUT_EXPIRE (R189, R195): accesses of a line have had no answer within BACKING_TIMEOUT. -/
def backingTimeoutExpire (line : Nat) (c : Chip) : Chip := readTimeout (opTimeout (txTimeout (writeTimeout c line) line) line) line

/-! ### Backing writes (R192, R194) -/

/-- The list of writes without the first that satisfies `p`, or with it changed. -/
def editWrite (p : BackWrite → Bool) (f : BackWrite → Option BackWrite) : List BackWrite → List BackWrite
  | [] => []
  | e :: t => if p e then (match f e with
      | some y => y :: t
      | none => t) else e :: editWrite p f t

def setWrite (c : Chip) (p : BackWrite → Bool) (f : BackWrite → Option BackWrite) : Chip :=
  { c with pool := { c.pool with writes := editWrite p f c.pool.writes } }

/-- R518: during an orderly shutdown, a write-back that fails to a Plain window is counted and raises source 358. -/
def writeBackFailed (c : Chip) (w : Nat) : Chip :=
  if c.rst.phase = 0 then c
  else raise { c with rst := { c.rst with wbFail := min (c.rst.wbFail + 1) 65535 } } 358 (srcInfo 13 w)

/-- A write of a line to a member is over; a failed one counts once, and its page is logged. -/
def writeEnded (c : Chip) (e : BackWrite) (ok : Bool) : Chip :=
  let w := c.window e.window
  let off := memberOff w e.ext e.line
  let c := if ok then c
    else
      let c := if w.mode = .plain then (if e.cmp.isNone then writeBackFailed c e.window else c)
        else logPage c e.window (unitOf w e.ext) e.member (off / 64)
      if e.timed then c else deviceFails c (placeOf (w.member (unitOf w e.ext) e.member) off).1
  if e.late then c else closeWrite c e

/-- A leader's write to a member is over; a failed one counts once, and its page is logged. -/
def opWritten (c : Chip) (o : StripeOp) (member : Nat) (ok : Bool) : Chip :=
  let c := if ok then c
    else
      let c := logPage c o.window o.unit member (o.stripe / 64)
      if o.timed.contains member then c else deviceFails c (placeOf ((c.window o.window).member o.unit member) o.stripe).1
  opGo (setOp c o (some { o with writes := o.writes.erase member })) o

/-- The write of a line to a member, and the leader's operation that writes the member. -/
def isWrite (line member : Nat) (late : Bool) (e : BackWrite) : Bool := e.line == line && e.member == member && e.late == late
def opWrite (c : Chip) (line member : Nat) : Option StripeOp := c.pool.ops.find? (fun o => o.line == line && o.writes.contains member)

/-- A write of a line to a member ends (R192): the oldest that is outstanding. -/
def enterWriteDone (c : Chip) (line member : Nat) (ok : Bool) : Chip :=
  match c.pool.writes.find? (isWrite line member true) with
  | some e => writeEnded (setWrite c (isWrite line member true) (fun _ => none)) e ok
  | none =>
    match opWrite c line member, txWaits c line member true, c.pool.writes.find? (isWrite line member false) with
    | some o, _, _ => opWritten c o member ok
    | none, some t, _ => txWritten c t member ok
    | none, none, some e => writeEnded (setWrite c (isWrite line member false) (fun _ => none)) e ok
    | none, none, none => c

/-- A leader's write is late (R194): the page is logged, and the write still runs. -/
def opLate (c : Chip) (o : StripeOp) (member : Nat) : Chip :=
  let w := c.window o.window
  let e : BackWrite := { line := o.line, window := o.window, ext := extOf w o.line, member := member, since := o.since, late := true,
                         timed := o.timed.contains member }
  let c := { c with pool := { c.pool with writes := c.pool.writes ++ [e] } }
  opGo (setOp (logPage c o.window o.unit member (o.stripe / 64)) o (some { o with writes := o.writes.erase member })) o

/-- BACKING_WRITE_LATE (R194): DS_TRIGGER has passed; the page is logged and the write counts as complete. -/
def backingWriteLate (line member : Nat) (c : Chip) : Chip :=
  let over_ : Nat → Nat → Bool := fun id t => (c.window id).mode != .plain && c.past t (ns (c.window id).trigger)
  match opWrite c line member, txWaits c line member true, c.pool.writes.find? (isWrite line member false) with
  | some o, _, _ => if over_ o.window o.since then opLate c o member else c
  | none, some t, _ => if over_ t.window t.since then txLate c t member else c
  | none, none, some e =>
    if !over_ e.window e.since then c
    else
      let w := c.window e.window
      let c := logPage c e.window (unitOf w e.ext) member (memberOff w e.ext line / 64)
      closeWrite (setWrite c (isWrite line member false) (fun e => some { e with late := true, cmp := none })) e
  | none, none, none => c

/-! ### Loss, recovery and sparing (R195, R196) -/

/-- MEMBER_LOSS_TIME_EXPIRE (R195). -/
def memberLossTimeExpire (dev : Nat) (c : Chip) : Chip :=
  let d := c.dev dev
  match d.downAt with
  | some t => if d.present ∧ !d.lost ∧ c.past t (ms d.lossTime) then loseDevice c dev else c
  | none => c

/-- MEMBER_SLOW_RECOVERY (R196): members of the device that have caused no double-stop read for 1 s. -/
def memberSlowRecovery (dev : Nat) (c : Chip) : Chip :=
    let fix : Member → Member := fun m =>
      if m.present && m.dev == dev && m.state == .slow && c.past m.dsLast (sec 1) then { m with state := .online } else m
    (windowsOn c dev).foldl (fun c id => c.modWindow id (fun w => { w with members := w.members.map (fun m => (m.1, fix m.2)) })) c

/-- AUTO_SPARE_DELAY_EXPIRE (R196); `member` is unit × 10 + member. A Plain member has nothing to be rebuilt from. -/
def autoSpareDelayExpire (window member : Nat) (c : Chip) : Chip :=
  let w := c.window window
  let u := member / 10
  let m := member % 10
  let x := w.member u m
  let delay := (c.dev x.dev).spareDelay
  if !w.present ∨ !x.present ∨ x.state ≠ .lost ∨ delay = 0 ∨ !c.past x.lostAt (ms delay) ∨ w.mode = .plain then c
  else match chooseExtent c w (othersOf w u m) .spare with
    | some (b, e) => moveMember c window u m b e
    | none =>
      if x.noSpare then c
      else raise (c.setWindow window (w.setMember u m { x with noSpare := true })) 122 (srcInfo 13 window)

/-- LEADER_REQUEST (R184): the stripe's leader takes a write-back or a reconstruction of a data line; its place is that of its entry. -/
def leaderRequest (line : Nat) (reconstruct : Bool) (c : Chip) : Chip :=
  let mine : StripeOp → Bool := fun o => o.line == line && o.recon == reconstruct && !o.taken
  match c.pool.ops.find? mine with
  | none => c
  | some o =>
    let rec mark : List StripeOp → List StripeOp
      | [] => []
      | y :: t => if mine y then { y with taken := true, order := c.pool.orders } :: t else y :: mark t
    opGo { c with pool := { c.pool with ops := mark c.pool.ops, orders := c.pool.orders + 1 } } o

end Sys2Proof.Machine
end

