-- ==== Sys2Proof/Machine/Entry.lean ====
section
/-!
DEFINITION. The entry point of a home slice (R159): its input queues by class, the message that it takes in a core cycle, and the rows
whose messages reach a slice (R148, R149, R186, R189, R192).
-/
namespace Sys2Proof.Machine

/-- The request of a message of class REQ. -/
def SliceMsg.req? : SliceMsg → Option MemReq
  | .rd m | .inv m | .evict m => some m
  | .wr _ | .ptl _ | .rsp _ | .data _ _ _ | .done _ _ _ => none

/-- The place of a message's class in R159's order: DRS, NDR, BIRSP, BISNP, RWD, REQ. No BISNP reaches a home slice. -/
def SliceMsg.rank : SliceMsg → Nat
  | .data _ _ _ => 0
  | .done _ _ _ => 1
  | .rsp _ => 2
  | .wr _ | .ptl _ => 4
  | .rd _ | .inv _ | .evict _ => 5

/-- The slice that a message of backing for a line and member reaches: the home slice of the line, or the stripe's leader (R184). -/
def backingSlice (c : Chip) (line member : Nat) (write : Bool) : Nat :=
  match txWaits c line member write, c.pool.ops.find? (fun o => o.line == line && (if write then o.writes else o.need).contains member) with
  | some t, _ => lineSlice t.line
  | none, some o => lineSlice (txLine (c.window o.window) o.unit o.stripe)
  | none, none => lineSlice line

/-- The slice that a message reaches (R133, R134, R184). -/
def SliceMsg.slice (c : Chip) : SliceMsg → Nat
  | .rd m | .inv m | .evict m | .wr m | .ptl m => lineSlice m.line
  | .rsp m => lineSlice m.line
  | .data n k _ => backingSlice c n k false
  | .done n k _ => backingSlice c n k true

/-- A request is stamped when it first reaches its slice (R188). -/
def SliceMsg.stamped (c : Chip) : SliceMsg → SliceMsg
  | .rd m => .rd (Machine.stamped c m)
  | .inv m => .inv (Machine.stamped c m)
  | .evict m => .evict m
  | .wr m => .wr (Machine.stamped c m)
  | .ptl m => .ptl (Machine.stamped c m)
  | .rsp m => .rsp m
  | .data n k r => .data n k r
  | .done n k ok => .done n k ok

/-- Further messages reach the slice in the same core cycle: its entry point has not chosen yet. -/
def SliceMsg.more : SliceMsg → Bool
  | .rd m | .inv m | .evict m | .wr m | .ptl m => m.more
  | .rsp m => m.more
  | .data _ _ _ | .done _ _ _ => false

/-- A message enters the slice. -/
def enterMsg (c : Chip) : SliceMsg → Chip
  | .rd m => enterReq c m false
  | .inv m => enterReq c m true
  | .evict m => enterEvict c m
  | .wr m => enterWrite c m false
  | .ptl m => enterWrite c m true
  | .rsp m => enterRsp c m
  | .data n k r => enterReadResult c n k r
  | .done n k ok => enterWriteDone c n k ok

/-- How REQ heads compare (R159): starving requests first, then the inputs in cyclic order after the one last served (`last` is one
more than it). The least goes first. -/
def reqKey (last : Nat) (m : MemReq) : Nat × Nat × Nat := (nat1 (decide (m.nacks < 4)), nat1 (decide (m.input < last)), m.input)

/-- The first of two keys in the order of their parts. -/
def keyLess (a b : Nat × Nat × Nat) : Bool :=
  decide (a.1 < b.1) || (a.1 == b.1 && (decide (a.2.1 < b.2.1) || (a.2.1 == b.2.1 && decide (a.2.2 < b.2.2))))

/-- The REQ message that goes first: of each input the oldest, which is its queue's head. -/
def bestReq (last : Nat) : Option MemReq → List SliceMsg → Option MemReq
  | best, [] => best
  | best, x :: t =>
    match x.req?, best with
    | none, _ => bestReq last best t
    | some m, none => bestReq last (some m) t
    | some m, some b =>
      if m.input ≠ b.input ∧ keyLess (reqKey last m) (reqKey last b) then bestReq last (some m) t else bestReq last best t

/-- The least class among waiting messages. -/
def leastRank (q : List SliceMsg) : Nat := q.foldl (fun n x => min n x.rank) 5

/-- The message that the entry point takes, and those that stay (R159). -/
def takeEntry (last : Nat) (q : List SliceMsg) : Option (SliceMsg × List SliceMsg) :=
  let k := leastRank q
  if k < 5 then takeFirst (fun x => x.rank == k) q
  else match bestReq last none (q.filter (headReq q)) with
    | none => none
    | some b => takeFirst (fun x => x.req? == some b) q
where
  /-- A REQ message is the head of its input's queue. -/
  headReq (q : List SliceMsg) (x : SliceMsg) : Bool :=
    match x.req? with
    | none => false
    | some m => (q.find? (fun y => (y.req?.map (·.input)) == some m.input)) == some x

/-- The entry point of slice `s` takes one message, once in a core cycle (R159). -/
def entryPoint (c : Chip) (s : Nat) : Chip :=
  if c.home.entered.look s = c.ivl + 1 then c
  else match takeEntry (c.home.lastIn.look s) (c.home.inq.look s) with
    | none => c
    | some (x, rest) =>
      let last := match x.req? with
        | some m => c.home.lastIn.put s (m.input + 1)
        | none => c.home.lastIn
      enterMsg { c with home := { c.home with inq := c.home.inq.put s rest, entered := c.home.entered.put s (c.ivl + 1), lastIn := last } } x

/-- A message reaches its slice; the entry point then takes one, unless further messages of the same core cycle follow. -/
def arriveMsg (c : Chip) (x : SliceMsg) : Chip :=
  let s := x.slice c
  let c' := { c with home := { c.home with inq := c.home.inq.put s (c.home.inq.look s ++ [x.stamped c]) } }
  if x.more then c' else entryPoint c' s

/-- A core cycle begins: every slice with waiting messages takes one. -/
def slicesTake (c : Chip) : Chip := (c.home.inq.map (·.1)).foldl entryPoint c

/-- MEM_RD (R148, R159). -/
def memRd (m : MemReq) (c : Chip) : Chip := arriveMsg c (.rd m)

/-- MEM_INV (R148, R159). -/
def memInv (m : MemReq) (c : Chip) : Chip := arriveMsg c (.inv m)

/-- MEM_CLN_EVCT (R148, R159). -/
def memClnEvct (m : MemReq) (c : Chip) : Chip := arriveMsg c (.evict m)

/-- MEM_WR (R149, R159). -/
def memWr (m : MemReq) (c : Chip) : Chip := arriveMsg c (.wr m)

/-- MEM_WR_PTL (R149, R159). -/
def memWrPtl (m : MemReq) (c : Chip) : Chip := arriveMsg c (.ptl m)

/-- BIRSP (R149, R159). -/
def birsp (m : SnoopRsp) (c : Chip) : Chip := arriveMsg c (.rsp m)

/-- BACKING_READ_RESULT (R186, R189): a DRS from backing. -/
def backingReadResult (line member : Nat) (r : ReadResult) (c : Chip) : Chip := arriveMsg c (.data line member r)

/-- BACKING_WRITE_COMPLETE (R192): an NDR from backing. -/
def backingWriteComplete (line member : Nat) (ok : Bool) (c : Chip) : Chip := arriveMsg c (.done line member ok)

end Sys2Proof.Machine
end

