-- ==== Sys2Proof/Machine/Stolevo.lean ====
section
/-!
DEFINITION. The Stolevo Links (08_stolevo_link.md): training (R251–R255), sequence and replay (R237–R247), control messages,
held traffic and removal (R256, R257), link encryption (R258–R260), the link commands.
-/
namespace Sys2Proof.Machine

/-- STV_STATUS.STATE as a number. -/
def StvState.code : StvState → Nat
  | .phy => 0
  | .align => 1
  | .config => 2
  | .active => 3
  | .downHeld => 4
  | .removed => 5

/-- The source information of a link (R551). -/
abbrev linkInfo (l : Nat) : DWord := srcInfo 2 l

/-- Error counter n of a link, saturating. -/
def bumpCnt (c : Chip) (l n k : Nat) : Chip :=
  let add : Nat → Nat := fun v => min (v + k) 0xFFFFFFFF
  if k = 0 then c else c.modLink l (fun x =>
    { x with cnt := x.cnt.upd n add, cntCyc := (if x.cntAt = c.ivl + 1 then x.cntCyc else []).upd n add, cntAt := c.ivl + 1 })

/-- Physical lane `i` of a link's port. -/
abbrev stvLane (c : Chip) (l i : Nat) : Nat := 4 * linkPort c l + i

/-- A margining run ends early (R307): ABORTED, with the steps completed, which nothing states (notes/assumptions/3.md). -/
def marginAbort (c : Chip) (n : Nat) : Chip :=
  let x := c.lane n
  let c := c.setLane n { x with margin := none, marginPartner := false }
  match x.margin with
  | none => c
  | some y =>
    let f := c.freeCtr
    endCmd { c with freeCtr := f + 4 } y .aborted
      (leBytes 1 (Config.freeNat f % 17) ++ leBytes 1 (Config.freeNat (f + 1) % 17) ++
       leBytes 1 (Config.freeNat (f + 2) % 65) ++ leBytes 1 (Config.freeNat (f + 3) % 65))

/-- A lane leaves traffic; margining on it ends. -/
def laneIdle (c : Chip) (n : Nat) : Chip :=
  marginAbort (c.modLane n (fun y => { y with inUse := false, idleAt := if y.inUse then some c.ivl else y.idleAt })) n

/-- The lanes of a link leave traffic. -/
def lanesIdle (c : Chip) (l : Nat) : Chip := (List.range 16).foldl (fun c i => laneIdle c (stvLane c l i)) c

/-! ### States (Table 8.7) -/

/-- R256: this device clears the PATH_USABLE bits that name a link which leaves ACTIVE. -/
def clearPaths (c : Chip) (l : Nat) : Chip :=
  let hits := c.sw.fabric.flatMap (fun e =>
    if feValid e.2 && !feLocal e.2 then
      ((List.range 4).filter (fun j => feUsable e.2 j && feLink e.2 j == l)).map (fun j => (e.1, j))
    else [])
  hits.foldl (fun c h => setUsable c h.1 h.2 false) (c.modLink l (fun x => { x with cleared := x.cleared ++ hits }))

/-- R256: the bits are set again when the link becomes ACTIVE. -/
def restorePaths (c : Chip) (l : Nat) : Chip :=
  let hits := (c.link l).cleared
  hits.foldl (fun c h => if feLink (feOf c h.1) h.2 = l then setUsable c h.1 h.2 true else c)
    (c.modLink l (fun x => { x with cleared := [] }))

/-- STV_LINK_RETRAIN ends with the state reached (Table 8.10). -/
def endRetrain (c : Chip) (l : Nat) : Chip :=
  let x := c.link l
  match x.retrain with
  | none => c
  | some y => endCmd (c.setLink l { x with retrain := none }) y .ok (leBytes 1 x.state.code)

/-- The link is in a new state. -/
def reach (c : Chip) (l : Nat) (st : StvState) : Chip :=
  let c := c.modLink l (fun x => { x with state := st, stateAt := c.ivl })
  match st with
  | .active | .downHeld | .removed => endRetrain c l
  | .phy | .align | .config => c

/-- A permit message; the others, time messages, act only on the link while it carries them (R249, R250). -/
def CtrlMsg.isPermit : CtrlMsg → Bool
  | .permit _ _ => true
  | .timeReq _ _ | .timeRsp _ _ _ | .announce _ _ _ _ => false

/-- What every departure from ACTIVE does (R256). -/
def leaveActive (c : Chip) (l : Nat) : Chip :=
  if (c.link l).state = .active then
    (lanesIdle (clearPaths c l) l).modLink l (fun x => { x with inbox := x.inbox.filter CtrlMsg.isPermit, unseq := [] })
  else c

/-- CONFIG and ALIGN start over. -/
def trainFresh (x : StvLink) : StvLink :=
  { x with lastProp := none, chosen := 0, phase := 0, countdown := 0, peerResume := false, peerExpected := 0,
           peerCount := none, ownDone := false, rxLanes := 0, markers := 0 }

/-- R304: a BAD lane that is not quarantined is tried again at the next retrain. -/
def retryLane (c : Chip) (n : Nat) : Chip := c.modLane n (fun y => { y with bad := y.exclude || (y.bad && y.quar) })

def retryLanes (c : Chip) (p : Nat) : Chip := (List.range 16).foldl (fun c i => retryLane c (4 * p + i)) c

/-- An ACTIVE link retrains: ALIGN, source 145 (Table 8.7). -/
def retrainLink (c : Chip) (l : Nat) : Chip :=
  if (c.link l).state ≠ .active then c
  else
    let c := retryLanes (reach (leaveActive c l) l .align) (linkPort c l)
    let c := c.modLink l (fun x => { trainFresh x with trainAt := c.ivl })
    raise (bumpCnt c l 6 1) 145 (linkInfo l)

/-- The link goes to DOWN_HELD; a link source is lost (R39). PHY then runs at 64 GT/s (R299). -/
def linkHeld (c : Chip) (l : Nat) : Chip :=
  let c := reach (leaveActive c l) l .downHeld
  linkTimeLost (c.modLink l (fun x => { trainFresh x with rate := false })) l

/-- Training starts in PHY. -/
def startPhy (c : Chip) (l : Nat) : Chip :=
  let c := reach c l .phy
  c.modLink l (fun x => { trainFresh x with trainAt := c.ivl })

/-- Lanes of a group code (Table 8.8). -/
def groupMask (g : Nat) : Nat :=
  if g = 0 then 0xFFFF else if g = 1 then 0x00FF else if g = 2 then 0xFF00 else 15 * 16 ^ (g - 3)

/-- Width index of a group code, as WIDTH_MIN encodes it. -/
def groupWidth (g : Nat) : Nat := if g = 0 then 0 else if g ≤ 2 then 1 else 2

/-- Every lane of a group is aligned. -/
def groupIn (g : Nat) (lanes : BitVec 16) : Bool := Nat.land (groupMask g) lanes.toNat == groupMask g

/-- A lane that training may use (R303–R305, R294). -/
def laneFree (c : Chip) (n : Nat) : Bool :=
  let x := c.lane n
  !x.exclude && !x.quar && (c.course (n / 64)).refOk && x.test.isNone

/-- The rate encoded as PORT_CTL.RATE_MAX: 64 GT/s is 5, 128 GT/s is 6. -/
abbrev stvRate (fast : Bool) : Nat := if fast then 6 else 5

/-- One marker on every lane (R252). -/
def sendMarker (c : Chip) (l : Nat) : Chip :=
  Chip.emit (c.modLink l (fun x => { x with markers := x.markers + 1 })) (.marker l markerLanes)

/-- STV_LANES_LOCKED (Table 8.7, R297, R301): ALIGN once four lanes of an aligned group lock and equalise; lanes of the port that lock and equalise, by physical lane. -/
def stvLanesLocked (l : Nat) (lanes : BitVec 16) (c : Chip) : Chip :=
  let x := c.link l
  if !linkExists c l ∨ x.state ≠ .phy ∨ c.test.portsOut.contains (portXbar (linkPort c l)) then c
  else
    let up := (List.range 16).filter (fun i => lanes.getLsbD i && laneFree c (stvLane c l i))
    let rt := stvRate x.rate
    let c := up.foldl (fun c i => c.modLane (stvLane c l i) (fun y =>
      { y with signal := true, cdrLock := true, eqDone := true, bad := false, rate := rt, saved := addOnce y.saved rt })) c
    let group := (List.range 4).any (fun g => (List.range 4).all (fun i => up.contains (4 * g + i)))
    if !group then c else sendMarker (reach c l .align) l

/-- What a marker shows, by physical lane: its logical lane, if it is one, and whether the lane is inverted. -/
abbrev SeenLane : Type := Nat × Option (Bool × Nat)

/-- A lane whose marker is good and names a logical lane that no other lane names (R252, R299). -/
def goodLane (ms : List SeenLane) (m : SeenLane) : Bool :=
  match m.2 with
  | none => false
  | some (_, k) => (ms.filter (fun n => match n.2 with
    | some (_, j) => j == k
    | none => false)).length == 1

/-- MARKERS_DESKEWED (R252, R299): the markers received, by physical lane. -/
def markersDeskewed (l : Nat) (marks : List LaneMark) (c : Chip) : Chip :=
  if !linkExists c l ∨ (c.link l).state ≠ .align then c
  else
    let ms : List SeenLane := (marks.filter (fun m =>
      decide (m.lane < 16) && laneFree c (stvLane c l m.lane) && !(c.lane (stvLane c l m.lane)).bad)).map
        (fun m => (m.lane, readMarker m.nibbles))
    let ok := (ms.filter (goodLane ms)).filterMap (fun m => m.2.map (fun r => (m.1, r.1, r.2)))
    let c := if ok.length < ms.length then raise c 182 (srcInfo 1 (linkPort c l)) else c
    let c := ok.foldl (fun c m => c.modLane (stvLane c l m.1) (fun y => { y with inverted := m.2.1, logical := m.2.2 })) c
    let rx : BitVec 16 := BitVec.ofNat 16 (ok.foldl (fun n m => n + 2 ^ m.2.2) 0)
    if (List.range 7).any (fun g => groupIn g rx) then
      let c := reach c l .config
      c.modLink l (fun x => { trainFresh x with rxLanes := rx, markers := x.markers })
    else c.modLink l (fun x => { x with rxLanes := rx })

/-! ### CONFIG (R253, R254) -/

/-- RESUME of an end: it holds a record of this peer with the same SERIAL and EPOCH (Table 8.8). -/
def ownResume (x : StvLink) : Bool :=
  match x.lastProp with
  | none => false
  | some t => x.hasRecord && !x.fresh && x.peerSerial == t.serial.toNat && x.peerEpoch == t.epoch.toNat

/-- CAPS (Table 8.8): the rates allowed, IDE capable, IDE required; the rate loop may advertise only 64 GT/s (R467), and thermal
step 2 advertises only that, whatever RATE_MIN holds (Table 18.4). -/
def ownCaps (x : StvLink) : BitVec 4 :=
  BitVec.ofNat 4 (nat1 (!x.rateMin || x.therm64) + 2 * nat1 (x.rateMax && !x.loop64 && !x.therm64) + 4 + 8 * nat1 x.ideReq)

/-- The training sequence this end sends. -/
def ownTrain (c : Chip) (l : Nat) : TrainSeq :=
  let x := c.link l
  { serial := c.regs.serial, epoch := BitVec.ofNat 32 c.stv.epoch, link := l, phase := x.phase,
    countdown := if x.phase = 2 then x.countdown else 0, caps := ownCaps x, rxLanes := x.rxLanes,
    chosen := if x.phase = 0 then 0 else x.chosen, resume := ownResume x, rxExpected := x.expected }

/-- R253 step 3: what the leader chooses. -/
def choose (x : StvLink) (t : TrainSeq) : Option (BitVec 5) :=
  let own := ownCaps x
  let both := x.rxLanes &&& t.rxLanes
  let ide := own.getLsbD 3 || t.caps.getLsbD 3
  let rate : Option Nat := if own.getLsbD 1 && t.caps.getLsbD 1 then some 1
    else if own.getLsbD 0 && t.caps.getLsbD 0 then some 0 else none
  let g := (List.range 7).find? (fun g => groupIn g both && decide (groupWidth g ≤ x.widthMin))
  match g, rate with
  | some g, some r => if ide && !t.caps.getLsbD 2 then none else some (BitVec.ofNat 5 (g + 8 * r + 16 * nat1 ide))
  | _, _ => none

/-- The group, rate and IDE of CHOSEN. -/
abbrev chosenGroup (v : BitVec 5) : Nat := v.toNat % 8
abbrev chosenRate (v : BitVec 5) : Bool := v.getLsbD 3
abbrev chosenIde (v : BitVec 5) : Bool := v.getLsbD 4

/-- The devices one hop away over a link: its peer (R238). -/
def peersOf (c : Chip) (l : Nat) : List Nat :=
  (c.sw.fabric.filter (fun e => feValid e.2 && !feLocal e.2 && feHops e.2 == 1 &&
    (List.range 4).any (fun j => feLink e.2 j == l))).foldl (fun ds e => addOnce ds (deviceOf e.1)) []

/-- A packet of the replay store is queued again at the head of its lane, under new permits (R254): R74 admits its cells, one that
arrived on a Stolevo Link goes to spill for the rest (R78), another waits (R75). -/
def queueAgain (c : Chip) (q : QPkt) : Chip :=
  let q0 : QPkt := { q with moved := 0, places := [], spilled := 0, unplaced := 0, taken := 0, whole := true, noCredit := true }
  let c := if q.fromStv then debitPool c q.srcDev q.path q.cls.code q.cells (q.sc == 0) else c
  let (c, q1, rest) := admitCells q.cells c q0
  let (c, q1) := if q.fromStv then spillWrite c q1 rest else (c, { q1 with unplaced := rest })
  let put : List QPkt → List QPkt := fun lane => match lane with
    | [] => [q1]
    | h :: t => if 0 < h.moved then h :: q1 :: t else q1 :: h :: t
  { c with sw := { c.sw with voq := c.sw.voq.upd (laneOf q1) put } }

/-- R255: a permit message that was not delivered, at a fresh start. -/
def permitAgain (c : Chip) (e : PermitOut) : Chip :=
  let m := e.m
  match e.kind with
  | .req => c
  | .ret => match routeLink c m.dst m.path with
    | none => c
    | some l => sendPermit c l .ret m 0
  | .grant =>
    let c := creditPool c m.src m.path m.cls e.debited m.sc0
    if e.debited = 0 ∨ m.dst = ownId c then c
    else match routeLink c m.dst m.path with
      | none => c
      | some l => sendPermit c l .ret { m with count := e.debited } 0

/-- Permit messages of replay entries, oldest first. -/
def permitLoads (es : List StvEntry) : List PermitOut :=
  es.flatMap (fun e => match e.load with
    | .permits ms => ms
    | .packet _ _ _ => [])

/-- Two copies of one packet. -/
abbrev samePkt (a b : QPkt) : Bool := a.pid == b.pid && a.seq == b.seq

/-- Packets of replay entries, oldest first, each once. -/
def packetLoads (es : List StvEntry) : List QPkt :=
  es.foldl (fun qs e => match e.load with
    | .permits _ => qs
    | .packet q _ _ => if qs.any (samePkt q) then qs else qs ++ [q]) []

/-- The cells that leave with a replay entry credit their permits (R83): they have gone onto the next link. -/
def creditEntry (c : Chip) (e : StvEntry) : Chip :=
  match e.load with
  | .packet q _ _ => permitLeaves c q e.done false
  | .permits _ => c

/-- R85: the cells of a packet that its link holds unsent credit their permits. -/
def creditUnsent (ide : Bool) (c : Chip) (q : QPkt) : Chip := permitLeaves c q (q.cells - linkTaken ide q) false

/-- R239: the header of an incomplete packet credits its permits. -/
def creditHeader (c : Chip) (h : StvHeader) (cls : Nat) : Chip :=
  creditPool c h.srcDev h.path cls (ceilDiv h.bytes 256) (h.sc == 0)

/-- A reassembly context is abandoned. -/
def dropContext (c : Chip) (r : Reassembly) : Chip := if r.busy ∧ !r.drop then creditHeader c r.header r.cls else c

/-- R254, R242: a replay entry whose SEQ does not lie before the peer's RX_EXPECTED. -/
def undelivered (exp : Nat) (e : StvEntry) : Bool := decide ((e.head.seq + 65536 - exp) % 65536 < 2048)

/-- The link's keys are discarded (R503). -/
def StvLink.noKeys (x : StvLink) : StvLink :=
  { x with keysTx := [], keysRx := [], haveTx := [], haveRx := [], txSet := 0, rxSet := 0, goArmed := none, ideOn := false,
           keyUsed := false }

/-- R254: the fresh start of a link whose replay entries before `exp` were delivered, unless the peer has restarted. Keys under which a
flit has gone out are discarded: sequence and wrap start at 0 again, and no counter value is used twice (R259). -/
def freshStart (c : Chip) (l exp : Nat) (restarted : Bool) : Chip :=
  let x := c.link l
  let lost := x.replay.filter (fun e => restarted || undelivered exp e)
  let begun := (x.sendSc0 ++ x.sendData).filter (fun q => decide (0 < q.taken))
  let again := packetLoads lost
  let again := again ++ begun.filter (fun q => !again.any (samePkt q))
  let rest : List QPkt → List QPkt := fun qs => qs.filter (fun q => !again.any (samePkt q))
  let y : StvLink := { x with nextSeq := 0, expected := 0, seenSeq := 0, held := [], txWrap := 0, rxWrap := 0, replay := [],
                              dataCtx := {}, sc0Ctx := {}, sendSc0 := rest x.sendSc0, sendData := rest x.sendData }
  let c := c.setLink l (if x.keyUsed then y.noKeys else y)
  let c := dropContext (dropContext c x.dataCtx) x.sc0Ctx
  let c := begun.foldl (creditUnsent x.ideOn) (x.replay.foldl creditEntry c)
  let c := again.reverse.foldl queueAgain c
  (permitLoads lost).foldl permitAgain c

/-- R254: a resume. -/
def resumeStart (c : Chip) (l exp : Nat) : Chip :=
  let x := c.link l
  let keep := x.replay.filter (undelivered exp)
  let c := (x.replay.filter (fun e => !undelivered exp e)).foldl creditEntry c
  c.modLink l (fun x =>
    { x with replay := keep.map (fun e => { e with nacked := true, since := c.ivl, resent := none }), held := [],
             seenSeq := x.expected })

/-- LINK_START (R254, R256, R260, R503): the READY countdowns are complete and the link enters ACTIVE. -/
def linkStart (c : Chip) (l : Nat) : Chip :=
  let x := c.link l
  match x.lastProp with
  | none => c
  | some t =>
    let changed := x.hasRecord && x.peerSerial != t.serial.toNat
    let restarted := x.hasRecord && !changed && x.peerEpoch != t.epoch.toNat
    let c := if changed then
        (List.range 16).foldl (fun c i => c.modLane (stvLane c l i) (fun y => { y with saved := [] }))
          (raise c 157 (linkInfo l))
      else c
    let c := if restarted then
        (peersOf c l).foldl peerRestarted (raise (c.modLink l (fun y => { y with restart := true })) 151 (linkInfo l))
      else c
    let c := if ownResume x && x.peerResume then resumeStart c l x.peerExpected
      else freshStart c l x.peerExpected restarted
    let g := chosenGroup x.chosen
    let now := c.ivl
    let c := if changed ∨ restarted then c.modLink l StvLink.noKeys else c
    let y := c.link l
    let keys := !y.haveTx.isEmpty && !y.haveRx.isEmpty
    let c := reach (c.modLink l (fun y =>
      { y with group := g, rate := chosenRate x.chosen, ideOn := chosenIde x.chosen && keys,
               peerSerial := t.serial.toNat, peerEpoch := t.epoch.toNat, hasRecord := true, fresh := false,
               ackAt := now, goodAt := now, crcBad := 0, crcAt := now,
               repeatAck := false })) l .active
    let c := (List.range 16).foldl (fun c i => c.modLane (stvLane c l i) (fun y =>
      { y with inUse := y.cdrLock && bitOf (groupMask g) y.logical, rate := stvRate (chosenRate x.chosen) })) c
    let c := restorePaths c l
    let c := if g ≠ 0 then raise c 146 (linkInfo l) else c
    let c := if portHasFlow c (linkPort c l) ∧ (g ≠ 0 ∨ (x.rateMax ∧ !chosenRate x.chosen)) then
      raise c 80 (srcInfo 1 (linkPort c l)) else c
    if x.ideReq ∧ !keys then raise c 153 (linkInfo l) else c

/-- Both countdowns have passed (R253 step 6). -/
def tryStart (c : Chip) (l : Nat) : Chip :=
  let x := c.link l
  if x.state = .config ∧ x.phase = 2 ∧ x.ownDone ∧ x.peerCount = some 0 then linkStart c l else c

/-- The chosen rate differs from the current one: PHY at that rate (Table 8.7, R299). -/
def toRate (c : Chip) (l : Nat) (fast : Bool) : Chip :=
  (reach c l .phy).modLink l (fun x => { trainFresh x with rate := fast })

/-- A TRAIN flit received in CONFIG (R253). -/
def trainConfig (c : Chip) (l : Nat) (t : TrainSeq) : Chip :=
  let x := c.link l
  let own := c.regs.serial.toNat
  let same := x.lastProp == some t
  let x1 : StvLink := { x with lastProp := some t, peerResume := t.resume, peerExpected := t.rxExpected }
  if x.phase = 0 then
    if t.phase = 0 then
      if !same then c.setLink l x1
      else if t.serial.toNat = own then raise (linkHeld (c.setLink l x1) l) 150 (linkInfo l)
      else if own < t.serial.toNat then
        match choose x1 t with
        | none => c.setLink l x1
        | some v => c.setLink l { x1 with phase := 1, leader := true, chosen := v }
      else c.setLink l x1
    else if t.phase = 1 ∧ t.serial.toNat < own ∧ groupIn (chosenGroup t.chosen) x.rxLanes ∧
        groupWidth (chosenGroup t.chosen) ≤ x.widthMin then
      c.setLink l { x1 with phase := 1, leader := false, chosen := t.chosen }
    else c
  else if x.phase = 1 then
    if x.leader then
      if t.phase = 1 ∧ t.chosen = x.chosen then
        if chosenRate x.chosen ≠ x.rate then toRate c l (chosenRate x.chosen)
        else c.setLink l { x1 with phase := 2, countdown := 7 }
      else c
    else if t.phase = 2 then
      tryStart (c.setLink l { x1 with phase := 2, countdown := 7, peerCount := some t.countdown }) l
    else c
  else if t.phase = 2 then tryStart (c.setLink l { x1 with peerCount := some t.countdown }) l
  else c

/-- A TRAIN flit that passed R237 (Table 8.7). -/
def takeTrain (c : Chip) (l : Nat) (t : TrainSeq) : Chip :=
  match (c.link l).state with
  | .active => retrainLink c l
  | .config => trainConfig c l t
  | .phy | .align | .downHeld | .removed => c

/-! ### Acknowledgement and retransmission (R244) -/

/-- An entry of the replay store is to be sent again. -/
def markNacked (es : List StvEntry) (seq : Nat) (guarded : StvEntry → Bool) : List StvEntry :=
  es.map (fun e => if e.head.seq = seq ∧ !guarded e then { e with nacked := true } else e)

/-- RESEND_GUARD in ticks (R244). -/
def resendGuard (x : StvLink) : Nat := if x.measured then 2 * x.delay + ns 200 else us 2

/-- ACK and SNACK of a received flit (R244). The permits of the cells that the freed entries carried are credited (R83, R85). -/
def takeAck (c : Chip) (l ack : Nat) (snack : BitVec 16) : Chip :=
  let x := c.link l
  let oldest := (x.nextSeq + 65536 - x.replay.length) % 65536
  let k := (ack + 1 + 65536 - oldest) % 65536
  let beyond := decide (x.replay.length < k) && decide (k < 32768)
  let n := if k ≤ x.replay.length then k else 0
  let x1 : StvLink := if 0 < n then { x with replay := x.replay.drop n, ackAt := c.ivl } else x
  let guarded : StvEntry → Bool := fun e => match e.resent with
    | none => false
    | some t => !c.past t (resendGuard x)
  let es := (List.range 16).foldl (fun es b =>
    if snack.getLsbD b then markNacked es ((ack + 1 + b) % 65536) guarded else es) x1.replay
  if beyond then raise c 154 (linkInfo l)
  else (x.replay.take n).foldl creditEntry (c.setLink l { x1 with replay := es })

/-- ACK_TIMEOUT_EXPIRE (R244). -/
def ackTimeoutExpire (l : Nat) (c : Chip) : Chip :=
  let x := c.link l
  match x.replay with
  | [] => c
  | e :: t =>
    if !linkExists c l ∨ x.state ≠ .active ∨ !c.past (max x.ackAt e.since) (us x.ackTime) then c
    else
      let c := c.setLink l { x with replay := { e with nacked := true } :: t, ackAt := c.ivl }
      raise (bumpCnt c l 4 1) 156 (linkInfo l)

/-- REPLAY_AGE_EXPIRE (R246). -/
def replayAgeExpire (l : Nat) (c : Chip) : Chip :=
  let x := c.link l
  match x.replay with
  | [] => c
  | e :: _ =>
    if !linkExists c l ∨ x.state ≠ .active ∨ !c.past e.since (us x.replayAge) then c
    else retrainLink (raise c 147 (linkInfo l)) l

/-! ### Receiving (R237–R243) -/

/-- A sequenced type. -/
def isSeqType (t : Nat) : Bool := t == 2 || decide (8 ≤ t)

/-- A CLASS that fits its TYPE (R251, Tables 8.3, 8.4). -/
def classFits (t cls : Nat) : Bool := if t ≤ 4 then cls == 15 else decide (cls ≤ 9)

/-- A discarded packet gives back what its cells in the buffer hold: places, link credits, permits, spill. -/
def discardPkt (c : Chip) (q : QPkt) : Chip :=
  let c := q.places.foldl (fun c pl => freePlace c q.input q.sc q.cls.code pl) c
  let left := q.cells - q.moved
  let c := if q.fromStv then creditPool c q.srcDev q.path q.cls.code left (q.sc == 0)
    else if q.input < 32 ∧ !q.noCredit then (List.range left).foldl (fun c _ => giveBack c q.port q.cls.code) c else c
  offerAll { c with sw := { c.sw with spill := c.sw.spill - q.spilled } } q.input

/-- The lanes without the packets that `p` picks; an arbiter that carried one of them is free again. -/
def dropQueued (c : Chip) (p : QPkt → Bool) : Chip × List QPkt :=
  let out := c.sw.voq.flatMap (fun l => l.2.filter p)
  let voq := c.sw.voq.filterMap (fun l =>
    let r := l.2.filter (fun q => !p q)
    if r.isEmpty then none else some (l.1, r))
  let gone : Carry → Bool := fun k => out.any (fun q => q.pid == k.pid && laneOf q == k.lane)
  let free : Arbiter → Arbiter := fun a => match a.carry with
    | some k => if gone k then { a with carry := none } else a
    | none => a
  let c := out.foldl discardPkt { c with sw := { c.sw with voq := voq } }
  let hit := (List.range 38).filter (fun o => match (c.arb o).carry with
    | some k => gone k
    | none => false)
  (hit.foldl (fun c o => c.modArb o free) c, out)

/-- R251: the packet of a discarded flit is dropped and its permits are credited. -/
def dropCarried (c : Chip) (h : StvHeader) (cls : Nat) (cells : List (Nat × Nat)) : Chip :=
  let (c, out) := dropQueued c (fun q => q.fromStv && cells.any (fun k => k.1 == q.pid) && q.moved == 0)
  if out.isEmpty then creditHeader c h cls else c

/-- The messages of a control flit are taken in (R248); an unknown one raises 154. -/
def takeMessages (c : Chip) (l : Nat) (sequenced : Bool) (payload : List Byte) : Chip :=
  let r := messagesOf sequenced (ctrlSlots (c.link l).ideOn sequenced) payload
  let c := c.modLink l (fun x => { x with inbox := x.inbox ++ r.1 })
  if r.2 then raise c 154 (linkInfo l) else c

/-- One flit is released in order (R239, R242). -/
def releaseFlit (c : Chip) (l : Nat) (h : StvHeld) : Chip :=
  if h.head.typ = 2 then (if h.drop then c else takeMessages c l true h.payload)
  else
    let x := c.link l
    let typ := h.head.typ
    let sc0 := decide (12 ≤ typ)
    let ctx := if sc0 then x.sc0Ctx else x.dataCtx
    let first := typ % 4 == 0 || typ % 4 == 3
    let last := decide (2 ≤ typ % 4)
    let hdr := parseHeader (h.payload.take 16)
    let broken := (ctx.busy && first) || (!ctx.busy && !first) || (!sc0 && x.sc0Ctx.busy)
    let bad := h.drop || broken
    let ctx' : Reassembly := if last then {}
      else if first then { busy := true, header := hdr, cls := h.head.cls, drop := bad }
      else { ctx with drop := ctx.drop || bad }
    let c := c.setLink l (if sc0 then { x with sc0Ctx := ctx' } else { x with dataCtx := ctx' })
    let c := if broken then raise c 154 (linkInfo l) else c
    let c := if bad ∧ ctx.busy ∧ !ctx.drop then dropCarried c ctx.header ctx.cls h.carries else c
    if bad ∧ first then dropCarried c hdr h.head.cls h.carries else c

/-- Every flit that now follows in order is released (R242). -/
def releaseRun : Nat → Chip → Nat → Chip
  | 0, c, _ => c
  | n + 1, c, l =>
    let x := c.link l
    match x.held.find? (fun h => h.head.seq == x.expected) with
    | none => c
    | some h =>
      let x' : StvLink := { x with held := x.held.filter (fun k => k.head.seq ≠ h.head.seq), expected := (x.expected + 1) % 65536,
                                   rxWrap := if x.expected = 65535 then x.rxWrap + 1 else x.rxWrap }
      releaseRun n (releaseFlit (c.setLink l x') l h) l

/-- The highest sequence number seen (R242). -/
def seenTo (x : StvLink) (seq : Nat) : StvLink :=
  if (x.seenSeq + 65536 - x.expected) % 65536 < (seq + 65536 - x.expected) % 65536 ∧ (seq + 65536 - x.expected) % 65536 ≤ 2048
  then { x with seenSeq := seq } else x

/-- R242: a sequenced flit, its payload in clear. `drop`: it is discarded under R251, and still accepted for sequence purposes. -/
def takeSeq (c : Chip) (l : Nat) (h : StvHeld) : Chip :=
  let x := c.link l
  let off := (h.head.seq + 65536 - x.expected) % 65536
  if 2048 ≤ off then (bumpCnt c l 5 1).modLink l (fun y => { y with repeatAck := true })
  else if x.held.any (fun k => k.head.seq == h.head.seq) then c
  else
    let x := seenTo { x with held := x.held ++ [h] } ((h.head.seq + 1) % 65536)
    let c := releaseRun (x.held.length + 1) (c.setLink l x) l
    c.modLink l (fun y => if (y.seenSeq + 65536 - y.expected) % 65536 ≤ 2048 then y else { y with seenSeq := y.expected })

/-- R242: the SNACK field a receiver sends. -/
def snackOf (x : StvLink) : Nat :=
  let seen := (x.seenSeq + 65536 - x.expected) % 65536
  (List.range 16).foldl (fun n k =>
    if k < seen ∧ !x.held.any (fun h => h.head.seq == (x.expected + k) % 65536) then n + 2 ^ k else n) 0

/-- R68: cells of a flit with a bad verdict are tail-marked, with source 66 where a copy of one is still on the device. -/
def badCells (c : Chip) (cells : List (Nat × Nat)) (info : DWord) : Chip :=
  if (allQueued c).any (fun q => cells.any (fun k => q.holds k.1)) then raise (markTail c cells) 66 info else c

/-- R237 steps 1 and 2: a discarded flit; CRC_LIMIT within 1 ms retrains the link (Table 8.7). -/
def flitDiscarded (c : Chip) (l n : Nat) (cells : List (Nat × Nat)) : Chip :=
  let c := bumpCnt c l n 1
  let x := c.link l
  let fresh := c.past x.crcAt (ms 1)
  let k := if fresh then 1 else x.crcBad + 1
  let c := c.setLink l { x with crcBad := k, crcAt := if fresh then c.ivl else x.crcAt }
  let c := badCells c cells (linkInfo l)
  if x.state = .active ∧ x.crcLimit < k then retrainLink (raise c 148 (linkInfo l)) l else c

/-- R260: a failed tag; 16 within 1 s take the link down until new keys are programmed. -/
def authFail (c : Chip) (l : Nat) : Chip :=
  let c := bumpCnt c l 8 1
  let x := c.link l
  let fresh := x.authBad == 0 || c.past x.authAt (sec 1)
  let k := if fresh then 1 else x.authBad + 1
  let c := c.setLink l { x with authBad := k, authAt := if fresh then c.ivl else x.authAt }
  if 16 ≤ k then
    raise (linkHeld (c.modLink l (fun y => { y with authBad := 0, authDown := true, freshKey := [] })) l) 152 (linkInfo l)
  else c

/-- R259: the index of a sequenced flit under IDE, wrap count × 65,536 + SEQ; the wrap count follows from EXPECTED under the window
of R242. -/
def rxIndex (x : StvLink) (seq : Nat) : Nat :=
  let ahead := decide ((seq + 65536 - x.expected) % 65536 < 2048)
  let wrap := if ahead then (if seq < x.expected then x.rxWrap + 1 else x.rxWrap)
    else if x.expected < seq then x.rxWrap - 1 else x.rxWrap
  wrap * 65536 + seq

/-- The payload of a flit in clear (R237 step 4): none where R259 requires a tag and it fails, or no key of its KEY_SET is
programmed (R258). -/
def clearPayload (x : StvLink) (h : FlitHead) (payload : List Byte) : Option (List Byte) :=
  let set := nat1 h.keySet
  let key := x.keysRx.look set
  if !x.ideOn ∨ !(isSeqType h.typ ∨ h.typ = 3) then some payload
  else if !x.haveRx.contains set then none
  else if h.typ = 3 then (if unseqGood key h payload then some payload else none)
  else openSeq key (rxIndex x h.seq) h payload

/-- R237 step 5: a flit is acted on by TYPE. -/
def actOnFlit (c : Chip) (l : Nat) (h : FlitHead) (payload : List Byte) (f : WireFlit) : Chip :=
  let x := c.link l
  let out := decide (x.state ≠ .active)
  let snack := BitVec.ofNat 16 h.snack
  if 5 ≤ h.typ ∧ h.typ ≤ 7 then raise c 154 (linkInfo l)
  else if h.typ = 4 then (if h.cls = 15 then takeTrain c l (parseTrain payload) else raise c 154 (linkInfo l))
  else if isSeqType h.typ then
    let drop := out || !classFits h.typ h.cls
    let c := if drop then raise c 154 (linkInfo l) else takeAck c l h.ack snack
    let c := c.modLink l (fun y => { y with rxSet := if drop then y.rxSet else nat1 h.keySet })
    let c := if drop then c else lastCells (if h.poison then poisonPkts c f.carries else c) f.ends
    takeSeq c l { head := h, payload := payload, drop := drop, carries := f.carries }
  else if !classFits h.typ h.cls ∨ (out ∧ h.typ = 3) then raise c 154 (linkInfo l)
  else if out then c
  else
    let c := takeAck c l h.ack snack
    if h.typ = 0 then c.modLink l (fun y => seenTo y h.seq) else takeMessages c l false payload

/-- A wire flit received as bytes (R237). -/
def takeWire (c : Chip) (l : Nat) (ws : List Byte) (f : WireFlit) : Chip :=
  match checkFlit ws with
  | .uncorrectable => flitDiscarded c l 1 f.carries
  | .crcError n => flitDiscarded (bumpCnt c l 0 n) l 2 f.carries
  | .good n h payload =>
    let c := (bumpCnt c l 0 n).modLink l (fun x => { x with goodAt := c.ivl })
    if h.typ = 1 then bumpCnt c l 7 1
    else match clearPayload (c.link l) h payload with
      | none => authFail c l
      | some clear => actOnFlit c l h clear f

/-- The logical lanes on which wire flits arrive: the group in use; in CONFIG the chosen one, once the peer's countdown has passed
(R253 step 6); 0 where none do. -/
def rxWidth (x : StvLink) : Nat :=
  match x.state with
  | .active => groupLanes x.group
  | .config => if x.peerCount = some 0 then groupLanes (chosenGroup x.chosen) else 0
  | .phy | .align | .downHeld | .removed => 0

/-- STV_FLIT_RECEIVE (R231–R244, R251, R259). Messages and packets are acted on by commands of their own. A flit on lanes that the
link does not use is seen only as noise that no decoder reads. -/
def stvFlitReceive (l : Nat) (f : WireFlit) (c : Chip) : Chip :=
  let x := c.link l
  if !linkExists c l ∨ f.lanes.length ≠ rxWidth x ∨ f.lanes.isEmpty then c
  else takeWire c l (fromLanes f.lanes) f

/-- TRAIN_FLIT (R252, R253): a TRAIN flit in full on four logical lanes, those of group 3 + `f.group`, which the receiver has
aligned. -/
def trainFlit (l : Nat) (f : TrainIn) (c : Chip) : Chip :=
  let x := c.link l
  let seen := match x.state with
    | .active => true
    | .config => groupIn (3 + f.group) x.rxLanes
    | .phy | .align | .downHeld | .removed => false
  if !linkExists c l ∨ 4 ≤ f.group ∨ f.lanes.length ≠ 4 ∨ !seen then c
  else match checkFlit (fromLanes f.lanes) with
    | .good n h _ => if h.typ = 4 ∨ h.typ = 1 then takeWire c l (fromLanes f.lanes) {} else bumpCnt c l 0 n
    | .uncorrectable | .crcError _ => takeWire c l (fromLanes f.lanes) {}

/-! ### Sending (R233, R238, R241, R247) -/

/-- A flit goes out at a width; `bad`: its CRC-64 is inverted (R70). -/
def emitFlit (c : Chip) (l w : Nat) (h : FlitHead) (payload : List Byte) (bad : Bool) : Chip :=
  c.emit (.flit l (toLanes w (wireBytes h payload bad)))

/-- The count of wire flits since the last FILLER (R233). -/
def countFiller (x : StvLink) (filler : Bool) : StvLink := { x with sinceFiller := if filler then 0 else x.sinceFiller + 1 }

/-- The header of a FILLER: every field except TYPE is 0 (Table 8.3). -/
abbrev fillerHead : FlitHead := { typ := 1 }

/-- ACK and SNACK in an outgoing header (R242). -/
def withAck (x : StvLink) (h : FlitHead) : FlitHead := { h with ack := (x.expected + 65535) % 65536, snack := snackOf x }

/-- A flit other than a FILLER goes out on an ACTIVE link. -/
def sendFlit (c : Chip) (l : Nat) (h : FlitHead) (payload : List Byte) (bad : Bool) : Chip :=
  let x := c.link l
  emitFlit (c.setLink l { countFiller x false with repeatAck := false }) l (groupLanes x.group) (withAck x h) payload bad

/-- A new sequenced flit enters the replay store (R241), sealed while IDE is active (R259); KEY_SET_GO takes effect with it (R258). -/
def sendSeq (c : Chip) (l typ cls hop : Nat) (poison bad : Bool) (payload : List Byte) (load : StvLoad) (cells : List Nat)
    (done : Nat) : Chip :=
  let x := c.link l
  let set := x.goArmed.getD x.txSet
  let h : FlitHead := { seq := x.nextSeq, typ := typ, cls := cls, poison := poison, keySet := set == 1, hop := hop }
  let payload := padTo 240 payload
  let payload := if x.ideOn then sealSeq (x.keysTx.look set) (x.txWrap * 65536 + x.nextSeq) h payload else payload
  let e : StvEntry := { head := h, payload := payload, load := load, cells := cells, done := done, since := c.ivl, bad := bad }
  let c := c.setLink l { x with replay := x.replay ++ [e], nextSeq := (x.nextSeq + 1) % 65536, txSet := set, goArmed := none,
                                txWrap := if x.nextSeq = 65535 then x.txWrap + 1 else x.txWrap,
                                keyUsed := x.keyUsed || x.ideOn }
  let c := if poison then bumpCnt c l 9 1 else c
  sendFlit c l h payload bad

/-- A packet's flit TYPE (Table 8.3). -/
def packetType (sc0 first last : Bool) : Nat :=
  (if sc0 then 12 else 8) + (if first && last then 3 else if first then 0 else if last then 2 else 1)

/-- The packet header that goes out with a packet (Table 8.5). -/
def headerOf (q : QPkt) : StvHeader :=
  { dst := q.dst, src := q.srcId, path := q.path, sc := q.sc, guarded := q.guarded, reissue := q.reissue, bytes := q.bytes,
    tag := q.tag, oldest := q.oldest, tenant := q.tenant, srcDev := q.srcDev }

/-- The cells with bytes in flit `k` of a packet on a link (R54, R238). -/
def linkFlitCells (ide : Bool) (q : QPkt) (k : Nat) : List Nat := spanCells (stvSpan ide q.bytes k)

/-- The next flit carries a tail-marked cell. -/
def nextMarked (ide : Bool) (q : QPkt) : Bool := (linkFlitCells ide q q.taken).any q.tails.contains

/-- A packet waits for its good copy from now on (R71). -/
def stompFrom (c : Chip) (p seq : Nat) (q : QPkt) : Chip :=
  if (c.sw.stomped.look p).any (fun s => s.pid == q.pid) then c
  else
    let st : Stomp := { pid := q.pid, since := c.ivl, seq := seq, pkt := q }
    { c with sw := { c.sw with stomped := c.sw.stomped.upd p (· ++ [st]) } }

/-- The next flit of the packet at the head of one stream (R238); with a tail-marked cell it goes with its CRC inverted (R70). -/
def sendPacketFlit (c : Chip) (l : Nat) (sc0 : Bool) (q : QPkt) : Chip :=
  let x := c.link l
  let n := stvFlits x.ideOn q.bytes
  let q' := { q with taken := q.taken + 1 }
  let first := q.taken == 0
  let last := decide (n ≤ q'.taken)
  let bad := nextMarked x.ideOn q
  let qs := if sc0 then x.sendSc0 else x.sendData
  let qs' := if last then qs.drop 1 else q' :: qs.drop 1
  let c := c.setLink l (if sc0 then { x with sendSc0 := qs' } else { x with sendData := qs' })
  let p := linkPort c l
  let c := if bad then stompFrom c p x.nextSeq q else c
  let c := sendSeq c l (packetType sc0 first last) q.cls.code q.hop q.poison bad
    (packetPayload x.ideOn (headerOf q) q.body q.taken) (.packet q q.taken n) (linkFlitCells x.ideOn q q.taken)
    (linkTaken x.ideOn q' - linkTaken x.ideOn q)
  if last then packetSent c p q' else c

/-- Slots of a CTRL_UNSEQ flit; a TIME_RSP takes two (R248, R259). -/
def unseqFit : Nat → List (Nat × Nat × DWord) → List (Nat × Nat × DWord)
  | _, [] => []
  | n, u :: t => let k := if u.1 = 1 then 2 else 1
    if n < k then [] else u :: unseqFit (n - k) t

/-- The time message that is due (R250): T1 and T3 are the Fabric Time of its flit. -/
def timeMessage (c : Chip) (u : Nat × Nat × DWord) : CtrlMsg :=
  if u.1 = 0 then .timeReq u.2.1 c.ft.count
  else if u.1 = 1 then .timeRsp u.2.1 u.2.2 c.ft.count
  else .announce c.ft.cls c.ft.hops (c.ft.frameTrace && c.ft.source == .sync) (BitVec.ofNat 64 c.ft.root)

/-- A TIME_REQ that goes out opens its exchange (R250). -/
def openExchange (c : Chip) (l : Nat) (u : Nat × Nat × DWord) : Chip :=
  if u.1 ≠ 0 then c
  else
    let x : FtExchange := { active := true, exchId := u.2.1, t1 := c.now, since := c.ivl }
    { c with ft := { c.ft with exch := c.ft.exch.put l x } }

/-- A CTRL_UNSEQ flit; under IDE it carries a counter and its tag (R259). -/
def sendUnseq (c : Chip) (l : Nat) : Chip :=
  let x := c.link l
  let go := unseqFit (ctrlSlots x.ideOn false) x.unseq
  let h := withAck x { typ := 3, cls := 15, keySet := x.ideOn && x.txSet == 1 }
  let clear := padTo 240 (go.flatMap (fun u => (timeMessage c u).pack))
  let payload := if x.ideOn then sealUnseq (x.keysTx.look x.txSet) x.ctrUnseq h clear else clear
  let c := c.setLink l { x with unseq := x.unseq.drop go.length, ctrUnseq := if x.ideOn then x.ctrUnseq + 1 else x.ctrUnseq,
                                keyUsed := x.keyUsed || x.ideOn }
  go.foldl (fun c u => openExchange c l u) (sendFlit c l h payload false)

/-- A CTRL_SEQ flit with the permit messages that are ready (R247, R248). -/
def sendControl (c : Chip) (l : Nat) : Chip :=
  let x := c.link l
  let ms := x.permits.take (ctrlSlots x.ideOn true)
  sendSeq (c.setLink l { x with permits := x.permits.drop ms.length }) l 2 15 0 false false
    (ms.flatMap (fun p => (CtrlMsg.permit p.kind p.m).pack)) (.permits ms) [] 0

/-- R247 item 5: a permit message has waited 32 ns, or 15 are ready. -/
def controlDue (c : Chip) (x : StvLink) : Bool :=
  decide (15 ≤ x.permits.length) || (match x.permits with
    | [] => false
    | p :: _ => c.past p.since (ns 32))

/-- A retransmission (R244, R245): nothing but ACK, SNACK and CRC differs. -/
def sendAgain (c : Chip) (l : Nat) (e : StvEntry) : Chip :=
  let x := c.link l
  let es := x.replay.map (fun y => if y.head.seq = e.head.seq then { y with nacked := false, resent := some c.ivl } else y)
  let c := bumpCnt (bumpCnt (c.setLink l { x with replay := es }) l 3 1) l 9 (nat1 e.head.poison)
  sendFlit c l e.head e.payload false

/-- R260: with IDE active a packet whose next flit carries a tail-marked cell waits. -/
def mayEncrypt (x : StvLink) (q : QPkt) : Bool := !(x.ideOn && nextMarked x.ideOn q)

/-- R260, R71: the packets that wait so, and STOMP_HOLD of each. -/
def holdMarked (c : Chip) (l : Nat) : Chip :=
  let x := c.link l
  ((x.sendSc0.head?.toList ++ x.sendData.head?.toList).filter (fun q => !mayEncrypt x q)).foldl
    (fun c q => stompFrom c (linkPort c l) x.nextSeq q) c

/-- The first item of R247 that applies, on an ACTIVE link. An SC0 packet that waits for a good copy lets only control flits and IDLE
into its slots (R260). -/
def transmitActive (c : Chip) (l : Nat) : Chip :=
  let c := holdMarked c l
  let x := c.link l
  let locked := x.ideReq && !x.ideOn
  let room := !locked && decide (x.replay.length < 2048)
  let idle := sendFlit c l { typ := 0, cls := 15, seq := x.nextSeq } [] false
  if 1023 ≤ x.sinceFiller then emitFlit (c.setLink l (countFiller x true)) l (groupLanes x.group) fillerHead [] false
  else match (if locked then none else x.replay.find? (fun e => e.nacked && !e.bad)) with
    | some e => sendAgain c l e
    | none =>
      if !x.unseq.isEmpty then sendUnseq c l
      else if !room then idle
      else match x.sendSc0.head?.filter (mayEncrypt x) with
        | some q => sendPacketFlit c l true q
        | none =>
          if controlDue c x then sendControl c l
          else if !x.sendSc0.isEmpty then idle
          else match x.sendData.head?.filter (mayEncrypt x) with
            | some q => sendPacketFlit c l false q
            | none => idle

/-- A wire flit in full, as at x4, on every group of four logical lanes (R252). -/
def onEveryGroup (h : FlitHead) (payload : List Byte) : List (List Pam4) :=
  (List.replicate 4 (toLanes 4 (wireBytes h payload false))).flatten

/-- The wire flits of CONFIG (R252, R253 step 6): TRAIN on every group of four lanes, a FILLER in every 1,024; after its own COUNTDOWN
0 this end sends at the chosen group, as it will once ACTIVE: IDLE with the sequence numbers of the start to come. -/
def sendConfig (c : Chip) (l : Nat) : Chip :=
  let x := c.link l
  let filler := decide (1023 ≤ x.sinceFiller)
  let c' := c.setLink l (countFiller x filler)
  if x.ownDone then
    let resume := ownResume x && x.peerResume
    let h : FlitHead := if filler then fillerHead
      else { typ := 0, cls := 15, seq := if resume then x.nextSeq else 0,
             ack := if resume then (x.expected + 65535) % 65536 else 65535 }
    emitFlit c' l (groupLanes (chosenGroup x.chosen)) h [] false
  else if filler then c'.emit (.train l (onEveryGroup fillerHead []))
  else c'.emit (.train l (onEveryGroup { typ := 4, cls := 15 } (packTrain (ownTrain c l))))

/-- STV_FLIT_TRANSMIT (R247; R252 and R253 outside ACTIVE): one wire-flit boundary, or one marker in ALIGN and until 64 have been
sent. -/
def stvFlitTransmit (l : Nat) (c : Chip) : Chip :=
  if !linkExists c l then c
  else
    let x := c.link l
    match x.state with
    | .active => transmitActive c l
    | .align => sendMarker c l
    | .config =>
      if x.markers < 64 then sendMarker c l
      else
        let c := sendConfig c l
        let filler := decide (1023 ≤ x.sinceFiller)
        let y := { c.link l with peerCount := x.peerCount.map (· - 1) }
        if x.phase = 2 ∧ !filler then
          tryStart (c.setLink l { y with countdown := x.countdown - 1, ownDone := x.ownDone || x.countdown == 0 }) l
        else if x.phase = 2 then tryStart (c.setLink l y) l
        else if x.phase = 1 ∧ !x.leader ∧ chosenRate x.chosen ≠ x.rate then toRate c l (chosenRate x.chosen)
        else c
    | .phy | .downHeld | .removed => c

/-! ### Timers -/

/-- TRAIN_TIMEOUT_EXPIRE (Table 8.7). -/
def trainTimeoutExpire (l : Nat) (c : Chip) : Chip :=
  let x := c.link l
  let training := x.state == .phy || x.state == .align || x.state == .config
  if !linkExists c l ∨ !training ∨ !c.past x.trainAt (ms x.trainTime) then c
  else raise (linkHeld c l) 149 (linkInfo l)

/-- IDLE_DOWN_EXPIRE (Table 8.7, R39). -/
def idleDownExpire (l : Nat) (c : Chip) : Chip :=
  let x := c.link l
  if !linkExists c l ∨ x.state ≠ .active ∨ !c.past x.goodAt (us x.idleDown) then c
  else raise (linkHeld c l) 144 (linkInfo l)

/-- RETRY_INTERVAL_EXPIRE (Table 8.7); not while the link waits for new keys (R260). -/
def retryIntervalExpire (l : Nat) (c : Chip) : Chip :=
  let x := c.link l
  if !linkExists c l ∨ x.state ≠ .downHeld ∨ x.authDown ∨ !c.past x.stateAt (ms x.retryIvl) then c else startPhy c l

/-! ### The link commands (Table 8.10) -/

/-- A value that the RWC fields of STV_CTL take. -/
def stvCtlOk (v : Nat) : Bool := decide (v < 32) && decide (v / 4 % 4 ≠ 3) && !(bitOf v 0 && !bitOf v 1)

/-- STV_LINK_CONFIG's own checks (R356, R261, STV_CTL). -/
def stvLinkConfigCheck (d : Desc) : Option Status :=
  let v := d.u32 20
  let within : Nat → Nat → Nat → Nat → Bool := fun bit lo hi w => !d.mask bit || (decide (lo ≤ w) && decide (w ≤ hi))
  if !d.zeroBut [(16, 30)] ∨ 128 ≤ d.u32 16 ∨ (d.mask 0 ∧ !stvCtlOk v) then some .badParam
  else if !(within 1 10 10000 (d.u32 24) && within 2 1 50 (d.u32 28) && within 3 1 100 (d.u32 32) &&
      within 4 1 1000 (d.u32 36) && within 5 1 1000 (d.u32 40) && within 6 1 65535 (d.u16 44)) then some .badParam
  else none

/-- The RWC fields of STV_CTL as written. -/
def stvCtlSet (x : StvLink) (v : Nat) : StvLink :=
  { x with rateMin := bitOf v 0, rateMax := bitOf v 1, widthMin := v / 4 % 4, ideReq := bitOf v 4 }

/-- STV_LINK_CONFIG's effect on the stored parameters. -/
def stvLinkConfigDo (c : Chip) (d : Desc) : Chip :=
  c.modLink d.tgt (fun x =>
    let x := if d.mask 0 then stvCtlSet x (d.u32 20) else x
    { x with
      replayAge := if d.mask 1 then d.u32 24 else x.replayAge,
      ackTime := if d.mask 2 then d.u32 28 else x.ackTime,
      idleDown := if d.mask 3 then d.u32 32 else x.idleDown,
      trainTime := if d.mask 4 then d.u32 36 else x.trainTime,
      retryIvl := if d.mask 5 then d.u32 40 else x.retryIvl,
      crcLimit := if d.mask 6 then d.u16 44 else x.crcLimit })

/-- R468: RATE_MIN or RATE_MAX excludes the rate the loop holds: it moves at once. An SC0 link keeps its rate (R467). -/
def rateBoundsGo (c : Chip) (l : Nat) : Chip :=
  let c := c.modLink l (fun x => { x with loop64 := x.loop64 && !x.rateMin })
  let x := c.link l
  let out := (x.rate && !x.rateMax) || (!x.rate && x.rateMin)
  if out ∧ !x.therm64 ∧ !portHasFlow c (linkPort c l) then retrainLink c l else c

def stvLinkConfigGo (c : Chip) (x : CmdRef) (d : Desc) : Chip := endCmd (if d.mask 0 then rateBoundsGo c d.tgt else c) x .ok

/-- STV_LINK_CONFIG. -/
def stvLinkConfig (r : Nat) (d : Desc) (c : Chip) : Chip :=
  runCmd 0x0140 (fun c x => match stvLinkConfigCheck d with
    | some st => refuse c x st
    | none => admitOr c x (flowsRetimed (stvLinkConfigDo c d)) (fun e => stvLinkConfigGo e x d)) r d c

/-- STV_LINK_RETRAIN: it ends with the state reached. -/
def stvLinkRetrain (r : Nat) (d : Desc) (c : Chip) : Chip :=
  runCmd 0x0141 (fun c x =>
    if !d.zeroBut [] then refuse c x .badParam
    else if (c.link d.tgt).state ≠ .active then refuse c x .busy
    else (retrainLink c d.tgt).modLink d.tgt (fun y => { y with retrain := some x })) r d c

/-- BAR0 can be reached (R540, R542): by the management firmware while the fabric die runs, through the endpoint while the
manager port's link is up too. -/
def pathOpen (c : Chip) : Path → Bool
  | .endpoint => c.rst.running && linkUp (c.port c.ports.mgrPort)
  | .firmware => c.rst.running
  | .ld _ | .mctp | .console => false

/-- STV_CTL_RETRAIN: a write of STV_CTL.RETRAIN acts as STV_LINK_RETRAIN, without an event. -/
def stvCtlRetrain (a : Path) (l : Nat) (c : Chip) : Chip :=
  if pathOpen c a ∧ linkExists c l then retrainLink c l else c

/-- CLR_CNT: the error counters of the link are cleared, but for what this core cycle has added (R546). -/
def clrCnt (a : Path) (l : Nat) (c : Chip) : Chip :=
  if pathOpen c a ∧ linkExists c l then c.modLink l (fun x => { x with cnt := if x.cntAt = c.ivl + 1 then x.cntCyc else [] }) else c

/-- R85: debits of this device's pool for paths that cross a removed link, but for cells still held, are credited. -/
def creditPaths (c : Chip) (l : Nat) : Chip :=
  let held : Nat → Nat := fun key => coveredCells c (fun q => balKey q.srcDev q.path (balCls q) == key)
  let keys := c.sw.debits.filter (fun e => routeLink c (e.1 / 44) (e.1 / 11 % 4) == some l)
  keys.foldl (fun c e => creditKey c e.1 (held e.1)) c

/-- R257: the replay store, the reorder allotment and every packet that waits for the link are discarded; permits are
credited; quarantine entries that concern the link are cleared. EXPECTED and the next sequence number stay as they are until the next
start (R254). Answers the packets discarded and the permits credited. -/
def removeTraffic (c : Chip) (l : Nat) : Chip × Nat × Nat :=
  let before := c.sw.debits.foldl (fun n e => n + e.2) 0
  let x := c.link l
  let p := linkPort c l
  let (c, queued) := dropQueued c (fun q => q.egress == .link l p)
  let staged := (List.range 8).flatMap (fun sc => c.sw.staging.look (p * 8 + sc))
  let inLink := packetLoads x.replay ++ x.sendSc0 ++ x.sendData
  let all := (queued ++ staged ++ inLink).foldl (fun (ps : List QPkt) q => if ps.any (samePkt q) then ps else ps ++ [q]) []
  let c := staged.foldl (fun c q => permitLeaves c q q.moved false) c
  let c := (x.sendSc0 ++ x.sendData).foldl (creditUnsent x.ideOn) (x.replay.foldl creditEntry c)
  let c := { c with sw := { c.sw with staging := (List.range 8).foldl (fun t sc => t.put (p * 8 + sc) []) c.sw.staging,
                                      stomped := c.sw.stomped.put p [] } }
  let grants := (permitLoads x.replay ++ x.permits).filter (fun m => m.kind == .grant)
  let c := grants.foldl (fun c g => creditPool c g.m.src g.m.path g.m.cls g.debited g.m.sc0) c
  let c := dropContext (dropContext c x.dataCtx) x.sc0Ctx
  let c := c.modLink l (fun y => { y with replay := [], held := [], sendSc0 := [], sendData := [], permits := [], unseq := [],
                                          dataCtx := {}, sc0Ctx := {} })
  let c := creditPaths c l
  let dead := c.sw.balances.filter (fun b => routeLink c (b.1 / 44) (b.1 / 11 % 4) == some l)
  let pids := all.map (·.pid)
  let crosses : Nat × Nat × Nat → Bool := fun q =>
    (List.range 4).any (fun j => j != q.2.2 && routeLink c q.1 j == some l)
  let c := { c with sw := { c.sw with
    balances := c.sw.balances.filter (fun b => !(dead.any (fun k => k.1 == b.1))),
    srcHeld := c.sw.srcHeld.filter (fun h => !pids.contains h.2.2),
    quarantine := c.sw.quarantine.filter (fun q => !crosses q) } }
  let after := c.sw.debits.foldl (fun n e => n + e.2) 0
  (c, all.length, (before - after) + dead.foldl (fun n b => n + b.2.permits) 0)

/-- An admitted SC0 flow uses the link (R257). -/
def linkHasFlow (c : Chip) (l : Nat) : Bool := portHasFlow c (linkPort c l)

/-- STV_LINK_REMOVE (R257): packets discarded, permits credited. -/
def stvLinkRemove (r : Nat) (d : Desc) (c : Chip) : Chip :=
  runCmd 0x0142 (fun c x =>
    let l := d.tgt
    if !d.zeroBut [] then refuse c x .badParam
    else if (c.link l).state = .removed then refuse c x .busy
    else if linkHasFlow c l then refuse c x .notPermitted
    else
      let c := reach (leaveActive c l) l .removed
      let c := linkTimeLost (c.modLink l (fun y => { trainFresh y with fresh := true, rate := false })) l
      let (c, n, k) := removeTraffic c l
      endCmd (offerAll c (portXbar (linkPort c l))) x .ok (leBytes 4 n ++ leBytes 4 k)) r d c

/-! ### The PRBS checker (R308–R311) -/

/-- Bits per 32 ticks of a lane rate: 2.5, 5, 8, 16, 32, 64 and 128 GT/s (Table 10.1). -/
def prbsRate (rate : Nat) : Nat := [5, 10, 16, 32, 64, 128, 256].getD rate 0

/-- Bits that a checker in sync has counted since `prbsSync`. -/
def prbsRun (c : Chip) (x : Lane) : Nat := if x.chkSync then (c.ivl - x.prbsSync) * prbsRate x.rate / 32 else 0

/-- The lane with its counts brought up to now: every bit in sync, and one error in every 2^(k + 16) bits that INJECT_RATE k inverts
(R309, R310). -/
def prbsNow (c : Chip) (x : Lane) : Lane :=
  { x with prbsBits := min (x.prbsBits + prbsRun c x) (2 ^ 64 - 1),
           prbsErr := min (x.prbsErr + (if x.injRate = 0 then 0 else prbsRun c x / 2 ^ (x.injRate + 16))) (2 ^ 64 - 1),
           prbsSync := max x.prbsSync c.ivl }

/-- The lane is out of test. -/
def Lane.untested (x : Lane) : Lane :=
  { x with test := none, genEn := false, chkEn := false, chkSync := false, loopback := 0, injRate := 0 }

/-- A LANE_TEST is cut short: the bits checked so far, which are free where the checker does not see its own generator. -/
def cutTest (c : Chip) (n : Nat) : Chip × Nat :=
  let x := c.lane n
  let y := prbsNow c x
  let e := c.setLane n y.untested
  if x.chkSync then (e, y.prbsBits) else (e.usedFree, c.freeNat)

/-- R311: a lane test on one of the link's lanes ends at once, with the counts reached so far. -/
def laneTestCut (c : Chip) (n : Nat) : Chip :=
  match (c.lane n).test with
  | none => c
  | some y => let r := cutTest c n; endCmd r.1 y .aborted (abortedResult r.2 0)

/-- STV_LINK_RESTORE (R257): training starts; the next ACTIVE is a fresh start. A link that failed tags took down stays down until new
keys are programmed (R260). -/
def stvLinkRestore (r : Nat) (d : Desc) (c : Chip) : Chip :=
  runCmd 0x0143 (fun c x =>
    if !d.zeroBut [] then refuse c x .badParam
    else if (c.link d.tgt).state ≠ .removed then refuse c x .busy
    else
      let c := (List.range 16).foldl (fun c i => laneTestCut c (stvLane c d.tgt i)) c
      let c := c.modLink d.tgt (fun y => { y with fresh := true })
      endCmd (if (c.link d.tgt).authDown then reach c d.tgt .downHeld else startPhy c d.tgt) x .ok) r d c

/-- STV_LINK_QUERY: state, width, rate, leader, peer serial and epoch, delay, counters. -/
def stvLinkQuery (r : Nat) (d : Desc) (c : Chip) : Chip :=
  runCmd 0x0144 (fun c x =>
    if !d.bufferOk r ∨ !d.zeroBut [(16, 12)] then refuse c x .badParam
    else
      let y := c.link d.tgt
      endQuery c x d (Config.queryBytes 0x0144)
        (openFields ([y.state.code, groupLanes y.group, nat1 y.rate, nat1 y.leader, y.peerSerial, y.peerEpoch, y.delay] ++
          (List.range 10).map (fun n => y.cnt.look n)))) r d c

end Sys2Proof.Machine
end

