-- ==== Sys2Proof/Machine/Record.lean ====
section
/-!
DEFINITION. The bytes of the MRAM (Tables 15.7, 15.8, 15.10, 16.3, 16.4, R417) as BB_READ, BB_EXPORT and DUMP read them. Where the spec
names a part's items but not their places, they stand in its order, 8 bytes each (notes/assumptions/163.md).
-/
namespace Sys2Proof.Machine

/-- Bytes of an MRAM region (Table 15.7). -/
def regionBytes (k : Nat) : Nat := if k = 0 then 2 ^ 25 else if k ≤ 3 then 2 ^ 23 else 2 ^ 22

/-- The bytes of a log record (Table 15.8). -/
def logBytes (r : LogRec) : List Byte :=
  let kind := match r.kind with
    | .fault => 1
    | .reset => 2
    | .power => 3
    | .start => 4
    | .stop => 5
    | .firmware => 6
    | .groupApplied => 7
    | .overrun => 8
  let detail := (r.detail.flatMap (leBytes 8) ++ List.replicate 88 0).take 88
  let b := leBytes 8 r.seq ++ leBytes 8 r.time.toNat ++ leBytes 1 (r.ftState + 8 * nat1 r.holdup) ++ leBytes 1 kind ++
    leBytes 2 r.source ++ leBytes 1 r.severity ++ leBytes 1 r.reactions ++ leBytes 2 (min r.count 65535) ++
    leBytes 8 r.info.toNat ++ detail ++ leBytes 4 r.boot
  b ++ leBytes 4 (crc32c b)

/-- Record `i` of the merged view of region 0 (R414). -/
def logAtIndex (c : Chip) (i : Nat) : List Byte :=
  match c.bb.log.find? (fun r => r.seq % 131072 == i) with
  | some r => logBytes r
  | none => List.replicate 128 0

/-- The bytes of a result record (Table 16.3). -/
def recordBytesOf (r : BistRec) : List Byte :=
  let b := leBytes 1 r.res.test ++ leBytes 1 r.res.block ++ leBytes 1 r.res.outcome ++ leBytes 1 r.path ++
    leBytes 4 r.res.instId ++ leBytes 8 r.res.address ++ leBytes 2 r.res.bit ++ leBytes 2 r.res.repair ++ leBytes 8 r.time.toNat
  b ++ leBytes 4 (crc32c b)

/-- The size of a region as BB_READ reads it: region 0 is the merged view. -/
def viewBytes (k : Nat) : Nat := if k = 0 then 2 ^ 24 else regionBytes k

/-- Power-on seconds (Table 15.10): those of earlier power-ons and of this one. -/
def powerOnSecs (c : Chip) : Nat := c.bb.life.powerOn + c.ivl / sec 1

/-- `n` bytes from place `off` of a list; past its end they are 0. -/
def byteAt (l : List Byte) (i : Nat) : Byte := l.getD i 0

/-- The header of a snapshot slot (R416): STATE, KEEP, SEQ, TIME, the firmware version, the requests merged, the byte count, then the CRC-32C
over the contents. -/
def snapHeader (s : SnapSlot) : List Byte :=
  let body := openFields s.content ++ (List.range (snapLength s - 8 * s.content.length)).map (Config.fwTrace s.trace)
  openFields ([s.state, nat1 s.keep, s.seq, s.time.toNat] ++ s.fw ++ [s.merged, s.bytes]) ++ leBytes 4 (crc32c (body.take s.bytes))

/-- A byte of a snapshot slot: its 4 KiB header, what was captured, then the firmware trace. -/
def snapByte (s : SnapSlot) (a : Nat) : Byte :=
  let b := a - 4096
  if a < 4096 then (if s.state = 0 then 0 else byteAt (snapHeader s) a)
  else if s.bytes ≤ b then 0
  else if b < 8 * s.content.length then byteAt (openFields s.content) b
  else Config.fwTrace s.trace (b - 8 * s.content.length)

/-- A half of the stop-state word (R417). -/
def stopHalf (b : BlackBox) : List Byte :=
  match b.orderly with
  | none => List.replicate 64 0
  | some o =>
    let code : List Byte := if o then [0x4F, 0x52, 0x44, 0x45, 0x52, 0x4C, 0x59, 0] else [0x52, 0x55, 0x4E, 0x4E, 0x49, 0x4E, 0x47, 0]
    let w := code ++ leBytes 8 b.wordBoot ++ List.replicate 44 0
    w ++ leBytes 4 (crc32c w)

/-- The header of region 4 (Table 16.4). -/
def bistHeaderBytes (b : BlackBox) : List Byte :=
  let w := openFields ([b.header.path, b.header.began.toNat, b.header.ended.toNat, b.bistNext] ++ b.header.fails ++ [nat1 b.fullNext])
  w ++ leBytes 4 (crc32c w)

/-- The result record of an index of the ring (R430). -/
def bistAt (b : BlackBox) (i : Nat) : List Byte :=
  match b.bist[(b.bistNext + 65280 - 1 - i) % 65280]? with
  | some r => recordBytesOf r
  | none => List.replicate 32 0

/-- A byte of region 4 (Table 16.4). -/
def region4Byte (c : Chip) (a : Nat) : Byte :=
  if a < 128 then byteAt (stopHalf c.bb) (a % 64)
  else if a < 0x1000 then 0
  else if a < 0x201000 then
    match c.pool.memberList[(a - 0x1000) / 16]? with
    | some e => byteAt (openFields [e.1, e.2]) (a % 16)
    | none => 0
  else if a < 0x202000 then byteAt (bistHeaderBytes c.bb) (a - 0x201000)
  else if a - 0x202000 < 32 * 65280 then byteAt (bistAt c.bb ((a - 0x202000) / 32)) ((a - 0x202000) % 32)
  else 0

/-- The lifetime counters (Table 15.10). -/
def lifeBytes (c : Chip) : List Byte :=
  let l := c.bb.life
  let w := openFields [l.boots, l.chipResets, l.unclean, powerOnSecs c, l.above95, (BitVec.ofInt 64 l.highTj).toNat, l.holdupOk,
    l.holdupShort, c.bb.nextSeq]
  w ++ leBytes 4 (crc32c w)

/-- An entry of 16 bytes of the repair maps: the retirement map by spare block, the SRAM repair map, the soft-repair list. -/
def retireEntry (b : BlackBox) (i : Nat) : List Byte :=
  match b.retired.find? (fun e => e.2 == i + 1) with
  | some e => leBytes 4 (e.1 / 2 ^ 20) ++ leBytes 4 (e.1 % 2 ^ 20) ++ leBytes 8 e.2
  | none => List.replicate 16 0

def repairEntry (b : BlackBox) (i : Nat) : List Byte :=
  match b.repairs[i]? with
  | some e => let w := leBytes 4 e.1 ++ leBytes 4 e.2.1 ++ leBytes 4 e.2.2; w ++ leBytes 4 (crc32c w)
  | none => List.replicate 16 0

def softEntry (b : BlackBox) (i : Nat) : List Byte :=
  match b.soft[i]? with
  | some e => openFields [e.1, e.2]
  | none => List.replicate 16 0

/-- A byte of region 5 (Table 15.10, R431, R432). -/
def region5Byte (c : Chip) (a : Nat) : Byte :=
  if a < 0x1000 then byteAt (lifeBytes c) (a % 2048)
  else if a < 0x41000 then byteAt (retireEntry c.bb ((a - 0x1000) / 16)) (a % 16)
  else if a < 0x61000 then byteAt (repairEntry c.bb ((a - 0x41000) / 16)) (a % 16)
  else if a < 0x81000 then byteAt (softEntry c.bb ((a - 0x61000) / 16)) (a % 16)
  else 0

/-- A byte of a region (Table 15.7). -/
def regionByte (c : Chip) (k a : Nat) : Byte :=
  if k = 0 then byteAt (logAtIndex c (a % 2 ^ 24 / 128)) (a % 128)
  else if k ≤ 3 then snapByte (c.bb.slots.getD (k - 1) {}) a
  else if k = 4 then region4Byte c a
  else region5Byte c a

/-- The bytes of a region from an offset. -/
def regionContent (c : Chip) (k off n : Nat) : List Byte := (List.range n).map (fun i => regionByte c k (off + i))

end Sys2Proof.Machine
end

