-- ==== Sys2Proof/Machine/Mover.lean ====
section
/-!
DEFINITION. The data mover (14_data_mover.md): job commands and their checks (R386–R388), engines and queues (R383, R397),
progress and ends (R391–R395), engine faults (R396), migration and resync page by page (R201–R204).
-/
namespace Sys2Proof.Machine

/-! ### Engines -/

/-- An engine serves only switch-started jobs (R383). -/
def autoEngine (c : Chip) (e : Nat) : Bool := decide (16 - c.mov.autoEng ≤ e) || (c.engine e).auto

/-- The job that an engine runs. -/
def jobOf (c : Chip) (e : Nat) : Option Job := c.mov.jobs.find? (fun j => j.engine == some e)

/-- An engine of a set can take a job. -/
def engineFree (c : Chip) (e : Nat) (auto : Bool) : Bool :=
  decide (e < 16) && autoEngine c e == auto && !(c.engine e).testing && !(c.engine e).out && (jobOf c e).isNone

/-- The free engines of a set. -/
def freeEngines (c : Chip) (auto : Bool) : List Nat := (List.range 16).filter (fun e => engineFree c e auto)

/-- Jobs of the same identity: by ring and number, or by what a switch-started job is for. -/
def sameJob (a b : Job) : Bool :=
  a.auto.isSome == b.auto.isSome && a.kind == b.kind && a.ring == b.ring && a.number == b.number && a.window == b.window &&
  a.extent == b.extent && a.member == b.member && a.dstDev == b.dstDev && a.dstExt == b.dstExt && a.schedule == b.schedule &&
  a.cmd == b.cmd

/-- The list with `f` applied to the first job that is `j`; `none` removes it. -/
def editJob (f : Job → Option Job) (j : Job) : List Job → List Job
  | [] => []
  | x :: t => if sameJob x j then (match f x with
      | some y => y :: t
      | none => t) else x :: editJob f j t

/-- The jobs after a job changes. -/
def setJob (c : Chip) (j : Job) (f : Job → Option Job) : Chip :=
  { c with mov := { c.mov with jobs := editJob f j c.mov.jobs } }

/-! ### Switch-started jobs (R397) -/

/-- A member that a switch-started RESYNC would serve (Table 6.6, R200). -/
def wantsResync (c : Chip) (w : Window) (x : Member) : Bool :=
  x.present && x.state != .lost && w.mode != .plain && anyPage x && !(c.dev x.dev).lost

/-- The unit and the member of a key of the member table. -/
abbrev memberKey (k : Nat) : Nat × Nat := (k / 10, k % 10)

/-- The units of a window in its page numbers, and the pages that a verification of it walks (R207). -/
def verifyTotal (w : Window) : Nat := w.extents / (if w.mode = .stripe then 8 else 1) * 65536
def unitOfPage (w : Window) (k : Nat) : Nat := k / 65536 * (if w.mode = .stripe then 8 else 1)

/-- The first page from `n` on that is still to be walked: in a unit that exists, neither verified nor passed over ahead of the walk. -/
def verifyFrom : Nat → Window → Nat → Nat
  | 0, _, n => n
  | f + 1, w, n =>
    if verifyTotal w ≤ n then n
    else if !(w.ext.look (unitOfPage w n)).present then verifyFrom f w ((n / 65536 + 1) * 65536)
    else if w.verified.contains n ∨ w.skipped.contains n then verifyFrom f w (n + 1)
    else n

/-- Where the walk of a verification stands. -/
def verifyAt (w : Window) : Nat := verifyFrom (w.verified.length + w.skipped.length + w.extents + 1) w (w.verify.getD 0)

/-- A page passed over can be verified: every member is there. -/
def verifiable (w : Window) (k : Nat) : Bool :=
  w.mode != .stripe || decide ((survivors w (unitOfPage w k) (k % 65536)).length = 10)

/-- The page that a verification takes next: the walk's, then those passed over that can be verified now. -/
def verifyNext (w : Window) : Option Nat :=
  if verifyAt w < verifyTotal w then some (verifyAt w) else w.skipped.find? (verifiable w)

/-- Every job that the pooling state calls for (R170, R197, R200, R207). -/
def wantedJobs (c : Chip) : List Job :=
  let base : Job := { auto := some .fill, ring := 8191, sc := c.mov.autoSc, rate := min c.mov.autoRate 65536, queuedAt := c.ivl }
  (c.pool.windows.flatMap (fun w =>
    if !w.2.present then []
    else
      (if w.2.verify.isSome && (verifyNext w.2).isSome then [{ base with kind := .resync, auto := some .verify, window := w.1, extent := 0 }] else []) ++
      (w.2.members.filter (fun m => wantsResync c w.2 m.2)).map (fun m =>
        { base with kind := .resync, auto := some .resync, window := w.1, extent := (memberKey m.1).1,
                    member := (memberKey m.1).2 }))) ++
  (c.pool.devs.flatMap (fun d =>
    if !d.2.present ∨ d.2.lost then []
    else ((d.2.ext.filter (fun e => e.2 == .scrub && !d.2.filled.contains e.1)).map (fun e =>
      { base with kind := .fill, dstDev := d.1, dstExt := e.1, dst := d.1 * 2 ^ 48 + e.1 * 2 ^ 28, dstSpace := 2, length := 2 ^ 28 }))))

/-- A job that works on the same member, or on the same extent. -/
def coversJob (a b : Job) : Bool :=
  a.kind == b.kind && (match b.kind with
    | .resync => a.window == b.window && (a.auto == some .verify) == (b.auto == some .verify) &&
        (b.auto == some .verify || (a.extent == b.extent && a.member == b.member))
    | .fill => a.auto.isSome && a.dstDev == b.dstDev && a.dstExt == b.dstExt
    | .copy | .migrate | .dump => false)

/-- One pending mark for every job that the state calls for and none has (R397). -/
def syncAuto (c : Chip) : Chip :=
  let want := wantedJobs c
  let kept := c.mov.jobs.filter (fun j => j.auto.isNone || j.engine.isSome || j.kind == .dump || want.any (fun w => coversJob j w))
  let new := want.filter (fun w => !kept.any (fun j => coversJob j w))
  let jobs := kept ++ new
  let waiting := jobs.any (fun j => j.auto.isSome && j.engine.isNone)
  { c with mov := { c.mov with jobs := jobs, backlog := c.mov.backlog && waiting } }

/-- The order in which switch-started jobs start: kind, then window or extent (R397). -/
def autoOrder (c : Chip) (j : Job) : Nat :=
  let k := match j.kind with
    | .dump => 0
    | .resync => if j.auto = some .verify then 3 else (match (c.window j.window).state with
        | .exposed => 1
        | .degraded => 2
        | .optimal | .dataLoss => 4)
    | .fill | .copy | .migrate => 5
  let sub := match j.kind with
    | .fill => j.dstDev * 2 ^ 40 + j.dstExt
    | .dump => j.schedule.getD 0
    | .resync | .copy | .migrate => j.window * 2 ^ 40 + j.extent * 10 + j.member
  k * 2 ^ 60 + sub

/-- A running or commanded job on the same member keeps a switch-started one waiting (R204). -/
def autoBlocked (c : Chip) (j : Job) : Bool :=
  j.kind == .resync && c.mov.jobs.any (fun x => !(x.auto.isSome && x.engine.isNone) &&
    (x.kind == .resync || x.kind == .migrate) && x.window == j.window && x.extent == j.extent && x.member == j.member &&
    (x.auto == some .verify) == (j.auto == some .verify))

/-- The switch-started job that starts next. -/
def nextAuto (c : Chip) : Option Job :=
  (c.mov.jobs.filter (fun j => j.auto.isSome && j.engine.isNone && !autoBlocked c j)).foldl (fun b j => match b with
    | none => some j
    | some x => if autoOrder c j < autoOrder c x then some j else some x) none

/-! ### The dump record (R481, Table 19.4) -/

/-- The values of a set of Table 19.3, each with its wrap bit. -/
def setValues (c : Chip) (kind first count : Nat) : List (Nat × Bool) :=
  (List.range count).flatMap (fun i =>
    let k := first + i
    if kind = 0 then [((c.counter k).value.toNat, (c.counter k).ovf)]
    else if kind = 1 then (List.range 8).map (fun j => ((c.tenant k).ctr.getD j 0, bitOf (c.tenant k).ovf j))
    else if kind = 2 then [((c.ctr.bw.look k).inLast.toNat, false), ((c.ctr.bw.look k).outLast.toNat, false)]
    else [((c.source k).count, false)])

/-- The items of a set kind, and the values each gives. -/
def setItems (kind : Nat) : Nat := if kind = 0 then 1024 else if kind = 1 then 4096 else if kind = 2 then 128 else 512
def setPer (kind : Nat) : Nat := if kind = 1 then 8 else if kind = 2 then 2 else 1

/-- The bytes of a record of `n` values (Table 19.4). -/
def recordBytes (n : Nat) : Nat := 32 + 8 * n + 8 * ceilDiv n 64

/-- OVF words of a record. -/
def ovfWords (vs : List (Nat × Bool)) : List Nat :=
  (List.range (ceilDiv vs.length 64)).map (fun w =>
    (List.range 64).foldl (fun n j => if (vs.getD (64 * w + j) (0, false)).2 then n + 2 ^ j else n) 0)

/-- The bytes of a record of Table 19.4: its header, then VALUES, then OVF. -/
def dumpRecord (c : Chip) (seq sched kind first count missed : Nat) : List Byte :=
  let vs := setValues c kind first count
  let head := fun (crc : Nat) => leBytes 8 seq ++ leBytes 8 c.now ++ leBytes 2 sched ++ leBytes 1 kind ++
    leBytes 1 c.ft.mode.code ++ leBytes 4 vs.length ++ leBytes 4 missed ++ leBytes 4 crc
  let tail := ((vs.map (·.1)) ++ ovfWords vs).flatMap (leBytes 8)
  head (crc32c (head 0 ++ tail)) ++ tail

/-! ### Start and end -/

/-- An engine's shaper as a job sets it (R385). -/
def jobShaper (c : Chip) (rate : Nat) : Shaper :=
  { enable := true, rate := rate, burst := 65536, credit := 65536 * 65536, updated := c.ivl }

/-- The first page at or above `lo` whose bit is set. -/
def pageFrom (x : Member) (lo : Nat) : Option Nat :=
  if x.logAll then
    leastNat ((lo :: x.clean.map (· + 1)).filter (fun p => decide (lo ≤ p) && decide (p < 65536) && !x.clean.contains p))
  else leastNat (x.log.filter (fun p => decide (lo ≤ p)))

/-- SC and RATE of a job as it starts: a switch-started one takes MOVER_CFG.AUTO_SC and MOVER_AUTO_RATE (R397). -/
def startSc (c : Chip) (j : Job) : Nat := if j.auto.isSome then c.mov.autoSc else j.sc
def startRate (c : Chip) (j : Job) : Nat := if j.auto.isSome then min c.mov.autoRate 65536 else j.rate

/-- The line that an engine's job asks for next (R201, R203, R207). -/
def jobTx (c : Chip) (j : Job) (e : Nat) : Option LineTx :=
  let w := c.window j.window
  let t : LineTx := { engine := some e, window := j.window, unit := j.extent, member := j.member }
  if j.ended then none
  else match j.kind with
    | .copy | .fill | .dump => none
    | .migrate => (w.member j.extent j.member).migr.map (fun g =>
        let at_ := g.page * 64 + g.line
        { t with kind := .move, back := j.back, off := if j.back then at_ - 1 else at_ })
    | .resync =>
      if j.auto = some .verify then
        some { t with kind := .verify, unit := unitOfPage w j.cursor, member := 0, off := j.cursor % 65536 * 64 + j.lines }
      else some { t with kind := .rebuild, off := j.cursor * 64 + j.lines }

/-- The job of an engine asks for its next line: one at a time, and only where the engine's shaper covers its 64 B (R24, R385). -/
def askLine (c : Chip) (e : Nat) : Chip :=
  match (jobOf c e).bind (fun j => jobTx c j e) with
  | some t => if (txOf c e).isNone && creditCovers c (c.engine e).shaper 64 then txAsk c t else c
  | none => c

/-- A job starts on an engine. -/
def runJob (c : Chip) (j : Job) (e : Nat) : Chip :=
  let w := c.window j.window
  let rec_ := if j.kind = .dump ∧ j.schedule.isNone ∧ j.source = 0 ∧ !j.bbExport then
      dumpRecord c 0 0xFFFF j.region j.offset ((List.range (setItems j.region - j.offset + 1)).foldl (fun b n =>
        if recordBytes (n * setPer j.region) ≤ j.length then n else b) 0) 0
    else j.record
  let p0 : Option Nat := if j.kind ≠ .resync then some 0
    else if j.auto = some .verify then verifyNext w else pageFrom (w.member j.extent j.member) j.cursor
  let f : Job → Option Job := fun x =>
    some { x with engine := some e, run := c.mov.runs, asked := x.written / 64, sent := x.written / 64, staged := [], done := [], sc := startSc c j, rate := startRate c j, record := rec_, cursor := p0.getD 0, lines := 0, dirty := false, ended := x.ended || p0.isNone }
  let c := setJob { c with mov := { c.mov with runs := c.mov.runs + 1 } } j f
  askLine (c.setEngine e { c.engine e with shaper := jobShaper c (startRate c j) }) e

/-- A commanded job can start: a resync waits until the switch-started one on its member has stopped (R398). -/
def jobReady (c : Chip) (j : Job) : Bool :=
  j.auto.isNone && j.engine.isNone &&
  !(j.kind == .resync && c.mov.jobs.any (fun x => x.auto.isSome && x.engine.isSome && coversJob x j))

/-- The commanded job that starts next (R383). -/
def nextQueued (c : Chip) : Option Job := c.mov.jobs.find? (jobReady c)

/-- JOB_START (R383). -/
def jobStart (e : Nat) (c : Chip) : Chip :=
  if !engineFree c e false ∨ c.rst.phase ≠ 0 then c
  else match nextQueued c with
    | none => c
    | some j => runJob c j e

/-- AUTO_JOB_START (R397). -/
def autoJobStart (e : Nat) (c : Chip) : Chip :=
  if !engineFree c e true ∨ c.rst.phase ≠ 0 then c
  else match nextAuto c with
    | none => c
    | some j =>
      let c := runJob c j e
      let waiting := c.mov.jobs.any (fun j => j.auto.isSome && j.engine.isNone)
      { c with mov := { c.mov with backlog := c.mov.backlog && waiting } }

/-- A commanded job that has just arrived starts at once where an engine of its set is free; which one, nothing states. -/
def startNow (c : Chip) : Chip :=
  match nextQueued c with
  | none => c
  | some j =>
    let es := freeEngines c false
    match es[c.freeNat % (max es.length 1)]? with
    | none => c
    | some e => runJob c.usedFree j e

/-- The engine that a job leaves. -/
def leaveEngine (c : Chip) (j : Job) : Chip :=
  match j.engine with
  | none => c
  | some e => (txLeave c e).setEngine e { c.engine e with auto := false, shaper := {} }

/-- The result of a job's event (R394). -/
def jobResult (j : Job) (cause : Option Nat) : List Byte :=
  leBytes 8 j.progress ++
  (match cause with
   | some k => leBytes 1 k
   | none => if j.kind = .migrate then leBytes 1 0 else []) ++
  (if j.kind = .migrate then leBytes 2 j.dstDev ++ leBytes 4 j.dstExt else [])

/-- R398: after a command's RESYNC that did not complete, the switch-started job resumes the member from its progress. -/
def resumeAuto (c : Chip) (j : Job) (st : Status) : Chip :=
  let f : Job → Job := fun x => if x.auto.isSome && x.engine.isNone && coversJob x j then { x with cursor := j.cursor } else x
  if j.kind = .resync ∧ j.auto.isNone ∧ (st = .aborted ∨ st = .jobFault) then
    { c with mov := { c.mov with jobs := c.mov.jobs.map f } }
  else c

/-- A job leaves the mover; its command ends. -/
def endJob (c : Chip) (j : Job) (st : Status) (res : List Byte) : Chip :=
  let c := resumeAuto (syncAuto (leaveEngine (setJob c j (fun _ => none)) j)) j st
  match j.cmd with
  | some x => endCmd c x st res
  | none => c

/-- The progress that an abort reports: 0 for a QUEUED job (R395). -/
def abortProgress (j : Job) : Nat := if j.engine.isNone then 0 else j.progress

/-- R395: a job is aborted through its latch; a completion that has latched wins. `tag`: the TAG of the ABORT. -/
def abortJob (c : Chip) (j : Job) (tag : Word) (byReset : Bool) : Chip :=
  if j.ended then setJob c j (fun x => some { x with late := true })
  else
    let c := endJob c j .aborted (abortedResult (abortProgress j) tag)
    if byReset then raise c 241 (match j.engine with
      | some e => srcInfo 9 e
      | none => srcInfo 11 j.ring) else c

/-- The jobs of a tenant are aborted (R331, R327); their number. -/
def abortTenantJobs (c : Chip) (t : Nat) : Chip × Nat :=
  let js := c.mov.jobs.filter (fun j => j.auto.isNone && j.tenant == t)
  (js.foldl (fun c j => abortJob c j 0 true) c, (js.filter (fun j => !j.ended)).length)

/-- A commanded job stops: ABORTED, with its progress. A switch-started one stops and remains a pending mark, unless a command's
job has taken it over: that one goes on from the page (R398, R518). -/
def stopJob (c : Chip) (j : Job) : Chip :=
  match j.cmd with
  | some _ => endJob c j .aborted (abortedResult (abortProgress j) 0)
  | none =>
    let onward : Job → Job := fun x => if x.auto.isNone && x.engine.isNone && coversJob x j then { x with cursor := j.cursor } else x
    let c := leaveEngine (setJob c j (fun _ => none)) j
    syncAuto { c with mov := { c.mov with jobs := c.mov.jobs.map onward } }

/-- A job ends with JOB_FAULT (R392, R394). -/
def failJob (c : Chip) (j : Job) (cause : Nat) : Chip :=
  let info : DWord := match j.engine with
    | some e => srcInfo 9 e
    | none => 0
  let c := raise c 240 info
  match j.schedule with
  | some k =>
    let y := c.schedule k
    if !y.active ∨ y.owner ≠ j.ring then endJob c j .jobFault []
    else raise (endJob (c.setSchedule k { y with active := false, busy := false, err := true }) j .jobFault []) 322
  | none => endJob c j .jobFault (jobResult j (some cause))

/-! ### Lines and writes -/

/-- A page has been walked: its bit is cleared, and the next set page begins (R201). -/
def pageWalked (c : Chip) (j : Job) : Chip :=
  let w := c.window j.window
  let x := w.member j.extent j.member
  let x' := if j.dirty then x else clearPage x j.cursor
  let full := !anyPage x' && x'.state == .resyncing
  let c := c.setWindow j.window (w.setMember j.extent j.member (if full then { x' with state := .online } else x'))
  let c := if full then raise c 121 (srcInfo 13 j.window) else c
  let c := reviewWindow c j.window
  let next := pageFrom x' (j.cursor + 1)
  let j' : Job := { j with progress := j.progress + 1, lines := 0, dirty := false, cursor := next.getD j.cursor, ended := next.isNone }
  let c := setJob c j (fun _ => some j')
  if j.stopPage ∧ next.isSome then stopJob c j' else c

/-- A page has been walked by a verification (R207): it is verified, or passed over where a line of it could not be; write-backs that waited
for it go on, and the next page begins. -/
def pageVerified (c : Chip) (j : Job) : Chip :=
  let w := markPage (c.window j.window) j.cursor (!j.dirty)
  let n := verifyAt w
  let w := closeVerify { w with verified := w.verified.filter (fun k => decide (n ≤ k)) } n (verifyTotal w)
  let c := releasePage (c.setWindow j.window w) j.window (unitOfPage w j.cursor) (j.cursor % 65536)
  let w := c.window j.window
  let next := if w.verify.isNone then none else verifyNext w
  let j' : Job := { j with progress := j.progress + 1, lines := 0, dirty := false, cursor := next.getD j.cursor, ended := next.isNone }
  let c := setJob c j (fun _ => some j')
  if j.stopPage ∧ next.isSome then stopJob c j' else c

/-- SCRUB is over once its fill and its purge have ended (Table 6.2, R226). -/
def scrubDone (c : Chip) (b e : Nat) : Chip :=
  let d := c.dev b
  if d.filled.contains e ∧ !d.purging.contains e ∧ d.ext.look e = .scrub then
    c.setDev b { d with ext := d.ext.put e .free, filled := d.filled.erase e,
                        zeroed := if d.adopt then addOnce d.zeroed e else d.zeroed }
  else c

/-- One line of a migration has moved: the cursor, and at its end the extent map (R203). -/
def lineMoved (c : Chip) (j : Job) : Chip :=
  let w := c.window j.window
  let x := w.member j.extent j.member
  match x.migr with
  | none => setJob c j (fun y => some { y with ended := true })
  | some g =>
    let at_ := g.page * 64 + g.line
    let at' := if j.back then at_ - 1 else at_ + 1
    let pages := if j.back then 65536 - ceilDiv at' 64 else at' / 64
    let done := decide (if j.back then at' = 0 else at' = 65536 * 64)
    let x' : Member :=
      if !done then { x with migr := some { g with page := at' / 64, line := at' % 64 } }
      else if j.back then { x with migr := none }
      else { x with dev := g.dev, ext := g.ext, migr := none }
    let c := c.setWindow j.window (w.setMember j.extent j.member x')
    let c := if !done then c else if j.back then giveExt c g.dev g.ext .scrub false else giveExt c x.dev x.ext .scrub false
    let j' : Job := { j with progress := pages, ended := done }
    let c := setJob c j (fun _ => some j')
    if j.stopPage ∧ !done ∧ at' % 64 = 0 then stopJob c j' else c

/-- A line of a job is over; `ok`: it was written, or verified. A line that a migration could not move is tried again; a page with a line that
a rebuild could not write keeps its bit (R201), and one with a line that a verification could not check is passed over (R207). -/
def lineCounted (c : Chip) (j : Job) (ok : Bool) : Chip :=
  match j.kind with
  | .copy | .fill | .dump => c
  | .migrate => if ok then lineMoved c j else c
  | .resync =>
    let j' : Job := { j with lines := j.lines + 1, dirty := j.dirty || !ok }
    let c := setJob c j (fun _ => some j')
    if j'.lines < 64 then c
    else if j.auto = some .verify then pageVerified c j' else pageWalked c j'

/-- The engine of a finished line takes it over: 64 B of its shaper are used (R24). -/
def takeLine (c : Chip) (e : Nat) (t : LineTx) : Chip :=
  let x := c.engine e
  (setTx c t none).setEngine e { x with shaper := shaperUse c x.shaper 64 }

/-- MOVER_LINE_TRANSACTION (R391): a slice or leader has finished the engine's line: it is counted, and the next one asked for. An engine whose
line was NACKed, or whose shaper did not cover it, asks again. -/
def moverLineTransaction (e line : Nat) (c : Chip) : Chip :=
  match jobOf c e, txOf c e with
  | none, _ => c
  | some _, none => askLine c e
  | some j, some t => if t.line ≠ line ∨ !t.done ∨ j.ended then c else askLine (lineCounted (takeLine c e t) j t.ok) e

/-! ### The lines of COPY, FILL and DUMP (R389, R390, R393) -/

/-- The line of the pool that a WINDOW address names (Table 14.1). -/
def windowLine (c : Chip) (a : Nat) : Nat :=
  ((c.window (a / 2 ^ 48)).ext.look (a % 2 ^ 48 / 2 ^ 28)).pool * 2 ^ 22 + a % 2 ^ 28 / 64

/-- A line of a job's range may be accessed: its extent is part of the window, and the tenant's access stands (Table 14.3, R178). -/
def lineOpen (c : Chip) (t space a : Nat) : Bool :=
  space != 1 || (let w := c.window (a / 2 ^ 48)
    let x := w.ext.look (a % 2 ^ 48 / 2 ^ 28)
    w.present && x.present && (t == 0 || (w.tenant == t && !x.accepted.isEmpty)))

/-- The request for line `i` of a job on engine `e`, at a WINDOW address: an uncached requester on crossbar input 36 (R384, R389). -/
def moverReq (c : Chip) (j : Job) (e i a : Nat) : MemReq :=
  { id := j.run * 2 ^ 36 + i, line := windowLine c a, window := a / 2 ^ 48, fab := 4096 + e, port := 4096 + e, input := 36,
    cached := false, want := .invalid, sc := j.sc }

/-- A job has this many lines; the last one of a record may be short. -/
def jobLines (j : Job) : Nat := ceilDiv j.length 64

/-- Bytes of line `i`. -/
def pieceBytes (j : Job) (i : Nat) : Nat := min 64 (j.length - 64 * i)

/-- A COPY from a window asks for its next line: a MemRd with MetaValue I, at most 64 KiB ahead of the write (R389). -/
def askSource (c : Chip) (e : Nat) : Chip :=
  match jobOf c e with
  | none => c
  | some j =>
    let a := j.src + 64 * j.asked
    if j.ended ∨ j.kind ≠ .copy ∨ j.srcSpace ≠ 1 ∨ jobLines j ≤ j.asked ∨ j.sent + 1024 ≤ j.asked then c
    else if !lineOpen c j.tenant 1 a then failJob c j 3
    else arriveMsg (setJob c j (fun x => some { x with asked := x.asked + 1 })) (.rd (moverReq c j e j.asked a))

/-- The bytes that a DUMP writes at `n` bytes from byte `o` on (R387): those of its record, or a range of MRAM. -/
def dumpBytes (c : Chip) (j : Job) (o n : Nat) : List Byte :=
  if j.source = 0 ∨ j.bbExport then (j.record.drop o).take n else regionContent c (if j.source = 1 then j.region else 4) (j.offset + o) n

/-- A pattern of 8 bytes, repeated over a line (Table 14.2). -/
def patternLine (p : Nat) : Line := BitVec.ofNat 512 ((List.range 8).foldl (fun n i => n + p * 2 ^ (64 * i)) 0)

/-- The line that a job writes next, with its poison, and what is left of what it read outside the windows. -/
def nextLine (c : Chip) (j : Job) (src : List (Line × Bool)) : Option ((Line × Bool) × List (Line × Bool)) :=
  match j.kind with
  | .fill => some ((patternLine j.pattern, false), src)
  | .dump => some ((BitVec.ofNat 512 (ofLe (dumpBytes c j (64 * j.sent) (pieceBytes j j.sent))), false), src)
  | .copy =>
    if j.srcSpace = 1 then (j.staged.find? (fun x => x.1 == j.sent)).map (fun x => (x.2, src))
    else src.head?.map (fun x => (x, src.tail))
  | .migrate | .resync => none

/-- The egress port's shaper for a job's writes to host memory (R385). -/
def hostShaper (c : Chip) (j : Job) : Nat := 8 * (ringPortOf c (ringTenant j.ring)).1 + j.sc

/-- Counted length of a write of `n` bytes to host memory (R118): the header of a memory write with a 64-bit address is taken as 16 B. -/
def hostLength (c : Chip) (j : Job) (n : Nat) : Nat := n + 16 + c.sched.overhead.look (ringPortOf c (ringTenant j.ring)).1

/-- A job's next line meets the shaper of its engine, and to host memory that of its egress port and class (R385). -/
def lineMeets (c : Chip) (j : Job) (e : Nat) : Bool :=
  let n := pieceBytes j j.sent
  let p := c.sched.pShapers.look (hostShaper c j)
  creditCovers c (c.engine e).shaper n && (j.dstSpace != 0 || !p.enable || creditCovers c p (hostLength c j n))

/-- The shapers after a line. -/
def lineUses (c : Chip) (j : Job) (e : Nat) : Chip :=
  let n := pieceBytes j j.sent
  let x := c.engine e
  let c := c.setEngine e { x with shaper := shaperUse c x.shaper n }
  let k := hostShaper c j
  if j.dstSpace = 0 then
    { c with sched := { c.sched with pShapers := c.sched.pShapers.put k (shaperUse c (c.sched.pShapers.look k) (hostLength c j n)) } }
  else c

/-- The lines below which every write has completed, and those completed above it. -/
def doneTo : Nat → Nat → List Nat → Nat × List Nat
  | 0, n, l => (n, l)
  | k + 1, n, l => if l.contains n then doneTo k (n + 1) (l.erase n) else (n, l)

/-- Writes have completed: the progress goes to the largest multiple of 4 KiB below which all have, and to LENGTH at the end (R393). -/
def jobAdvance (c : Chip) (e : Nat) : Chip :=
  match jobOf c e with
  | none => c
  | some j =>
    if j.ended ∨ j.kind = .migrate ∨ j.kind = .resync then c
    else
      let r := doneTo j.done.length (ceilDiv j.written 64) j.done
      let n := min (64 * r.1) j.length
      if n = j.written then c
      else
        let c := countEvent c { code := 0x070, device := true, tenant := j.tenant } (n - j.written)
        let j' : Job := { j with written := n, done := r.2, ended := decide (n = j.length),
                                 progress := if n = j.length then n else n / 4096 * 4096 }
        let c := setJob c j (fun _ => some j')
        if j.stopPage ∧ n ≠ j.length ∧ j.written / 4096 < n / 4096 then stopJob c j' else c

/-- A job's next line is written: to its home slice, to host memory, or to a backing device (R389, Table 14.3). A posted write has completed when
it is issued (R393); one to a backing device is issued here as its completion is reported. -/
def writeLine (c : Chip) (j : Job) (e : Nat) (d : Line) (poison : Bool) : Chip :=
  let i := j.sent
  let a := j.dst + 64 * i
  if poison && !j.pass then failJob c j 1
  else if !lineOpen c j.tenant j.dstSpace a then failJob c j 3
  else
    let posted := j.dstSpace != 1
    let data := if j.kind = .dump then dumpBytes c j (64 * i) (pieceBytes j i) else leBytes (pieceBytes j i) d.toNat
    let c := setJob (lineUses c j e) j (fun x => some { x with sent := i + 1, retried := false, staged := x.staged.filter (fun y => y.1 != i),
                                                               done := if posted then addOnce x.done i else x.done })
    let c := if j.dstSpace = 1 then arriveMsg c (.wr { moverReq c j e i a with data := d, poison := poison })
      else if j.dstSpace = 0 then c.emit (.hostWrite j.ring a data poison)
      else c.emit (.backWrite (a / 2 ^ 48) (a % 2 ^ 48 / 2 ^ 28) (a % 2 ^ 28 / 64) d (BitVec.allOnes 64) poison)
    jobAdvance c e

/-- Up to `k` lines of an engine's job are written, in ascending order, while the data are at hand, the shapers are met and no write lies more
than 64 KiB beyond the progress (R385, R389, R393). -/
def moveLines : Nat → Chip → Nat → List (Line × Bool) → Chip
  | 0, c, _, _ => c
  | k + 1, c, e, src =>
    let c := askSource c e
    match jobOf c e with
    | none => c
    | some j =>
      if j.ended ∨ j.kind = .migrate ∨ j.kind = .resync ∨ jobLines j ≤ j.sent ∨ j.progress + 65536 ≤ 64 * j.sent ∨ !lineMeets c j e then c
      else match nextLine c j src with
        | none => moveLines k c e src
        | some (x, rest) => moveLines k (writeLine c j e x.1 x.2) e rest

/-- MOVER_WRITE_COMPLETE (R393): the engine goes on with up to `m.lines` lines of its COPY, FILL or DUMP; `m.source` is what its reads of host memory or
backing brought for them. The writes that have completed count. -/
def moverWriteComplete (e : Nat) (m : MoverLines) (c : Chip) : Chip := moveLines m.lines (jobAdvance c e) e m.source

/-- The events of a finished scheduled dump (R483). -/
def dumpWritten (c : Chip) (k : Nat) (j : Job) : Chip :=
  let y := c.schedule k
  if !y.active ∨ y.owner ≠ j.ring ∨ y.seq ≠ j.number then c
  else
    let c := c.setSchedule k { y with busy := false }
    if y.notify ≠ 0 ∧ y.seq % y.notify = 0 then
      unsolOwner c y.owner 0x800C (leBytes 8 j.dst ++ leBytes 4 j.length) else c

/-- JOB_END (R394): a job whose range is complete posts its event. -/
def jobEnd (e : Nat) (c : Chip) : Chip :=
  match jobOf c e with
  | none => c
  | some j =>
    if !j.ended then c
    else
      let st : Status := if j.late then .okLateAbort else .ok
      match j.schedule with
      | some k => dumpWritten (endJob c j .ok []) k j
      | none =>
        if j.bbExport then endJob c j st (leBytes 4 j.length ++ leBytes 4 j.need)
        else
          let c := if j.kind = .fill ∧ j.auto.isSome then
              scrubDone (c.modDev j.dstDev (fun d => { d with filled := addOnce d.filled j.dstExt })) j.dstDev j.dstExt else c
          endJob c j st (jobResult j none)

/-- R215, R390: a line staged in HBM by an engine is lost: it is read again once, then its job ends with JOB_FAULT. -/
def stagingLost (c : Chip) (e : Nat) : Chip :=
  match jobOf c e with
  | none => c
  | some j =>
    if j.ended ∨ j.kind ≠ .copy then c
    else if j.retried then failJob c j 4 else setJob c j (fun y => some { y with retried := true, asked := y.sent, staged := [] })

/-- JOB_FAULT (R392, Table 14.3). -/
def jobFault (e : Nat) (f : AccessFailure) (c : Chip) : Chip :=
  match jobOf c e with
  | none => c
  | some j =>
    if j.ended then c
    else match f with
      | .sourcePoison =>
        if j.kind = .migrate ∨ j.kind = .resync ∨ (j.kind = .copy ∧ j.pass) then c else failJob c j 1
      | .sourceError => failJob c j 0
      | .destination => failJob c j 2
      | .revoked => failJob c j 3
      | .staging => if j.kind ≠ .copy then c else stagingLost (raise c 131 (srcInfo 9 e)) e

/-- MOVER_ENGINE_FAULT (R396): the engine is out of service until the next cold reset; its job starts again elsewhere. -/
def moverEngineFault (e : Nat) (c : Chip) : Chip :=
  if 16 ≤ e ∨ (c.engine e).out then c
  else
    let c := raise ((txLeave c e).setEngine e { c.engine e with out := true }) 243 (srcInfo 9 e)
    match jobOf c e with
    | none => c
    | some j =>
      let auto := j.auto.isSome
      let j' : Job := { j with engine := none, written := j.progress, lines := 0, dirty := false, retried := false, done := [] }
      let c := setJob c j (fun _ => some (if j.kind = .migrate ∨ j.kind = .resync then { j' with written := 0 } else j'))
      let es := freeEngines c auto
      match es.find? (fun x => decide (e < x)) with
      | some x => runJob c j' x
      | none => match es.head? with
        | some x => runJob c j' x
        | none => c

/-- MOVER_AUTO_BACKLOG (R397): a switch-started job has waited 10 s. -/
def moverAutoBacklog (c : Chip) : Chip :=
  if c.mov.backlog ∨ !(c.mov.jobs.any (fun j => j.auto.isSome && j.engine.isNone && c.past j.queuedAt (sec 10))) then c
  else raise { c with mov := { c.mov with backlog := true } } 242

/-! ### The job commands (R386–R388) -/

/-- An address of Table 14.1 is well-formed. -/
def spaceOk (space a : Nat) : Bool :=
  a % 64 == 0 && (if space = 0 then true else if space = 1 then decide (a < 2 ^ 63) else space == 2 && decide (a < 2 ^ 58))

/-- A range lies in its window or backing device (R388). -/
def rangeOk (c : Chip) (space a len : Nat) : Bool :=
  if space = 0 then true
  else
    let off := a % 2 ^ 48
    if space = 1 then let w := c.window (a / 2 ^ 48); w.present && decide (off + len ≤ w.extents * 2 ^ 28)
    else let d := c.dev (a / 2 ^ 48); d.present && decide (off + len ≤ d.extents * 2 ^ 28)

/-- The indices of extents that a range touches. -/
def touched (a len : Nat) : List Nat :=
  let lo := a % 2 ^ 48 / 2 ^ 28
  (List.range ((a % 2 ^ 48 + len - 1) / 2 ^ 28 + 1 - lo)).map (lo + ·)

/-- A tenant may name the space, and the window if it is its own (R355, R388). -/
def spaceMay (c : Chip) (t space a : Nat) : Bool := t == 0 || space == 0 || (space == 1 && ownsWindow c t (a / 2 ^ 48))

/-- Every extent that a tenant's range touches has been accepted by one of its host ports (R178, R388). -/
def acceptedAll (c : Chip) (t space a len : Nat) : Bool :=
  t == 0 || space != 1 || (touched a len).all (fun i => !(((c.window (a / 2 ^ 48)).ext.look i).accepted).isEmpty)

/-- A destination in backing is FREE or SPARE (R388). -/
def backingFree (c : Chip) (space a len : Nat) : Bool :=
  space != 2 || (touched a len).all (fun e => let s := extState c (a / 2 ^ 48) e; s == .free || s == .spare)

/-- The job number is free in its ring. -/
def jobTaken (c : Chip) (ring n : Nat) : Bool := c.mov.jobs.any (fun j => j.auto.isNone && j.ring == ring && j.number == n)

/-- SC and RATE of a job command (R387). -/
def jobSc (d : Desc) : Nat := if d.byte 41 = 0 then 6 else d.byte 41
def jobRate (d : Desc) : Nat := if d.u32 44 = 0 then 65536 else d.u32 44
/-- SC and RATE are in range; the rate field is 28 bits wide. -/
def jobRateOk (d : Desc) : Bool := decide (d.byte 41 ≤ 7) && decide (d.u32 44 < 2 ^ 28)

/-- LENGTH is in range (R386). -/
def lengthOk (n : Nat) : Bool := n % 64 == 0 && decide (64 ≤ n) && decide (n ≤ 2 ^ 40)

/-- The job is queued, and starts at once where an engine is free (R383). -/
def queueJob (c : Chip) (x : CmdRef) (d : Desc) (j : Job) : Chip :=
  let j' : Job := { j with ring := x.ring, number := d.tgt, cmd := some x, tenant := ringTenant x.ring, sc := jobSc d,
                           rate := jobRate d, queuedAt := c.ivl }
  startNow { c with mov := { c.mov with jobs := c.mov.jobs ++ [j'] } }

/-- Two ranges of one space overlap. -/
def overlap (a b len : Nat) : Bool := decide (a < b + len) && decide (b < a + len)

/-- COPY (R388, R389). -/
def copy (r : Nat) (d : Desc) (c : Chip) : Chip :=
  runCmd 0x0410 (fun c x =>
    let b := d.byte 40
    let j : Job := { kind := .copy, src := d.u64 16, dst := d.u64 24, length := d.u64 32, srcSpace := field b 0 2,
                     dstSpace := field b 2 2, pass := bitOf b 4 }
    let t := ringTenant r
    if 32 ≤ d.tgt then refuse c x .noSuchTarget
    else if !d.zeroBut [(16, 26), (44, 4)] ∨ 32 ≤ b ∨ !spaceOk j.srcSpace j.src ∨ !spaceOk j.dstSpace j.dst ∨
       !lengthOk j.length ∨ !jobRateOk d then refuse c x .badParam
    else if !spaceMay c t j.srcSpace j.src ∨ !spaceMay c t j.dstSpace j.dst then refuse c x .notPermitted
    else if !rangeOk c j.srcSpace j.src j.length ∨ !rangeOk c j.dstSpace j.dst j.length ∨
       (j.srcSpace = j.dstSpace ∧ overlap j.src j.dst j.length) ∨
       !acceptedAll c t j.srcSpace j.src j.length ∨ !acceptedAll c t j.dstSpace j.dst j.length then refuse c x .badParam
    else if jobTaken c r d.tgt ∨ !backingFree c j.dstSpace j.dst j.length then refuse c x .busy
    else queueJob c x d j) r d c

/-- FILL (R388, R389). -/
def fill (r : Nat) (d : Desc) (c : Chip) : Chip :=
  runCmd 0x0411 (fun c x =>
    let b := d.byte 40
    let j : Job := { kind := .fill, dst := d.u64 16, length := d.u64 24, pattern := d.u64 32, dstSpace := field b 2 2 }
    let t := ringTenant r
    if 32 ≤ d.tgt then refuse c x .noSuchTarget
    else if !d.zeroBut [(16, 26), (44, 4)] ∨ 16 ≤ b ∨ field b 0 2 ≠ 0 ∨ !spaceOk j.dstSpace j.dst ∨ !lengthOk j.length ∨
       !jobRateOk d then refuse c x .badParam
    else if !spaceMay c t j.dstSpace j.dst then refuse c x .notPermitted
    else if !rangeOk c j.dstSpace j.dst j.length ∨ !acceptedAll c t j.dstSpace j.dst j.length then refuse c x .badParam
    else if jobTaken c r d.tgt ∨ !backingFree c j.dstSpace j.dst j.length then refuse c x .busy
    else queueJob c x d j) r d c

/-- The member that MIGRATE and RESYNC name: the first index of its extent or stripe group, and its number. -/
def jobMember (w : Window) (d : Desc) : Option (Nat × Nat) :=
  let i := d.u32 20
  let m := d.byte 24
  if w.present ∧ (w.ext.look i).present ∧ m < memberCount w.mode ∧ (w.member (unitOf w i) m).present then some (unitOf w i, m)
  else none

/-- The destination of a MIGRATE: the status that refuses it, or device, extent and whether the roles are reversed. -/
def migrateTo (c : Chip) (w : Window) (u m : Nat) (d : Desc) : Except Status (Nat × Nat × Bool) :=
  let x := w.member u m
  let b := d.u16 26
  let e := d.u32 28
  match x.migr with
  | some g =>
    if e = 0xFFFFFFFF ∨ (b = g.dev ∧ e = g.ext) then .ok (g.dev, g.ext, false)
    else if b = x.dev ∧ e = x.ext then .ok (x.dev, x.ext, true)
    else .error .busy
  | none =>
    if e = 0xFFFFFFFF then
      match chooseExtent c w (othersOf w u m) .free with
      | some (b, e) => .ok (b, e, false)
      | none => .error .capacity
    else
      let y := c.dev b
      if !y.present ∨ y.extents ≤ e ∨ !mayJoin c w.strict (othersOf w u m) b then .error .badParam
      else if !latencyOk c w b then .error .deadlineInfeasible
      else if y.ext.look e ≠ .free ∨ (y.adopt ∧ !y.zeroed.contains e) then .error .busy
      else .ok (b, e, false)

/-- MIGRATE (R203, R204). -/
def migrate (r : Nat) (d : Desc) (c : Chip) : Chip :=
  runCmd 0x0412 (fun c x =>
    let id := d.u16 16
    let w := c.window id
    if 32 ≤ d.tgt then refuse c x .noSuchTarget
    else if !d.zeroBut [(16, 2), (20, 5), (26, 6), (41, 1), (44, 4)] ∨ !jobRateOk d then refuse c x .badParam
    else match jobMember w d with
      | none => refuse c x .badParam
      | some (u, m) =>
        if jobTaken c r d.tgt ∨ memberHasJob c id u m ∨ (w.member u m).state = .lost ∨ w.state = .dataLoss then
          refuse c x .busy
        else match migrateTo c w u m d with
          | .error st => refuse c x st
          | .ok (b, e, back) =>
            let y := w.member u m
            let c := if y.migr.isSome then c
              else (setExt c b e .inUse).setWindow id (w.setMember u m { y with migr := some { dev := b, ext := e } })
            let g := ((c.window id).member u m).migr.getD {}
            let pages := if back then 65536 - ceilDiv (g.page * 64 + g.line) 64 else g.page
            queueJob c x d { kind := .migrate, window := id, extent := u, member := m, dstDev := b, dstExt := e, back := back,
                             progress := pages }) r d c

/-- RESYNC (R388, R398). -/
def resync (r : Nat) (d : Desc) (c : Chip) : Chip :=
  runCmd 0x0413 (fun c x =>
    let id := d.u16 16
    let w := c.window id
    if 32 ≤ d.tgt then refuse c x .noSuchTarget
    else if !d.zeroBut [(16, 2), (20, 5), (41, 1), (44, 4)] ∨ !jobRateOk d then refuse c x .badParam
    else match jobMember w d with
      | none => refuse c x .badParam
      | some (u, m) =>
        let y := w.member u m
        let mine : Job → Bool := fun j => j.kind == .resync && j.auto != some .verify && j.window == id && j.extent == u &&
          j.member == m
        let auto := c.mov.jobs.any (fun j => mine j && j.auto.isSome && j.engine.isSome)
        if y.state = .lost then refuse c x .badParam
        else if jobTaken c r d.tgt then refuse c x .busy
        else if !auto ∧ memberHasJob c id u m then refuse c x .busy
        else if c.mov.jobs.any (fun j => mine j && j.auto.isNone) then refuse c x .busy
        else if !auto ∧ !anyPage y then endCmd c x .ok (leBytes 8 0)
        else
          let jobs := (c.mov.jobs.filter (fun j => !(mine j && j.auto.isSome && j.engine.isNone))).map (fun j =>
            if mine j then { j with stopPage := true } else j)
          queueJob { c with mov := { c.mov with jobs := jobs } } x d
            { kind := .resync, window := id, extent := u, member := m }) r d c

/-- DUMP (R387, R481): the source range lies in its source. -/
def dumpRangeOk (d : Desc) : Bool :=
  let src := d.byte 16
  let reg := d.byte 17
  let off := d.u32 20
  let len := d.u64 32
  if src = 0 then
    decide (reg ≤ 3) && decide (off < setItems reg) && decide (recordBytes (setPer reg) ≤ len) &&
      decide (len < recordBytes ((setItems reg - off + 1) * setPer reg))
  else if src = 1 then decide (reg ≤ 5) && decide (off + len ≤ regionBytes reg)
  else src == 2 && reg == 0 && decide (off + len ≤ regionBytes 4)

/-- DUMP. -/
def dump (r : Nat) (d : Desc) (c : Chip) : Chip :=
  runCmd 0x0414 (fun c x =>
    if 32 ≤ d.tgt then refuse c x .noSuchTarget
    else if !d.zeroBut [(16, 2), (20, 20), (41, 1), (44, 4)] ∨ !spaceOk 0 (d.u64 24) ∨ !lengthOk (d.u64 32) ∨ !jobRateOk d ∨
       !dumpRangeOk d then refuse c x .badParam
    else if jobTaken c r d.tgt then refuse c x .busy
    else queueJob c x d { kind := .dump, source := d.byte 16, region := d.byte 17, offset := d.u32 20, dst := d.u64 24,
                          length := d.u64 32 }) r d c

/-- The job of a ring with a TAG: the oldest (R352). -/
def jobByTag (c : Chip) (ring : Nat) (tag : Word) : Option Job :=
  c.mov.jobs.find? (fun j => match j.cmd with
    | some x => j.auto.isNone && x.ring == ring && x.tag == tag
    | none => false)

/-- JOB_QUERY (R395). -/
def jobQuery (r : Nat) (d : Desc) (c : Chip) : Chip :=
  runCmd 0x0401 (fun c x =>
    if !d.zeroBut [(16, 4)] then refuse c x .badParam
    else match jobByTag c d.tgt (BitVec.ofNat 32 (d.u32 16)) with
      | none => refuse c x .noSuchTarget
      | some j =>
        let st := if j.ended then 2 else if j.engine.isSome then 1 else 0
        endCmd c x .ok (leBytes 2 ((j.cmd.map (·.opcode)).getD 0) ++ leBytes 1 st ++ leBytes 1 (j.engine.getD 0) ++
          leBytes 8 j.progress)) r d c

end Sys2Proof.Machine
end

