-- ==== Sys2Proof/Machine/Locks.lean ====
section
/-!
DEFINITION. Discarding commit groups (R367–R369) and returning rings to their reset state (R331, R340).
-/
namespace Sys2Proof.Machine

/-- The owner ring can still take an event (R368). -/
def ownerTakes (c : Chip) (r : Nat) : Bool :=
  decide (8192 ≤ r) || (canWrite c (r / 2) && ((c.ring (r / 2)).state == .running || (c.ring (r / 2)).state == .stopped))

/-- The source information of a group: its ID in both fields. -/
abbrev groupInfo (id : Nat) : DWord := srcInfo 16 id (id / 65536)

/-- A group is gone: its claims, its reservations and its shadows with it; BANK_LOCKED falls (R368). -/
def clearGroup (c : Chip) (id : Nat) : Chip :=
  let g := c.group id
  let offs := g.items.filterMap (fun i => match i with
    | .reg o _ => some o
    | .cmd _ _ _ => none)
  let c := c.setGroup id {}
  let c := { c with grp := { c.grp with shadow := c.grp.shadow.filter (fun s => !offs.contains s.1) } }
  g.claims.foldl (fun c o => if o.kind = .arbiter then c.modArb o.index (fun a => { a with locked := false }) else c) c

/-- R368: what a discard does, with the group's pending command. -/
def dropGroup (c : Chip) (id : Nat) : Chip :=
  match (c.group id).cmd with
  | none => clearGroup c id
  | some x => if ownerTakes c x.ring then endNow (clearGroup c id) x .groupDiscarded [] else leaveRing (clearGroup c id) x

/-- The GROUP_DISCARDED event: to the former owner's ring and to the manager's ring. -/
def groupEvent (c : Chip) (id cause owner : Nat) : Chip :=
  let res := leBytes 4 id ++ leBytes 1 cause ++ leBytes 2 owner
  unsolMgr (if owner = 0 ∨ 8192 ≤ owner then c else unsolRing c (owner / 2) 0x8009 res) 0x8009 res

/-- An involuntary discard (R367–R369): `cause` is DISC_CAUSE. -/
def discardGroup (c : Chip) (id cause : Nat) : Chip :=
  let g := c.group id
  if g.state = .none then c
  else
    let c := dropGroup c id
    let c := { c with grp := { c.grp with discGroup := id, discCause := cause, discRing := g.owner,
                                          discCount := min (c.grp.discCount + 1) 255 } }
    groupEvent (raise c 224 (groupInfo id)) id cause g.owner

/-- The groups of a ring are discarded. -/
def discardRing (c : Chip) (r cause : Nat) : Chip :=
  ((c.grp.groups.filter (fun g => g.2.owner == r && g.2.state != .none)).map (·.1)).foldl (fun c id => discardGroup c id cause) c

/-- Dump schedules of a ring are removed (R484). -/
def dropSchedules (c : Chip) (r : Nat) : Chip :=
  let mine := (c.ctr.dumps.filter (fun s => s.2.active && s.2.owner == r)).map (·.1)
  let c := mine.foldl (fun c k => c.setSchedule k {}) c
  { c with mov := { c.mov with jobs := c.mov.jobs.filter (fun j => match j.schedule with
      | some k => !(mine.contains k && j.engine.isNone)
      | none => true) } }

/-- R331: both rings of a tenant stop and return to their reset state; a RING_STOP that waits ends. -/
def resetRing (c : Chip) (t : Nat) : Chip :=
  let stop := (c.ring t).stopCmd
  let c := dropSchedules (c.setRing t { stopCmd := stop }) (2 * t)
  if stop.isSome then c.later (.stopEnd t) else c

end Sys2Proof.Machine
end

