-- ==== Sys2Proof/Machine/Tenants.lean ====
section
/-!
DEFINITION. Tenants (11_tenants.md): commands and parameters (R314–R323, R330), states and drains (R324–R328), tenant reset
(R331–R333), containment (R334).
-/
namespace Sys2Proof.Machine

/-- TENANT_STATUS.STATE as a number. -/
def TState.code : TState → Nat
  | .none => 0
  | .disabled => 1
  | .enabled => 2
  | .draining => 3

/-- A tenant is in a new state; its TENANT_STATE event. -/
def tenantTo (c : Chip) (t : Nat) (s : TState) (cause : Nat) : Chip :=
  let x := c.tenant t
  let c := c.setTenant t { x with state := s }
  unsolTenant c t 0x8001 (leBytes 1 x.state.code ++ leBytes 1 s.code ++ leBytes 1 cause)

/-- The vPPB event of a tenant's binding on a port, where the port has a virtual CXL switch (R279, R321, R322). -/
def bindPlug (c : Chip) (p ld kind : Nat) : Chip :=
  match vcsOfPort c p with
  | some (v, true) => c.emit (.hotPlug v ld kind)
  | some (_, false) | none => c

/-- The agents of a tenant. -/
def tenantAgents (c : Chip) (t : Nat) : List (Nat × Nat) :=
  c.home.domains.flatMap (fun d => (d.2.agents.filter (fun a => a.2.bound && a.2.tenant == t)).map (fun a => (d.1, a.1)))

/-- A command on the tenant is still in progress (R324). -/
def tenantBusy (c : Chip) (t : Nat) : Bool :=
  let x := c.tenant t
  !x.resetCmds.isEmpty || (c.ring t).stopCmd.isSome || (match x.drain with
    | some d => d.cmd.isSome
    | none => false)

/-! ### Drains (R325–R328) -/

/-- The tenant of a line's window. -/
def lineTenant (c : Chip) (n : Nat) : Option Nat := (winOf c n).map (fun w => (c.window w).tenant)

/-- R325: the tenant enters DRAINING. -/
def startDrain (c : Chip) (t deadline cause : Nat) (cmd : Option CmdRef) (shutdown : Bool) : Chip :=
  let c := tenantTo c t .draining cause
  let c := discardRing c (2 * t) 3
  let (c, n) := flushDirty c (fun w => (c.window w).tenant == t)
  let c := c.modTenant t (fun x => { x with drain := some { deadline := c.ivl + us deadline, since := c.ivl, cmd := cmd,
                                                            shutdown := shutdown, written := n } })
  (tenantAgents c t).foldl (fun c a =>
    let y := c.agent a.1 a.2
    if y.dead ∨ y.unbind.isSome then c else beginFlush c a.1 a.2 (us deadline) none) c

/-- Flushes of a drain end; the lines they have flushed. -/
def endFlushes (c : Chip) (t : Nat) : Chip × Nat :=
  (tenantAgents c t).foldl (fun r a =>
    let y := r.1.agent a.1 a.2
    match y.unbind with
    | some u => if u.cmd.isNone then (r.1.setAgent a.1 a.2 { y with unbind := none }, r.2 + u.flushed) else r
    | none => r) (c, 0)

/-- Lines of the tenant's windows whose write-back is under way: they are dirty until it has ended (R325, R326). -/
def writeBacksOut (c : Chip) (t : Nat) : Nat :=
  let mine : Nat → Bool := fun w => (c.window w).tenant == t
  (((c.pool.writes.filter (fun w => w.cmp.isNone && mine w.window)).map (·.line) ++
    (c.pool.ops.filter (fun o => o.cmp.isNone && !o.recon && o.repair.isNone && mine o.window)).map (·.line) ++
    (c.pool.held.filter (fun h => h.cmp.isNone && lineTenant c h.line == some t)).map (·.line)).eraseDups).length

/-- R326: nothing of the tenant is in a tracker, in a port agent, held, dirty or moved. -/
def drained (c : Chip) (t : Nat) : Bool :=
  let mine : Nat → Bool := fun n => lineTenant c n == some t
  !(c.home.trackers.any (fun x => x.2.isSome && mine x.1)) && !(c.home.stalled.any (fun q => mine q.1.line)) &&
  !(c.home.nacked.any (fun w => mine w.req.line)) &&
  (tenantAgents c t).all (fun a => holdsNothing c a.1 a.2) &&
  !(c.hbm.ways.any (fun w => w.2.dirty && (c.window w.2.window).tenant == t)) && writeBacksOut c t == 0 &&
  !(c.mov.jobs.any (fun j => j.auto.isNone && j.tenant == t))

/-- The result of TENANT_DISABLE (Table 12.12). -/
def drainResult (c : Chip) (t : Nat) (d : Drain) (lines : Nat) : List Byte :=
  leBytes 4 lines ++ leBytes 4 (d.written - writeBacksOut c t) ++ leBytes 4 ((c.ivl - d.since) / us 1)

/-- DRAIN_COMPLETE (R326). -/
def drainComplete (t : Nat) (c : Chip) : Chip :=
  match (c.tenant t).drain with
  | none => c
  | some d =>
    if (c.tenant t).state ≠ .draining ∨ !drained c t then c
    else
      let (c, n) := endFlushes c t
      let c := tenantTo (c.modTenant t (fun x => { x with drain := none })) t .disabled 1
      match d.cmd with
      | some x => endCmd c x .ok (drainResult c t d (d.flushed + n))
      | none => c

/-- TENANT_DRAIN_DEADLINE (R327). -/
def tenantDrainDeadline (t : Nat) (c : Chip) : Chip :=
  match (c.tenant t).drain with
  | none => c
  | some d =>
    if (c.tenant t).state ≠ .draining ∨ c.ivl < d.deadline then c
    else
      let (c, _) := endFlushes c t
      let (c, lines) := (tenantAgents c t).foldl (fun (r : Chip × Nat) a =>
        if holdsNothing r.1 a.1 a.2 then r
        else
          let (c, n, _) := killAgent r.1 a.1 a.2 false true
          (c, r.2 + n)) (c, 0)
      let (c, jobs) := abortTenantJobs c t
      let c := tenantTo (c.modTenant t (fun x => { x with drain := none })) t .disabled 2
      let c := raise c 195 (srcInfo 10 t)
      let c := if d.shutdown then raise { c with rst := { c.rst with drainOut := true } } 359 (srcInfo 10 t) else c
      match d.cmd with
      | some x => endCmd c x .drainTimeout (drainResult c t d lines ++ leBytes 3 jobs)
      | none => c

/-- TENANT_ENABLE while a drain runs (Table 11.4, R328): the drain is given up, and TENANT_DISABLE ends ABORTED. -/
def cancelDrain (c : Chip) (t : Nat) : Chip :=
  match (c.tenant t).drain with
  | none => tenantTo c t .enabled 0
  | some d =>
    let (c, _) := endFlushes c t
    let c := tenantTo (c.modTenant t (fun x => { x with drain := none })) t .enabled 0
    match d.cmd with
    | some x => endCmd c x .aborted (abortedResult (d.written - writeBacksOut c t) 0)
    | none => c

/-! ### Reset (R331–R333) -/

/-- A sweep of one of the tenant's agents still runs. -/
def sweeping (c : Chip) (t : Nat) : Bool := c.home.sweeps.any (fun s => (c.agent s.1 s.2).tenant == t)

/-- The result of a TENANT_RESET event (Table 12.6). -/
def resetEvent (x : Tenant) : List Byte :=
  leBytes 1 x.resetInfo ++ leBytes 1 x.resetPort ++ leBytes 4 x.resetJobs ++ leBytes 4 x.resetAgents

/-- The reset ends: source 194, the RESET event to the manager at once, to the tenant once its ring is set up again. -/
def endReset (c : Chip) (t : Nat) : Chip :=
  let x := c.tenant t
  let c := c.setTenant t { x with resetting := false, resetCmds := [], resetTold := (c.ring t).state != .unset }
  let c := raise c 194 (srcInfo 10 t)
  let c := if (c.ring t).state = .unset then c else unsolRing c t 0x8003 (resetEvent x)
  let c := unsolMgr c 0x8003 (resetEvent x)
  let res := leBytes 4 x.resetJobs ++ leBytes 4 x.resetAgents ++ leBytes 4 ((c.ivl - x.resetAt) / us 1)
  x.resetCmds.foldl (fun c y => endCmd c y .ok res) c

/-- The reset ends when the agent-removal sweep ends (R331). -/
def resetDone (c : Chip) (t : Nat) : Chip := if (c.tenant t).resetting ∧ !sweeping c t then endReset c t else c

/-- R331 steps 1 to 3 and 6: jobs, groups, rings, TENANT_CTL; the jobs aborted. -/
def resetRings (c : Chip) (t : Nat) : Chip × Nat :=
  let (c, n) := abortTenantJobs c t
  let c := resetRing (discardRing c (2 * t) 0) t
  (c.modTenant t (fun x => { x with userCtr := false }), n)

/-- R331: the whole tenant is reset. -/
def resetTenant (c : Chip) (t cause : Nat) (cmd : Option CmdRef) : Chip :=
  if (c.tenant t).resetting then c.modTenant t (fun x => { x with resetCmds := x.resetCmds ++ cmd.toList })
  else
    let (c, jobs) := resetRings c t
    let as := (tenantAgents c t).filter (fun a => !(c.agent a.1 a.2).dead)
    let c := (tenantAgents c t).foldl (fun c a => (killAgent c a.1 a.2 true false).1) c
    let c := discardOwed c (fun m => lineTenant c m.line == some t)
    let c := c.modTenant t (fun x => { x with
      resetting := true, resetCmds := cmd.toList, resetInfo := cause, resetJobs := jobs, resetAgents := as.length,
      resetAt := c.ivl, resetPort := 0 })
    resetDone c t

/-- R332: a PERST on port `p` resets a tenant's binding there; its rings only where `p` is its RING_PORT. -/
def resetBinding (c : Chip) (t p : Nat) : Chip :=
  let as := (tenantAgents c t).filter (fun a => !(c.agent a.1 a.2).dead && feLocal (feOf c (c.agent a.1 a.2).fab) &&
    feKind (feOf c (c.agent a.1 a.2).fab) == 0 && feIndex (feOf c (c.agent a.1 a.2).fab) == p)
  let c := removePortAgents c p (some t)
  let c := discardOwed c (fun m => m.port == p && lineTenant c m.line == some t)
  if (c.tenant t).ringPort = p then
    let (c, jobs) := resetRings c t
    if (c.tenant t).resetting then c
    else
      let c := c.modTenant t (fun x => { x with
        resetting := true, resetInfo := 2, resetJobs := jobs, resetAgents := as.length, resetAt := c.ivl, resetPort := p })
      resetDone c t
  else
    let res := leBytes 1 2 ++ leBytes 1 p ++ leBytes 4 0 ++ leBytes 4 as.length
    unsolTenant (raise c 194 (srcInfo 10 t)) t 0x8003 res

/-- The bindings on a port are reset. -/
def resetPortTenants (c : Chip) (p : Nat) : Chip :=
  ((c.ten.tenants.filter (fun t => t.2.binds.any (fun b => b.1 == p))).map (·.1)).foldl (fun c t => resetBinding c t p) c

/-- AGENT_SWEEP_END (R155): a removed agent has left its domain; a tenant reset that waits for its sweeps may end. -/
def agentSweepEnd (domain agent : Nat) (c : Chip) : Chip :=
  if !c.home.sweeps.contains (domain, agent) then c
  else
    let t := (c.agent domain agent).tenant
    resetDone (endSweep c domain agent) t

/-- R334: FAULT_ACTION is applied. -/
def applyFaultAction (c : Chip) (t : Nat) : Chip :=
  let x := c.tenant t
  if x.action = 1 then resetTenant (discardRing c (2 * t) 1) t 1 none
  else if x.action = 2 then
    let c := discardRing c (2 * t) 1
    if x.state = .enabled then startDrain c t 100000 3 none false else c
  else c

/-! ### Parameters (Tables 11.3, 12.12) -/

/-- A selected field, or the value held. -/
def pick (d : Desc) (n v old : Nat) : Nat := if d.mask n then v else old

/-- The tenant as the command leaves it. -/
def tenantParams (c : Chip) (x : Tenant) (d : Desc) : Tenant :=
  { x with sc := pick d 0 (d.byte 20) x.sc, lcMin := pick d 4 (d.u16 32) x.lcMin,
           lcMax := if d.mask 5 then (if d.u16 34 = cacheMiB c then none else some (d.u16 34)) else x.lcMax,
           ringPort := pick d 6 (d.byte 36) x.ringPort, action := pick d 7 (d.byte 37) x.action,
           limit := pick d 8 (d.u16 38) x.limit, evtIvl := pick d 9 (d.u32 40) x.evtIvl }

/-- The tenant's shaper as the command leaves it: ENABLE, RATE, BURST. -/
def tenantShaper (s : Shaper) (d : Desc) : Bool × Nat × Nat :=
  (if d.mask 1 then d.byte 21 == 1 else s.enable, pick d 2 (d.u32 24) s.rate, pick d 3 (d.u24 28) s.burst)

/-- Fields that the command names are in range (Table 11.3). -/
def tenantFieldsOk (c : Chip) (d : Desc) : Bool :=
  d.zeroBut [(16, 6), (24, 7), (32, 12)] && decide (d.u32 16 < 1024) &&
  (!d.mask 0 || decide (d.byte 20 ≤ 7)) && (!d.mask 1 || decide (d.byte 21 ≤ 1)) && (!d.mask 2 || decide (d.u32 24 < 2 ^ 28)) &&
  (!d.mask 4 || decide (d.u16 32 ≤ cacheMiB c)) && (!d.mask 5 || decide (d.u16 34 ≤ cacheMiB c)) &&
  (!d.mask 6 || decide (d.byte 36 ≤ 127) || d.byte 36 == 255) && (!d.mask 7 || decide (d.byte 37 ≤ 2)) &&
  (!d.mask 8 || decide (1 ≤ d.u16 38)) && (!d.mask 9 || within 1 1000000 (d.u32 40))

/-- What the end state must satisfy (R120, R124, R224, R317, Table 4.4). -/
def tenantEndOk (c : Chip) (t : Nat) (x : Tenant) (sh : Bool × Nat × Nat) : Bool :=
  decide (x.lcMin ≤ x.lcMax.getD (cacheMiB c)) && (x.ringPort == 255 || x.binds.any (fun b => b.1 == x.ringPort)) &&
  (!sh.1 || (within 1 2097152 sh.2.1 && decide ((if x.sc = 0 then 511 else 4351) ≤ sh.2.2))) &&
  (x.sc != 0 || tenantHasFlow c t)

/-- The tenant's shaper is set; its SC0 flows take their new bursts and terms (R84, R128). -/
def setTenantShaper (c : Chip) (t : Nat) (sh : Bool × Nat × Nat) : Chip :=
  let fs := (flowsOf c).filter (fun f => f.2.tenant == t)
  let old := c.sched.tShapers.look t
  let new := shaperTo c old sh.1 sh.2.1 sh.2.2
  let c := fs.foldl (fun c f => standingPermits c f.2 false) c
  let s := match old.who with
    | some w => if old.release.isSome then parkShaper c new w old.need else new
    | none => new
  let c := { c with sched := { c.sched with tShapers := c.sched.tShapers.put t s } }
  flowsRetimed (fs.foldl (fun c f => standingPermits c f.2 true) c)

/-- R504: the key index held by the fewest tenants, then the lowest. -/
def freshTki (c : Chip) : Nat :=
  let held := fun (k : Nat) => (c.ten.tenants.filter (fun t => t.1 != 0 && t.2.state != .none && t.2.tki == k)).length
  let ks := (List.range 126).map (· + 1)
  (ks.foldl (fun (b : Nat × Nat) k => if held k < b.2 then (k, held k) else b) (1, held 1)).1

/-- TENANT_CREATE (R324, R356). -/
def tenantCreate (r : Nat) (d : Desc) (c : Chip) : Chip :=
  runCmd 0x0200 (fun c x =>
    let t := d.tgt
    let y := tenantParams c {} d
    let sh := tenantShaper {} d
    if t = 0 then refuse c x .noSuchTarget
    else if !tenantFieldsOk c d then refuse c x .badParam
    else if (c.tenant t).state ≠ .none then refuse c x .busy
    else if !tenantEndOk c t y sh then refuse c x .badParam
    else
      let k := freshTki c
      let e := setTenantShaper (clearTenantCounters (c.setTenant t { y with tki := k }) t) t sh
      admitOr c x e (fun e => endCmd (tenantTo e t .disabled 0) x .ok (leBytes 1 k))) r d c

/-- How TENANT_SET is refused. -/
def tenantSetCheck (c : Chip) (d : Desc) : Option Status :=
  let t := d.tgt
  let x := c.tenant t
  if !tenantFieldsOk c d then some .badParam
  else if t = 0 ∧ d.mask 7 ∧ d.byte 37 ≠ 0 then some .notPermitted
  else if !tenantEndOk c t (tenantParams c x d) (tenantShaper (c.sched.tShapers.look t) d) then some .badParam
  else if tenantBusy c t then some .busy
  else none

/-- TENANT_SET's end state (R330). -/
def tenantSetDo (c : Chip) (d : Desc) : Chip :=
  let t := d.tgt
  setTenantShaper (c.setTenant t (tenantParams c (c.tenant t) d)) t (tenantShaper (c.sched.tShapers.look t) d)

/-- TENANT_SET. -/
def tenantSet (r : Nat) (d : Desc) (c : Chip) : Chip :=
  runCmd 0x0202 (fun c x => match tenantSetCheck c d with
    | some st => refuse c x st
    | none => admitOr c x (tenantSetDo c d) (fun e => endCmd e x .ok)) r d c

/-! ### Bindings (R316, R321, R322) -/

/-- How TENANT_BIND is refused (R321). -/
def tenantBindCheck (c : Chip) (d : Desc) : Option Status :=
  let p := d.byte 16
  let ld := d.byte 17
  let y := c.port p
  if d.tgt = 0 then some .notPermitted
  else if !d.zeroBut [(16, 2)] ∨ 127 < p ∨ 15 < ld then some .badParam
  else if y.role ≠ 1 ∧ y.role ≠ 3 then some .badParam
  else if (c.tenant d.tgt).binds.any (fun b => b.1 == p) ∨ (linkUp y ∧ !y.cxl) then some .badParam
  else if 16 ≤ (c.ten.tenants.filter (fun t => t.2.binds.any (fun b => b.1 == p))).length then some .capacity
  else if (tenantAt c p ld).isSome then some .badParam
  else if y.state = .inReset then some .notPermitted
  else if tenantBusy c d.tgt then some .busy
  else none

/-- The refusal of a seventeenth binding of a port (R272, Table 13.6 KIND 0x15). -/
def bindLimit : Refuse := { kind := 0x15, obj := 272, need := 17, have_ := 16 }

/-- The binding is made: windows presented through it are accepted there (notes/assumptions/46.md). -/
def tenantBindDo (c : Chip) (d : Desc) : Chip :=
  let t := d.tgt
  let p := d.byte 16
  let c := c.modTenant t (fun x => { x with
    binds := x.binds ++ [(p, d.byte 17)], ringPort := if x.binds.isEmpty ∧ x.ringPort = 255 then p else x.ringPort })
  (windowsOf c t).foldl (fun c id =>
    let w := c.window id
    if presented c w p then
      c.setWindow id { w with ext := w.ext.map (fun e => (e.1, if e.2.present then { e.2 with accepted := addOnce e.2.accepted p } else e.2)) }
    else c) c

/-- TENANT_BIND takes effect as a hot add on the vPPB. -/
def tenantBindGo (c : Chip) (x : CmdRef) (d : Desc) : Chip := endCmd (bindPlug c (d.byte 16) (d.byte 17) 0) x .ok

/-- TENANT_BIND. -/
def tenantBind (r : Nat) (d : Desc) (c : Chip) : Chip :=
  runCmd 0x0203 (fun c x => match tenantBindCheck c d with
    | some st => if st = .capacity then endCmd c x st (bindLimit.bytes 0) else refuse c x st
    | none => admitOr c x (tenantBindDo c d) (fun e => tenantBindGo e x d)) r d c

/-- A binding is removed: hot-remove, agents, rings where the port was RING_PORT (R317, R322). -/
def removeBinding (c : Chip) (t p ld : Nat) : Chip :=
  let ring := (c.tenant t).ringPort == p
  let c := c.modTenant t (fun x => { x with binds := x.binds.erase (p, ld), ringPort := if ring then 255 else x.ringPort })
  let c := removePortAgents (bindPlug c p ld 2) p (some t)
  if ring then resetRing c t else c

/-- How TENANT_UNBIND is refused (R322). -/
def tenantUnbindCheck (c : Chip) (d : Desc) : Option Status :=
  let t := d.tgt
  let x := c.tenant t
  if t = 0 then some .notPermitted
  else if !d.zeroBut [(16, 2)] ∨ !x.binds.contains (d.byte 16, d.byte 17) then some .badParam
  else if x.state = .enabled ∨ x.state = .draining ∨ tenantBusy c t then some .busy
  else if (windowsOf c t).any (fun id => presented c (c.window id) (d.byte 16)) then some .busy
  else none

/-- TENANT_UNBIND's end state. -/
def tenantUnbindDo (c : Chip) (d : Desc) : Chip := removeBinding c d.tgt (d.byte 16) (d.byte 17)

/-- TENANT_UNBIND. -/
def tenantUnbind (r : Nat) (d : Desc) (c : Chip) : Chip :=
  runCmd 0x0204 (fun c x => match tenantUnbindCheck c d with
    | some st => refuse c x st
    | none => admitOr c x (tenantUnbindDo c d) (fun e => endCmd e x .ok)) r d c

/-! ### TENANT_DESTROY, TENANT_ENABLE, TENANT_DISABLE, TENANT_RESET, TENANT_QUERY -/

/-- A mover job names the tenant: its own, or one on its windows (R323). -/
def jobNames (c : Chip) (t : Nat) : Bool :=
  c.mov.jobs.any (fun j => j.auto.isNone && j.tenant == t) || (windowsOf c t).any (fun w => jobOnWindow c w)

/-- TENANT_DESTROY (R323). -/
def tenantDestroy (r : Nat) (d : Desc) (c : Chip) : Chip :=
  runCmd 0x0201 (fun c x =>
    let t := d.tgt
    let y := c.tenant t
    if t = 0 then refuse c x .notPermitted
    else if !d.zeroBut [] then refuse c x .badParam
    else if y.state ≠ .disabled ∨ tenantBusy c t ∨ y.resetting ∨ jobNames c t then refuse c x .busy
    else
      let ws := windowsOf c t
      let fs := (flowsOf c).filter (fun f => f.2.tenant == t)
      let c := ws.foldl destroyWindow c
      let c := y.binds.foldl (fun c b => removeBinding c t b.1 b.2) c
      let c := (tenantAgents c t).foldl (fun c a => (killAgent c a.1 a.2 true false).1) c
      let c := fs.foldl (fun c f => (standingPermits c f.2 false).setFlow f.1 {}) c
      let c := flowsRetimed { c with sched := { c.sched with tShapers := c.sched.tShapers.put t {} } }
      let c := resetRing (discardRing c (2 * t) 0) t
      let c := tenantTo c t .none 0
      endCmd (c.setTenant t {}) x .ok (leBytes 4 ws.length)) r d c

/-- TENANT_ENABLE (Table 11.4, R340): the command ring runs. -/
def tenantEnable (r : Nat) (d : Desc) (c : Chip) : Chip :=
  runCmd 0x0205 (fun c x =>
    let t := d.tgt
    let run := fun (c : Chip) => if (c.ring t).state = .stopped then c.modRing t (fun q => { q with state := .running }) else c
    if !d.zeroBut [] then refuse c x .badParam
    else match (c.tenant t).state with
      | .disabled => if tenantBusy c t then refuse c x .busy else endCmd (run (tenantTo c t .enabled 0)) x .ok
      | .draining => endCmd (run (cancelDrain c t)) x .ok
      | .none | .enabled => refuse c x .busy) r d c

/-- TENANT_DISABLE (R325). -/
def tenantDisable (r : Nat) (d : Desc) (c : Chip) : Chip :=
  runCmd 0x0206 (fun c x =>
    let t := d.tgt
    let dl := if d.u32 16 = 0 then 100000 else d.u32 16
    if t = 0 then refuse c x .notPermitted
    else if !d.zeroBut [(16, 4)] ∨ 10000000 < dl then refuse c x .badParam
    else match (c.tenant t).state with
      | .disabled => if tenantBusy c t then refuse c x .busy else endCmd c x .ok (leBytes 4 0 ++ leBytes 4 0 ++ leBytes 4 0)
      | .enabled => if tenantBusy c t then refuse c x .busy else startDrain c t dl 0 (some x) false
      | .none | .draining => refuse c x .busy) r d c

/-- TENANT_QUERY (R324): state, bindings, parameters, occupancy per slice, fault counts. -/
def tenantQuery (r : Nat) (d : Desc) (c : Chip) : Chip :=
  runCmd 0x0208 (fun c x =>
    let t := d.tgt
    let y := c.tenant t
    let s := c.sched.tShapers.look t
    if !d.zeroBut [(16, 12)] ∨ !d.bufferOk x.ring then refuse c x .badParam
    else endQuery c x d (Config.queryBytes 0x0208)
      (openFields ([y.state.code, nat1 y.resetting, y.binds.length] ++ y.binds.flatMap (fun b => [b.1, b.2]) ++
       [y.sc, nat1 s.enable, s.rate, s.burst, y.lcMin, y.lcMax.getD (cacheMiB c), y.ringPort, y.action, y.limit, y.evtIvl] ++
       (List.range 32).map (occupancy c t) ++ [y.ctr.getD 7 0, y.faults.length]))) r d c

end Sys2Proof.Machine
end

