-- ==== Sys2Proof/Machine/PortOps.lean ====
section
/-!
DEFINITION. What the links of the CXL ports do (09_cxl_ports.md): coming up, going down, retraining, PORT_CTL, L0p, and the reset
of a host (R282).
-/
namespace Sys2Proof.Machine

/-- The PORT event (Table 12.6). Kinds: 0 present, 1 absent, 2 link up, 3 link down, 4 PERST asserted, 5 PERST released. -/
def portEvent8007 (c : Chip) (p kind : Nat) : Chip :=
  unsolMgr c 0x8007 (leBytes 1 p ++ leBytes 1 kind ++ leBytes 8 (c.port p).serial)

/-- PORT_STATUS.STATE as a number. -/
def PortState.code : PortState → Nat
  | .down => 0
  | .training => 1
  | .l0 => 2
  | .l0p => 3
  | .recovery => 4
  | .disabled => 5
  | .inReset => 6
  | .ideInsecure => 7

/-- An upstream port: role upstream or manager (Table 9.1). -/
abbrev Port.upstream (y : Port) : Bool := y.role == 1 || y.role == 3

/-- Lanes of a port at its configured width (R18). -/
def portLanes (c : Chip) (p : Nat) : List Nat := (List.range (widthLanes (c.port p).cfgWidth)).map (4 * p + ·)

/-- The physical lane of logical lane `i` (R298). -/
def physLane (c : Chip) (p i : Nat) (reversed : Bool) : Nat :=
  if reversed then 4 * p + (widthLanes (c.port p).cfgWidth - 1 - i) else 4 * p + i

/-- The lanes of a port carry no traffic; margining on them ends (R307). -/
def portLanesIdle (c : Chip) (p : Nat) : Chip :=
  (portLanes c p).foldl laneIdle c

/-- The BAD lanes of a port are tried again at its next retrain (R304). -/
def retryPort (c : Chip) (p : Nat) : Chip := (portLanes c p).foldl retryLane c

/-- A width qualifies without the BAD lanes (R304): its logical lanes are all good. -/
def widthLeft (c : Chip) (p : Nat) : Bool :=
  let y := c.port p
  [0, 1, 2, 3, 4].any (fun w => decide (y.cfgWidth ≤ w) && decide (w ≤ y.floor) &&
    ((portLanes c p).filter (fun n => decide ((c.lane n).logical < widthLanes w))).all (fun n => laneFree c n && !(c.lane n).bad))

/-- PORT_STATUS.STATE: a port that cannot train at WIDTH_FLOOR or wider stays in Detect, as DOWN (R267). -/
def shownState (c : Chip) (p : Nat) : Nat :=
  let y := c.port p
  if y.state = .training ∧ !widthLeft c p then 0 else y.state.code

/-- The Fabric Manager API return code of a vendor status (R276). -/
def fmCode (st : Status) : FmCode :=
  if st = .ok ∨ st = .okBasePast then .success
  else if st = .busy then .busy
  else if st = .badOpcode then .unsupported
  else .invalidInput

/-- A Fabric Manager API request ends with a vendor status, which an unsolicited event records (R276). -/
def fmEnd (c : Chip) (tag : Nat) (st : Status) : Chip := (c.emit (.fmAnswer tag (fmCode st) [])).emit (.fmStatus tag st)

/-- Commands that wait for a port's retrain end: PORT_RETRAIN with the state reached (Table 9.5), a Physical Port Control that acts as
it with OK (R276). -/
def endPortRetrain (c : Chip) (p : Nat) : Chip :=
  let y := c.port p
  y.fmWait.foldl (fun c t => fmEnd c t .ok)
    (y.retrain.foldl (fun c x => endCmd c x .ok (if x.opcode = 0x0102 then leBytes 1 (shownState c p) else []))
      (c.setPort p { y with retrain := [], fmWait := [] }))

/-- The agents of the host on a port, with `f` applied to the instant since which they are out of reach. -/
def portAgents (c : Chip) (p : Nat) (f : Option Nat → Option Nat) : Chip :=
  let here : Agent → Bool := fun a => a.bound && feLocal (feOf c a.fab) && feKind (feOf c a.fab) == 0 && feIndex (feOf c a.fab) == p
  let one : Agent → Agent := fun a => if here a then { a with downAt := f a.downAt } else a
  let dom : Domain → Domain := fun x => { x with agents := x.agents.map (fun a => (a.1, one a.2)) }
  { c with home := { c.home with domains := c.home.domains.map (fun d => (d.1, dom d.2)) } }

/-- The backing devices on a port that `pick` picks. -/
def portDevs (c : Chip) (p : Nat) (pick : Device → Bool) : List Nat :=
  (c.pool.devs.filter (fun d => d.2.present && !d.2.remote && d.2.loc == p && pick d.2)).map (·.1)

/-- The agents of the host on a port, and the backing devices on it, are out of reach (R154, R155, R195). -/
def portAway (c : Chip) (p : Nat) : Chip :=
  let mark : Option Nat → Option Nat := fun o => some (o.getD c.ivl)
  (portDevs c p (fun _ => true)).foldl (fun c b => c.modDev b (fun d => { d with downAt := mark d.downAt })) (portAgents c p mark)

/-- They are in reach again; a device only if its serial number is the one registered (R196). -/
def portBack (c : Chip) (p serial : Nat) : Chip :=
  (portDevs c p (fun d => d.serial == serial)).foldl (fun c b => deviceReturns (c.modDev b (fun d => { d with downAt := none })) b)
    (portAgents c p (fun _ => none))

/-- The link-layer state of a CXL egress begins again: replay buffer, sequence numbers, stomped packets. -/
def cxlLinkClear (c : Chip) (p : Nat) : Chip :=
  { c with sw := { c.sw with txSeq := c.sw.txSeq.put p 0, replay := c.sw.replay.put p [], stomped := c.sw.stomped.put p [],
                             retryFrom := c.sw.retryFrom.put p none } }

/-- Time in L0p is counted up to now. -/
def l0pCounted (c : Chip) (y : Port) : Port :=
  if y.state = .l0p then { y with l0pTime := y.l0pTime + (c.ivl - y.l0pSince), l0pSince := c.ivl } else y

/-- Whether the link of a port has come up (DL_Up). -/
def dlUp (y : Port) : Bool := linkUp y || y.state == .ideInsecure

/-- A key command that waits for the device ends (R502): its answer can no longer come. -/
def endKeyCmd (c : Chip) (p : Nat) (st : Status) : Chip :=
  let y := c.port p
  match y.goCmd with
  | some x => endCmd (c.setPort p { y with goCmd := none }) x st
  | none => c

/-- The link of a port goes down, or leaves Detect, into state `st`. -/
def portFalls (c : Chip) (p : Nat) (st : PortState) : Chip :=
  let c := endKeyCmd c p .busy
  let y := c.port p
  let c := retryPort (portLanesIdle c p) p
  let y' := { l0pCounted c y with
    state := st, rate := 0, width := 0, active := 0, flit256 := false, loptOn := false, cxl := false, cacheEn := false,
    memEn := false, cacheNeg := false, memNeg := false, ideOn := false, gone := [], l0pOut := none, l0pHold := none, retries := 0 }
  let c := endPortRetrain (c.setPort p y') p
  if dlUp y then portEvent8007 (portAway (cxlLinkClear (creditsDown c p) p) p) p 3 else c

/-- The state in which a port waits whose link may train: DISABLE holds it in Disabled. -/
def restState (y : Port) : PortState := if y.disable then .disabled else .training

/-- The link of a port retrains without going down: RECOVERY. -/
def retrainPort (c : Chip) (p : Nat) : Chip :=
  let y := c.port p
  match y.state with
  | .l0 | .l0p | .recovery | .ideInsecure =>
    let c := retryPort (portLanesIdle c p) p
    c.setPort p { l0pCounted c y with state := .recovery, active := y.width, l0pOut := none, l0pHold := none, retries := 0 }
  | .down => if y.present ∨ y.upstream then retryPort (c.setPort p { y with state := .training }) p else c
  | .training | .disabled | .inReset => c

/-- The slot-power channel that feeds a port (Table 17.5 PORT). -/
def slotOf (c : Chip) (p : Nat) : Option Nat := findBelow 32 (fun n => (c.chan n).p.port == p)

/-- A port may train: R267, R280, R294, R311, R519, and the self-test of its crossbar port. -/
def mayTrain (c : Chip) (p : Nat) : Bool :=
  let y := c.port p
  c.rst.running && y.role != 0 && (y.state == .down || y.state == .training || y.state == .recovery) &&
  !y.disable && !c.ports.linksDown && !c.test.portsOut.contains (portXbar p) && (c.course (p / 16)).refOk &&
  (y.upstream || y.present) &&
  (match slotOf c p with
   | some n => (c.chan n).pg
   | none => true) &&
  (portLanes c p).all (fun n => (c.lane n).test.isNone)

/-- Logical lanes 0 to w − 1 are good (R298, R303–R305). -/
def lanesGood (c : Chip) (p w : Nat) (reversed : Bool) : Bool :=
  (List.range w).all (fun i => let n := physLane c p i reversed; laneFree c n && !(c.lane n).bad)

/-- What a partner can train with on this port: rate and width within PORT_CTL (R266, R267). -/
def partnerFits (c : Chip) (p : Nat) (f : PartnerFacts) : Bool :=
  let y := c.port p
  decide (f.rate ≤ y.rateMax) && decide (f.rate ≤ f.maxRate) && decide (y.cfgWidth ≤ f.width) && decide (f.width ≤ y.floor) &&
  lanesGood c p (widthLanes f.width) f.reversed

/-- The lanes of a trained port (Table 10.2, R298, R302). -/
def lanesTrained (c : Chip) (p : Nat) (f : PartnerFacts) (fresh : Bool) : Chip :=
  let c := if fresh then (portLanes c p).foldl (fun c n => c.modLane n (fun x => { x with saved := [] })) c else c
  (List.range (widthLanes f.width)).foldl (fun c i =>
    c.modLane (physLane c p i f.reversed) (fun x =>
      { x with signal := true, cdrLock := true, eqDone := decide (2 ≤ f.rate), inverted := f.inverted.contains (physLane c p i f.reversed - 4 * p),
               logical := i, inUse := true, bad := false, rate := f.rate, saved := addOnce x.saved f.rate })) c

/-- R288: CXL.cache and CXL.mem are enabled as negotiated, not while IDE is required and not active. -/
def protocolsOn (y : Port) : Port :=
  let held := y.ideReq && !y.ideOn
  { y with cacheEn := y.cacheNeg && !held, memEn := y.memNeg && !held }

/-- The vPPBs 16–47 that something on a port is bound to: (vCS, vPPB). -/
def vppbsOn (c : Chip) (p : Nat) : List (Nat × Nat) :=
  c.ports.vcs.flatMap (fun v => (v.2.vppbs.filter (fun b => match b.2.bound with
    | .port q => q == p
    | .ld q _ => q == p
    | .none => false)).map (fun b => (v.1, b.1)))

/-- The hosts of the vPPBs bound to a port or its LDs see a change of the virtual slot (R278, R279). -/
def slotSeen (c : Chip) (p kind : Nat) : Chip := (vppbsOn c p).foldl (fun c e => c.emit (.hotPlug e.1 e.2 kind)) c

/-- The link of a port has trained (R266, R267, R277). -/
def portRises (c : Chip) (p : Nat) (f : PartnerFacts) : Chip :=
  let y := c.port p
  let fresh : Bool := y.state != .recovery
  let narrow : Bool := decide (y.cfgWidth < f.width)
  let slow : Bool := decide (f.rate < y.rateMax) && decide (f.rate < f.maxRate)
  let c := lanesTrained c p f (fresh && f.serial != y.serial)
  let y' : Port := protocolsOn { y with
    state := .l0, rate := f.rate, width := f.width, active := f.width, flit256 := decide (f.rate = 5),
    loptOn := decide (f.rate = 5) && y.lopt && f.lopt, cxl := f.cxl, cacheNeg := f.cxl && f.cache, memNeg := f.cxl && f.mem,
    degraded := y.degraded || narrow || slow, serial := if fresh then f.serial else y.serial, ident := if fresh then f.ident else y.ident,
    lds := if fresh then f.lds else y.lds, seen := true }
  let c := c.setPort p y'
  let c := if fresh then portBack (creditsUp c p f.credits) p f.serial else c
  let c := if f.badOrder then raise c 182 (srcInfo 1 p) else c
  let c := if narrow then raise c 161 (srcInfo 1 p) else c
  let c := if slow then raise c 162 (srcInfo 1 p) else c
  let c := if portHasFlow c p ∧ (narrow ∨ f.rate < y.rateMax) then raise c 80 (srcInfo 1 p) else c
  let c := if fresh ∧ y.ideReq ∧ !y'.ideOn then raise c 165 (srcInfo 1 p) else c
  let c := if y.role = 2 ∧ !y.seen then portEvent8007 c p 0 else c
  endPortRetrain (if fresh then slotSeen (portEvent8007 c p 2) p 6 else c) p

/-! ### vPPBs -/

/-- An unbind ends: the vPPB is free, its command ends with the option used (Table 12.12). -/
def endUnbind (c : Chip) (v b option : Nat) (st : Status) : Chip :=
  let x := c.vppb v b
  let c := c.setVppb v b {}
  let c := match x.bound with
    | .port p => slotBack c p
    | .ld _ _ | .none => c
  let c := match x.cmd with
    | some y => endCmd c y st (leBytes 1 option)
    | none => c
  match x.fmTag with
  | some t => fmEnd c t st
  | none => c

/-- R279 option 2: outstanding non-posted requests of the host complete as Completer Abort. -/
def abortRequests (c : Chip) (up p : Nat) : Chip :=
  let (c, out) := dropQueued c (fun q => q.egress == .port p && q.cls == .np && q.port == up && q.moved == 0)
  out.foldl (fun c _ => c.emit (.tlpAnswer up .abort)) c

/-- A surprise removal on a vPPB. -/
def surpriseOut (c : Chip) (v b : Nat) : Chip :=
  let c := c.emit (.hotPlug v b 2)
  match vppbPort c v b with
  | some p => abortRequests c (c.vcsOf v).up p
  | none => c

/-! ### The reset of a host (R268, R282) -/

/-- PERST_OUT_N of a downstream port is asserted for the reset that pin `input` began. -/
def assertOut (c : Chip) (p input : Nat) : Chip :=
  match findBelow 64 (fun j => (c.pOut j).valid && (c.pOut j).port == p) with
  | none => c
  | some j => c.setPOut j { c.pOut j with level := true, since := some c.ivl, minDone := false, input := input }

/-- A downstream port whose partner PERST resets: its link is down, not unexpectedly. -/
def partnerReset (c : Chip) (p : Nat) : Chip :=
  let y := c.port p
  if dlUp y then portFalls c p (restState y) else c

/-- R282 steps 1 to 5: the host on port `p` is reset; the port's link goes to state `st`. -/
def hostReset (c : Chip) (p : Nat) (st : PortState) (input : Nat) : Chip :=
  let c := portFalls c p st
  let vs := (c.ports.vcs.filter (fun v => v.2.present && v.2.up == p)).map (·.1)
  let held := (c.sw.host.look p).dpcOn
  let c := { c with sw := { c.sw with host := c.sw.host.put p {} }, rings := { c.rings with pba := c.rings.pba.put p [] } }
  let bound := vs.flatMap (fun v => (c.vcsOf v).vppbs.map (fun b => (v, b.1, b.2)))
  let c := bound.foldl (fun c b =>
    let c := c.setVppb b.1 b.2.1 { b.2.2 with off := false }
    match b.2.2.bound with
    | .port q => if b.2.2.off || held.contains b.2.1 then slotBack c q else c
    | .ld _ _ | .none => c) c
  let (c, _) := dropQueued c (fun q => q.egress == .port p && q.cls == .cpl && q.moved == 0)
  let c := discardOwed c (fun m => m.port == p)
  let c := removePortAgents (resetPortTenants c p) p none
  bound.foldl (fun c b => match b.2.2.bound with
    | .port q => partnerReset (assertOut c q input) q
    | .ld q l => c.emit (.ldReset q l)
    | .none => c) c

/-- A downstream port whose link is down is in Detect again. One without a slot-power channel is present only once receiver detection
finds a partner (R277): it becomes absent with source 168, and Presence Detect follows (R278, notes/assumptions/191.md). -/
def detectAgain (c : Chip) (p : Nat) : Chip :=
  let y := c.port p
  if !y.present ∨ (slotOf c p).isSome then c
  else
    let c := (portLanes c p).foldl (fun c i => c.modLane i (fun x => { x with saved := [] })) c
    raise (portEvent8007 (slotSeen (c.setPort p { y with present := false, seen := false }) p 2) p 1) 168 (srcInfo 1 p)

/-- The link of a downstream port is down; an unbind with option 0 that waits for that ends (R279). -/
def downstreamFalls (c : Chip) (p : Nat) : Chip :=
  let waits := (vppbsOn c p).filter (fun e => (c.vppb e.1 e.2).unbind == some 0)
  detectAgain (waits.foldl (fun c e => endUnbind c e.1 e.2 0 .ok) (portFalls c p .down)) p

/-- A vPPB reports a surprise link down under the settings that its host has made (R265, R268): with hot-plug reports enabled as a link
event; with Downstream Port Containment enabled it contains the port, which stays Disabled until the host releases it
(notes/assumptions/177.md). -/
def surpriseDown (c : Chip) (v b p : Nat) : Chip :=
  let up := (c.vcsOf v).up
  let h := c.sw.host.look up
  let c := if h.hotEn.contains b then c.emit (.hotPlug v b 4) else c
  if h.dpcEn.contains b then
    Chip.emit { c with sw := { c.sw with host := c.sw.host.put up { h with dpcOn := addOnce h.dpcOn b } }
                       ports := { c.ports with ports := c.ports.ports.upd p (fun y => { y with state := .disabled }) } } (.hotPlug v b 5)
  else c

/-- A link down that a PORT_CTL write, a command, PERST or a hot-plug action caused (R268). -/
def linkDrops (c : Chip) (p : Nat) : Chip :=
  let y := c.port p
  if !dlUp y then c else if y.upstream then hostReset c p .down 64 else downstreamFalls c p

/-- The link of a port goes down unasked (R268): source 160 and a surprise link down at the bound vPPBs, or the host's reset. Where an
unbind with option 0 waits for it, it is expected (R279). -/
def linkLost (c : Chip) (p : Nat) : Chip :=
  let y := c.port p
  if !dlUp y then c
  else if y.upstream then hostReset c p .down 64
  else if (vppbsOn c p).any (fun e => (c.vppb e.1 e.2).unbind == some 0) then downstreamFalls c p
  else raise ((vppbsOn c p).foldl (fun c e => surpriseDown c e.1 e.2 p) (downstreamFalls c p)) 160 (srcInfo 1 p)

/-! ### PORT_CTL -/

/-- The RWC fields of PORT_CTL in their register positions. -/
def portCtlFields (y : Port) (v : Nat) : Port :=
  { y with rateMax := field v 2 3, lopt := bitOf v 5, l0pEn := bitOf v 6, l0pMin := field v 7 3, floor := field v 10 3,
           ideReq := bitOf v 13, ideAgg := field v 14 3, disable := bitOf v 17 }

/-- The value of those fields is one the register takes: no other bit, no refused code. -/
def portCtlOk (v : Nat) : Bool :=
  decide (v % 4 = 0) && decide (v < 2 ^ 18) && decide (field v 2 3 ≤ 5) && decide (field v 7 3 ≤ 4) && decide (field v 10 3 ≤ 4) &&
  decide (field v 14 3 ≤ 5)

/-- Thermal step 2 is in force (Table 18.4, R464, R469). -/
def thermalStep2 (c : Chip) : Bool := decide (2 ≤ c.pow.tStep) || c.pow.quadStep || c.pow.busStep

/-- The switch asks its partner for an active width (R269). -/
def askWidth (c : Chip) (p w : Nat) : Chip :=
  (c.modPort p (fun y => { y with l0pOut := some w })).emit (.l0pRequest p w)

/-- A link in L0p whose L0P_EN is 0 is asked for its full trained width, outside thermal step 2 (R270). -/
def l0pLeave (c : Chip) (p : Nat) : Chip :=
  let y := c.port p
  if y.state = .l0p ∧ !y.l0pEn ∧ !thermalStep2 c then askWidth c p y.width else c

/-- What a change of PORT_CTL sets off: DISABLE, L0P_EN (R270), IDE_REQUIRED (R288), a lane test that ends (R311), an L0P_MIN that
excludes the active width (R468). -/
def portCtlGo (c : Chip) (p : Nat) (old : Port) : Chip :=
  let y := c.port p
  let c := c.setPort p (protocolsOn y)
  if y.disable ∧ !old.disable then (if y.state = .inReset then c else portFalls c p .disabled)
  else if !y.disable ∧ old.disable then
    let c := (portLanes c p).foldl laneTestCut c
    if (c.port p).state = .disabled then c.modPort p (fun y => { y with state := .training }) else c
  else if old.l0pEn ∧ !y.l0pEn then l0pLeave c p
  else if y.l0pEn ∧ y.state = .l0p ∧ y.l0pMin < y.active ∧ y.l0pOut.isNone ∧ !thermalStep2 c then askWidth c p (max y.l0pMin y.width)
  else c

/-- The fields whose change takes effect at the next retrain. -/
def retrainFields (a b : Port) : Bool := a.rateMax != b.rateMax || a.lopt != b.lopt || a.ideAgg != b.ideAgg

end Sys2Proof.Machine
end

