-- ==== Sys2Proof/Machine/Stomp.lean ====
section
/-!
DEFINITION. Flits of the CXL ports: verdicts and stomped packets (R68–R71, R245), traffic a port answers by itself (R289), link IDE
failures (R287).
-/
namespace Sys2Proof.Machine

/-- A packet's cells are no longer tail-marked: `body` is its good copy, `poison` marks its data, or its ECRC, as bad (Table 3.4). A
replay entry that carries a marked cell takes the good bytes, or POISON; the other entries stay as they are (R245). -/
def clearTail (c : Chip) (pid : Nat) (poison : Bool) (body : Option (List Byte)) : Chip :=
  let fix : QPkt → QPkt := fun q =>
    if q.holds pid then { q with tails := [], poison := q.poison || poison, body := if q.pid = pid then body.getD q.body else q.body }
    else q
  let entry : StvEntry → StvEntry := fun e => match e.load with
    | .packet q k n =>
      if q.holds pid then
        let e' := { e with bad := false, load := .packet (fix q) k n }
        if !e.bad then e'
        else if poison then { e' with head := { e.head with poison := true } }
        else { e' with payload := padTo 240 (packetPayload false (headerOf q) (fix q).body k) }
      else e
    | .permits _ => e
  let c := mapQueued c fix
  { c with stv := { c.stv with links := c.stv.links.map (fun l => (l.1, { l.2 with replay := l.2.replay.map entry })) } }

/-- The answer to a retry request: the flits from its sequence number on, with the entries whose content was replaced (R69). -/
def replayFrom (c : Chip) (p n : Nat) : Chip := c.emit (.replay p n ((c.sw.replay.look p).filter (fun e => decide (n ≤ e.seq))))

/-- A retry request that waits is served once no bad flit remains at or after its sequence number (R69). -/
def serveRetry (c : Chip) (p : Nat) : Chip :=
  match c.sw.retryFrom.look p with
  | none => c
  | some n =>
    if (c.sw.replay.look p).any (fun e => e.bad && decide (n ≤ e.seq)) then c
    else replayFrom { c with sw := { c.sw with retryFrom := c.sw.retryFrom.put p none } } p n

/-- A good copy, or the copy that Table 3.4 puts in its place, stands in the replay buffers of egress port `p`: data poisoned, or a
CXL.io TLP (`io`) with its ECRC inverted. -/
def replaceCopy (c : Chip) (p pid : Nat) (poison io : Bool) (body : Option (List Byte)) : Chip :=
  let c := clearTail c pid poison body
  let put : ReplayEnt → ReplayEnt := fun e =>
    if e.pid = pid then { e with bad := false, poison := poison && !io, ecrc := poison && io } else e
  serveRetry { c with sw := { c.sw with
    replay := c.sw.replay.upd p (·.map put),
    stomped := c.sw.stomped.upd p (fun l => l.filter (fun s => s.pid ≠ pid)) } } p

/-- GOOD_COPY (R69, R70): ingress replay delivers the bytes of the packet. -/
def goodCopy (port : Nat) (x : CopyIn) (c : Chip) : Chip :=
  if c.rst.running then replaceCopy c port x.pid false false (some x.body) else c

/-- The packet that ends for want of a good copy. -/
def lostPacket (c : Chip) (p pid : Nat) : Option QPkt :=
  match (c.sw.stomped.look p).find? (fun s => s.pid == pid) with
  | some s => some s.pkt
  | none => (allQueued c).find? (fun q => q.holds pid)

/-- R71, Table 3.4: no good copy can arrive for a packet of egress port `p`. -/
def noGoodCopy (c : Chip) (p pid : Nat) : Chip :=
  match lostPacket c p pid with
  | none => c
  | some q =>
    let c := raise c 67 (srcInfo 1 p)
    let io := (portLink c p).isNone && isIo q.cls
    if io && !q.ecrc then linkLost c p else replaceCopy c p pid true io none

/-- R71 for a packet that is still queued. -/
def noGoodQueued (c : Chip) (q : QPkt) : Chip :=
  match q.egress.portNo with
  | some p => noGoodCopy c p q.pid
  | none => clearTail (raise c 67) q.pid true none

/-- The packet whose next cell output `o` would take. -/
def outPacket (c : Chip) (o : Nat) : Option QPkt :=
  match (c.arb o).carry with
  | none => none
  | some k => match c.sw.voq.look k.lane with
    | [] => none
    | q :: _ => if q.pid = k.pid ∧ stagingRoom c q 1 then some q else none

/-- What the SECDED code of the central buffer shows of the cell read: a double-bit error tail-marks it and R71 applies. -/
def cellVerdict (o bank : Nat) (v : Ecc) (c : Chip) : Chip :=
  match v, outPacket c o with
  | .clean, _ | _, none => c
  | .corrected, some _ => raise (spendArmed c [68, 69]) 68 (srcInfo 8 bank)
  | .double, some q =>
    let c := raise (spendArmed c [68, 69]) 69 (srcInfo 8 bank)
    noGoodQueued (countEvent (raise (markTail c [(q.pid, q.moved)]) 66 (srcInfo 8 bank)) (portEvent q 0x014)) q

/-- CELL_LEAVE (R66, R71, R74, R76, R83): the cell is read from a bank of the buffer and leaves it. -/
def cellLeave (output bank : Nat) (v : Ecc) (c : Chip) : Chip := cellMove output (cellVerdict output bank v c)

/-- STOMP_HOLD_EXPIRE (R71). -/
def stompHoldExpire (port pid : Nat) (c : Chip) : Chip :=
  match (c.sw.stomped.look port).find? (fun s => s.pid == pid) with
  | none => c
  | some s => if c.past s.since (us c.sw.timers.stompHold) then noGoodCopy c port pid else c

/-- CXL_RETRY_REQUEST (R69): NOP flits until the good copy stands in the replay buffer, then replay. -/
def cxlRetryRequest (port seq : Nat) (c : Chip) : Chip :=
  let y := c.port port
  if 128 ≤ port ∨ !linkUp y then c
  else if (c.sw.replay.look port).any (fun e => e.bad && decide (seq ≤ e.seq)) then
    Chip.emit { c with sw := { c.sw with retryFrom := c.sw.retryFrom.put port (some seq) } } (.nop port)
  else replayFrom c port seq

/-- R292: the port's retry count reaches the CXL threshold. -/
def countRetry (c : Chip) (p : Nat) : Chip :=
  let y := c.port p
  let c := c.setPort p { y with retries := y.retries + 1, errors := y.errors + 1 }
  if Config.cxlRetryThreshold ≤ y.retries + 1 then retrainPort (raise c 163 (srcInfo 1 p)) p else c

/-- A flit with a bad CRC (R68). -/
def badFlit (c : Chip) (p : Nat) (cells : List (Nat × Nat)) : Chip :=
  let hit := (allQueued c).foldl (fun (l : List QPkt) q =>
    if cells.any (fun k => q.holds k.1) && !l.any (samePkt q) then l ++ [q] else l) []
  let c := badCells c cells (srcInfo 1 p)
  let c := hit.foldl (fun c q => countEvent c (portEvent q 0x014)) c
  let c := countEvent c { code := 0x015, quad := p / 32, inst := p, port := p }
  countRetry (c.emit (.retryRequest p)) p

/-- R287: a failed MAC check. The epoch's packets are not released. -/
def macFailed (c : Chip) (p : Nat) (pids : List Nat) : Chip :=
  let (c, _) := dropQueued c (fun q => pids.contains q.pid && q.moved == 0)
  raise (c.modPort p (fun y => protocolsOn { l0pCounted c y with state := .ideInsecure, ideOn := false, gone := [] })) 164
    (srcInfo 1 p)

/-- Status bits of function `fn` of a vCS are set in its AER uncorrectable error status (R265). -/
def aerSet (c : Chip) (v fn : Nat) (err : Word) : Chip :=
  let up := (c.vcsOf v).up
  { c with sw := { c.sw with host := c.sw.host.upd up (fun h => { h with aer := h.aer.upd fn (· ||| err) }) } }

/-- An error in the AER of the vPPB or port that received it: 255 names the upstream port function (R289). -/
def aerLog (c : Chip) (p : Nat) (err : Word) : Chip :=
  match vcsOfPort c p with
  | some (v, true) => (aerSet c v 0 err).emit (.aer v 255 err)
  | some (_, false) => (vppbsOn c p).foldl (fun c e => (aerSet c e.1 (e.2 + 1) err).emit (.aer e.1 e.2 err)) c
  | none => c

/-- Unsupported Request and Malformed TLP in the AER uncorrectable error status. -/
abbrev aerUr : Word := 0x00100000
abbrev aerMalformed : Word := 0x00040000

/-- Table 9.4. -/
def oddTlp (c : Chip) (p : Nat) (k : OddTlp) : Chip :=
  match k with
  | .locked | .absentFunction | .vdm0 => aerLog (raise (c.emit (.tlpAnswer p .unsupported)) 166 (srcInfo 1 p)) p aerUr
  | .portBased => aerLog (raise c 166 (srcInfo 1 p)) p aerUr
  | .vdm1 => c
  | .malformed | .foreignCache => aerLog (raise c 167 (srcInfo 1 p)) p aerMalformed

/-- CXL_FLIT_RECEIVE (R68, R287, R289, R292). Packets it carries are looked up by commands of their own. -/
def cxlFlitReceive (port : Nat) (f : CxlFlit) (c : Chip) : Chip :=
  if 128 ≤ port ∨ !linkUp (c.port port) then c
  else if !f.crcOk then badFlit c port f.carries
  else
    let c := c.modPort port (fun y => { y with retries := 0 })
    let c := lastCells c f.ends
    if f.macOk = some false ∧ (c.port port).ideOn then macFailed c port (f.carries.map (·.1))
    else match f.odd with
      | some k => oddTlp c port k
      | none => c

end Sys2Proof.Machine
end

