-- ==== Sys2Proof/Machine/Ports.lean ====
section
/-!
DEFINITION. The commands of the CXL ports (09_cxl_ports.md): link events, L0p, PORT_CONFIG and the other vendor commands, virtual CXL
switches and hot plug, PERST.
-/
namespace Sys2Proof.Machine

/-! ### Link events -/

/-- The partner reaches only a width narrower than WIDTH_FLOOR: the port stays in Detect (R267). -/
def staysInDetect (c : Chip) (p : Nat) : Chip := if dlUp (c.port p) then linkLost c p else portFalls c p .down

/-- CXL_LINK_UP (R266, R267, R298, R300). -/
def cxlLinkUp (port : Nat) (p : PartnerFacts) (c : Chip) : Chip :=
  if 128 ≤ port ∨ !mayTrain c port then c
  else if partnerFits c port p then portRises c port p
  else if (c.port port).floor < p.width then staysInDetect c port
  else c

/-- The slot that feeds a port is off or empty: its link goes down by a command or a hot-plug action (R268). -/
def slotDark (c : Chip) (p : Nat) : Bool :=
  match slotOf c p with
  | some n => let h := c.chan n; h.state == .off || h.state == .empty || h.state == .debounce
  | none => false

/-- CXL_LINK_DOWN (R268). -/
def cxlLinkDown (port : Nat) (c : Chip) : Chip := if !c.rst.running ∨ 128 ≤ port then c else if slotDark c port then linkDrops c port else linkLost c port

/-- HOT_RESET (R268): on an upstream port. -/
def hotReset (port : Nat) (c : Chip) : Chip :=
  if c.rst.running ∧ (c.port port).upstream ∧ linkUp (c.port port) then hostReset c port .training 64 else c

/-- RECEIVER_DETECT (R277): a downstream port without a slot-power channel becomes present. -/
def receiverDetect (port : Nat) (c : Chip) : Chip :=
  let y := c.port port
  if !c.rst.running ∨ 128 ≤ port ∨ y.role ≠ 2 ∨ y.present ∨ (slotOf c port).isSome then c
  else raise (slotSeen (c.setPort port { y with present := true, seen := false, state := if y.state = .down then .training else y.state })
    port 0) 168 (srcInfo 1 port)

/-! ### L0p (R269, R270) -/

/-- A partner's request is rejected (R269). Widths are codes: a larger code is narrower. -/
def l0pRefused (c : Chip) (p w : Nat) : Bool :=
  let y := c.port p
  decide (y.l0pMin < w) || (!y.l0pEn && !thermalStep2 c) || portHasFlow c p

/-- The active width of a port. -/
def setActive (c : Chip) (p w : Nat) : Chip :=
  let y := l0pCounted c (c.port p)
  let a := max w y.width
  let st : PortState := if y.width < a then .l0p else .l0
  c.setPort p { y with active := a, state := st, l0pSince := if st = .l0p ∧ (c.port p).state ≠ .l0p then c.ivl else y.l0pSince }

/-- L0P_REQUEST: a partner's request (R269, R270). -/
def l0pRequest (port width : Nat) (c : Chip) : Chip :=
  let y := c.port port
  if !c.rst.running ∨ !(y.state = .l0 ∨ y.state = .l0p) ∨ !y.flit256 then c
  else if y.l0pOut.isSome ∧ y.role = 2 then c.emit (.l0pAnswer port false)
  else
    let c := if y.l0pOut.isSome then c.setPort port { y with l0pOut := none, l0pHold := some c.ivl } else c
    if l0pRefused c port width then c.emit (.l0pAnswer port false)
    else (setActive c port width).emit (.l0pAnswer port true)

/-- L0P_RESPONSE: the partner answers the switch's own request. -/
def l0pResponse (port : Nat) (accepted : Bool) (c : Chip) : Chip :=
  let y := c.port port
  match y.l0pOut with
  | none => c
  | some w =>
    let c := c.setPort port { y with l0pOut := none }
    if accepted ∧ (y.state = .l0 ∨ y.state = .l0p) then l0pLeave (setActive c port w) port else c

/-! ### PORT_CONFIG (R356, Tables 3.5, 3.8, 9.6) -/

/-- Kind and index of a PORT_CONFIG target. -/
abbrev cfgKind (d : Desc) : Nat := d.tgt / 2 ^ 24
abbrev cfgIndex (d : Desc) : Nat := d.tgt % 256

/-- A field is not selected, or lies in its range. -/
def maskIn (d : Desc) (bit lo hi v : Nat) : Bool := !d.mask bit || (decide (lo ≤ v) && decide (v ≤ hi))

/-- PORT_CONFIG's own checks. -/
def portConfigCheck (d : Desc) : Option Status :=
  let m := d.u32 16
  let ok : Bool :=
    if cfgKind d = 0 then d.zeroBut [(16, 9)] && decide (m < 4) && (!d.mask 0 || portCtlOk (d.u32 20))
    else if cfgKind d = 1 then
      d.zeroBut [(16, 44)] && decide (m < 1024) && maskIn d 0 256 65536 (d.u32 20) && maskIn d 1 0 4096 (d.u32 24) &&
      (List.range 8).all (fun k => maskIn d (2 + k) 0 65536 (d.u32 (28 + 4 * k)))
    else if cfgKind d = 2 then
      d.zeroBut [(16, 13), (32, 24)] && decide (m < 512) && maskIn d 0 1 100 (d.u32 20) && maskIn d 1 1 1000000 (d.u32 24) &&
      maskIn d 2 1 100 (d.byte 28) && maskIn d 3 16384 262144 (d.u32 32) && maskIn d 4 64 65536 (d.u32 36) &&
      maskIn d 5 1 10000 (d.u32 40) && maskIn d 6 250 16000 (d.u32 44) && maskIn d 7 1 1000 (d.u32 48) &&
      maskIn d 8 100 1000000 (d.u32 52)
    else d.zeroBut [(16, 8)] && decide (m < 2) && maskIn d 0 10 60000 (d.u32 20)
  if ok then none else some .badParam

/-- Buffer limits as a PORT_CONFIG of kind 1 leaves them. -/
def xportSet (x : XPort) (d : Desc) : XPort :=
  { portLimit := if d.mask 0 then d.u32 20 else x.portLimit, sc0Reserve := if d.mask 1 then d.u32 24 else x.sc0Reserve,
    scLimit := (List.range 8).map (fun k => if d.mask (2 + k) then d.u32 (28 + 4 * k) else x.scLimit.getD k 65536) }

/-- Core timers as a PORT_CONFIG of kind 2 leaves them. -/
def timersSet (t : CoreTimers) (d : Desc) : CoreTimers :=
  { stompHold := if d.mask 0 then d.u32 20 else t.stompHold, creditStall := if d.mask 1 then d.u32 24 else t.creditStall,
    spillWarn := if d.mask 2 then d.byte 28 else t.spillWarn, classReserve := if d.mask 3 then d.u32 32 else t.classReserve,
    maxReq := if d.mask 4 then d.u32 36 else t.maxReq, permitIdle := if d.mask 5 then d.u32 40 else t.permitIdle,
    pathGuard := if d.mask 6 then d.u32 44 else t.pathGuard }

/-- PORT_CONFIG's effect on the stored parameters. -/
def portConfigDo (c : Chip) (d : Desc) : Chip :=
  let i := cfgIndex d
  if cfgKind d = 0 then
    let c := if d.mask 0 then c.modPort i (fun y => portCtlFields y (d.u32 20)) else c
    flowsRetimed (if d.mask 1 then { c with sched := { c.sched with overhead := c.sched.overhead.put i (d.byte 24) } } else c)
  else if cfgKind d = 1 then { c with sw := { c.sw with xports := c.sw.xports.put i (xportSet (c.sw.xports.look i) d) } }
  else if cfgKind d = 2 then
    { c with sw := { c.sw with timers := timersSet c.sw.timers d }
             ports := { c.ports with inFilter := if d.mask 7 then d.u32 48 else c.ports.inFilter,
                                     outMin := if d.mask 8 then d.u32 52 else c.ports.outMin } }
  else if d.mask 0 then c.modVcs i (fun v => { v with timeout := d.u32 20 }) else c

/-- What follows the change: the port reacts, and retrains where a field takes effect only so. `old`: the state before. -/
def portConfigGo (old c : Chip) (x : CmdRef) (d : Desc) : Chip :=
  let i := cfgIndex d
  if cfgKind d = 0 then
    let c := if d.mask 0 then portCtlGo c i (old.port i) else c
    if retrainFields (c.port i) (old.port i) ∧ (dlUp (c.port i) ∨ (c.port i).state = .training) then
      (retrainPort c i).modPort i (fun y => { y with retrain := y.retrain ++ [x] })
    else endCmd c x .ok
  else if cfgKind d = 1 then endCmd (offerAll c i) x .ok
  else endCmd c x .ok

/-- PORT_CONFIG. -/
def portConfig (r : Nat) (d : Desc) (c : Chip) : Chip :=
  runCmd 0x0100 (fun c x => match portConfigCheck d with
    | some st => refuse c x st
    | none => admitOr c x (portConfigDo c d) (fun e => portConfigGo c e x d)) r d c

/-! ### PORT_QUERY, PORT_RETRAIN -/

/-- PORT_CTL[p]. -/
def portCtl (c : Chip) (p : Nat) : Nat :=
  let y := c.port p
  y.role + 4 * y.rateMax + 32 * nat1 y.lopt + 64 * nat1 y.l0pEn + 128 * y.l0pMin + 1024 * y.floor + 2 ^ 13 * nat1 y.ideReq +
  2 ^ 14 * y.ideAgg + 2 ^ 17 * nat1 y.disable

/-- PORT_STATUS[p]. -/
def portStatus (c : Chip) (p : Nat) : Nat :=
  let y := c.port p
  shownState c p + 8 * y.rate + 64 * y.width + 512 * y.active + 2 ^ 12 * nat1 y.flit256 + 2 ^ 13 * nat1 y.loptOn + 2 ^ 14 * nat1 y.cxl +
  2 ^ 15 * nat1 y.cacheEn + 2 ^ 16 * nat1 y.memEn + 2 ^ 17 * nat1 y.ideOn + 2 ^ 18 * nat1 y.present + 2 ^ 19 * nat1 y.degraded +
  2 ^ 20 * nat1 (portHasFlow c p)

/-- PORT_QUERY: status, partner, errors, time in L0p. -/
def portQuery (r : Nat) (d : Desc) (c : Chip) : Chip :=
  runCmd 0x0101 (fun c x =>
    if !d.zeroBut [(16, 12)] ∨ !d.bufferOk x.ring then refuse c x .badParam
    else
      let y := l0pCounted c (c.port d.tgt)
      endQuery c x d (Config.queryBytes 0x0101) (openFields [portStatus c d.tgt, y.ident, y.serial, y.lds, y.errors, y.l0pTime])) r d c

/-- PORT_RETRAIN (R304): it ends with the state reached. -/
def portRetrain (r : Nat) (d : Desc) (c : Chip) : Chip :=
  runCmd 0x0102 (fun c x =>
    let p := d.tgt
    let y := c.port p
    if !d.zeroBut [] then refuse c x .badParam
    else if y.state = .inReset ∨ y.state = .disabled then refuse c x .busy
    else
      let c := retrainPort c p
      if (c.port p).state = .down then endCmd c x .ok (leBytes 1 0)
      else c.modPort p (fun y => { y with retrain := y.retrain ++ [x] })) r d c

/-- PORT_CTL_RETRAIN: a write of PORT_CTL.RETRAIN acts as PORT_RETRAIN, without an event. -/
def portCtlRetrain (path : Path) (port : Nat) (c : Chip) : Chip :=
  if pathOpen c path ∧ port < 128 ∧ (c.port port).role ≠ 0 then retrainPort c port else c

/-! ### PERST (R281–R283) -/

/-- PERST_MAP names an output. -/
abbrev mapsOut (d : Desc) : Bool := bitOf d.tgt 8
abbrev mapPin (d : Desc) : Nat := d.tgt % 64

/-- A valid mapping of pin `pin` names a port of the right role, which no other pin of its direction names (R281). -/
def mapOk (c : Chip) (out : Bool) (pin p : Nat) : Bool :=
  if out then (c.port p).role == 2 && !c.ports.pOut.any (fun e => e.1 != pin && e.2.valid && e.2.port == p)
  else (c.port p).upstream && !c.ports.pIn.any (fun e => e.1 != pin && e.2.valid && e.2.port == p)

/-- PERST_MAP's own checks (R281). -/
def perstMapCheck (c : Chip) (d : Desc) : Option Status :=
  let p := d.byte 16
  if !d.zeroBut [(16, 2)] ∨ 127 < p ∨ (if mapsOut d then 3 else 1) < d.byte 17 then some .badParam
  else if bitOf (d.byte 17) 0 ∧ !mapOk c (mapsOut d) (mapPin d) p then some .badParam
  else none

/-- A PERST_OUT_N is low: unmapped, forced, or asserted under R282 (R281, R283). -/
def outLevel (x : PerstOut) : PerstOut := { x with level := !x.valid || x.force || x.since.isSome }

/-- PERST_OUT_MAP[j] is stored. -/
def outMapSet (c : Chip) (j p : Nat) (valid force : Bool) : Chip :=
  c.setPOut j (outLevel { c.pOut j with port := p, valid := valid, force := force })

/-- PERST_IN_MAP[i] is stored; the filter of its pin starts again. -/
def inMapSet (c : Chip) (i p : Nat) (valid : Bool) : Chip :=
  let x := c.pIn i
  if x.port = p ∧ x.valid = valid then c else c.setPIn i { x with port := p, valid := valid, level := false, since := c.ivl }

/-- The mapping of PERST_MAP is stored. -/
def perstMapDo (c : Chip) (d : Desc) : Chip :=
  let f := d.byte 17
  if mapsOut d then outMapSet c (mapPin d) (d.byte 16) (bitOf f 0) (bitOf f 1) else inMapSet c (mapPin d) (d.byte 16) (bitOf f 0)

/-- A port leaves IN_RESET (R283). -/
def leaveReset (c : Chip) (p : Nat) : Chip :=
  let y := c.port p
  if y.state = .inReset then c.setPort p { y with state := restState y } else c

/-- The outputs that pin `i` holds rise as far as R283 lets them. -/
def releaseOuts (c : Chip) (i : Nat) : Chip :=
  (List.range 64).foldl (fun c j =>
    let x := c.pOut j
    if x.since.isSome ∧ x.input = i ∧ x.minDone then c.setPOut j (outLevel { x with since := none }) else c) c

/-- What follows: a port whose pin no longer resets it leaves IN_RESET. -/
def inMapGo (old c : Chip) (i : Nat) : Chip :=
  let was := old.pIn i
  if was.level ∧ !(c.pIn i).level then releaseOuts (leaveReset c was.port) i else c

def perstMapGo (old c : Chip) (x : CmdRef) (d : Desc) : Chip := endCmd (if mapsOut d then c else inMapGo old c (mapPin d)) x .ok

/-- PERST_MAP. -/
def perstMap (r : Nat) (d : Desc) (c : Chip) : Chip :=
  runCmd 0x0108 (fun c x => match perstMapCheck c d with
    | some st => refuse c x st
    | none => admitOr c x (perstMapDo c d) (fun e => perstMapGo c e x d)) r d c

/-- PERST_IN_N_EDGE: a change of the pin starts its filter. -/
def perstInNEdge (pin : Nat) (low : Bool) (c : Chip) : Chip :=
  let x := c.pIn pin
  if 64 ≤ pin ∨ x.raw = low then c else c.setPIn pin { x with raw := low, since := c.ivl }

/-- PERST_IN_ASSERT (R282): a mapped pin has been low for PERST_IN_FILTER. -/
def perstInAssert (pin : Nat) (c : Chip) : Chip :=
  let x := c.pIn pin
  if 64 ≤ pin ∨ !c.rst.running ∨ c.ports.linksDown ∨ !x.valid ∨ !x.raw ∨ x.level ∨ !c.past x.since (us c.ports.inFilter) then c
  else
    let c := hostReset (c.setPIn pin { x with level := true, seen := true }) x.port .inReset pin
    portEvent8007 (raise c 169 (srcInfo 1 x.port)) x.port 4

/-- PERST_IN_RELEASE (R283): it has been high for PERST_IN_FILTER. -/
def perstInRelease (pin : Nat) (c : Chip) : Chip :=
  let x := c.pIn pin
  if 64 ≤ pin ∨ !c.rst.running ∨ x.raw ∨ !x.level ∨ !c.past x.since (us c.ports.inFilter) then c
  else portEvent8007 (releaseOuts (leaveReset (c.setPIn pin { x with level := false }) x.port) pin) x.port 5

/-- PERST_OUT_MIN_EXPIRE (R283). -/
def perstOutMinExpire (pin : Nat) (c : Chip) : Chip :=
  let x := c.pOut pin
  match x.since with
  | none => c
  | some t =>
    if x.minDone ∨ !c.past t (us c.ports.outMin) then c
    else
      let held := decide (x.input < 64) && (c.pIn x.input).level
      c.setPOut pin (outLevel { x with minDone := true, since := if held then some t else none })

/-! ### Virtual CXL switches (R271–R273, R279) -/

/-- VCS_CREATE's own checks. -/
def vcsCreateCheck (c : Chip) (d : Desc) : Option Status :=
  let p := d.byte 16
  if !d.zeroBut [(16, 1)] then some .badParam
  else if (c.vcsOf d.tgt).present then some .busy
  else if 127 < p ∨ !(c.port p).upstream ∨ c.ports.vcs.any (fun v => v.2.present && v.2.up == p) then some .badParam
  else none

/-- The virtual CXL switch exists; its timeout has its default. -/
def vcsCreateDo (c : Chip) (d : Desc) : Chip := c.setVcs d.tgt { present := true, up := d.byte 16 }

/-- VCS_CREATE. -/
def vcsCreate (r : Nat) (d : Desc) (c : Chip) : Chip :=
  runCmd 0x0110 (fun c x => match vcsCreateCheck c d with
    | some st => refuse c x st
    | none => admitOr c x (vcsCreateDo c d) (fun e => endCmd e x .ok)) r d c

/-- VCS_DESTROY's own checks: no vPPB may be bound. -/
def vcsDestroyCheck (c : Chip) (d : Desc) : Option Status :=
  let v := c.vcsOf d.tgt
  if !d.zeroBut [] then some .badParam
  else if v.vppbs.any (fun b => b.2.bound != .none) ∨ c.ten.tenants.any (fun t => t.2.binds.any (fun b => b.1 == v.up)) then
    some .busy
  else none

def vcsDestroyDo (c : Chip) (d : Desc) : Chip := c.setVcs d.tgt {}

/-- VCS_DESTROY. -/
def vcsDestroy (r : Nat) (d : Desc) (c : Chip) : Chip :=
  runCmd 0x0111 (fun c x => match vcsDestroyCheck c d with
    | some st => refuse c x st
    | none => admitOr c x (vcsDestroyDo c d) (fun e => endCmd e x .ok)) r d c

/-- An unbind of the virtual CXL switch waits (R276). -/
def vcsBusy (c : Chip) (v : Nat) : Bool := (c.vcsOf v).vppbs.any (fun b => b.2.unbind.isSome)

/-- A port, or one of its LDs, is registered as a backing device (R169). -/
def backs (c : Chip) (p : Nat) (ld : Option Nat) : Bool :=
  c.pool.devs.any (fun d => d.2.present && !d.2.remote && d.2.loc == p && (match ld with
    | some l => d.2.ld == l || (c.port p).lds == 0
    | none => true))

/-- What a bind names. -/
def bindOf (p : Nat) (ld : Option Nat) : Bound :=
  match ld with
  | some l => .ld p l
  | none => .port p

/-- How a bind of port `p`, or of one LD of it, to vPPB `b` of vCS `v` is refused (R271–R274, R280). -/
def bindCheck (c : Chip) (v b p : Nat) (ld : Option Nat) : Option Status :=
  let y := c.port p
  let others := vppbsOn c p
  if b < 16 ∨ 47 < b ∨ 127 < p ∨ y.role ≠ 2 then some .badParam
  else if (match ld with
      | some l => decide (y.lds ≤ l)
      | none => decide (0 < y.lds)) then some .badParam
  else if (c.port (c.vcsOf v).up).state = .inReset ∨ vcsBusy c v ∨ (c.vppb v b).bound ≠ .none then some .busy
  else if backs c p ld then some .notPermitted
  else if others.any (fun e => (c.vppb e.1 e.2).bound == bindOf p ld || ld.isNone || (c.vppb e.1 e.2).bound == .port p) then some .busy
  else if y.cacheNeg ∧ others.any (fun e => e.1 != v) then some .badParam
  else if y.cacheNeg ∧ !others.any (fun e => e.1 == v) ∧
      16 ≤ ((downPorts c v).filter (fun q => (c.port q).cacheNeg)).length then some .capacity
  else none

/-- The LD that a VPPB_BIND names. -/
def bindLd (d : Desc) : Option Nat := if d.byte 18 = 1 then some (d.byte 19) else none

/-- VPPB_BIND's own checks. -/
def vppbBindCheck (c : Chip) (d : Desc) : Option Status :=
  if !d.zeroBut [(16, 4)] ∨ 1 < d.byte 18 ∨ 15 < d.byte 19 then some .badParam
  else bindCheck c d.tgt (d.byte 16) (d.byte 17) (bindLd d)

def vppbBindDo (c : Chip) (d : Desc) : Chip := c.setVppb d.tgt (d.byte 16) { bound := bindOf (d.byte 17) (bindLd d) }

/-- The bind appears as a hot add (R279): presence, then the link, as far as they are there. -/
def hotAdd (c : Chip) (v b p : Nat) : Chip :=
  let y := c.port p
  let c := if y.present then c.emit (.hotPlug v b 0) else c
  if dlUp y then c.emit (.hotPlug v b 6) else c

def vppbBindGo (c : Chip) (x : CmdRef) (d : Desc) : Chip :=
  endCmd (hotAdd c d.tgt (d.byte 16) (d.byte 17)) x .ok (leBytes 1 (d.byte 16))

/-- VPPB_BIND. -/
def vppbBind (r : Nat) (d : Desc) (c : Chip) : Chip :=
  runCmd 0x0112 (fun c x => match vppbBindCheck c d with
    | some st => refuse c x st
    | none => admitOr c x (vppbBindDo c d) (fun e => vppbBindGo e x d)) r d c

/-- How an unbind is refused (R272, R276, R280). -/
def unbindCheck (c : Chip) (v b option : Nat) : Option Status :=
  if b < 16 ∨ 47 < b ∨ 2 < option ∨ (c.vppb v b).bound = .none then some .badParam
  else if (c.port (c.vcsOf v).up).state = .inReset ∨ vcsBusy c v then some .busy
  else none

/-- The link of what a vPPB is bound to is up. -/
def boundUp (c : Chip) (v b : Nat) : Bool :=
  match vppbPort c v b with
  | some p => dlUp (c.port p)
  | none => false

/-- An unbind begins (R279): it ends at once, or waits for the link or for the host. -/
def beginUnbind (c : Chip) (v b option : Nat) (cmd : Option CmdRef) (fmTag : Option Nat) : Chip :=
  let x := c.vppb v b
  let c := c.setVppb v b { x with unbind := some option, since := c.ivl, cmd := cmd, fmTag := fmTag }
  if option = 2 then endUnbind (surpriseOut c v b) v b 2 .ok
  else if option = 1 then
    let c := c.emit (.hotPlug v b 1)
    if x.off then endUnbind c v b 1 .ok else c
  else if boundUp c v b then c else endUnbind c v b 0 .ok

/-- VPPB_UNBIND's own checks. -/
def vppbUnbindCheck (c : Chip) (d : Desc) : Option Status :=
  if !d.zeroBut [(16, 2)] then some .badParam else unbindCheck c d.tgt (d.byte 16) (d.byte 17)

def vppbUnbindGo (c : Chip) (x : CmdRef) (d : Desc) : Chip := beginUnbind c d.tgt (d.byte 16) (d.byte 17) (some x) none

/-- VPPB_UNBIND. -/
def vppbUnbind (r : Nat) (d : Desc) (c : Chip) : Chip :=
  runCmd 0x0113 (fun c x => match vppbUnbindCheck c d with
    | some st => refuse c x st
    | none => admitOr c x c (fun e => vppbUnbindGo e x d)) r d c

/-- What a vPPB is bound to, as VCS_QUERY shows it. -/
def boundValues (b : Nat) (x : Vppb) : List Nat :=
  match x.bound with
  | .none => [b, 0, 0, 0]
  | .port p => [b, 1, p, 0]
  | .ld p l => [b, 2, p, l]

/-- VCS_QUERY: upstream port, bindings, vPPB states. -/
def vcsQuery (r : Nat) (d : Desc) (c : Chip) : Chip :=
  runCmd 0x0114 (fun c x =>
    if !d.zeroBut [(16, 12)] ∨ !d.bufferOk x.ring then refuse c x .badParam
    else
      let v := c.vcsOf d.tgt
      endQuery c x d (Config.queryBytes 0x0114)
        (openFields (v.up :: (List.range 16).map (fun i => (tenantAt c v.up i).getD 0) ++
         v.vppbs.flatMap (fun b => boundValues b.1 b.2 ++ [nat1 b.2.off, nat1 b.2.unbind.isSome])))) r d c

/-- UNBIND_TIMEOUT_EXPIRE (R279): the unbind acts as option 2 and ends with DRAIN_TIMEOUT. -/
def unbindTimeoutExpire (vcs vppb : Nat) (c : Chip) : Chip :=
  let x := c.vppb vcs vppb
  if x.unbind = some 1 ∧ c.past x.since (ms (c.vcsOf vcs).timeout) then endUnbind (surpriseOut c vcs vppb) vcs vppb 2 .drainTimeout
  else c

/-- POWER_CONTROLLER_OFF (R278, R279): the host turns the virtual slot off. -/
def powerControllerOff (vcs vppb : Nat) (c : Chip) : Chip :=
  let x := c.vppb vcs vppb
  if !c.rst.running ∨ x.bound = .none ∨ x.off then c
  else
    let c := ((c.setVppb vcs vppb { x with off := true }).emit (.hotPlug vcs vppb 7)).emit (.hotPlug vcs vppb 3)
    let c := match x.bound with
      | .port p => if dlUp (c.port p) ∨ (c.port p).state = .training then portFalls c p .disabled else c
      | .ld _ _ | .none => c
    let c := if x.unbind = some 0 ∧ !boundUp c vcs vppb then endUnbind c vcs vppb 0 .ok else c
    if x.unbind = some 1 then endUnbind c vcs vppb 1 .ok else c

end Sys2Proof.Machine
end

