-- ==== Sys2Proof/Machine/FmApi.lean ====
section
/-!
DEFINITION. The CXL Fabric Manager API (R275, R276, Table 9.3).
-/
namespace Sys2Proof.Machine

/-- A request reaches the firmware, and comes from tenant 0 (R275). -/
def fmServed (c : Chip) (q : FmReq) (body : Chip → Chip) : Chip :=
  if !c.rst.running ∨ !c.rings.fwReady then c
  else if q.tenant ≠ 0 then c.emit (.fmAnswer q.tag .invalidInput [])
  else body c

/-- A response that changes nothing. -/
abbrev fmReply (c : Chip) (q : FmReq) (vals : List Nat) : Chip := c.emit (.fmAnswer q.tag .success vals)

/-- Invalid Input where the target does not exist. -/
abbrev fmInvalid (c : Chip) (q : FmReq) : Chip := c.emit (.fmAnswer q.tag .invalidInput [])

/-- A request that changes state passes the admission of the vendor command it stands for (R276, R366). -/
def fmChange (c : Chip) (q : FmReq) (os : List Obj) (st : Option Status) (e : Chip) (go : Chip → Chip) : Chip :=
  if heldByOther c os 0 then fmEnd c q.tag .lockHeld
  else match st with
    | some s => fmEnd c q.tag s
    | none => match admitFail c e 0 with
      | some f => fmEnd c q.tag f.status
      | none => go e

/-! ### Information and Status -/

/-- IDENTIFY: vendor and device ID, serial number. -/
def identify (q : FmReq) (c : Chip) : Chip := fmServed c q (fun c => fmReply c q [0x1FB3, 0x9512, c.regs.serial.toNat])

/-- BACKGROUND_OPERATION_STATUS: no supported command runs in the background. -/
def backgroundOperationStatus (q : FmReq) (c : Chip) : Chip := fmServed c q (fun c => fmReply c q [0])

/-- GET_RESPONSE_MESSAGE_LIMIT. -/
def getResponseMessageLimit (q : FmReq) (c : Chip) : Chip := fmServed c q (fun c => fmReply c q [c.ports.fmLimit])

/-- SET_RESPONSE_MESSAGE_LIMIT. -/
def setResponseMessageLimit (q : FmReq) (limit : Nat) (c : Chip) : Chip :=
  fmServed c q (fun c => fmReply { c with ports := { c.ports with fmLimit := limit } } q [limit])

/-! ### Physical Switch -/

/-- Ports in use, by number. -/
def usedPorts (c : Chip) : List Nat := (List.range 128).filter (fun p => (c.port p).role != 0)

/-- IDENTIFY_SWITCH_DEVICE: manager port, ports, virtual CXL switches, vPPBs. -/
def identifySwitchDevice (q : FmReq) (c : Chip) : Chip :=
  fmServed c q (fun c => fmReply c q
    [c.ports.mgrPort, (usedPorts c).length, (c.ports.vcs.filter (·.2.present)).length, boundVppbs c])

/-- GET_PHYSICAL_PORT_STATE. -/
def getPhysicalPortState (q : FmReq) (port : Nat) (c : Chip) : Chip :=
  fmServed c q (fun c =>
    let y := c.port port
    if 127 < port ∨ y.role = 0 then fmInvalid c q
    else fmReply c q [port, y.role, y.cfgWidth, y.width, y.rateMax, y.rate, nat1 y.present, nat1 y.cxl, y.lds, portStatus c port])

/-- PHYSICAL_PORT_CONTROL: as PORT_RETRAIN, or as a PORT_CONFIG of DISABLE. -/
def physicalPortControl (q : FmReq) (port : Nat) (action : PortAction) (c : Chip) : Chip :=
  fmServed c q (fun c =>
    let y := c.port port
    let os : List Obj := [{ kind := .port, index := port }]
    let set := fun (b : Bool) => flowsRetimed (c.setPort port { y with disable := b })
    if 127 < port ∨ y.role = 0 then fmEnd c q.tag .noSuchTarget
    else match action with
      | .retrain =>
        fmChange c q os (if y.state = .inReset ∨ y.state = .disabled then some .busy else none) c
          (fun e =>
            let e := retrainPort e port
            if (e.port port).state = .down then fmEnd e q.tag .ok else e.modPort port (fun y => { y with fmWait := y.fmWait ++ [q.tag] }))
      | .disable => fmChange c q os none (set true) (fun e => fmEnd (portCtlGo e port y) q.tag .ok)
      | .enable => fmChange c q os none (set false) (fun e => fmEnd (portCtlGo e port y) q.tag .ok))

/-- A configuration read's value, which the addressed function gives, not the switch's rules (notes/assumptions/3.md). -/
def configAnswer (c : Chip) (q : FmReq) (write : Bool) : Chip :=
  if write then fmReply c q [] else fmReply c.usedFree q [c.freeNat % 2 ^ 32]

/-- SEND_PPB_CXL_IO_CONFIGURATION_REQUEST: to the bridge function of a port. -/
def sendPpbCxlIoConfigurationRequest (q : FmReq) (port reg : Nat) (write : Bool) (value : BitVec 32) (c : Chip) : Chip :=
  fmServed c q (fun c =>
    if 127 < port ∨ (c.port port).role = 0 then fmInvalid c q
    else configAnswer (c.emit (.toPartner port 0x5103 (leBytes 4 reg ++ leBytes 1 (nat1 write) ++ leBytes 4 value.toNat))) q write)

/-! ### Virtual Switch -/

/-- GET_VIRTUAL_CXL_SWITCH_INFO. -/
def getVirtualCxlSwitchInfo (q : FmReq) (vcs : Nat) (c : Chip) : Chip :=
  fmServed c q (fun c =>
    let v := c.vcsOf vcs
    if !v.present then fmInvalid c q else fmReply c q (v.up :: v.vppbs.flatMap (fun b => boundValues b.1 b.2)))

/-- BIND_VPPB: as VPPB_BIND (R272, R276). -/
def bindVppb (q : FmReq) (vcs vppb port : Nat) (ld : Option Nat) (c : Chip) : Chip :=
  fmServed c q (fun c =>
    if !(c.vcsOf vcs).present then fmEnd c q.tag .noSuchTarget
    else fmChange c q [{ kind := .vcs, index := vcs }] (bindCheck c vcs vppb port ld) (c.setVppb vcs vppb { bound := bindOf port ld })
      (fun e => fmEnd (hotAdd e vcs vppb port) q.tag .ok))

/-- UNBIND_VPPB: as VPPB_UNBIND. -/
def unbindVppb (q : FmReq) (vcs vppb option : Nat) (c : Chip) : Chip :=
  fmServed c q (fun c =>
    if !(c.vcsOf vcs).present then fmEnd c q.tag .noSuchTarget
    else fmChange c q [{ kind := .vcs, index := vcs }] (unbindCheck c vcs vppb option) c
      (fun e => beginUnbind e vcs vppb option none (some q.tag)))

/-- GENERATE_AER_EVENT. -/
def generateAerEvent (q : FmReq) (vcs vppb : Nat) (err : BitVec 32) (c : Chip) : Chip :=
  fmServed c q (fun c =>
    if !(c.vcsOf vcs).present ∨ 47 < vppb then fmEnd c q.tag .noSuchTarget
    else fmEnd (c.emit (.aer vcs vppb err)) q.tag .ok)

/-! ### MLD Port and MLD Components: passed to the partner's FM-owned LD (R274) -/

/-- A port with a multi-logical-device partner. -/
def mldUp (c : Chip) (p : Nat) : Bool := decide (p < 128) && (c.port p).role == 2 && decide (0 < (c.port p).lds) && linkUp (c.port p)

/-- A request passed on unchanged; what the partner answers is passed back. -/
def passOn (c : Chip) (q : FmReq) (p cmd : Nat) (body : List Byte) : Chip :=
  if mldUp c p then fmReply (c.emit (.toPartner p cmd body)) q [] else fmInvalid c q

/-- TUNNEL_MANAGEMENT_COMMAND. -/
def tunnelManagementCommand (q : FmReq) (port : Nat) (body : List (BitVec 8)) (c : Chip) : Chip :=
  fmServed c q (fun c => passOn c q port 0x5300 body)

/-- SEND_LD_CXL_IO_CONFIGURATION_REQUEST. -/
def sendLdCxlIoConfigurationRequest (q : FmReq) (port ld reg : Nat) (write : Bool) (value : BitVec 32) (c : Chip) : Chip :=
  fmServed c q (fun c =>
    if !mldUp c port ∨ (c.port port).lds ≤ ld then fmInvalid c q
    else configAnswer (c.emit (.toPartner port 0x5301
      (leBytes 2 ld ++ leBytes 4 reg ++ leBytes 1 (nat1 write) ++ leBytes 4 value.toNat))) q write)

/-- SEND_LD_CXL_IO_MEMORY_REQUEST. -/
def sendLdCxlIoMemoryRequest (q : FmReq) (port ld : Nat) (write : Bool) (addr : BitVec 64) (body : List (BitVec 8)) (c : Chip) : Chip :=
  fmServed c q (fun c =>
    if !mldUp c port ∨ (c.port port).lds ≤ ld then fmInvalid c q
    else configAnswer (c.emit (.toPartner port 0x5302
      (leBytes 2 ld ++ leBytes 1 (nat1 write) ++ leBytes 8 addr.toNat ++ body))) q write)

/-- GET_LD_INFO. -/
def getLdInfo (q : FmReq) (port : Nat) (c : Chip) : Chip := fmServed c q (fun c => passOn c q port 0x5400 [])

/-- GET_LD_ALLOCATIONS. -/
def getLdAllocations (q : FmReq) (port : Nat) (body : List (BitVec 8)) (c : Chip) : Chip :=
  fmServed c q (fun c => passOn c q port 0x5401 body)

/-- SET_LD_ALLOCATIONS: refused while an LD it would shrink is bound or registered. -/
def setLdAllocations (q : FmReq) (port : Nat) (shrinks : List Nat) (body : List (BitVec 8)) (c : Chip) : Chip :=
  fmServed c q (fun c =>
    if shrinks.any (fun l => backs c port (some l) || (vppbsOn c port).any (fun e => (c.vppb e.1 e.2).bound == .ld port l)) then
      fmInvalid c q
    else passOn c q port 0x5402 body)

/-- GET_QOS_CONTROL. -/
def getQosControl (q : FmReq) (port : Nat) (c : Chip) : Chip := fmServed c q (fun c => passOn c q port 0x5403 [])

/-- SET_QOS_CONTROL. -/
def setQosControl (q : FmReq) (port : Nat) (body : List (BitVec 8)) (c : Chip) : Chip :=
  fmServed c q (fun c => passOn c q port 0x5404 body)

/-- GET_QOS_STATUS. -/
def getQosStatus (q : FmReq) (port : Nat) (c : Chip) : Chip := fmServed c q (fun c => passOn c q port 0x5405 [])

/-- GET_QOS_ALLOCATED_BW. -/
def getQosAllocatedBw (q : FmReq) (port : Nat) (body : List (BitVec 8)) (c : Chip) : Chip :=
  fmServed c q (fun c => passOn c q port 0x5406 body)

/-- SET_QOS_ALLOCATED_BW. -/
def setQosAllocatedBw (q : FmReq) (port : Nat) (body : List (BitVec 8)) (c : Chip) : Chip :=
  fmServed c q (fun c => passOn c q port 0x5407 body)

/-- GET_QOS_BW_LIMIT. -/
def getQosBwLimit (q : FmReq) (port : Nat) (body : List (BitVec 8)) (c : Chip) : Chip :=
  fmServed c q (fun c => passOn c q port 0x5408 body)

/-- SET_QOS_BW_LIMIT. -/
def setQosBwLimit (q : FmReq) (port : Nat) (body : List (BitVec 8)) (c : Chip) : Chip :=
  fmServed c q (fun c => passOn c q port 0x5409 body)

/-! ### Multi-Headed Device and DCD Management: the pooled device (R177) -/

/-- The heads of the pooled device: its upstream ports, in order. -/
def heads (c : Chip) : List Nat := (List.range 128).filter (fun p => (c.port p).upstream)

/-- GET_MULTI_HEADED_INFO: heads, and the logical devices that tenants' bindings are. -/
def getMultiHeadedInfo (q : FmReq) (c : Chip) : Chip :=
  fmServed c q (fun c => fmReply c q [(heads c).length, c.ten.tenants.foldl (fun n t => n + t.2.binds.length) 0])

/-- GET_HEAD_INFO: port, width and rate of heads `first` onwards. -/
def getHeadInfo (q : FmReq) (first count : Nat) (c : Chip) : Chip :=
  fmServed c q (fun c =>
    let hs := heads c
    if hs.length < first + count then fmInvalid c q
    else fmReply c q (((hs.drop first).take count).flatMap (fun p => let y := c.port p; [p, y.cfgWidth, y.width, y.rateMax, y.rate])))

/-- GET_DCD_INFO: 8 regions with blocks of 256 MiB. -/
def getDcdInfo (q : FmReq) (c : Chip) : Chip := fmServed c q (fun c => fmReply c q [(heads c).length, 8, 2 ^ 28])

/-- Windows presented to a host port, by tenant's LD-ID there: (LD-ID, window). -/
def shownAt (c : Chip) (p : Nat) : List (Nat × Nat) :=
  c.ten.tenants.flatMap (fun t => (t.2.binds.filter (fun b => b.1 == p)).flatMap (fun b =>
    ((windowsOf c t.1).filter (fun w => presented c (c.window w) p)).map (fun w => (b.2, w))))

/-- GET_HOST_DC_REGION_CONFIGURATION: each region with its windows, by LD. -/
def getHostDcRegionConfiguration (q : FmReq) (port : Nat) (c : Chip) : Chip :=
  fmServed c q (fun c =>
    if 127 < port ∨ !(c.port port).upstream then fmInvalid c q
    else fmReply c q (8 :: 2 ^ 28 :: (shownAt c port).flatMap (fun e => let w := c.window e.2; [e.1, w.region, w.dpaOff, w.extents])))

/-- GET_DC_REGION_EXTENT_LISTS: the extents that a host has accepted and not released. -/
def getDcRegionExtentLists (q : FmReq) (port ld : Nat) (c : Chip) : Chip :=
  fmServed c q (fun c =>
    if 127 < port ∨ !(c.port port).upstream ∨ (tenantAt c port ld).isNone then fmInvalid c q
    else fmReply c q ((shownAt c port).flatMap (fun e =>
      if e.1 = ld then
        let w := c.window e.2
        (w.ext.filter (fun x => extentOpen w x.1 port)).flatMap (fun x => [w.region, w.dpaOff + x.1, x.2.pool])
      else [])))

/-- FM_API_UNSUPPORTED: every other command. -/
def fmApiUnsupported (q : FmReq) (_code : Nat) (c : Chip) : Chip :=
  fmServed c q (fun c => c.emit (.fmAnswer q.tag .unsupported []))

end Sys2Proof.Machine
end

