-- ==== Sys2Proof/Machine/Lanes.lean ====
section
/-!
DEFINITION. Lanes and courses (10_serdes_lanes.md): reference clocks (R294, R513), lane health (R303–R305), margining (R306, R307),
PRBS tests (R308–R311), lane commands.
-/
namespace Sys2Proof.Machine

/-- The CXL port that lane `n` belongs to. -/
def lanePort (c : Chip) (n : Nat) : Option Nat :=
  ((List.range 4).map (fun j => n / 4 - j)).find? (fun p =>
    decide (p ≤ n / 4) && p / 16 == n / 64 && (c.port p).role != 0 && decide (n < 4 * p + widthLanes (c.port p).cfgWidth))

/-- The Stolevo Link that lane `n` belongs to. -/
def laneLink (c : Chip) (n : Nat) : Option Nat := quarterLink c (n / 16)

/-- The source information of a lane (R551). -/
abbrev laneInfo (n : Nat) : DWord := srcInfo 3 n

/-! ### Reference clocks -/

/-- A course's REFCLK may serve the core PLL (R512). -/
def refFit (c : Chip) (k : Nat) : Bool := (c.course k).refOk && !(c.course k).ssc

/-- R513: the core reference has lost REFCLK_OK. -/
def coreRefLost (c : Chip) (k : Nat) : Chip :=
  if c.rst.refCourse ≠ k then c
  else match ((List.range 7).map (fun j => (k + 1 + j) % 8)).find? (refFit c) with
    | some j => raise { c with rst := { c.rst with refAlt := true, refCourse := j } } 355 (srcInfo 4 j)
    | none => raise { c with rst := { c.rst with refAlt := true } } 356 (srcInfo 4 k)

/-- REFCLK_OK clears (R294): lanes lose lock, ports go down, links retrain under their own rules. -/
def refclkLost (c : Chip) (k : Nat) : Chip :=
  if !(c.course k).refOk then c
  else
    let c := c.modCourse k (fun x => { x with refOk := false, failSeen := true, pllH := false, pllL := false, goodCounts := 0 })
    let c := (List.range 64).foldl (fun c i => c.modLane (64 * k + i) (fun x => { x with cdrLock := false, eqDone := false })) c
    let c := raise c 180 (srcInfo 4 k)
    let c := (List.range 16).foldl (fun c i => linkLost c (16 * k + i)) c
    let c := ((List.range 4).filterMap (fun i => quarterLink c (4 * k + i))).foldl retrainLink c
    coreRefLost c k

/-- REFCLK_COUNT (R294): one count of 65.536 µs; nominal is 6,553.6 edges. On Slack and below the PLLs are stopped (Table 18.1). -/
def refclkCount (course edges : Nat) (c : Chip) : Chip :=
  let x := c.course course
  let off : Nat := (((10 * edges : Nat) : Int) - 65536).natAbs
  if 8 ≤ course ∨ !c.rst.running then c
  else if 65536 < off * 1000 then
    let c := c.setCourse course { x with badCounts := x.badCounts + 1, goodCounts := 0 }
    if 2 ≤ x.badCounts + 1 then refclkLost c course else c
  else
    let ok := x.refOk || decide (16 ≤ x.goodCounts + 1)
    let runs := ok && decide ((c.rung course).current < 3)
    c.setCourse course { x with badCounts := 0, goodCounts := x.goodCounts + 1, refOk := ok, pllH := runs, pllL := runs && !x.stolevo }

/-- REFCLK_EDGE_LOSS (R294): no edge for 1 µs. -/
def refclkEdgeLoss (course : Nat) (c : Chip) : Chip := if 8 ≤ course ∨ !c.rst.running then c else refclkLost c course

/-! ### Lane health -/

/-- The lane is BAD; a second time within QUARANTINE_WINDOW it is QUARANTINED (R305). -/
def markBad (c : Chip) (n : Nat) : Chip :=
  let x := c.lane n
  let twice : Bool := match x.badAt with
    | some t => !c.past t (sec c.lanes.quarWin)
    | none => false
  let c := c.setLane n { x with bad := true, inUse := false, badAt := some c.ivl, quar := x.quar || twice }
  if twice ∧ !x.quar then raise c 179 (laneInfo n) else c

/-- R304: a lane becomes BAD and is dropped at once by a retrain; the port goes down where no width is left. -/
def dropLane (c : Chip) (n : Nat) : Chip :=
  let c := marginAbort c n
  match laneLink c n with
  | some l => markBad (retrainLink c l) n
  | none => match lanePort c n with
    | none => markBad c n
    | some p =>
      let used := (c.lane n).inUse
      let c := markBad (if used then retrainPort c p else c) n
      if used ∧ dlUp (c.port p) ∧ !widthLeft c p then linkLost c p else c

/-- The lane is in use, or left use in this core cycle for another reason and is not yet BAD: the retrain that begins in it excludes the
lane too (R305). -/
def carried (c : Chip) (n : Nat) : Bool := let x := c.lane n; x.inUse || (x.idleAt == some c.ivl && !x.bad)

/-- LANE_LOS (R303). -/
def laneLos (lane : Nat) (c : Chip) : Chip :=
  if 512 ≤ lane ∨ !c.rst.running ∨ !carried c lane then c
  else dropLane (raise (c.modLane lane (fun x => { x with signal := false, losSeen := true })) 176 (laneInfo lane)) lane

/-- LANE_CDR_UNLOCK (R303). -/
def laneCdrUnlock (lane : Nat) (c : Chip) : Chip :=
  if 512 ≤ lane ∨ !c.rst.running ∨ !carried c lane then c
  else dropLane (raise (c.modLane lane (fun x => { x with cdrLock := false, unlockSeen := true })) 177 (laneInfo lane)) lane

/-- LANE_ERR_LIMIT (R303): corrections attributed to the lane within 1 ms. -/
def laneErrLimit (lane corrections : Nat) (c : Chip) : Chip :=
  if 512 ≤ lane ∨ !c.rst.running ∨ !carried c lane then c
  else
    let c := c.modLane lane (fun x => { x with err := min (x.err + corrections) 0xFFFFFFFF })
    if corrections ≤ (c.course (lane / 64)).errLimit then c
    else dropLane (raise (c.modLane lane (fun x => { x with limitSeen := true })) 178 (laneInfo lane)) lane

/-- EQ_FAIL: a Stolevo lane, or one in use, is BAD (R301, R303); on a CXL port that trains, the LTSSM falls back to a lower rate
(R300). -/
def eqFail (lane : Nat) (c : Chip) : Chip :=
  if 512 ≤ lane ∨ !c.rst.running then c
  else
    let e := raise (c.modLane lane (fun x => { x with eqDone := false })) 181 (laneInfo lane)
    if (laneLink c lane).isSome ∨ carried c lane then dropLane e lane else e

/-- CLR_QUAR (R305). -/
def clrQuar (path : Path) (lane : Nat) (c : Chip) : Chip :=
  if pathOpen c path ∧ lane < 512 then c.modLane lane (fun x => { x with quar := false, badAt := none }) else c

/-! ### LANE_CONFIG, LANE_QUERY -/

/-- LANE_CONFIG's own checks (R312, R356). -/
def laneConfigCheck (d : Desc) : Option Status :=
  let ok : Bool :=
    if d.tgt < 512 then d.zeroBut [(16, 6)] && decide (d.u32 16 < 4) && maskIn d 0 0 7 (d.byte 20) && decide (d.byte 21 ≤ 1)
    else if d.tgt = 0xFFFFFFFF then
      d.zeroBut [(16, 9)] && decide (d.u32 16 < 4) && maskIn d 0 1 3600 (d.u32 20) && maskIn d 1 1 63 (d.byte 24)
    else d.zeroBut [(16, 6)] && decide (d.u32 16 < 2) && maskIn d 0 1 65535 (d.u16 20)
  if ok then none else some .badParam

/-- LANE_CONFIG's effect on the stored parameters. -/
def laneConfigDo (c : Chip) (d : Desc) : Chip :=
  if d.tgt < 512 then
    c.modLane d.tgt (fun x => { x with preset := if d.mask 0 then d.byte 20 else x.preset,
                                       exclude := if d.mask 1 then bitOf (d.byte 21) 0 else x.exclude })
  else if d.tgt = 0xFFFFFFFF then
    { c with lanes := { c.lanes with quarWin := if d.mask 0 then d.u32 20 else c.lanes.quarWin,
                                     marginLimit := if d.mask 1 then d.byte 24 else c.lanes.marginLimit } }
  else if d.mask 0 then c.modCourse (d.tgt - 2 ^ 31) (fun x => { x with errLimit := d.u16 20 }) else c

/-- A lane in use that is newly excluded becomes BAD; any other is treated as BAD while EXCLUDE is set (LANE_CTL.EXCLUDE, R303). -/
def excluded (old c : Chip) (n : Nat) : Chip :=
  if (c.lane n).exclude ∧ !(old.lane n).exclude ∧ carried c n then dropLane c n else c

def laneConfigGo (old c : Chip) (x : CmdRef) (d : Desc) : Chip :=
  endCmd (if d.tgt < 512 then excluded old c d.tgt else c) x .ok

/-- LANE_CONFIG. -/
def laneConfig (r : Nat) (d : Desc) (c : Chip) : Chip :=
  runCmd 0x0120 (fun c x => match laneConfigCheck d with
    | some st => refuse c x st
    | none => admitOr c x (laneConfigDo c d) (fun e => laneConfigGo c e x d)) r d c

/-- LANE_STATUS[n]. -/
def laneStatus (x : Lane) : Nat :=
  nat1 x.signal + 2 * nat1 x.cdrLock + 4 * nat1 x.eqDone + 8 * nat1 x.inverted + 16 * (x.logical % 16) + 2 ^ 8 * nat1 x.inUse +
  2 ^ 9 * nat1 (x.bad || x.exclude) + 2 ^ 10 * nat1 x.quar + 2 ^ 11 * nat1 (x.saved.contains x.rate) + 2 ^ 12 * nat1 x.losSeen +
  2 ^ 13 * nat1 x.unlockSeen + 2 ^ 14 * nat1 x.limitSeen + 2 ^ 15 * x.rate

/-- LANE_QUERY: status, corrections, the rates with saved coefficients, the last margin. -/
def laneQuery (r : Nat) (d : Desc) (c : Chip) : Chip :=
  runCmd 0x0121 (fun c x =>
    if !d.zeroBut [(16, 12)] ∨ !d.bufferOk x.ring then refuse c x .badParam
    else
      let y := c.lane d.tgt
      endQuery c x d (Config.queryBytes 0x0121) (openFields (laneStatus y :: y.err :: y.saved ++ y.lastMargin))) r d c

/-! ### PRBS (R308–R311) -/

/-- The lane is out of traffic: its port is DISABLED or unused, or its Stolevo Link is REMOVED (R308). -/
def outOfTraffic (c : Chip) (n : Nat) : Bool :=
  match laneLink c n with
  | some l => (c.link l).state == .removed
  | none => match lanePort c n with
    | some p => (c.port p).state == .disabled
    | none => true

/-- A pattern that a rate runs: PRBS13Q and PRBS31Q are PAM4 patterns (R308). -/
def patternOk (pattern rate : Nat) : Bool := decide (pattern ≤ 9) && (decide (5 ≤ rate) || (pattern != 4 && pattern != 8))

/-- The lane with a generator and checker setting, its counts brought up to now. In near-end loopback the checker sees its own generator:
it is in sync after 64 bits (R309). -/
def prbsSet (c : Chip) (x : Lane) (v : Nat) : Lane :=
  let g := bitOf v 4
  let k := bitOf v 5
  let sees := g && k && field v 6 2 == 1 && field v 0 4 != 0
  let stays := x.chkSync && sees && x.pattern == field v 0 4
  { prbsNow c x with pattern := field v 0 4, genEn := g, chkEn := k, loopback := field v 6 2, injRate := field v 9 4, invert := bitOf v 15,
                     chkSync := sees,
                     prbsSync := if stays then max x.prbsSync c.ivl else c.ivl + ceilDiv 2048 (max (prbsRate x.rate) 1) }

/-- LANE_TEST (R308). Parameters: 16–17 the RW fields of LANE_PRBS[n] but GEN_EN and CHK_EN, 20 the rate, 24–31 the duration in
µs (notes/assumptions/32.md). -/
def laneTest (r : Nat) (d : Desc) (c : Chip) : Chip :=
  runCmd 0x0122 (fun c x =>
    let n := d.tgt
    let v := d.u16 16
    let rate := d.byte 20
    let rateOk : Bool := if (c.course (n / 64)).stolevo then rate == 5 || rate == 6 else decide (rate ≤ 5)
    if !d.zeroBut [(16, 2), (20, 1), (24, 8)] ∨ v / 16 % 4 ≠ 0 ∨ v / 256 % 2 ≠ 0 ∨ v / 2 ^ 13 % 4 ≠ 0 ∨ v % 16 = 0 ∨
       field v 6 2 = 3 ∨ !rateOk ∨ !patternOk (v % 16) rate ∨ d.u64 24 = 0 then refuse c x .badParam
    else if !outOfTraffic c n ∨ (c.lane n).test.isSome then refuse c x .busy
    else
      c.modLane n (fun y => { prbsSet c { y with rate := rate, chkSync := false } (v + 0x30) with
        prbsErr := 0, prbsBits := 0, test := some x, testEnd := c.ivl + us (d.u64 24) })) r d c

/-- A 64-bit count saturates. -/
abbrev sat64 (n : Nat) : Nat := min n (2 ^ 64 - 1)

/-- LANE_TEST_END (R309, R311): the duration has passed; bits checked, errors, sync losses, as the checker counted them. A checker that
sees its own generator has counted by itself; what any other has seen comes with the command. -/
def laneTestEnd (lane : Nat) (bits errors losses : Nat) (c : Chip) : Chip :=
  let x := c.lane lane
  match x.test with
  | none => c
  | some y =>
    if c.ivl < x.testEnd then c
    else
      let z := prbsNow c x
      let z := if x.chkSync then z else { z with prbsBits := sat64 bits, prbsErr := sat64 errors }
      endCmd (c.setLane lane z.untested) y .ok
        (leBytes 8 z.prbsBits ++ leBytes 4 z.prbsErr ++ leBytes 3 (if x.chkSync then 0 else losses))

/-- LANE_PRBS_WRITE: a write of LANE_PRBS[n] (R308). -/
def lanePrbsWrite (path : Path) (lane : Nat) (v : BitVec 32) (c : Chip) : Chip :=
  let x := c.lane lane
  let n := v.toNat
  if !pathOpen c path ∨ 512 ≤ lane then c
  else
    let free := outOfTraffic c lane
    let pat := if patternOk (n % 16) x.rate then n % 16 else x.pattern
    let lb := if field n 6 2 = 3 then x.loopback else field n 6 2
    let keep := fun (new old : Nat) => if free then new else min new old
    c.setLane lane (prbsSet c x (pat + 16 * keep (nat1 (bitOf n 4)) (nat1 x.genEn) + 32 * keep (nat1 (bitOf n 5)) (nat1 x.chkEn) +
      64 * (if free ∨ lb = 0 then lb else x.loopback) + 512 * field n 9 4 + 2 ^ 15 * nat1 (bitOf n 15)))

/-- INJECT_ONE (R310): one bit of the generator's output is inverted; a checker in near-end loopback counts it. -/
def injectOne (path : Path) (lane : Nat) (c : Chip) : Chip :=
  if pathOpen c path ∧ lane < 512 then
    c.modLane lane (fun x => if x.chkSync ∧ x.prbsSync ≤ c.ivl then
      { x with prbsErr := sat64 (x.prbsErr + 1), injCyc := (if x.injAt = c.ivl + 1 then x.injCyc else 0) + 1, injAt := c.ivl + 1 } else x)
  else c

/-- PRBS_CLR: the counts are cleared, but for an error injected in this core cycle (R546). -/
def prbsClr (path : Path) (lane : Nat) (c : Chip) : Chip :=
  if pathOpen c path ∧ lane < 512 then c.modLane lane (fun x =>
    { prbsNow c x with prbsErr := if x.injAt = c.ivl + 1 then x.injCyc else 0, prbsBits := 0 }) else c

/-! ### Margining (R306, R307) -/

/-- LANE_MARGIN. Parameter 16 [1:0]: the eye of a Stolevo lane, 0 upper, 1 middle, 2 lower (notes/assumptions/32.md). -/
def laneMargin (r : Nat) (d : Desc) (c : Chip) : Chip :=
  runCmd 0x0123 (fun c x =>
    let y := c.lane d.tgt
    let eyes := if (c.course (d.tgt / 64)).stolevo then 2 else 0
    if !d.zeroBut [(16, 1)] ∨ eyes < d.byte 16 then refuse c x .badParam
    else if y.margin.isSome ∨ y.marginPartner ∨ !y.inUse then refuse c x .busy
    else c.setLane d.tgt { y with margin := some x }) r d c

/-- LANE_MARGIN_END: the last step of each direction that did not reach MARGIN_ERR_LIMIT. -/
def laneMarginEnd (lane left right up down : Nat) (c : Chip) : Chip :=
  let x := c.lane lane
  if 16 < left ∨ 16 < right ∨ 64 < up ∨ 64 < down ∨ !(x.marginPartner || x.margin.isSome) then c
  else
    let c := c.setLane lane { x with margin := none, marginPartner := false, lastMargin := [left, right, up, down] }
    match x.margin with
    | none => c
    | some y => endCmd c y .ok (leBytes 1 left ++ leBytes 1 right ++ leBytes 1 up ++ leBytes 1 down)

/-- MARGIN_REQUEST (R306): a CXL partner starts margining of the switch's receiver. -/
def marginRequest (lane : Nat) (c : Chip) : Chip :=
  let x := c.lane lane
  if 512 ≤ lane ∨ (c.course (lane / 64)).stolevo ∨ !x.inUse ∨ x.margin.isSome then c
  else c.setLane lane { x with marginPartner := true }

/-! ### Saved coefficients (R302) -/

/-- LANE_EQ_CLEAR: of a lane, or of every lane of a course. -/
def laneEqClear (r : Nat) (d : Desc) (c : Chip) : Chip :=
  runCmd 0x0124 (fun c x =>
    if !d.zeroBut [] then refuse c x .badParam
    else
      let ns := if d.tgt < 512 then [d.tgt] else (List.range 64).map (64 * (d.tgt - 2 ^ 31) + ·)
      endCmd (ns.foldl (fun c n => c.modLane n (fun y => { y with saved := [] })) c) x .ok) r d c

/-- EQ_CLEAR: a write of LANE_CTL.EQ_CLEAR. -/
def eqClear (path : Path) (lane : Nat) (c : Chip) : Chip :=
  if pathOpen c path ∧ lane < 512 then c.modLane lane (fun x => { x with saved := [] }) else c

end Sys2Proof.Machine
end

