-- ==== Sys2Proof/Machine/Hbm.lean ====
section
/-!
DEFINITION. The HBM subsystem (07_hbm_line_cache.md): codeword outcomes (R215, Table 7.3), patrol scrubbing, block retirement
(R217), failed pseudo-channels (R219), the placement loop (R225), purges (R226), reservations (R229).
-/
namespace Sys2Proof.Machine

/-- The source information of a pseudo-channel (R551). -/
abbrev pcInfo (k : Nat) : DWord := srcInfo 7 k

/-- R147: a directory set is lost, with source 100. -/
def dirLost (c : Chip) (s set : Nat) : Chip := raise (loseSet c s set) 100 (srcInfo 6 s)

/-- The directory sets that hold entries. -/
def dirSets (c : Chip) : List (Nat × Nat) :=
  (c.home.lines.map (fun l => (lineSlice l.1, setOf (c.domain l.2.domain) l.1))).foldl addOnce []

/-- R219: a pseudo-channel has failed. Its line-cache sets miss from now on, its directory sets are lost. -/
def failPc (c : Chip) (k : Nat) : Chip :=
  let x := c.pcOf k
  if x.failed then c
  else
    let c := c.setPc k { x with failed := true, copying := [] }
    let ways := c.hbm.ways.filter (fun w => pcOfSet (w.1 / 4 / 2 ^ 22) (w.1 / 4 % 2 ^ 22) != k)
    let c := raise { c with hbm := { c.hbm with ways := ways } } 136 (pcInfo k)
    ((dirSets c).filter (fun e => dirPc e.1 e.2 == k)).foldl (fun c e => dirLost c e.1 e.2) c

/-- R217: a block is to be retired: a free block of the pool is taken and the copy starts. Without one, errors are handled
without retirement. -/
def retireBlock (c : Chip) (k block : Nat) : Chip :=
  let x := c.pcOf k
  if c.hbm.poolFree = 0 ∨ x.failed ∨ x.copying.contains block then c
  else
    let n := c.hbm.poolFree - 1
    let low := decide (n < 1638)
    let c := c.setPc k { x with copying := x.copying ++ [block], ce := x.ce.put block [] }
    let told := c.hbm.poolLow
    let c := { c with hbm := { c.hbm with poolFree := n, poolLow := low } }
    let c := if low ∧ !told then raise c 134 else c
    if n = 0 then raise c 135 else c

/-- RETIREMENT_COPY_END (R217): the map switches to the spare; the entry goes to MRAM. -/
def retirementCopyEnd (pc block : Nat) (c : Chip) : Chip :=
  let x := c.pcOf pc
  if !x.copying.contains block then c
  else
    let n := x.retired + 1
    let spare := ((List.range (c.bb.retired.length + 1)).find? (fun i => !(c.bb.retired.any (fun e => e.2 == i + 1)))).getD 0
    let c := c.setPc pc { x with copying := x.copying.erase block, mapped := addOnce x.mapped block, retired := n }
    let c := { c with bb := { c.bb with retired := c.bb.retired.put (pc * 2 ^ 20 + block) (spare + 1) } }
    let c := raise c 133 (pcInfo pc)
    if 1024 ≤ n then failPc c pc else c

/-- Times that lie within the last `d` ticks, with now. -/
def recentTimes (c : Chip) (l : List Nat) (d : Nat) : List Nat := l.filter (fun t => !c.past t d) ++ [c.ivl]

/-- Rows of a block that failed and are all repaired return it to the pool; a block with a row that no spare replaces keeps its remap
(R218). -/
def returnBlock (c : Chip) (k block : Nat) : Chip :=
  let x := c.pcOf k
  let rows := Config.blockRows block
  if x.mapped.contains block && !rows.isEmpty && rows.all (fun r => c.hbm.mended.contains (k, r)) then
    let c := c.setPc k { x with mapped := x.mapped.erase block, retired := x.retired - 1 }
    let n := min 16384 (c.hbm.poolFree + 1)
    { c with hbm := { c.hbm with poolFree := n, poolLow := decide (n < 1638) }
             bb := { c.bb with retired := c.bb.retired.put (k * 2 ^ 20 + block) 0 } }
  else c

/-- Every retired block whose rows are all repaired returns to the pool. -/
def returnBlocks (c : Chip) : Chip :=
  (List.range 64).foldl (fun c k => (c.pcOf k).mapped.foldl (fun c b => returnBlock c k b) c) c

/-! ### Stored lines (R211, R212) -/

/-- The metadata of a way (Table 7.1). -/
def wayMeta (w : Way) : BitVec 24 :=
  (BitVec.ofNat 24 w.tag &&& 0x7FFF#24) ||| (if w.dirty then 0x8000#24 else 0) ||| (if w.poison then 0x10000#24 else 0) |||
  (BitVec.ofNat 24 (w.tki % 128) <<< 17)

/-- The bytes of a line in address order. -/
def lineBytes (d : Line) : List Byte := (List.range 64).map (fun i => d.extractLsb' (8 * i) 8)

/-- The line that bytes spell. -/
def bytesLine (bs : List Byte) : Line := (bs.take 64).foldr (fun b (r : Line) => (r <<< 8) ||| b.setWidth 512) 0#512

/-- A way with the data and the metadata of a decoded word. -/
def wayOfWord (w : Way) (word : List Byte) : Way :=
  let m := (word.getD 64 0).toNat + 2 ^ 8 * (word.getD 65 0).toNat + 2 ^ 16 * (word.getD 66 0).toNat
  { w with data := bytesLine word, tag := field m 0 15, dirty := bitOf m 15, poison := bitOf m 16, tki := field m 17 7 }

/-- The word that stands where a read goes: that of a way, else all zero, since the code is linear and what it finds depends on the errors
alone. -/
def storedWord (c : Chip) (r : HbmRegion) : List Byte :=
  match r with
  | .lineCache s set i => let w := c.way (wayKey s set i); hbmEncode (lineBytes w.data) (wayMeta w)
  | .directory _ _ | .spill _ _ _ _ | .resyncLog _ _ _ | .staging _ | .management => List.replicate 72 0

/-- The word as it is read. -/
def readWord (c : Chip) (r : CodewordRead) : List Byte :=
  r.errors.foldl (fun w e => if e.1 < 72 then setAt w e.1 (w.getD e.1 0 ^^^ e.2) else w) (storedWord c r.region)

/-- A line of the line cache or of the directory lies on one pseudo-channel; the other regions are striped over all 64 (Table 7.2). -/
def onChannel (r : CodewordRead) : Bool :=
  match r.region with
  | .lineCache s set _ => pcOfSet s set == r.pc
  | .directory s set => dirPc s set == r.pc
  | .spill _ _ _ _ | .resyncLog _ _ _ | .staging _ | .management => true

/-- A corrected line is written back, unless a later write to it is queued or has completed (R215). Where the decoder took more errors for
fewer, it is another line. -/
def rewrite (c : Chip) (r : CodewordRead) (word : List Byte) : Chip :=
  match r.region with
  | .lineCache s set i => if r.laterWrite then c else setWay c (wayKey s set i) (wayOfWord (c.way (wayKey s set i)) word)
  | .directory _ _ | .spill _ _ _ _ | .resyncLog _ _ _ | .staging _ | .management => c

/-- A read that corrects symbols (R215, R217). -/
def corrected (c : Chip) (r : CodewordRead) (symbols : Nat) (word : List Byte) : Chip :=
  let c := countEvent (raise (rewrite c r word) 128 (pcInfo r.pc)) { code := 0x060, quad := r.pc / 16, inst := r.pc } symbols
  let x := c.pcOf r.pc
  let x := { x with ceCount := x.ceCount + 1 }
  let ts := recentTimes c (x.ce.look r.block) (sec 86400)
  let c := c.setPc r.pc { x with ce := x.ce.put r.block ts }
  if c.hbm.retireCe ≤ ts.length then retireBlock c r.pc r.block else c

/-- A clean way of the line cache, or an empty one, is discarded and its line read from backing, where a granted request waits for it. -/
def cleanLost (c : Chip) (s set i pc : Nat) : Chip :=
  let w := c.way (wayKey s set i)
  let n := lineOfWay s set w.tag
  let c := raise (setWay c (wayKey s set i) {}) 129 (pcInfo pc)
  match c.tracker n with
  | some t => if w.tki ≠ 0 ∧ t.phase = .rdPend ∧ wantsData t ∧ t.data.isNone ∧ (c.pool.reads.look n).isNone then startRead c n else c
  | none => c

/-- A dirty way reads as poison from now on; its tenant is told (R34). -/
def dirtyLost (c : Chip) (s set i pc : Nat) : Chip :=
  let w := c.way (wayKey s set i)
  let c := raise (setWay c (wayKey s set i) { w with poison := true, dirty := true }) 130 (pcInfo pc)
  unsolTenant c w.tenant 0x8004 (leBytes 2 w.window ++ leBytes 1 (c.window w.window).shown ++ leBytes 4 1)

/-- R200: a log line cannot be corrected: the 512 bits that it holds are set. -/
def logLineLost (c : Chip) (window member bit : Nat) : Chip :=
  let w := c.window window
  let x := w.members.look member
  if !w.present ∨ !x.present then c
  else
    let lo := bit / 512 * 512
    let x' := (List.range 512).foldl (fun y i => setPage y (lo + i)) x
    reviewWindow (raise (c.setWindow window { w with members := w.members.put member x' }) 120 (srcInfo 13 window)) window

/-- R71: a spilled cell has no good copy. -/
def spillLost (c : Chip) (input output sc : Nat) (cls : MsgClass) (pc : Nat) : Chip :=
  let c := raise c 131 (pcInfo pc)
  match (c.sw.voq.look (laneKey input output sc cls)).find? (fun q => 0 < q.spilled) with
  | none => c
  | some q => noGoodQueued c q

/-- Table 7.3: three symbols are detected. -/
def uncorrected (c : Chip) (r : CodewordRead) : Chip :=
  match r.region with
  | .lineCache s set i =>
    let w := c.way (wayKey s set i)
    if w.tki ≠ 0 ∧ w.dirty then dirtyLost c s set i r.pc else cleanLost c s set i r.pc
  | .directory s set => dirLost c s set
  | .spill i o sc cls => spillLost c i o sc cls r.pc
  | .resyncLog w m b => logLineLost c w m b
  | .staging e => stagingLost (raise c 131 (pcInfo r.pc)) e
  | .management => raise c 131 (pcInfo r.pc)

/-- A detection is counted; 16 within 1 s fail the pseudo-channel, one retires its block (R217, R219). -/
def detected (c : Chip) (r : CodewordRead) : Chip :=
  let x := c.pcOf r.pc
  let ts := recentTimes c x.ueTimes (sec 1)
  let c := c.setPc r.pc { x with ueCount := min 255 (x.ueCount + 1), ueTimes := ts }
  if 16 ≤ ts.length then failPc c r.pc else retireBlock c r.pc r.block

/-- What a codeword read comes to (R215): the decoder of R211 on the word as it is read. A parity error that the controller retried raises
source 137 (Table 7.4). Errors that the code does not see leave another line in the way. -/
def codeword (c : Chip) (r : CodewordRead) : Chip :=
  if 64 ≤ r.pc ∨ (c.pcOf r.pc).failed ∨ !onChannel r then c
  else
    let c := if r.parity then raise c 137 (pcInfo r.pc) else c
    match hbmDecode (readWord c r) with
    | .clean => match r.region with
      | .lineCache s set i =>
        if r.errors.isEmpty then c else setWay c (wayKey s set i) (wayOfWord (c.way (wayKey s set i)) (readWord c r))
      | .directory _ _ | .spill _ _ _ _ | .resyncLog _ _ _ | .staging _ | .management => c
    | .fixed n word => corrected (spendArmed c [128, 129, 130]) r n word
    | .detected => detected (uncorrected (spendArmed c [128, 129, 130]) r) r

/-- HBM_CODEWORD_READ (R215). -/
def hbmCodewordRead (r : CodewordRead) (c : Chip) : Chip := if c.rst.running then codeword c r else c

/-- Lines of the stacks: 48 GiB (R216), and those of one pseudo-channel. -/
abbrev hbmLines : Nat := 805306368
abbrev pcLines : Nat := 12582912

/-- The patrol scrubber's line: its pseudo-channel, and its block there. The walk takes the pseudo-channels one after the other, a choice of
the model (notes/assumptions/174.md). -/
def scrubPc (c : Chip) : Nat := c.hbm.cursor / pcLines
def scrubBlock (c : Chip) : Nat := c.hbm.cursor % pcLines / 64

/-- `ivl` before which the scrubber's next line is not read: its lines are spread evenly over SCRUB_PERIOD (R216). -/
def scrubDue (c : Chip) : Nat := c.hbm.scrubAt + c.hbm.cursor * sec (3600 * c.hbm.scrubPeriod) / hbmLines

/-- PATROL_SCRUB (R216): the scrubber's next line is read when it is due. The scrubber pauses while the HBM refreshes itself on device Slack
(18_power_ladder.md). -/
def patrolScrub (r : CodewordRead) (c : Chip) : Chip :=
  if !c.rst.running ∨ !c.hbm.scrubEn ∨ (c.rung 8).current ≠ 0 ∨ c.ivl < scrubDue c then c
  else
    let n := (c.hbm.cursor + 1) % hbmLines
    let c' := { c with hbm := { c.hbm with cursor := n, scrubAt := if n = 0 then c.ivl else c.hbm.scrubAt } }
    codeword c' { r with pc := scrubPc c, block := scrubBlock c }

/-- The threshold moves one step towards the better sample group, within its bounds (R225). -/
def stepThresh (l : Placement) : Nat :=
  let more := max l.hitsLo l.hitsHi
  let apart := more - min l.hitsLo l.hitsHi
  let t := if apart * 100 ≤ more then l.thresh else if l.hitsHi < l.hitsLo then l.thresh - 1 else l.thresh + 1
  max l.min (min l.max t)

/-- PLACEMENT_LOOP_UPDATE (R225). -/
def placementLoopUpdate (slice : Nat) (c : Chip) : Chip :=
  let l := c.hbm.loops.look slice
  if 32 ≤ slice ∨ !c.rst.running ∨ !c.past l.last (ms 1) then c
  else
    let dt := c.ivl - l.last
    let l' : Placement := { l with atMin := if l.thresh = l.min then l.atMin + dt else l.atMin,
                                   atMax := if l.thresh = l.max then l.atMax + dt else l.atMax,
                                   thresh := stepThresh l, hitsLo := 0, hitsHi := 0, last := c.ivl }
    { c with hbm := { c.hbm with loops := c.hbm.loops.put slice l' } }

/-- PURGE_END (R226). -/
def purgeEnd (dev extent : Nat) (c : Chip) : Chip :=
  if (c.dev dev).purging.contains extent then
    scrubDone (c.modDev dev (fun d => { d with purging := d.purging.erase extent })) dev extent
  else c

/-! ### Commands (Tables 7.6, 7.7, 12.12) -/

/-- HBM_RESERVE's own checks. -/
def hbmReserveCheck (d : Desc) : Option Status := if d.zeroBut [(16, 10)] then none else some .badParam

/-- HBM_RESERVE: the slots of a requester on every pseudo-channel of the mask. -/
def hbmReserveDo (c : Chip) (d : Desc) : Chip :=
  let m := d.u64 16
  (List.range 64).foldl (fun c k =>
    if bitOf m k then
      let key := d.tgt * 64 + k
      { c with hbm := { c.hbm with reserve := c.hbm.reserve.putD (resvDef key) key (d.u16 24) } }
    else c) c

/-- HBM_RESERVE (R229): its result is the slots reserved per channel. -/
def hbmReserve (r : Nat) (d : Desc) (c : Chip) : Chip :=
  runCmd 0x0B10 (fun c x => match hbmReserveCheck d with
    | some st => refuse c x st
    | none => admitOr c x (hbmReserveDo c d) (fun e => endCmd e x .ok (leBytes 2 (d.u16 24)))) r d c

/-- The slices that LC_CONFIG names. -/
def lcSlices (d : Desc) : List Nat := if d.tgt = 0xFFFF then List.range 32 else [d.tgt]

/-- LC_CONFIG's own checks: ranges, and MIN not above MAX on the values held afterwards. -/
def lcConfigCheck (c : Chip) (d : Desc) : Option Status :=
  if !d.zeroBut [(16, 10)] ∨ 16 ≤ d.u32 16 ∨ !maskIn d 0 0 7 (d.byte 20) ∨ !maskIn d 1 0 7 (d.byte 21) ∨
     !maskIn d 2 1 168 (d.byte 22) ∨ !maskIn d 3 1 1000 (d.u16 24) then some .badParam
  else if (lcSlices d).any (fun s =>
      let l := c.hbm.loops.look s
      decide ((if d.mask 1 then d.byte 21 else l.max) < (if d.mask 0 then d.byte 20 else l.min))) then some .badParam
  else none

/-- LC_CONFIG: the bounds of the slices named, and the device-wide parameters. -/
def lcConfigDo (c : Chip) (d : Desc) : Chip :=
  let set : Placement → Placement := fun l =>
    let lo := if d.mask 0 then d.byte 20 else l.min
    let hi := if d.mask 1 then d.byte 21 else l.max
    { l with min := lo, max := hi, thresh := max lo (min hi l.thresh) }
  let loops := (lcSlices d).foldl (fun t s => t.upd s set) c.hbm.loops
  { c with hbm := { c.hbm with loops := loops, scrubPeriod := if d.mask 2 then d.byte 22 else c.hbm.scrubPeriod,
                               retireCe := if d.mask 3 then d.u16 24 else c.hbm.retireCe } }

/-- The result of LC_CONFIG: the bounds applied, of the first slice named. -/
def lcBounds (c : Chip) (d : Desc) : List Byte :=
  let l := c.hbm.loops.look ((lcSlices d).headD 0)
  leBytes 1 l.min ++ leBytes 1 l.max

/-- LC_CONFIG (R225). -/
def lcConfig (r : Nat) (d : Desc) (c : Chip) : Chip :=
  runCmd 0x0B11 (fun c x => match lcConfigCheck c d with
    | some st => refuse c x st
    | none => admitOr c x (lcConfigDo c d) (fun e => endCmd e x .ok (lcBounds e d))) r d c

/-- HBM_PC_STATUS[k]. -/
def pcStatus (x : PseudoChannel) : Nat := nat1 x.failed + 2 * nat1 x.isolated + 4 * x.retired + 2 ^ 13 * x.ueCount

/-- LC_LOOP[s]. -/
def lcLoop (l : Placement) : Nat :=
  l.thresh + 8 * l.min + 64 * l.max + 512 * nat1 (l.thresh == l.min || l.thresh == l.max)

/-- HBM_QUERY: corrected and detected errors, retired blocks, pool free; or T, time at each bound, hits and misses. A slice is TARGET 0x8000_0000 + s. -/
def hbmQuery (r : Nat) (d : Desc) (c : Chip) : Chip :=
  runCmd 0x0B12 (fun c x =>
    if !d.zeroBut [(16, 12)] ∨ !d.bufferOk x.ring then refuse c x .badParam
    else
      let vals := if d.tgt < 64 then
          let p := c.pcOf d.tgt
          [p.ceCount, p.ueCount, p.retired, c.hbm.poolFree]
        else
          let l := c.hbm.loops.look (d.tgt - 2 ^ 31)
          [l.thresh, l.atMin, l.atMax, l.hits, l.missed]
      endQuery c x d (Config.queryBytes 0x0B12) (openFields vals)) r d c

end Sys2Proof.Machine
end

