-- ==== Sys2Proof/Machine/Rings.lean ====
section
/-!
DEFINITION. Command rings and the other command paths (12_command_interface.md): doorbells (R341, R550), descriptor fetch (R342,
R344, R345), interrupts (R351), ring commands, MCTP (R358), the console (R359).
-/
namespace Sys2Proof.Machine

/-- The source information of a ring. -/
abbrev ringInfo (r : Nat) : DWord := srcInfo 11 r

/-- ACCESS_ERR: a write through the management endpoint is ignored. -/
def accessErr (c : Chip) (bar2 : Bool) (off cause : Nat) : Chip :=
  { c with regs := { c.regs with errReg := BitVec.ofNat 32 (off % 2 ^ 25 + 2 ^ 25 * nat1 bar2 + 2 ^ 26 * cause),
                                 errCnt := min (c.regs.errCnt + 1) 0xFFFFFFFF } }

/-- A write of CMD_TAIL or EVT_HEAD by `path` reaches the register (R550); a write through BAR2 to another tenant's page is
recorded, CAUSE 4. -/
def pageWrite (c : Chip) (path : Path) (t off : Nat) (f : Chip → Chip) : Chip :=
  if !c.rst.running ∨ 4096 ≤ t then c
  else match path with
    | .endpoint => if !pathOpen c .endpoint then c else if t = 0 then f c else accessErr c true (0x2000 * t + off) 4
    | .ld u => if u = t ∧ (c.tenant t).state ≠ .none then f c else c
    | .firmware | .mctp | .console => c

/-- DOORBELL (R341). -/
def doorbell (path : Path) (tenant : Nat) (v : BitVec 32) (c : Chip) : Chip :=
  pageWrite c path tenant 0 (fun c =>
    let r := c.ring tenant
    let tail := v.toNat % 65536
    if (c.tenant tenant).resetting then c.modTenant tenant (fun x => { x with dbIgnored := x.dbIgnored + 1 })
    else if r.state = .unset ∨ r.cmdSize ≤ tail then raise (c.setRing tenant { r with dbErr := true }) 208 (ringInfo (2 * tenant))
    else c.setRing tenant { r with cmdTail := tail })

/-- EVT_HEAD_WRITE (R343). -/
def evtHeadWrite (path : Path) (tenant : Nat) (v : BitVec 32) (c : Chip) : Chip :=
  pageWrite c path tenant 4 (fun c => c.modRing tenant (fun r => { r with evtHead := v.toNat % 65536 }))

/-! ### Arrival of commands -/

/-- The commands fetched and not ended, over every ring (R345). -/
def inFlightAll (c : Chip) : Nat := c.rings.rings.foldl (fun n r => if r.1 < 8192 then n + r.2.flight.length else n) 0

/-- A command arrives at firmware (R359); an unknown OPCODE ends at once (R346 step 1). -/
def arrive (c : Chip) (r op : Nat) (d : Desc) : Chip :=
  let x : CmdRef := { ring := r, tag := d.tag, opcode := op, target := d.tgt, respond := d.respond }
  let f : InFlight := { cmd := x, fence := d.fence, objs := claimsOf c op d, arrival := c.rings.arrivals }
  let c := c.modRing (ringKey r) (fun q => { q with flight := q.flight ++ [f] })
  let c := { c with rings := { c.rings with arrivals := c.rings.arrivals + 1 } }
  if knownOp op then c else endNow c x .badOpcode []

/-- The ring may be fetched: RUNNING, its tenant ENABLED, a descriptor pending, a slot and both limits free (R344, R345, R360);
not during an orderly shutdown (R518). -/
def mayFetch (c : Chip) (t : Nat) : Bool :=
  let r := c.ring t
  c.rst.running && c.rings.fwReady && decide (c.rst.phase = 0) && decide (t < 4096) && r.state == .running && (c.tenant t).state == .enabled &&
  r.cmdHead != r.cmdTail && decide (0 < r.freeSlots) && decide (r.flight.length < 32) && decide (inFlightAll c < 1024)

/-- R345: the ring that the fetch engine serves. A turn takes up to 8 descriptors; ring 0 has every second turn, the others go in
turn. -/
def servedRing (c : Chip) : Option Nat :=
  let q := c.rings
  let ts := (q.rings.map (·.1)).filter (fun t => t != 0 && mayFetch c t)
  let least : List Nat → Option Nat := fun l => l.foldl (fun b t => match b with
    | none => some t
    | some u => some (min u t)) none
  if 0 < q.turnLeft ∧ mayFetch c q.turn then some q.turn
  else if q.turn ≠ 0 ∧ mayFetch c 0 then some 0
  else match least (ts.filter (fun t => decide (q.turnLast < t))) with
    | some t => some t
    | none => match least ts with
      | some t => some t
      | none => if mayFetch c 0 then some 0 else none

/-- The turn takes the ring's next descriptor: its read. -/
def takeTurn (c : Chip) (t : Nat) : Chip :=
  let q := c.rings
  let stays : Bool := decide (0 < q.turnLeft) && q.turn == t
  let c : Chip := { c with rings := { q with turn := t, turnLeft := (if stays then q.turnLeft else 8) - 1,
                                             turnLast := if t = 0 then q.turnLast else t } }
  c.emit (.fetch (2 * t) ((c.ring t).cmdBase.toNat + 64 * (c.ring t).cmdHead))

/-- R342: a read of a descriptor or of its indirect block has failed. -/
def fetchFailed (c : Chip) (t : Nat) : Chip :=
  (raise (c.modRing t (fun r => { r with fetchErr := true, state := .error })) 209 (ringInfo (2 * t))).later (.ringError t)

/-- DESCRIPTOR_FETCH (R342, R344): the reads of the next descriptor and its block have completed. -/
def descriptorFetch (tenant : Nat) (f : Fetch) (c : Chip) : Chip :=
  if servedRing c ≠ some tenant then c
  else if !f.ok then fetchFailed (takeTurn c tenant) tenant
  else
    let c := takeTurn c tenant
    let c := c.modRing tenant (fun r => { r with cmdHead := (r.cmdHead + 1) % r.cmdSize, reserved := r.reserved + 1 })
    arrive c (2 * tenant) f.opcode f.desc

/-- COMPLETION_TIMEOUT (R342, Table 14.3). -/
def completionTimeout (k : ReadKind) (c : Chip) : Chip :=
  match k with
  | .descriptor t => if servedRing c = some t then fetchFailed (takeTurn c t) t else c
  | .mover e => jobFault e .sourceError c

/-- EVT_COALESCE_EXPIRE (R351). -/
def evtCoalesceExpire (tenant : Nat) (c : Chip) : Chip :=
  let r := c.ring tenant
  match r.intAt with
  | none => c
  | some a =>
    if !r.intWait ∨ !c.past a (coalesceOf c tenant) then c
    else interrupt (c.setRing tenant { r with intWait := false, intAt := none }) tenant

/-! ### The manager's rings -/

/-- The fields of MGR_RING_CFG as written. -/
def mgrFields (c : Chip) (v : Nat) : Chip :=
  { c with rings := { c.rings with mgrCmdLog2 := field v 0 5, mgrEvtLog2 := field v 5 5, mgrCoal := field v 12 16 } }

/-- MGR_RING_ENABLE (R340): MGR_RING_CFG is written with ENABLE 1. While it is 1 already, only the other fields change. -/
def mgrRingEnable (path : Path) (v : BitVec 32) (c : Chip) : Chip :=
  let n := v.toNat
  let cl := field n 0 5
  let el := field n 5 5
  if !pathOpen c path then c
  else
    let c := mgrFields c n
    if c.rings.mgrEnable then c
    else if cl < 4 ∨ 16 < cl ∨ el < cl ∨ 16 < el then { c with rings := { c.rings with mgrErr := true } }
    else
      let c := resetRing c 0
      let r : Ring := { (c.ring 0) with state := .running, cmdBase := c.rings.mgrCmdBase, evtBase := c.rings.mgrEvtBase,
                                        cmdLog2 := cl, evtLog2 := el }
      let c := c.setRing 0 r
      { c with rings := { c.rings with mgrEnable := true, mgrErr := false } }

/-- A ring stops (RING_STOP). A ring in ERROR stays there until RING_SETUP. -/
def stopRing (c : Chip) (t : Nat) : Chip :=
  c.modRing t (fun r => if r.state = .running then { r with state := .stopped } else r)

/-- MGR_RING_DISABLE: MGR_RING_CFG is written with ENABLE 0. -/
def mgrRingDisable (path : Path) (v : BitVec 32) (c : Chip) : Chip :=
  if !pathOpen c path then c
  else
    let c := mgrFields c v.toNat
    let was := c.rings.mgrEnable
    let c := { c with rings := { c.rings with mgrEnable := false } }
    if was then stopRing c 0 else c

/-! ### Ring commands -/

/-- RING_SETUP's ranges (Table 12.1). -/
def ringSetupOk (d : Desc) : Bool :=
  d.zeroBut [(16, 24)] && decide (d.u64 16 % 4096 = 0) && decide (d.u64 24 % 4096 = 0) && decide (4 ≤ d.byte 32) &&
  decide (d.byte 32 ≤ d.byte 33) && decide (d.byte 33 ≤ 16) && decide (d.u16 34 ≤ 31) && decide (d.u16 36 ≤ 1000)

/-- R358: RING_SETUP with TARGET 0 over MCTP sets UNSOL_MASK of the MCTP path, for the endpoint that sent it. -/
def mctpSetup (c : Chip) (x : CmdRef) (d : Desc) : Chip :=
  let ep := endpointOf c x.tag
  endCmd { c with rings := { c.rings with mctpUnsol := some (ep, BitVec.ofNat 16 (d.u16 38) ||| 1#16) } } x .ok

/-- RING_SETUP (R339, R340); a RESET event that is owed to the tenant follows (R331). -/
def ringSetup (r : Nat) (d : Desc) (c : Chip) : Chip :=
  runCmd 0x0230 (fun c x =>
    let t := d.tgt
    if t = 0 then (if d.zeroBut [(16, 24)] then mctpSetup c x d else refuse c x .badParam)
    else if !ringSetupOk d then refuse c x .badParam
    else if (c.ring t).state = .running ∨ tenantBusy c t then refuse c x .busy
    else
      let c := resetRing c t
      let y := c.tenant t
      let c := c.setRing t { state := if y.state = .enabled then .running else .stopped,
                             cmdBase := BitVec.ofNat 64 (d.u64 16), evtBase := BitVec.ofNat 64 (d.u64 24), cmdLog2 := d.byte 32,
                             evtLog2 := d.byte 33, vector := d.u16 34, coalesce := d.u16 36,
                             unsol := BitVec.ofNat 16 (d.u16 38) ||| 1#16 }
      let c := if y.resetTold then c
        else unsolRing (c.setTenant t { y with resetTold := true }) t 0x8003 (resetEvent y)
      endCmd c x .ok) r d c

/-- Commands of a ring other than the RING_STOP that waits for them. -/
def othersInFlight (c : Chip) (k : Nat) : Bool :=
  match (c.ring k).stopCmd with
  | none => false
  | some x => (c.ring k).flight.any (fun f => !(x.ring == 2 * k && sameCmd f.cmd x))

/-- A RING_STOP ends once the commands in flight have ended. -/
def endStop (c : Chip) (k : Nat) : Chip :=
  match (c.ring k).stopCmd with
  | none => c
  | some x => if othersInFlight c k then c else endCmd (c.modRing k (fun r => { r with stopCmd := none })) x .ok

/-- RING_STOP. -/
def ringStop (r : Nat) (d : Desc) (c : Chip) : Chip :=
  runCmd 0x0231 (fun c x =>
    let t := d.tgt
    if !d.zeroBut [] then refuse c x .badParam
    else if tenantBusy c t then refuse c x .busy
    else endStop ((stopRing c t).modRing t (fun q => { q with stopCmd := some x })) t) r d c

/-- RING_STATUS.STATE as a number. -/
def RState.code : RState → Nat
  | .unset => 0
  | .stopped => 1
  | .running => 2
  | .error => 3

/-- RING_QUERY: state, indices, in flight, EVT_LOST, setup parameters. -/
def ringQuery (r : Nat) (d : Desc) (c : Chip) : Chip :=
  runCmd 0x0232 (fun c x =>
    if !d.zeroBut [(16, 12)] ∨ !d.bufferOk x.ring then refuse c x .badParam
    else
      let q := c.ring d.tgt
      endQuery c x d (Config.queryBytes 0x0232)
        (openFields [q.state.code, q.cmdHead, q.cmdTail, q.evtHead, q.evtTail, q.flight.length, q.lost, q.cmdBase.toNat, q.evtBase.toNat,
         q.cmdLog2, q.evtLog2, q.vector, q.coalesce, q.unsol.toNat])) r d c

/-- NOP's effect: none. -/
def nopGo (c : Chip) (x : CmdRef) : Chip := endCmd c x .ok

/-- NOP. -/
def nop (r : Nat) (d : Desc) (c : Chip) : Chip := runCmd 0x0233 nopGo r d c

/-! ### MCTP and the console -/

/-- A request over MCTP that is answered without entering the order of commands. -/
def mctpAnswer (c : Chip) (ep op : Nat) (d : Desc) (st : Status) (res : List Byte) : Chip :=
  cmdRecord c 8192 ep { code := op, status := st, tag := d.tag, result := res }

/-- MCTP_MESSAGE (R358, R420, R491): BUSY with byte 16 = 1 while the fabric die is unavailable, be it that it has never started; the black box
is read at any time (R16). -/
def mctpMessage (endpoint : Nat) (m : MctpMsg) (c : Chip) : Chip :=
  let op := m.opcode
  let served := op == 0x0610 || op == 0x0611 || (op == 0x0800 && c.sec.recovery)
  if !m.wellFormed then raise c 213 (ringInfo 8192)
  else if !c.rst.running ∧ !served then mctpAnswer c endpoint op m.desc .busy [1]
  else if 8 ≤ (c.rings.mctpOut.filter (fun e => e.1 == endpoint)).length then mctpAnswer c endpoint op m.desc .busy []
  else arrive { c with rings := { c.rings with mctpOut := c.rings.mctpOut ++ [(endpoint, m.desc.tag)] } } 8192 op m.desc

/-- MCTP_ENDPOINT_RESET (R359, R367): groups held by the MCTP path are discarded. -/
def mctpEndpointReset (_endpoint : Nat) (c : Chip) : Chip := if c.rst.running then discardRing c 8192 0 else c

/-- CONSOLE_COMMAND (R359, Table 12.10): one at a time; queries, and every other opcode but 0x08xx only with CONSOLE_CMD. -/
def consoleCommand (opcode : Nat) (d : Desc) (c : Chip) : Chip :=
  if !c.rst.running ∨ !(c.ring 8193).flight.isEmpty then c
  else if knownOp opcode ∧ !isQuery opcode ∧ (!c.rings.console ∨ opcode / 256 = 8) then
    cmdRecord c 8193 0 { code := opcode, status := .notPermitted, tag := d.tag }
  else arrive c 8193 opcode d

end Sys2Proof.Machine
end

