-- ==== Sys2Proof/Machine/SelfTest.lean ====
section
/-!
DEFINITION. Self-test and repair (16_self_test_repair.md): slice tests (R427, R428), result records (R429, R430), repairs and what
cannot be repaired (R431–R433, Table 16.5), test commands (Table 16.6).
-/
namespace Sys2Proof.Machine

/-! ### Isolation and re-initialisation (Table 16.2) -/

/-- The dirty lines of a pseudo-channel's line-cache rows are written back, and its ways emptied. -/
def flushPc (c : Chip) (k : Nat) : Chip :=
  let here : Nat × Way → Bool := fun w => pcOfSet (w.1 / 4 / 2 ^ 22) (w.1 / 4 % 2 ^ 22) == k
  let ws := c.hbm.ways.filter here
  let c := { c with hbm := { c.hbm with ways := c.hbm.ways.filter (fun w => !here w) } }
  (ws.filter (fun w => w.2.dirty)).foldl (fun c w =>
    writeBack c (lineOfWay (w.1 / 4 / 2 ^ 22) (w.1 / 4 % 2 ^ 22) w.2.tag) w.2.data (BitVec.allOnes 64) w.2.poison none) c

/-- The directory-cache sets of a slice that `p` picks are written back and leave the cache. -/
def flushDirCache (c : Chip) (s : Nat) (p : Nat → Bool) : Chip :=
  { c with home := { c.home with dirCached := c.home.dirCached.filter (fun e => !(e.1 / 2 ^ 30 == s && p e.1)) } }

/-- A quadrant instance is isolated and re-initialised without a test (Table 15.4): its kind is that of Table 16.2. -/
def reinit (c : Chip) (kind i : Nat) : Chip :=
  if kind = 0 then (if c.test.spare < 65 then { c with test := { c.test with spare := i } } else c)
  else if kind = 1 then flushDirCache c i (fun _ => true)
  else if kind = 2 then (if (c.pcOf i).failed then c else let c := flushPc c i; c.setPc i { c.pcOf i with isolated := false })
  else c.setEngine i { c.engine i with testing := false }

/-- The instances of each kind (Table 16.2). -/
def kindCount (kind : Nat) : Nat := if kind = 0 then 65 else if kind = 1 then 32 else if kind = 2 then 64 else 16

/-- An instance can be tested: in service, and, for buffer banks, a spare exists (Table 16.5). -/
def testable (c : Chip) (kind i : Nat) : Bool :=
  if kind = 0 then decide (c.test.spare < 65) else if kind = 1 then true else if kind = 2 then !(c.pcOf i).failed
  else !(c.engine i).out

/-- The isolation of the instance under test begins. -/
def isolate (c : Chip) (t : SliceTest) : Chip :=
  let c := { c with test := { c.test with running := some t, lastKind := t.kind, lastIdx := t.index } }
  if t.kind = 1 then
    (if t.seg < 16 then flushDirCache c t.index (fun k => Config.dirSegment t.index k % 16 == t.seg) else c)
  else if t.kind = 2 then let c := flushPc c t.index; c.setPc t.index { c.pcOf t.index with isolated := true }
  else if t.kind = 3 ∧ (jobOf c t.index).isNone then c.setEngine t.index { c.engine t.index with testing := true }
  else c

/-! ### Results (R429, R430) -/

/-- Fabric Time, or 0 before it runs (Table 16.3). -/
def testTime (c : Chip) : DWord := if c.rst.running then c.ft.count else 0

/-- A run first writes the header of region 4 (R430). -/
def openHeader (c : Chip) (path : Nat) : Chip :=
  { c with bb := { c.bb with header := { path := path, began := testTime c } } }

/-- The run is over: its end is written. -/
def closeHeader (c : Chip) : Chip :=
  { c with bb := { c.bb with header := { c.bb.header with ended := testTime c } } }

/-- A result record is appended to the ring of region 4; the header counts failures per OUTCOME, SLICE_TEST_STATUS shows the last
OUTCOME of a slice test. -/
def addRecord (c : Chip) (path : Nat) (r : TestResult) : Chip :=
  let rec_ : BistRec := { res := r, path := path, time := testTime c }
  let fs := c.bb.header.fails
  let fs := if r.outcome = 0 then fs else setAt fs r.outcome (fs.getD r.outcome 0 + 1)
  { c with bb := { c.bb with bist := (rec_ :: c.bb.bist).take 65280, bistNext := (c.bb.bistNext + 1) % 65280,
                             header := { c.bb.header with fails := fs } },
           test := { c.test with lastOut := if r.test = 4 then r.outcome else c.test.lastOut } }

/-- The source information of a finding's block (Table 16.3). -/
def findingInfo (r : TestResult) : DWord :=
  if r.block = 0 then srcInfo 8 r.instId else if r.block = 1 then srcInfo 6 r.instId else if r.block = 2 then srcInfo 7 r.instId
  else if r.block = 3 then srcInfo 9 r.instId else if r.block = 5 then srcInfo 5 r.instId
  else if r.block = 6 then srcInfo 3 r.instId else 0

/-- The row that an HBM finding lies in, by bank and row (Table 16.3), and its block. -/
abbrev rowOf (r : TestResult) : Nat := r.address / 2 ^ 16 % 2 ^ 32
def rowBlock (r : TestResult) : Nat := Config.rowBlock (rowOf r)

/-- R218, R432: an HBM row that fails is retired and soft-repaired: it joins the soft-repair list, and its block returns to the pool once
every row of it is repaired. -/
def rowRepaired (c : Chip) (k row block : Nat) : Chip :=
  let c := { c with bb := { c.bb with soft := (addOnce c.bb.soft (k, row)).take 8192 }
                    hbm := { c.hbm with mended := addOnce c.hbm.mended (k, row) } }
  if (c.pcOf k).mapped.contains block then returnBlock c k block
  else if (Config.blockRows block).all (fun r => c.hbm.mended.contains (k, r)) then c else retireBlock c k block

/-- A successful repair (R431, R432): SRAM spares go into the repair map (a macro of a bank, slice or engine under that unit's number). -/
def repaired (c : Chip) (r : TestResult) : Chip :=
  if r.block = 2 then rowRepaired c r.instId (rowOf r) (rowBlock r)
  else if r.block ≤ 4 then
    let macro_ := if r.block = 4 then r.instId else 2 ^ 16 * (r.block + 1) + r.instId
    let c := { c with bb := { c.bb with repairs := (addOnce c.bb.repairs (macro_, r.repair, r.address)).take 8192 } }
    if (c.bb.repairs.filter (fun e => e.1 == macro_)).length = 5 then raise c 259 else c
  else c

/-- A failure that the spares cannot repair (Table 16.5). -/
def unrepairable (c : Chip) (r : TestResult) : Chip :=
  if r.block = 0 then
    if c.test.spare < 65 then raise { c with test := { c.test with spare := 127 } } 260 (srcInfo 8 r.instId)
    else { c with test := { c.test with lost := c.test.lost + 1 }, sw := { c.sw with bufCells := c.sw.bufCells - 12288 } }
  else if r.block = 1 then { c with test := { c.test with excluded := addOnce c.test.excluded (r.instId, r.segment) } }
  else if r.block = 2 then retireBlock c r.instId (rowBlock r)
  else if r.block = 3 then c.setEngine r.instId { c.engine r.instId with out := true, testing := false }
  else if r.block = 5 ∧ r.instId < 32 then { c with test := { c.test with portsOut := addOnce c.test.portsOut r.instId } }
  else if r.block = 6 then c
  else { c with test := { c.test with fatal := true } }

/-- A lane's loopback fails if it shows one error or more (R424): its finding's ADDRESS is the errors counted (Table 16.3). -/
def laneVerdict (r : TestResult) : TestResult :=
  if r.block = 6 ∧ r.outcome ≠ 4 then { r with outcome := if r.address = 0 then 0 else 3 } else r

/-- One finding of a test: its record, its source, its effect (R424, R429, R433). -/
def finding (c : Chip) (path : Nat) (r : TestResult) : Chip :=
  let r := laneVerdict r
  let c := addRecord c path r
  let c := if r.block = 6 ∧ r.outcome ≠ 0 ∧ r.outcome ≠ 4 ∧ !(c.lane r.instId).quar then
      raise (c.modLane r.instId (fun x => { x with quar := true })) 179 (laneInfo r.instId) else c
  if r.outcome = 1 then raise (repaired c r) 256 (findingInfo r)
  else if r.outcome = 2 then raise (retireBlock c r.instId (rowBlock r)) 256 (findingInfo r)
  else if r.outcome = 3 then raise (unrepairable c r) 257 (findingInfo r)
  else c

/-- The worst outcome of a run: unrepairable, then retired, then repaired, then pass. -/
def worstOutcome (rs : List TestResult) : Nat := rs.foldl (fun n r => max n (if r.outcome ≤ 3 then r.outcome else 0)) 0

/-! ### Slice tests (R427, R428) -/

/-- Bytes that a whole test of an instance covers; the spec gives the size of a bank and of a channel's rows. -/
def testBytes (c : Chip) (kind : Nat) : Chip × Nat :=
  if kind = 0 then (c, 3145728) else if kind = 2 then (c, 536870912) else (c.usedFree, c.freeNat)

/-- PATH of a slice test: 2, or 3 under BIST_RUN. -/
abbrev testPath (t : SliceTest) : Nat := if t.cmd.isSome then 3 else 2

/-- The test is over: its instance is back in service, BIST_RUN ends. -/
def closeTest (c : Chip) (t : SliceTest) (outcome records : Nat) : Chip :=
  let c := closeHeader { c with test := { c.test with running := none } }
  match t.cmd with
  | none => c
  | some x =>
    let (c, n) := if outcome = 4 then (c, 0) else testBytes c t.kind
    endCmd c x .ok (leBytes 4 outcome ++ leBytes 4 records ++ leBytes 4 n)

/-- A SKIPPED result is written. -/
def skipTest (c : Chip) (t : SliceTest) : Chip :=
  addRecord c (testPath t) { test := 4, block := t.kind, outcome := 4, instId := t.index, segment := t.seg }

/-- A block reset meets the instance under test: SKIPPED, and the instance is re-initialised (R428). -/
def blockReinit (c : Chip) (kind i : Nat) : Chip :=
  match c.test.running with
  | some t =>
    if t.kind = kind ∧ t.index = i then closeTest (reinit (skipTest c t) kind i) t 4 (t.found.length + 1) else reinit c kind i
  | none => reinit c kind i

/-- The next instance of a kind, ascending and cyclic from its last one. -/
def nextOf (c : Chip) (kind : Nat) : Option Nat :=
  let n := kindCount kind
  let from_ := c.test.nextIdx.getD kind 0
  ((List.range n).map (fun i => (from_ + i) % n)).find? (testable c kind)

/-- A test of an instance starts. -/
def startTest (c : Chip) (kind i : Nat) (cmd : Option CmdRef) : Chip :=
  let t : SliceTest := { kind := kind, index := i, since := c.ivl, cmd := cmd }
  isolate (openHeader c (testPath t)) t

/-- SLICE_INTERVAL_EXPIRE (R427): round-robin over the enabled kinds, then over the instances of the kind. -/
def sliceIntervalExpire (c : Chip) : Chip :=
  if !c.rst.running ∨ c.test.kinds = 0 ∨ !c.past c.test.lastTurn (sec c.test.interval) ∨ c.test.running.isSome then c
  else
    let kinds := ((List.range 4).map (fun i => (c.test.nextKind + i) % 4)).filter (fun k => bitOf c.test.kinds k)
    match kinds.findSome? (fun k => (nextOf c k).map (fun i => (k, i))) with
    | none => { c with test := { c.test with lastTurn := c.ivl } }
    | some (k, i) =>
      startTest { c with test := { c.test with lastTurn := c.ivl, nextKind := (k + 1) % 4,
                                               nextIdx := setAt c.test.nextIdx k ((i + 1) % kindCount k) } } k i none

/-- SLICE_ISOLATION_DONE: the instance, or the segment, is empty. An engine is taken only while idle, a tracker segment once its
trackers are free. -/
def sliceIsolationDone (c : Chip) : Chip :=
  match c.test.running with
  | none => c
  | some t =>
    if t.drained ∨ (t.kind = 3 ∧ (jobOf c t.index).isSome) ∨
       (t.kind = 1 ∧ 16 ≤ t.seg ∧ sharedTrackers c t.index < poolUsed c t.index 0) then c
    else
      let c := if t.kind = 3 then c.setEngine t.index { c.engine t.index with testing := true } else c
      { c with test := { c.test with running := some { t with drained := true } } }

/-- SLICE_DRAIN_EXPIRE (R427): a bank or tracker segment has not drained within SLICE_DRAIN. -/
def sliceDrainExpire (c : Chip) : Chip :=
  match c.test.running with
  | none => c
  | some t =>
    if t.drained ∨ !(t.kind = 0 ∨ (t.kind = 1 ∧ 16 ≤ t.seg)) ∨ !c.past t.since (us c.test.drain) then c
    else closeTest (raise (skipTest c t) 258 (findingInfo { block := t.kind, instId := t.index })) t 4
      (t.found.length + 1)

/-- SLICE_TEST_END: a segment of a home slice, or the instance, has been tested and re-initialised. -/
def sliceTestEnd (r : List TestResult) (c : Chip) : Chip :=
  match c.test.running with
  | none => c
  | some t =>
    let rs := (r.filter (fun x => x.outcome ≠ 0 ∧ x.outcome ≠ 4)).map (fun x =>
      ({ x with test := 4, block := t.kind, instId := t.index, segment := t.seg } : TestResult))
    if !t.drained then c
    else if t.kind = 1 ∧ t.seg < 22 then
      isolate (rs.foldl (fun c x => finding c (testPath t) x) c) { t with seg := t.seg + 1, drained := false, since := c.ivl, found := t.found ++ rs }
    else
      let all := t.found ++ rs
      let c := reinit { c with test := { c.test with running := none } } t.kind t.index
      let c := if all.isEmpty then finding c (testPath t) { test := 4, block := t.kind, instId := t.index }
        else rs.foldl (fun c x => finding c (testPath t) x) c
      closeTest c t (worstOutcome all) (max 1 all.length)

/-- An aborted BIST_RUN: the instance is re-initialised and returned (R434). -/
def abortTest (c : Chip) (x : CmdRef) (tag : Word) : Chip :=
  match c.test.running with
  | none => c
  | some t =>
    if t.cmd ≠ some x then c
    else
      let n := c.freeNat
      let c := closeHeader (reinit { c.usedFree with test := { c.test with running := none } } t.kind t.index)
      endCmd c x .aborted (abortedResult n tag)

/-! ### Commands (Table 16.6) -/

/-- BIST_RUN (R434). -/
def bistRun (r : Nat) (d : Desc) (c : Chip) : Chip :=
  runCmd 0x0900 (fun c x =>
    if d.tgt = 0xFFFFFFFF then
      let b := d.byte 16
      if !d.zeroBut [(16, 1)] ∨ 3 ≤ b then refuse c x .badParam
      else endCmd { c with bb := { c.bb with fullNext := if b = 1 then true else if b = 2 then false else c.bb.fullNext } } x .ok
    else
      let k := d.tgt / 2 ^ 24
      let i := d.tgt % 2 ^ 16
      if !d.zeroBut [] then refuse c x .badParam
      else if c.test.running.isSome ∨ !testable c k i then refuse c x .busy
      else startTest c k i (some x)) r d c

/-- SLICE_TEST_CONFIG's ranges (Table 16.7). -/
def sliceTestConfigCheck (d : Desc) : Option Status :=
  if d.zeroBut [(16, 1), (20, 8)] ∧ d.byte 16 < 16 ∧ 1 ≤ d.u32 20 ∧ d.u32 20 ≤ 86400 ∧ 100 ≤ d.u32 24 ∧ d.u32 24 ≤ 10000 then none
  else some .badParam

def sliceTestConfigDo (c : Chip) (d : Desc) : Chip :=
  { c with test := { c.test with kinds := d.byte 16, interval := d.u32 20, drain := d.u32 24 } }

/-- SLICE_TEST_CONFIG. -/
def sliceTestConfig (r : Nat) (d : Desc) (c : Chip) : Chip :=
  runCmd 0x0901 (fun c x => match sliceTestConfigCheck d with
    | some st => refuse c x st
    | none => admitOr c x (sliceTestConfigDo c d) (fun e => endCmd e x .ok)) r d c

/-- The records from a ring index up to the newest, in order. -/
def recordsFrom (c : Chip) (first : Nat) : List BistRec :=
  let n := (c.bb.bistNext + 65280 - first) % 65280
  let n := if n = 0 ∧ c.bb.bist.length = 65280 then 65280 else n
  if c.bb.bist.length < n then [] else (c.bb.bist.take n).reverse

/-- BIST_RESULT (R430): records copied, and the next record index, follow the lengths of R348. -/
def bistResult (r : Nat) (d : Desc) (c : Chip) : Chip :=
  runCmd 0x0902 (fun c x =>
    if !d.zeroBut [(16, 12), (28, 4)] ∨ !d.bufferOk x.ring ∨ 65280 ≤ d.u32 28 then refuse c x .badParam
    else
      let rs := recordsFrom c (d.u32 28)
      let k := min rs.length (d.room x.ring / 32)
      let next := (d.u32 28 + k) % 65280
      if x.ring < 8192 ∧ !canWrite c (x.ring / 2) then endQuery c x d (32 * rs.length) []
      else
        endCmd (c.emit (.result x.ring (d.u64 16) (32 * k) ((rs.take k).flatMap recordBytesOf))) x .ok
          (leBytes 4 (32 * k) ++ leBytes 4 (32 * rs.length) ++ leBytes 4 k ++ leBytes 3 next)) r d c

/-- The sources whose next write ERR_INJECT MODE 1 can corrupt, with the most bits or symbols (R435). -/
def corruptMost (src : Nat) : Nat :=
  if src = 68 ∨ src = 69 ∨ src = 101 ∨ src = 102 then 2 else if 128 ≤ src ∧ src ≤ 130 then 3 else 0

/-- ERR_INJECT (R435). -/
def errInject (r : Nat) (d : Desc) (c : Chip) : Chip :=
  runCmd 0x0910 (fun c x =>
    let n := d.byte 20
    if !d.zeroBut [(16, 1), (20, 1), (24, 8)] ∨ 2 ≤ d.byte 16 ∨ !sourceUsed d.tgt then refuse c x .badParam
    else if d.byte 16 = 0 then endCmd (raise c d.tgt (BitVec.ofNat 64 (d.u64 24))) x .ok
    else if n = 0 ∨ corruptMost d.tgt < n then refuse c x .badParam
    else
      let k : Corruption := { source := d.tgt, location := d.u64 24, count := n }
      endCmd { c with hbm := { c.hbm with corrupt := c.hbm.corrupt ++ [k] } } x .ok) r d c

end Sys2Proof.Machine
end

