-- ==== Sys2Proof/Machine/Faults.lean ====
section
/-!
DEFINITION. Fault handling and the black box (15_faults_black_box.md): block resets (R406, R407), merged records and events (R404),
the pins (R409, R410), the event log and snapshots in MRAM (R413–R416), supply loss (R418, R419), fault and black-box commands.
-/
namespace Sys2Proof.Machine

/-! ### Block resets (R406, R407, Table 15.4) -/

/-- The block reset of the management complex (R360): every command in flight is marked. -/
def mgmtBlockReset (c : Chip) : Chip :=
  if c.rings.mgmtReset then c
  else
    let mark : Ring → Ring := fun r => { r with flight := r.flight.map (fun f => { f with restarted := true }) }
    let c := { c with rings := { c.rings with rings := c.rings.rings.map (fun r => (r.1, mark r.2)), mgmtReset := true, fwReady := false },
                      sec := { c.sec with readyAt := none } }
    logRecord c { kind := .reset, detail := [3] }

/-- The kind of Table 16.2 that an INST_KIND of quadrant scope names. -/
def sliceKind (k : Nat) : Option Nat :=
  if k = 8 then some 0 else if k = 6 then some 1 else if k = 7 then some 2 else if k = 9 then some 3 else none

/-- What a block reset does to the instance that the source information names; `none` where it names no instance of the scope. -/
def blockEffect (c : Chip) (src : Nat) (info : DWord) : Option Chip :=
  let g := src / 16
  let k := infoKind info
  let i := infoInst info
  let tenant := fun (t : Nat) => if t = 0 ∨ 4096 ≤ t ∨ (c.tenant t).state = .none then none else some (resetTenant c t 1 none)
  if (src = 103 ∧ k = 10) ∨ (g = 12 ∧ k = 10) then tenant i
  else if g = 13 then (if k = 11 ∧ i < 8192 then tenant (i / 2) else none)
  else if g = 3 then some (mgmtBlockReset c)
  else if g = 4 ∨ g = 5 ∨ (9 ≤ g ∧ g ≤ 11) then
    let link := fun (l : Nat) => if (c.link l).state = .active then retrainLink c l else c
    if k = 1 ∧ i < 128 then
      (if (c.port i).role ≠ 0 then some (retrainPort c i)
       else if i % 4 = 0 then (quarterLink c (i / 4)).map link else none)
    else if k = 2 ∧ linkExists c i then some (link i)
    else none
  else if g = 6 ∨ g = 8 ∨ g = 15 ∨ g = 16 then
    match sliceKind k with
    | some s => if i < kindCount s then some (blockReinit c s i) else none
    | none => none
  else none

/-- The history key of an instance. The management complex is one instance. -/
def blockKey (src : Nat) (info : DWord) : Nat := if src / 16 = 3 then 2 ^ 24 else infoKind info * 2 ^ 16 + infoInst info

/-- BLOCK_RESET (R406), not repeated within FAULT_HOLDOFF; the escalation of R407. -/
def blockReset (c : Chip) (src : Nat) (info : DWord) : Chip :=
  let key := blockKey src info
  let h := c.flt.blocks.look key
  if !holdoffOver c h.last then c
  else match blockEffect c src info with
    | none => c
    | some c =>
      let ts := h.times.filter (fun t => decide (c.now < t + sec 1)) ++ [c.now]
      let full := decide (c.flt.escCount ≤ ts.length)
      let h' : BlockHist := { last := some c.ivl, times := if full then [] else ts }
      let c := { c with flt := { c.flt with blocks := c.flt.blocks.put key h' } }
      if full then raise c 4 (srcInfo (if src / 16 = 3 then 0 else infoKind info) (if src / 16 = 3 then 0 else infoInst info) src)
      else c

/-! ### The collector (R404) -/

/-- Queued events are delivered: FW_READY is 1. -/
def deliverQueue (c : Chip) : Chip :=
  let q := c.flt.queue
  let c := { c with flt := { c.flt with queue := [], fullTold := false } }
  q.foldl (fun c e => unsolMgr c 0x8008 (faultResult c e)) c

/-- The merged event of a deferred mark. -/
def markEvent (c : Chip) (src n : Nat) : FaultEvent :=
  { source := src, count := n, info := (c.source src).info, time := (c.source src).last }

/-- FAULT_HOLDOFF_EXPIRE (R404): the merged record or event of a source still pending. -/
def faultHoldoffExpire (source : Nat) (c : Chip) : Chip :=
  let s := c.source source
  if !c.rst.running ∨ !s.pending ∨ 512 ≤ source then c
  else
    let logs := s.logMerged ≠ 0 && s.logAt.isSome && holdoffOver c s.logAt
    let intrs := s.intrMerged ≠ 0 && s.intrAt.isSome && holdoffOver c s.intrAt
    let s' : Source := { s with logAt := if logs then some c.ivl else s.logAt, logMerged := if logs then 0 else s.logMerged,
                                intrAt := if intrs then some c.ivl else s.intrAt, intrMerged := if intrs then 0 else s.intrMerged }
    let c := { c with flt := { c.flt with sources := c.flt.sources.put source s' } }
    let c := if logs then logRecord c { kind := .fault, source := source, severity := sevUsed c source,
                                        reactions := maskOf c source, count := s.logMerged, info := s.info } else c
    if intrs then faultEvent c { source := source, count := s.intrMerged, info := s.info, time := c.ft.count } else c

/-- FAULT_QUEUE_ROOM (R404): deferred marks, in ascending source order, as far as the queue has room. -/
def faultQueueRoom (c : Chip) : Chip :=
  if !c.rst.running ∨ 256 ≤ c.flt.queue.length ∨ c.flt.deferred.isEmpty then c
  else
    let n := if c.rings.fwReady then c.flt.deferred.length else 256 - c.flt.queue.length
    let now := c.flt.deferred.take n
    let c := { c with flt := { c.flt with deferred := c.flt.deferred.drop n, fullTold := false } }
    now.foldl (fun c e => faultEvent c (markEvent c e.1 e.2)) c

/-! ### Pins (R409, R410) -/

/-- MIN_WIDTH_EXPIRE (R410): the pin follows HOLD. -/
def minWidthExpire (c : Chip) : Chip :=
  if !c.flt.errMin ∨ !c.past c.flt.errAt (us c.flt.minWidth) then c
  else { c with flt := { c.flt with errMin := false, errLow := c.flt.hold } }

/-- R410: a RELEASE; within the minimum width it is ignored. -/
def releasePin (c : Chip) : Chip := if c.flt.errMin then c else { c with flt := { c.flt with errLow := false } }

/-- RELEASE: a write of ERR_OUT_CTL.RELEASE. -/
def release (path : Path) (c : Chip) : Chip := if pathOpen c path then releasePin c else c

/-- ERR_OUT_N is low: for R410's reasons, or under FORCE. -/
def errOutLow (c : Chip) : Bool := c.flt.errLow || c.flt.force

/-- A W1C write to FAULT_PEND (R400, R409). -/
def faultPendClear (path : Path) (group : Nat) (v : BitVec 32) (c : Chip) : Chip :=
  if !pathOpen c path ∨ 32 ≤ group then c
  else (List.range 16).foldl (fun c j => if v.getLsbD j then clearPending c (16 * group + j) else c) c

/-- FAULT_PEND_CLEAR: the bits whose source is raised in the same core cycle stay set (R8). -/
def faultPendWrite (path : Path) (group : Nat) (w : PendWrite) (c : Chip) : Chip := faultPendClear path group (w.value &&& ~~~w.held) c

/-! ### Fault commands (Tables 15.5, 15.6) -/

/-- FAULT_SEVERITY's ranges. -/
def faultSeverityCheck (d : Desc) : Option Status :=
  if d.zeroBut [(16, 3)] ∧ 1 ≤ d.u16 16 ∧ d.u16 16 ≤ 512 ∧ d.byte 18 ≤ 7 ∧ d.tgt + d.u16 16 ≤ 512 then none else some .badParam

def faultSeverityDo (c : Chip) (d : Desc) : Chip :=
  (List.range (d.u16 16)).foldl (fun c i =>
    { c with flt := { c.flt with sev := c.flt.sev.putD (sevDef (d.tgt + i)) (d.tgt + i) (d.byte 18),
                                 badSev := c.flt.badSev.filter (· != d.tgt + i) } }) (cfgWrite c)

/-- FAULT_SEVERITY (R402). -/
def faultSeverity (r : Nat) (d : Desc) (c : Chip) : Chip :=
  runCmd 0x0600 (fun c x => match faultSeverityCheck d with
    | some st => refuse c x st
    | none => admitOr c x (faultSeverityDo c d) (fun e => endCmd e x .ok)) r d c

/-- FAULT_REACTION's ranges. -/
def faultReactionCheck (d : Desc) : Option Status :=
  let ok : Bool :=
    if d.tgt < 8 then d.zeroBut [(16, 1)]
    else d.zeroBut [(16, 12)] && decide (1 ≤ d.u32 16) && decide (d.u32 16 ≤ 1000000) && decide (2 ≤ d.byte 20) &&
      decide (d.byte 20 ≤ 15) && decide (1 ≤ d.byte 21) && decide (d.byte 21 ≤ 15) && decide (d.u16 22 ≤ 1000) &&
      decide (1 ≤ d.u32 24) && decide (d.u32 24 ≤ 10000)
  if ok then none else some .badParam

def faultReactionDo (c : Chip) (d : Desc) : Chip :=
  if d.tgt < 8 then
    let c := cfgWrite c
    { c with flt := { c.flt with react := setAt c.flt.react d.tgt (d.byte 16), badReact := c.flt.badReact.filter (· != d.tgt) } }
  else { c with flt := { c.flt with holdoff := d.u32 16, escCount := d.byte 20, chipLimit := d.byte 21, snapTime := d.u16 22,
                                    wdt := d.u32 24 } }

/-- FAULT_REACTION (R402). -/
def faultReaction (r : Nat) (d : Desc) (c : Chip) : Chip :=
  runCmd 0x0601 (fun c x => match faultReactionCheck d with
    | some st => refuse c x st
    | none => admitOr c x (faultReactionDo c d) (fun e => endCmd e x .ok)) r d c

/-- The 32 B of a source in FAULT_QUERY's result. -/
def sourceRecord (c : Chip) (n : Nat) : List Byte :=
  let s := c.source n
  (leBytes 2 n ++ leBytes 1 (sevOf c n) ++ leBytes 1 (nat1 s.pending) ++ leBytes 2 s.count ++ leBytes 2 0 ++
    leBytes 8 s.first.toNat ++ leBytes 8 s.info.toNat ++ leBytes 8 s.last.toNat)

/-- Table 15.2: an entry of the collector's tables fails parity, with source 6, until it is rewritten. -/
def cfgParity (c : Chip) (bad : Option CfgEntry) : Chip :=
  match bad with
  | none => c
  | some (.severity n) => raise { c with flt := { c.flt with badSev := addOnce c.flt.badSev n } } 6
  | some (.reaction v) => raise { c with flt := { c.flt with badReact := addOnce c.flt.badReact v } } 6

/-- FAULT_QUERY (R400); `bad` is an entry that is found to fail parity (Table 15.2). -/
def faultQuery (r : Nat) (d : Desc) (bad : Option CfgEntry) (c : Chip) : Chip :=
  runCmd 0x0602 (fun c x =>
    let n := d.u16 28
    if !d.zeroBut [(16, 14)] ∨ !d.bufferOk x.ring ∨ n = 0 ∨ 512 < d.tgt + n then refuse c x .badParam
    else
      let c := cfgParity c bad
      endQuery c x d (32 * n) ((List.range n).flatMap (fun i => sourceRecord c (d.tgt + i)))) r d c

/-- ERR_OUT_CONFIG's ranges. -/
def errOutConfigCheck (d : Desc) : Option Status :=
  if d.zeroBut [(16, 5)] ∧ 1 ≤ d.u32 16 ∧ d.u32 16 ≤ 10000 ∧ d.byte 20 < 4 then none else some .badParam

def errOutConfigDo (c : Chip) (d : Desc) : Chip :=
  { c with flt := { c.flt with minWidth := d.u32 16, hold := bitOf (d.byte 20) 0 } }

def errOutConfigGo (c : Chip) (x : CmdRef) (d : Desc) : Chip := endCmd (if bitOf (d.byte 20) 1 then releasePin c else c) x .ok

/-- ERR_OUT_CONFIG (R410). -/
def errOutConfig (r : Nat) (d : Desc) (c : Chip) : Chip :=
  runCmd 0x0603 (fun c x => match errOutConfigCheck d with
    | some st => refuse c x st
    | none => admitOr c x (errOutConfigDo c d) (fun e => errOutConfigGo e x d)) r d c

/-! ### The management complex (Table 15.2) -/

/-- MGMT_WATCHDOG: a core has not serviced its watchdog within MGMT_WDT. -/
def mgmtWatchdog (_core : Nat) (c : Chip) : Chip := if c.rst.running ∧ !c.rings.mgmtReset then raise c 48 else c

/-- MGMT_ECC_ERROR. -/
def mgmtEccError (_core : Nat) (corrected : Bool) (c : Chip) : Chip :=
  if c.rst.running then raise c (if corrected then 49 else 50) else c

/-- MGMT_FW_ASSERT. -/
def mgmtFwAssert (info : BitVec 64) (c : Chip) : Chip := if c.rst.running ∧ !c.rings.mgmtReset then raise c 51 info else c

/-! ### The event log (R413–R415) -/

/-- A record is written to both copies: it takes the next SEQ, and replaces the record 131,072 older (R414). -/
def pushLog (c : Chip) (r : LogRec) : Chip :=
  { c with bb := { c.bb with log := ({ r with seq := c.bb.nextSeq } :: c.bb.log).take 131072, nextSeq := c.bb.nextSeq + 1 } }

/-- BB_RECORD_WRITE (R415): the oldest queued record is in MRAM; an OVERRUN record follows once the queue has room. `again`: the
write failed its read-back check and was retried, with source 22 (Table 15.2). -/
def bbRecordWrite (again : Bool) (c : Chip) : Chip :=
  match c.bb.queue with
  | [] => c
  | r :: rest =>
    if c.bb.inhibit then c
    else
      let c := pushLog { c with bb := { c.bb with queue := rest } } r
      let c := if again then raise c 22 else c
      if c.bb.dropped = 0 then c
      else
        let n := c.bb.dropped
        logRecord { c with bb := { c.bb with dropped := 0 } } { kind := .overrun, detail := [n] }

/-! ### Crash snapshots (R416, R408) -/

/-- SNAPSHOT_END: the capture ends complete or incomplete. -/
def snapshotEnd (complete : Bool) (c : Chip) : Chip :=
  match c.bb.running with
  | none => c
  | some i =>
    if !complete then snapCut c
    else
      let s := c.bb.slots.getD i {}
      { c with bb := { c.bb with slots := setAt c.bb.slots i { s with state := 2, bytes := snapLength s }, running := none } }

/-- SNAP_TIMEOUT_EXPIRE (R408): the wait of a chip reset for its snapshot ends, and the capture is left INCOMPLETE. -/
def snapTimeoutExpire (c : Chip) : Chip :=
  match c.flt.chipWait with
  | none => c
  | some w =>
    if !w.capture ∨ !c.past w.since (ms c.flt.snapTime) then c
    else snapCut { c with flt := { c.flt with chipWait := some { w with capture := false } } }

/-! ### Black-box commands (Table 15.9) -/

/-- Records of the log that a read finds bad (Table 15.2): with one good copy, source 17; with none the record is lost, source 18. -/
def badCopies (c : Chip) (bad : List BadCopy) : Chip :=
  bad.foldl (fun c k =>
    if c.bb.log.any (fun r => r.seq % 131072 == k.index) then
      if k.both then raise { c with bb := { c.bb with log := c.bb.log.filter (fun r => r.seq % 131072 != k.index) } } 18
      else raise c 17
    else c) c

/-- BB_READ (R414, R420). The length is cut at the end of the region; `bad` are the records found with bad copies. -/
def bbRead (r : Nat) (d : Desc) (bad : List BadCopy) (c : Chip) : Chip :=
  runCmd 0x0610 (fun c x =>
    let off := d.u32 28
    let size := viewBytes d.tgt
    if !d.zeroBut [(16, 16)] ∨ !d.bufferOk x.ring ∨ off % 8 ≠ 0 ∨ size ≤ off then refuse c x .badParam
    else
      let n := min (d.room x.ring) (size - off)
      let c := if d.tgt = 0 then badCopies c (bad.filter (fun k => decide (off < 128 * k.index + 128 ∧ 128 * k.index < off + n))) else c
      endQuery c x d n (regionContent c d.tgt off n)) r d c

/-- Bytes of an export statement (Table 15.12). -/
abbrev statementBytes : Nat := 3517

/-- The statement over REGION `k` (Table 15.12). DIGEST and the two signatures are free values. -/
def statement (c : Chip) (k records : Nat) (nonce : Nat) : Chip × List Byte :=
  let inLog := min records c.bb.log.length
  let newest := (c.bb.log.head?.map (·.seq)).getD 0
  let first := ((c.bb.log.take inLog).getLast?.map (·.seq)).getD 0
  let len := if k = 0 then 128 * inLog else regionBytes k
  let digest := c.freeNat
  let c := c.usedFree
  let sigEd := c.freeNat
  let c := c.usedFree
  (c.usedFree, leBytes 4 0x58424256 ++ leBytes 2 1 ++ leBytes 1 k ++ leBytes 1 0 ++ leBytes 8 c.regs.serial.toNat ++
    leBytes 8 (if c.rst.running then c.now else 0) ++ leBytes 8 (if k = 0 then first else 0) ++
    leBytes 8 (if k = 0 then newest else 0) ++ leBytes 8 len ++ leBytes 32 nonce ++ leBytes 48 digest ++
    leBytes 8 c.bb.life.boots ++ leBytes 8 0 ++ leBytes 64 sigEd ++ leBytes 3309 c.freeNat)

/-- BB_EXPORT (R420, R421): over MCTP the statement alone; through a ring a switch-started DUMP job (R387, R397) that
writes the data, then the statement. -/
def bbExport (r : Nat) (d : Desc) (c : Chip) : Chip :=
  runCmd 0x0611 (fun c x =>
    let k := d.tgt
    let n := d.u32 28
    let nonce := d.le 32 32
    if (if k = 0 then n = 0 ∨ 131072 < n else n ≠ 0) then refuse c x .badParam
    else if 8192 ≤ x.ring then
      let (c, vs) := statement c k n nonce
      endQuery c x d statementBytes vs
    else if d.u64 16 % 8 ≠ 0 ∨ d.u32 24 < statementBytes then refuse c x .badParam
    else if c.mov.jobs.any (·.bbExport) then refuse c x .busy
    else
      let (c, vs) := statement c k n nonce
      let inLog := (c.bb.log.take n).reverse
      let need := statementBytes + (if k = 0 then 128 * inLog.length else regionBytes k)
      let whole := decide (need ≤ d.u32 24)
      let data := if !whole then [] else if k = 0 then inLog.flatMap logBytes else regionContent c k 0 (regionBytes k)
      let j : Job := { kind := .dump, auto := some .dump, ring := x.ring, number := 32 + k, cmd := some x, source := 1, region := k, dst := d.u64 16,
                       length := if whole then need else statementBytes, need := need, bbExport := true, record := data ++ vs,
                       queuedAt := c.ivl }
      { c with mov := { c.mov with jobs := c.mov.jobs ++ [j] } }) r d c

/-- BB_SNAPSHOT (R416): KEEP of a slot, or a new capture, which may set KEEP of the slot it takes. -/
def bbSnapshot (r : Nat) (d : Desc) (c : Chip) : Chip :=
  runCmd 0x0612 (fun c x =>
    let b := d.byte 16
    let done := fun (c : Chip) (i : Nat) => endCmd c x .ok (leBytes 4 i ++ leBytes 8 (c.bb.slots.getD i {}).seq)
    let keep := fun (c : Chip) (i : Nat) (k : Bool) =>
      let s := c.bb.slots.getD i {}
      { c with bb := { c.bb with slots := setAt c.bb.slots i { s with keep := k } } }
    if !d.zeroBut [(16, 1)] then refuse c x .badParam
    else if d.tgt = 0xFF then
      if b ≠ 4 ∧ b ≠ 5 then refuse c x .badParam
      else if c.bb.running.isSome then refuse c x .busy
      else
        let c := snapshot c 0
        match c.bb.running with
        | none => refuse c x .busy
        | some i => done (if b = 5 then keep c i true else c) i
    else if b = 1 ∨ b = 2 then done (keep c d.tgt (b == 1)) d.tgt
    else refuse c x .badParam) r d c

/-! ### Supply loss (R418, R419) -/

/-- Every queued record is written. -/
def flushLog (c : Chip) : Chip :=
  let q := c.bb.queue
  q.foldl pushLog { c with bb := { c.bb with queue := [] } }

/-- A POWER record, written past the queue: 0 warning, 1 fail, 2 restored, then the rail. -/
def powerRecord (c : Chip) (what rail : Nat) (holdup : Bool) : Chip :=
  pushLog c { kind := .power, time := if c.rst.running then c.ft.count else 0, ftState := c.ft.mode.code, holdup := holdup,
              detail := [what, rail], boot := c.bb.life.boots % 2 ^ 32 }

/-- SUPPLY_WARNING (R418, Table 15.11): source 23, then the hold-up sequence, whose effects are taken here at once. -/
def supplyWarning (rail : Nat) (c : Chip) : Chip :=
  if !c.rst.started ∨ c.rst.lowRails.contains rail then c
  else
    let first := c.rst.lowRails.isEmpty
    let c := raise { c with rst := { c.rst with lowRails := c.rst.lowRails ++ [rail] } } 23
    if !first ∨ c.bb.holdup then c
    else
      let c := powerRecord (flushLog (snapCut c)) 1 rail true
      { c with bb := { c.bb with holdup := true, inhibit := true, holdAt := c.ivl } }

/-- The counts of a hold-up sequence that has run since the last one was counted: complete after 1,160 µs. -/
def countHoldup (c : Chip) : Chip :=
  if !c.bb.holdup then c
  else
    let ok := c.past c.bb.holdAt (us 1160)
    { c with bb := { c.bb with holdDone := ok,
                               life := { c.bb.life with holdupOk := c.bb.life.holdupOk + nat1 ok,
                                                        holdupShort := c.bb.life.holdupShort + nat1 !ok } } }

/-- SUPPLY_RESTORED (R419): with every rail back and the fabric die not reset, logging resumes. -/
def supplyRestored (rail : Nat) (c : Chip) : Chip :=
  if !c.rst.lowRails.contains rail then c
  else
    let c := { c with rst := { c.rst with lowRails := c.rst.lowRails.erase rail } }
    if !c.rst.lowRails.isEmpty ∨ !c.rst.running ∨ !c.bb.holdup then c
    else
      let done := c.bb.life.holdupOk + 1
      let c := { c with bb := { c.bb with holdup := false, inhibit := false, holdDone := true,
                                          life := { c.bb.life with holdupOk := done } } }
      powerRecord c 2 rail false

end Sys2Proof.Machine
end

