-- ==== Sys2Proof/Machine/SlotPower.lean ====
section
/-!
DEFINITION. The slot-power controllers (17_slot_power.md): presence, ramp, faults and retries, feeds, early warning, measurement and
commands. They run on the housekeeping die, also while the fabric die is held (R17).
-/
namespace Sys2Proof.Machine

/-- SLOT_STATUS.STATE (Table 17.2). -/
def ChanState.code : ChanState → Nat
  | .empty => 0
  | .debounce => 1
  | .off => 2
  | .ramp => 3
  | .on => 4
  | .retryWait => 5
  | .latched => 6
  | .broken => 7

/-- A unit of the parameters of Table 17.5 in ticks: 0.1 ms and 0.1 s. -/
abbrev tenthMs (n : Nat) : Nat := us (100 * n)
abbrev tenthSec (n : Nat) : Nat := ms (100 * n)

/-- The channel is in RAMP or ON. -/
def Chan.live (h : Chan) : Bool := h.state == .ramp || h.state == .on

/-- A SLOT event (Table 12.6); rings exist only while the fabric die runs. -/
def slotEvent (c : Chip) (n kind : Nat) : Chip := if c.rst.running then unsolMgr c 0x800B (leBytes 1 n ++ leBytes 1 kind) else c

/-- A source of a channel (R454). -/
def slotRaise (c : Chip) (n src : Nat) : Chip := raise c src (srcInfo 12 n)

/-! ### Early warning (R450) -/

/-- A cause of SP_WARN_N holds. -/
def Chan.warned (h : Chan) : Bool := h.inputLow || h.change.isSome || h.leadAt.isSome

/-- SP_WARN_N falls, or its last cause begins again. -/
def warnOn (c : Chip) (n : Nat) : Chip :=
  let h := c.chan n
  let c := c.setChan n { h with warn := true, warnEnd := c.ivl }
  if h.warn then c else slotEvent c n 9

/-- SP_WARN_RELEASE: 1 ms after the last cause has ended. -/
def spWarnRelease (chan : Nat) (c : Chip) : Chip :=
  let h := c.chan chan
  if chan < 32 ∧ h.warn ∧ !h.warned ∧ c.past h.warnEnd (ms 1) then c.setChan chan { h with warn := false } else c

/-- INPUT_LOW (R450, source 278), and its end. -/
def inputLow (chan : Nat) (low : Bool) (c : Chip) : Chip :=
  let h := c.chan chan
  if 32 ≤ chan ∨ h.inputLow = low then c
  else if low then slotRaise (warnOn (c.setChan chan { h with inputLow := true }) chan) chan 278
  else c.setChan chan { h with inputLow := false, warnEnd := c.ivl }

/-! ### Ramp, faults, retries (R440, R443–R445) -/

/-- The gates are off: the limit, its timer, power-good and a changeover end. -/
def Chan.gatesOff (h : Chan) : Chan :=
  { h with gateOn := false, limit := false, timerAt := none, pg := false, change := none }

/-- A channel enters RAMP; while R448's condition holds no gate turns on. -/
def Chan.ramped (h : Chan) : Chan := { h.gatesOff with state := .ramp, gateOn := !h.offHigh }

/-- The SLOT_OFFs that wait end. -/
def endSlotOff (c : Chip) (n : Nat) : Chip :=
  let h := c.chan n
  let c := c.setChan n { h with leadAt := none, leadCmds := [], warnEnd := if h.leadAt.isSome then c.ivl else h.warnEnd }
  h.leadCmds.foldl (fun c x => endCmd c x .ok) c

/-- R445: what follows a fault. -/
def chanFault (c : Chip) (n src : Nat) : Chip :=
  let h := c.chan n
  let c := slotEvent (slotRaise (warnOn c n) n src) n 4
  let h' := { (c.chan n).gatesOff with faultSeen := true }
  if !h.p.retry then slotEvent (c.setChan n { h' with state := .latched }) n 6
  else if h.p.retryLimit = 0 ∨ h.retries < h.p.retryLimit then c.setChan n { h' with state := .retryWait, holdFrom := c.ivl }
  else slotEvent (slotRaise (c.setChan n { h' with state := .latched }) n 279) n 6

/-- R442: a fault in the housekeeping tick (10 ns) in which the removal was taken leaves the whole hold-off. -/
def lateFault (c : Chip) (n : Nat) : Chip :=
  let h := c.chan n
  let same : Bool := match h.goneAt with
    | some t => t / ns 10 == c.ivl / ns 10
    | none => false
  if same ∧ h.state = .empty ∧ h.p.retry then c.setChan n { h with holdEnd := some (c.ivl + tenthSec h.p.holdoff) } else c

/-- The fault timer has run for `d` ticks. -/
def timerPast (c : Chip) (h : Chan) (d : Nat) : Bool :=
  match h.timerAt with
  | some t => c.past t d
  | none => false

/-- FAULT_TIMER_EXPIRE (R443). -/
def faultTimerExpire (chan : Nat) (c : Chip) : Chip :=
  let h := c.chan chan
  if 32 ≤ chan then c
  else if h.live then (if timerPast c h (tenthMs h.p.faultTime) then chanFault c chan 272 else c)
  else lateFault c chan

/-- FAST_TRIP (R443). -/
def fastTrip (chan : Nat) (c : Chip) : Chip :=
  let h := c.chan chan
  if 32 ≤ chan then c
  else if h.live then (if h.gateOn then chanFault c chan 273 else c)
  else lateFault c chan

/-- CURRENT_LIMIT_ENGAGE (R443): the timer starts from 0, unless it still runs. -/
def currentLimitEngage (chan : Nat) (c : Chip) : Chip :=
  let h := c.chan chan
  if chan < 32 ∧ h.live ∧ h.gateOn then c.setChan chan { h with limit := true, timerAt := some (h.timerAt.getD c.ivl) } else c

/-- The fault timer has expired before the release that PG_QUAL follows: the expiry wins (R444). -/
def expiryWon (c : Chip) (h : Chan) : Bool := timerPast c h (tenthMs (h.p.faultTime + h.p.pgQual))

/-- CURRENT_LIMIT_RELEASE (R443): the limit has been inactive for PG_QUAL. -/
def currentLimitRelease (chan : Nat) (c : Chip) : Chip :=
  let h := c.chan chan
  if chan < 32 ∧ h.live ∧ !expiryWon c h then c.setChan chan { h with limit := false, timerAt := none } else c

/-- POWER_GOOD (R444). -/
def powerGood (chan : Nat) (c : Chip) : Chip :=
  let h := c.chan chan
  if chan < 32 ∧ h.state = .ramp ∧ h.gateOn ∧ !expiryWon c h then
    slotEvent (c.setChan chan { h with state := .on, pg := true, pgAt := c.ivl, limit := false, timerAt := none }) chan 2
  else c

/-- POWER_GOOD_LOST (R444). -/
def powerGoodLost (chan : Nat) (c : Chip) : Chip :=
  let h := c.chan chan
  if chan < 32 ∧ h.state = .on then slotRaise (c.setChan chan { h with state := .ramp, pg := false }) chan 282 else c

/-- The hold-off ends: the channel ramps again and the retry is counted (R445); RETRIES has eight bits. -/
def retryGo (c : Chip) (n : Nat) : Chip :=
  let h := c.chan n
  slotEvent (c.setChan n { h.ramped with retries := min 255 (h.retries + 1) }) n 5

/-- RETRY_HOLDOFF_END. -/
def retryHoldoffEnd (chan : Nat) (c : Chip) : Chip :=
  let h := c.chan chan
  if chan < 32 ∧ h.state = .retryWait ∧ c.past h.holdFrom (tenthSec h.p.holdoff) then retryGo c chan else c

/-- RETRY_COUNT_RESET (R445): power-good held for 60 s. -/
def retryCountReset (chan : Nat) (c : Chip) : Chip :=
  let h := c.chan chan
  if chan < 32 ∧ h.state = .on ∧ h.pg ∧ c.past h.pgAt (sec 60) then c.setChan chan { h with retries := 0 } else c

/-! ### Damaged pass transistors (R446–R448) -/

/-- A channel enters BROKEN. -/
def chanBroken (c : Chip) (n src : Nat) : Chip :=
  let c := if (c.chan n).live then warnOn c n else c
  slotEvent (slotRaise (c.modChan n (fun h => { h.gatesOff with state := .broken })) n src) n 8

/-- GATE_STUCK (R447). -/
def gateStuck (chan : Nat) (c : Chip) : Chip :=
  let h := c.chan chan
  if 32 ≤ chan ∨ !h.gateOn then c
  else if chan < 4 then chanFault c chan 274
  else chanBroken (c.setChan chan { h with faultSeen := true }) chan 274

/-- OFF_VOLTAGE (R448): channels 0–3, both gates commanded off. -/
def offVoltage (chan : Nat) (c : Chip) : Chip :=
  let h := c.chan chan
  if 4 ≤ chan ∨ h.gateOn then c
  else
    let c := c.setChan chan { h with offHigh := true }
    if h.state = .broken then c else chanBroken (c.setChan chan { h with offHigh := true, offVSeen := true }) chan 275

/-! ### Presence (R440–R442, R277, R280) -/

/-- The downstream port that a channel feeds. -/
def slotPort (c : Chip) (n : Nat) : Option Nat :=
  let p := (c.chan n).p.port
  if c.rst.running ∧ p < 128 ∧ (c.port p).role = 2 ∧ slotOf c p = some n then some p else none

/-- The port of the slot becomes present (R277). -/
def portArrives (c : Chip) (n : Nat) : Chip :=
  match slotPort c n with
  | none => c
  | some p =>
    let y := c.port p
    if y.present then c
    else raise (slotSeen (c.setPort p { y with present := true, seen := false, state := if y.state = .down then .training else y.state }) p 0)
      168 (srcInfo 1 p)

/-- The port of the slot becomes absent: the bound vPPBs report a surprise removal and a waiting unbind ends (R280), the devices on
it are lost (R195), saved coefficients are discarded (R302). -/
def portLeaves (c : Chip) (n : Nat) : Chip :=
  match slotPort c n with
  | none => c
  | some p =>
    if !(c.port p).present then c
    else
      let c := (vppbsOn c p).foldl (fun c e => match (c.vppb e.1 e.2).unbind with
        | some o => endUnbind (c.emit (.hotPlug e.1 e.2 2)) e.1 e.2 o .ok
        | none => c.emit (.hotPlug e.1 e.2 2)) c
      let c := linkDrops c p
      let c := c.modPort p (fun y => { y with present := false, seen := false,
                                              state := if y.state = .training ∨ y.state = .recovery then .down else y.state })
      let c := (portLanes c p).foldl (fun c i => c.modLane i (fun x => { x with saved := [] })) c
      let c := raise (portEvent8007 c p 1) 168 (srcInfo 1 p)
      (portDevs c p (fun _ => true)).foldl loseDevice c

/-- PRSNT_N_FALL (R440): from EMPTY; in BROKEN the presence alone is qualified. -/
def prsntNFall (chan : Nat) (c : Chip) : Chip :=
  let h := c.chan chan
  if 32 ≤ chan ∨ !c.rst.started then c
  else if h.state = .empty then c.setChan chan { h with state := .debounce, pinLow := some c.ivl }
  else if h.state = .broken ∧ !h.present ∧ h.pinLow.isNone then c.setChan chan { h with pinLow := some c.ivl }
  else c

/-- DEBOUNCE_ABORT (R440). -/
def debounceAbort (chan : Nat) (c : Chip) : Chip :=
  let h := c.chan chan
  if 32 ≤ chan then c
  else if h.state = .debounce then c.setChan chan { h with state := .empty, pinLow := none }
  else if h.state = .broken ∧ !h.present then c.setChan chan { h with pinLow := none }
  else c

/-- The insertion of R441 is qualified. -/
def insertionDue (c : Chip) (h : Chan) : Bool :=
  (match h.pinLow with
   | some t => c.past t (ms h.p.debounce)
   | none => false) &&
  (match h.holdEnd with
   | some t => decide (t ≤ c.ivl)
   | none => true)

/-- INSERTION_QUALIFIED (R441). -/
def insertionQualified (chan : Nat) (c : Chip) : Chip :=
  let h := c.chan chan
  let waits := h.state == .debounce || (h.state == .broken && !h.present)
  if 32 ≤ chan ∨ !waits ∨ !insertionDue c h then c
  else
    let h : Chan := { h with present := true, holdEnd := none, goneAt := none }
    let h := if h.state = .broken then h else if h.p.enable then h.ramped else { h with state := .off }
    portArrives (slotEvent (slotRaise (c.setChan chan h) chan 280) chan 0) chan

/-- REMOVAL (R441, R442). -/
def removal (chan : Nat) (c : Chip) : Chip :=
  let h := c.chan chan
  if 32 ≤ chan ∨ h.state = .empty ∨ h.state = .debounce ∨ !h.present then c
  else
    let due := h.live && timerPast c h (tenthMs h.p.faultTime) && h.p.retry
    let rest : Option Nat :=
      if h.state = .retryWait then some (h.holdFrom + tenthSec h.p.holdoff)
      else if due then some (c.ivl + tenthSec h.p.holdoff)
      else if h.state = .latched then none
      else h.holdEnd
    let h' : Chan := { h.gatesOff with
      state := if h.state = .broken then .broken else .empty, present := false, pinLow := none, retries := 0, holdEnd := rest,
      goneAt := if h.live then some c.ivl else none, warnEnd := if h.change.isSome then c.ivl else h.warnEnd }
    let c := slotRaise (c.setChan chan h') chan 280
    let c := if h.live then slotRaise c chan 281 else c
    portLeaves (endSlotOff (slotEvent c chan 1) chan) chan

/-! ### Feeds of channels 0–3 (R449) -/

/-- A feed is bad. -/
def Chan.bad (h : Chan) (b : Bool) : Bool := if b then h.badB else h.badA

/-- The other feed, or the one named, is selected: with a gate on, a changeover. -/
def changeover (c : Chip) (n : Nat) (b : Bool) : Chip :=
  let h := c.chan n
  if h.feedB = b then c
  else
    let c := if h.gateOn then
        warnOn (c.setChan n { h with feedB := b, gateOn := false, limit := false, timerAt := none, change := some c.ivl }) n
      else c.setChan n { h with feedB := b }
    slotEvent c n 7

/-- FEED_BAD (R449): sources 276, 277. -/
def feedBad (chan feed : Nat) (c : Chip) : Chip :=
  let h := c.chan chan
  let b := feed == 1
  if 4 ≤ chan ∨ 2 ≤ feed ∨ h.bad b ∨ h.p.vFeedUv = 0 then c
  else
    let h' := if b then { h with badB := true } else { h with badA := true }
    let c := c.setChan chan h'
    if h'.badA ∧ h'.badB then slotRaise c chan 277
    else if h.feedB = b then slotRaise (changeover (c.setChan chan { h' with switchSeen := true }) chan !b) chan 276
    else c

/-- FEED_GOOD (R449): the first feed to return is selected. -/
def feedGood (chan feed : Nat) (c : Chip) : Chip :=
  let h := c.chan chan
  let b := feed == 1
  if 4 ≤ chan ∨ 2 ≤ feed ∨ !h.bad b then c
  else
    let both := h.badA && h.badB
    let h' := if b then { h with badB := false, goodB := c.ivl }
              else { h with badA := false, goodA := c.ivl }
    let c := c.setChan chan h'
    if both then changeover c chan b else c

/-- FEED_RETURN_EXPIRE (R449). -/
def feedReturnExpire (chan : Nat) (c : Chip) : Chip :=
  let h := c.chan chan
  let b := h.p.preferB
  if 4 ≤ chan ∨ h.forced.isSome ∨ h.p.feedReturn = 0 ∨ h.bad b ∨ h.feedB = b ∨ h.change.isSome ∨
      !c.past (if b then h.goodB else h.goodA) (tenthSec h.p.feedReturn) then c
  else changeover c chan b

/-- DEAD_TIME_END (R449): the selected feed's gate turns on. -/
def deadTimeEnd (chan : Nat) (c : Chip) : Chip :=
  let h := c.chan chan
  match h.change with
  | some t =>
    if chan < 4 ∧ h.live ∧ c.past t (us h.p.deadTime) then
      c.setChan chan { h with change := none, gateOn := !h.offHigh, warnEnd := c.ivl }
    else c
  | none => c

/-! ### Commanded off (R450) -/

/-- The gates are discharged for a SLOT_OFF. -/
def slotOffNow (c : Chip) (n : Nat) : Chip :=
  let h := c.chan n
  let h' : Chan := { h.gatesOff with state := .off, warnEnd := c.ivl,
                                     holdEnd := if h.state = .retryWait then some (h.holdFrom + tenthSec h.p.holdoff) else h.holdEnd }
  if h.state = .off then c else slotEvent (c.setChan n h') n 3

/-- WARN_LEAD_END (R450). -/
def warnLeadEnd (chan : Nat) (c : Chip) : Chip :=
  let h := c.chan chan
  match h.leadAt with
  | some t =>
    if chan < 32 ∧ c.past t (ms h.p.warnLead) then
      endSlotOff (if h.live || h.state == .retryWait || h.state == .latched then slotOffNow c chan else c) chan
    else c
  | none => c

/-! ### Measurement (R452) -/

/-- The mean of a list of figures. -/
def mean (l : List Int) : Int := if l.isEmpty then 0 else Int.tdiv (l.foldl (· + ·) 0) l.length

/-- SLOT_SAMPLE: current in mA from 0.1 µV over µΩ, power in mW, energy in nJ over 50 µs; means over 20 samples. -/
def slotSample (chan : Nat) (m : SlotReading) (c : Chip) : Chip :=
  let h := c.chan chan
  if 32 ≤ chan then c
  else if m.ended then
    let h' := { h with senseTold := true, energy := h.energy + 50 * (h.samples.head?.getD (0, 0)).2 }
    if h.senseTold then c.setChan chan h' else slotRaise (c.setChan chan h') chan 283
  else
    let i := Int.tdiv (100 * m.shunt) h.p.shunt
    let w := Int.tdiv (i * m.output) 1000
    let l := ((i, w) :: h.samples).take 20
    c.setChan chan { h with
      senseTold := false, samples := l, current := mean (l.map (·.1)), power := mean (l.map (·.2)), energy := h.energy + 50 * w,
      vOut := m.output, vIn := m.input, vA := if chan < 4 then m.feedA else 0, vB := if chan < 4 then m.feedB else 0,
      offHigh := h.offHigh && decide (h.p.offThresh < m.output) }

/-! ### Registers and commands -/

/-- SLOT_STATUS. -/
def slotStatus (c : Chip) (n : Nat) : Nat :=
  let h := c.chan n
  h.state.code + 2 ^ 3 * nat1 h.present + 2 ^ 4 * nat1 h.pg + 2 ^ 5 * nat1 h.limit + 2 ^ 6 * nat1 h.gateOn + 2 ^ 7 * nat1 h.feedB +
  2 ^ 8 * nat1 h.forced.isSome + 2 ^ 9 * nat1 h.warn + 2 ^ 10 * nat1 h.p.enable + 2 ^ 11 * h.retries + 2 ^ 19 * nat1 h.faultSeen +
  2 ^ 20 * nat1 h.switchSeen + 2 ^ 21 * nat1 h.offVSeen

/-- The parameters a SLOT_CONFIG names (Table 17.5). -/
def slotParams (d : Desc) : SlotParams :=
  { enable := bitOf (d.byte 16) 0, retry := bitOf (d.byte 16) 1, port := d.byte 17, retryLimit := d.byte 18, fastMult := d.byte 19,
    ilim := d.u16 20, faultTime := d.u16 22, holdoff := d.u16 24, pgQual := d.u16 26, debounce := d.u16 28, vPg := d.u16 30,
    vWarn := d.u16 32, shunt := d.u16 34, vFeedUv := d.u16 36, feedReturn := d.u16 38, preferB := bitOf (d.byte 40) 0,
    deadTime := d.byte 41, offThresh := d.u16 42, offDelay := d.u16 44, gateRise := d.u16 46, warnLead := d.u16 48 }

/-- The ranges of Table 17.5 for channel `n`. -/
def SlotParams.ok (p : SlotParams) (n : Nat) (down : Nat → Bool) : Bool :=
  (p.port == 255 || (decide (p.port < 128) && down p.port)) && decide (2 ≤ p.fastMult) && decide (p.fastMult ≤ 8) &&
  decide (10 ≤ p.ilim) && decide (p.ilim ≤ 500) && decide (5 ≤ p.faultTime) && decide (p.faultTime ≤ 1000) &&
  decide (1 ≤ p.holdoff) && decide (p.holdoff ≤ 600) && decide (1 ≤ p.pgQual) && decide (p.pgQual ≤ 1000) &&
  decide (10 ≤ p.debounce) && decide (p.debounce ≤ 1000) && decide (8000 ≤ p.vPg) && decide (p.vPg ≤ 13000) &&
  decide (8000 ≤ p.vWarn) && decide (p.vWarn ≤ 13000) && decide (100 ≤ p.shunt) &&
  (p.vFeedUv == 0 || (decide (n < 4) && decide (8000 ≤ p.vFeedUv) && decide (p.vFeedUv ≤ 13000))) &&
  decide (p.feedReturn ≤ 600) && (decide (n < 4) || (p.feedReturn == 0 && !p.preferB)) && decide (1 ≤ p.deadTime) &&
  decide (p.deadTime ≤ 100) && decide (200 ≤ p.offThresh) && decide (p.offThresh ≤ 6000) && decide (1 ≤ p.offDelay) &&
  decide (p.offDelay ≤ 1000) && decide (1 ≤ p.gateRise) && decide (p.gateRise ≤ 100) && decide (p.warnLead ≤ 1000)

/-- SLOT_CONFIG's ranges. -/
def slotConfigCheck (c : Chip) (d : Desc) : Option Status :=
  if d.zeroBut [(16, 34)] ∧ d.byte 16 < 16 ∧ d.byte 40 < 2 ∧ (slotParams d).ok d.tgt (fun p => (c.port p).role == 2) then none
  else some .badParam

/-- R449 under new feed parameters: with V_FEED_UV 0 every feed is good; with no gate on and no changeover, PREFER's good feed is
the selected one. -/
def feedsSet (h : Chan) : Chan :=
  let h := if h.p.vFeedUv = 0 then { h with badA := false, badB := false } else h
  if h.gateOn ∨ h.change.isSome ∨ h.forced.isSome ∨ h.bad h.p.preferB then h else { h with feedB := h.p.preferB }

/-- The values become live: parameters, CLEAR_ENERGY, RESET_FAULT (Table 17.3). -/
def slotConfigDo (c : Chip) (d : Desc) : Chip :=
  let h := c.chan d.tgt
  let h := feedsSet { h with p := slotParams d, energy := if bitOf (d.byte 16) 2 then 0 else h.energy }
  let reset := bitOf (d.byte 16) 3 && h.state == .broken
  c.setChan d.tgt (if reset then { h with state := if h.present then .off else .empty, pinLow := none } else h)

/-- R451: running timers are compared with the new values from that tick. -/
def slotTimers (c : Chip) (n : Nat) : Chip :=
  let h := c.chan n
  if h.live ∧ timerPast c h (tenthMs h.p.faultTime) then chanFault c n 272
  else if h.state = .retryWait ∧ c.past h.holdFrom (tenthSec h.p.holdoff) then retryGo c n
  else c

def slotConfigGo (c : Chip) (x : CmdRef) (d : Desc) : Chip := endCmd (slotTimers c d.tgt) x .ok

/-- SLOT_CONFIG (R453). -/
def slotConfig (r : Nat) (d : Desc) (c : Chip) : Chip :=
  runCmd 0x0710 (fun c x => match slotConfigCheck c d with
    | some st => refuse c x st
    | none => admitOr c x (slotConfigDo c d) (fun e => slotConfigGo e x d)) r d c

/-- SLOT_ON (R450, Table 17.3); the retry count returns to 0 (R445). -/
def slotOn (r : Nat) (d : Desc) (c : Chip) : Chip :=
  runCmd 0x0711 (fun c x =>
    let h := c.chan d.tgt
    let done := fun (h' : Chan) => endCmd (c.setChan d.tgt h') x .ok (leBytes 1 h'.state.code)
    let on : Chan := { h with p := { h.p with enable := true }, retries := 0 }
    if !d.zeroBut [] then refuse c x .badParam
    else match h.state with
      | .off => done on.ramped
      | .on => done on
      | .retryWait | .latched => done on.ramped
      | .empty | .debounce | .ramp | .broken => refuse c x .busy) r d c

/-- SLOT_OFF (R450, Table 17.3). -/
def slotOff (r : Nat) (d : Desc) (c : Chip) : Chip :=
  runCmd 0x0712 (fun c x =>
    let h := c.chan d.tgt
    let busy : Bool := match slotPort c d.tgt with
      | some p => !(portDevs c p (fun v => v.ext.any (fun e => e.2 == .inUse))).isEmpty
      | none => false
    let c1 := c.setChan d.tgt { h with p := { h.p with enable := false } }
    if !d.zeroBut [(16, 1)] ∨ 1 < d.byte 16 then refuse c x .badParam
    else if busy ∧ d.byte 16 = 0 then refuse c x .notPermitted
    else match h.state with
      | .empty | .debounce | .broken => refuse c x .busy
      | .off => endCmd c1 x .ok
      | .retryWait | .latched => endCmd (slotOffNow (warnOn c1 d.tgt) d.tgt) x .ok
      | .ramp | .on =>
        let c1 := warnOn c1 d.tgt
        if h.p.warnLead = 0 then endCmd (slotOffNow c1 d.tgt) x .ok
        else c1.modChan d.tgt (fun h => { h with leadAt := some (h.leadAt.getD c.ivl), leadCmds := h.leadCmds ++ [x] })) r d c

/-- What is left of HOLDOFF_REMAIN, or of the running hold-off, in ticks. -/
def holdoffLeft (c : Chip) (h : Chan) : Nat :=
  if h.state = .retryWait then h.holdFrom + tenthSec h.p.holdoff - c.ivl
  else match h.holdEnd with
    | some t => t - c.ivl
    | none => 0

/-- The parameters of a channel in Table 17.5's order. -/
def slotParamList (n : Nat) (p : SlotParams) : List Nat :=
  [nat1 p.enable + 2 * nat1 p.retry, p.port, p.retryLimit, p.fastMult, p.ilim, p.faultTime, p.holdoff, p.pgQual, p.debounce, p.vPg,
   p.vWarn, p.shunt, if n < 4 then p.vFeedUv else 0, if n < 4 then p.feedReturn else 0, nat1 p.preferB, p.deadTime, p.offThresh,
   p.offDelay, p.gateRise, p.warnLead]

/-- A signed figure as a 64-bit value. -/
def asNat (i : Int) : Nat := (BitVec.ofInt 64 i).toNat

/-- SLOT_QUERY. -/
def slotQuery (r : Nat) (d : Desc) (c : Chip) : Chip :=
  runCmd 0x0713 (fun c x =>
    if !d.zeroBut [(16, 12)] ∨ !d.bufferOk x.ring then refuse c x .badParam
    else
      let h := c.chan d.tgt
      endQuery c x d (Config.queryBytes 0x0713) (openFields (slotStatus c d.tgt :: slotParamList d.tgt h.p ++
        [asNat h.current, h.vOut, h.vIn, asNat h.power, asNat (h.energy / 1000000), h.vA, h.vB, holdoffLeft c h, h.retries]))) r d c

/-- FEED_SELECT (R449). -/
def feedSelect (r : Nat) (d : Desc) (c : Chip) : Chip :=
  runCmd 0x0714 (fun c x =>
    let h := c.chan d.tgt
    let k := d.byte 16
    let done := fun (c : Chip) => endCmd c x .ok (leBytes 1 (nat1 (c.chan d.tgt).feedB))
    if !d.zeroBut [(16, 1)] ∨ 4 ≤ d.tgt ∨ 2 < k then refuse c x .badParam
    else if k = 0 then done (c.setChan d.tgt (feedsSet { h with forced := none }))
    else if h.bad (k == 2) then refuse c x .busy
    else done (changeover (c.setChan d.tgt { h with forced := some (k == 2) }) d.tgt (k == 2))) r d c

end Sys2Proof.Machine
end

