-- ==== Sys2Proof/Machine/Rungs.lean ====
section
/-!
DEFINITION. Power rungs, adaptive loops and thermal steps (18_power_ladder.md). The trip of Table 18.4 stands in Machine/Reset.lean.
-/
namespace Sys2Proof.Machine

/-! ### Rungs (R455–R460) -/

/-- Unit `i` (0–7 a course, 8 the device) goes to rung `r`. -/
def rungTo (c : Chip) (i r : Nat) : Chip :=
  let x := c.rung i
  let c := c.setRung i { x with current := r, entered := c.ivl, since := c.ivl, times := x.times.upd x.current (· + (c.ivl - x.entered)) }
  if i = 8 then c
  else c.modCourse i (fun y => let on := y.refOk && decide (r < 3); { y with pllH := on, pllL := on && !y.stolevo })

/-- A unit wakes: Ringing. -/
def wake (c : Chip) (i : Nat) : Chip := if (c.rung i).current = 0 then c else rungTo c i 0

/-- A test or margining holds a lane of the course (R308, LANE_MARGIN). -/
def lanesHeld (c : Chip) (k : Nat) : Bool :=
  (List.range 64).any (fun i => let n := c.lane (64 * k + i); n.test.isSome || n.margin.isSome || n.marginPartner)

/-- An admitted SC0 flow uses a port or link of the course (R125). -/
def courseHasFlow (c : Chip) (k : Nat) : Bool := (List.range 16).any (fun i => portHasFlow c (16 * k + i))

/-- RUNG_CTL[k].HELD: one of R456's holds is on. -/
def courseHeld (c : Chip) (k : Nat) : Bool := lanesHeld c k || courseHasFlow c k

/-- Cells wait for a port, its replay buffer holds flits, or credits are owed to its partner. -/
def portOwes (c : Chip) (p : Nat) : Bool :=
  (List.range 10).any (fun m => decide (0 < (c.sw.credits.look (10 * p + m)).kept)) || !(c.sw.replay.look p).isEmpty || !(c.sw.stomped.look p).isEmpty || (List.range 8).any (fun s => !(c.sw.staging.look (8 * p + s)).isEmpty)

/-- The deepest rung that a CXL port allows (Table 18.2). -/
def portRung (c : Chip) (p : Nat) : Nat :=
  let y := c.port p
  if y.role = 0 then 4
  else if portOwes c p then 0
  else match y.state with
    | .training | .recovery | .inReset => 0
    | .l0 | .l0p | .ideInsecure => 1
    | .down => 3
    | .disabled => 4

/-- The deepest rung that a Stolevo Link allows. -/
def linkRung (c : Chip) (l : Nat) : Nat :=
  let x := c.link l
  if x.state = .removed ∨ (List.range 16).all (fun i => !laneFree c (stvLane c l i)) then 4
  else if !x.replay.isEmpty ∨ !x.sendData.isEmpty ∨ !x.sendSc0.isEmpty ∨ !x.permits.isEmpty ∨ !x.unseq.isEmpty ∨ x.repeatAck ∨
      portOwes c (linkPort c l) then 0
  else match x.state with
    | .phy | .align | .config => 0
    | .active => 1
    | .downHeld => 3
    | .removed => 4

/-- The least frugal limit that applies to a course (R456). -/
def courseLimit (c : Chip) (k : Nat) : Nat :=
  let units := if stolevoCourse c k then ((List.range 4).filterMap (fun i => quarterLink c (4 * k + i))).map (linkRung c)
    else (List.range 16).map (fun i => portRung c (16 * k + i))
  if courseHeld c k then 0 else units.foldl min (c.rung k).deepest

/-- The time for which the condition must hold before the next rung (R456). -/
def descentDelay (c : Chip) (r : Nat) : Nat :=
  if r = 0 then ns c.pow.dampIdle else if r = 1 then us 10 else if r = 2 then us 100 else ms 10

/-- RUNG_DESCENT (R456). -/
def rungDescent (course : Nat) (c : Chip) : Chip :=
  let x := c.rung course
  if 8 ≤ course ∨ !c.rst.running ∨ courseLimit c course < x.current + 1 ∨ !c.past x.since (descentDelay c x.current) then c
  else rungTo c course (x.current + 1)

/-- COURSE_WAKE (R457–R459): on Ringing, what would wake the course begins its DAMP_IDLE again (Table 18.2). -/
def courseWake (course : Nat) (c : Chip) : Chip :=
  if 8 ≤ course ∨ !c.rst.running then c
  else if (c.rung course).current = 0 then c.setRung course { c.rung course with since := c.ivl }
  else rungTo c course 0

/-- The conditions of R460 for device Slack. -/
def deviceIdle (c : Chip) : Bool :=
  (List.range 8).all (fun k => decide (3 ≤ (c.rung k).current)) && c.sw.spill == 0 && c.sw.voq.all (·.2.isEmpty) &&
  c.sw.staging.all (·.2.isEmpty) && c.home.trackers.all (·.2.isNone) && c.mov.jobs.isEmpty && decide ((c.rung 8).deepest = 3)

/-- DEVICE_SLACK_ENTRY (R460). -/
def deviceSlackEntry (c : Chip) : Chip :=
  let x := c.rung 8
  if c.rst.running ∧ x.current = 0 ∧ deviceIdle c ∧ c.past x.since (ms 1) then rungTo c 8 3 else c

/-- A core cycle begins: a unit that may not descend now waits anew (R456, R460). -/
def rungsHeld (c : Chip) : Chip :=
  (List.range 9).foldl (fun c i =>
    let x := c.rung i
    if (if i = 8 then !deviceIdle c else decide (courseLimit c i ≤ x.current)) then c.setRung i { x with since := c.ivl } else c) c

/-- DEVICE_WAKE (R460). -/
def deviceWake (c : Chip) : Chip := if c.rst.running then wake c 8 else c

/-! ### Adaptive voltage scaling (R463–R465) -/

/-- The target goes to `v` in AVSBus steps of at most 10 mV. -/
def avsMove (c : Chip) (v : Nat) : Chip :=
  let t := c.pow.target
  let n := ceilDiv (max v t - min v t) 10
  let writes := (List.range n).map (fun i => Msg.avs (if t ≤ v then min v (t + 10 * (i + 1)) else max v (t - 10 * (i + 1))))
  ({ c with pow := { c.pow with target := v } }).emits writes

/-- Thermal step 2 begins to hold: Stolevo Links at 64 GT/s, CXL ports at L0P_MIN; SC0 links are not touched (R470). -/
def step2In (c : Chip) : Chip :=
  let c := (List.range 16).foldl (fun c l =>
    if !linkExists c l ∨ portHasFlow c (linkPort c l) then c
    else
      let fast := (c.link l).rate
      let c := c.modLink l (fun x => { x with therm64 := true })
      if fast then retrainLink c l else c) c
  (List.range 128).foldl (fun c p =>
    let y := c.port p
    if (y.state = .l0 ∨ y.state = .l0p) ∧ y.flit256 ∧ y.active < y.l0pMin ∧ !portHasFlow c p then askWidth c p y.l0pMin else c) c

/-- Thermal step 2 is left: the rate loops decide again; a port whose L0P_EN is 0 asks for its trained width (R270). -/
def step2Out (c : Chip) : Chip :=
  let c := (List.range 16).foldl (fun c l =>
    if (c.link l).therm64 then rateBoundsGo (c.modLink l (fun x => { x with therm64 := false })) l else c) c
  (List.range 128).foldl (fun c p =>
    let y := c.port p
    if y.state = .l0p ∧ !y.l0pEn then askWidth c p y.width else c) c

/-- What a change of the steps sets off; `was`: step 2 held before. -/
def stepsGo (was : Bool) (c : Chip) : Chip :=
  let is := thermalStep2 c
  if is ∧ !was then step2In c else if was ∧ !is then step2Out c else c

/-- AVSBus gives no valid response: the loop holds; with an emergency, step 2 is applied (R464). -/
def avsSilent (c : Chip) (emergency : Bool) : Chip :=
  let was := thermalStep2 c
  stepsGo was (raise { c with pow := { c.pow with busErr := true, busStep := emergency } } 306)

/-- AVSBus answers. -/
def avsAnswers (c : Chip) (volts : Nat) : Chip :=
  let was := thermalStep2 c
  stepsGo was { c with pow := { c.pow with busStep := false, read := volts } }

/-- AVS_INTERVAL (R463): a target above AVS_VMAX returns by the same steps. -/
def avsInterval (m : AvsReading) (c : Chip) : Chip :=
  let p := c.pow
  if !c.rst.running ∨ !c.rings.fwReady ∨ !c.past p.avsAt (us p.avsIvl) then c
  else
    let lo := if p.target = p.vmin then c.ivl - p.avsAt else 0
    let hi := if p.target = p.vmax then c.ivl - p.avsAt else 0
    let c := { c with pow := { p with avsAt := c.ivl, avsLo := p.avsLo + lo, avsHi := p.avsHi + hi } }
    if !m.answered then avsSilent c m.emergency
    else
      let c := avsAnswers c m.volts
      let t := p.target
      let v := if m.below then (if t < p.vmax then min p.vmax (t + 5) else t)
               else if m.above ∨ p.vmax < t then max p.vmin (t - 5) else t
      let c := avsMove c v
      { c with pow := { c.pow with override := c.pow.override && (m.emergency || decide (p.vmax < v)) } }

/-- AVS_EMERGENCY (R464): 10 mV every 10 µs, up to 0.80 V, until the margin recovers. -/
def avsEmergency (m : AvsReading) (c : Chip) : Chip :=
  if !c.rst.running ∨ !c.rings.fwReady then c
  else if !m.answered then avsSilent c m.emergency
  else
    let told := c.pow.override
    let c := avsAnswers c m.volts
    if !m.emergency then { c with pow := { c.pow with override := told && decide (c.pow.vmax < c.pow.target) } }
    else if told ∧ !c.past c.pow.raisedAt (us 10) then c
    else
      let c := avsMove c (max c.pow.target (min 800 (c.pow.target + 10)))
      let c := { c with pow := { c.pow with override := true, raisedAt := c.ivl } }
      if told then c else raise c 307

/-- CORE_CURRENT_LIMIT (R465): `amps` is the mean over 100 µs. -/
def coreCurrentLimit (amps : Nat) (c : Chip) : Chip :=
  if !c.rst.running ∨ amps ≤ c.pow.iLimit ∨ c.pow.curStep then c
  else raise { c with pow := { c.pow with curStep := true } } 308

/-- CORE_CURRENT_RELEASE (R465). -/
def coreCurrentRelease (c : Chip) : Chip := if c.rst.running then { c with pow := { c.pow with curStep := false } } else c

/-! ### Link width and rate (R466, R467) -/

/-- Whether twice 8 × `bytes` per µs exceeds `num / den` of the raw capacity at width code `w`. -/
def overWidth (y : Port) (bytes ivl w num den : Nat) : Bool := decide (125 * rate2 y.rate * widthLanes w * ivl * num < 2 * bytes * den)

/-- The loop's record after an interval. -/
def LoopState.after (x : LoopState) (now low : Nat) (lo hi : Bool) : LoopState :=
  { low := low, last := now, atLo := x.atLo + (if lo then now - x.last else 0), atHi := x.atHi + (if hi then now - x.last else 0) }

/-- LW_INTERVAL (R466, R269, R270). `bytes`: the larger of the bytes received and sent in the interval. -/
def lwInterval (port bytes : Nat) (c : Chip) : Chip :=
  let y := c.port port
  let x := c.pow.width.look port
  let fits : Bool := (y.state == .l0 || y.state == .l0p) && y.l0pEn && y.flit256
  let due := c.past x.last (us c.pow.lwIvl)
  if 128 ≤ port ∨ !c.rst.running ∨ !c.rings.fwReady ∨ !fits ∨ !due then c
  else
    let half := y.active + 1
    let low := decide (half ≤ 4) && decide (half ≤ y.l0pMin) && decide (4 * bytes < 125 * rate2 y.rate * widthLanes half * c.pow.lwIvl)
    let n := if low then x.low + 1 else 0
    let x' := x.after c.ivl (if 2 ≤ n then 0 else n) (y.active == y.l0pMin) (y.active == y.width)
    let c := { c with pow := { c.pow with width := c.pow.width.put port x' } }
    let held : Bool := match y.l0pHold with
      | some t => !c.past t (us c.pow.lwIvl)
      | none => false
    if y.l0pOut.isSome ∨ held ∨ thermalStep2 c then c
    else if overWidth y bytes c.pow.lwIvl y.active 3 4 ∧ y.width < y.active then askWidth c port y.width
    else if 2 ≤ n ∧ !portHasFlow c port then askWidth c port half
    else c

/-- RATE_INTERVAL (R467). `bytes`: the larger of the bytes received and sent; C is 256 B per ns. -/
def rateInterval (link bytes : Nat) (c : Chip) : Chip :=
  let x := c.link link
  let s := c.pow.rate.look link
  if !linkExists c link ∨ !c.rst.running ∨ !c.rings.fwReady ∨ x.state ≠ .active ∨ !c.past s.last (ms c.pow.rateIvl) then c
  else
    let full := 256 * 1000000 * c.pow.rateIvl
    let low := x.rate && decide (10 * bytes < 3 * full)
    let n := if low then s.low + 1 else 0
    let s' := s.after c.ivl (if 3 ≤ n then 0 else n) (!x.rate || x.rateMin) (x.rate || !x.rateMax)
    let c := { c with pow := { c.pow with rate := c.pow.rate.put link s' } }
    if portHasFlow c (linkPort c link) ∨ x.therm64 then c
    else if 3 ≤ n ∧ !x.rateMin then retrainLink (c.setLink link { x with loop64 := true }) link
    else if !x.rate ∧ x.rateMax ∧ 4 * full < 10 * bytes then retrainLink (c.setLink link { x with loop64 := false }) link
    else c

/-! ### Temperature (R469–R471) -/

/-- Thresholds of the steps. -/
def stepAtTemp (p : Power) (s : Nat) : Int := if s = 1 then p.th1 else if s = 2 then p.th2 else 105

/-- A sample of sensor `i`: out of range or unchanged for 1 s is invalid, source 309. -/
def sampleSensor (c : Chip) (i : Nat) (v : Option Int) : Chip :=
  let s := c.pow.sensors.look i
  let same := v.isSome && s.value == v
  let since := if same then s.since else c.ivl
  let valid := v.isSome && !(same && c.past since (sec 1))
  let c := { c with pow := { c.pow with sensors := c.pow.sensors.put i { value := v, since := since, valid := valid, told := !valid } } }
  if !valid ∧ !s.told then raise c 309 (srcInfo 0 0 i) else c

/-- The highest valid reading of the fabric die. -/
def highestTj (c : Chip) : Option Int :=
  (List.range 20).foldl (fun m i =>
    let s := c.pow.sensors.look i
    match s.valid, s.value, m with
    | true, some v, some w => some (max v w)
    | true, some v, none => some v
    | _, _, _ => m) none

/-- Every sensor of quadrant `q` is invalid: those of its two courses and its core. -/
def quadBlind (c : Chip) (q : Nat) : Bool :=
  [4 * q, 4 * q + 1, 4 * q + 2, 4 * q + 3, 16 + q].all (fun i => !(c.pow.sensors.look i).valid)

/-- A stack's step (R471). -/
def hbmHot (c : Chip) (k : Nat) : Chip :=
  let s := c.pow.sensors.look (20 + k)
  match s.valid, s.value with
  | true, some v =>
    let hot := decide ((c.pow.hbmTh : Int) < v)
    let was := c.pow.hbmStep.getD k false
    let c := { c with pow := { c.pow with hbmT := setAt c.pow.hbmT k v, hbmStep := setAt c.pow.hbmStep k hot } }
    if hot ∧ !was then raise c 310 (srcInfo 0 0 k) else c
  | _, _ => c

/-- The stamp since which a condition holds. -/
def heldSince (now : Nat) (old : Option Nat) (cond : Bool) : Option Nat := if cond then some (old.getD now) else none

/-- Tj as sampled: the stamps of steps and trip, the lifetime counters (Table 15.10). -/
def tjSampled (c : Chip) (t : Int) : Chip :=
  let p := c.pow
  let hot := if 95 < t then p.hotTicks + us 100 else p.hotTicks
  { c with
    pow := { p with tj := t,
                    belowAt := [1, 2, 3].map (fun s => heldSince c.ivl (p.belowAt.getD (s - 1) none) (decide (t ≤ stepAtTemp p s - 3))),
                    tripAt := heldSince c.ivl p.tripAt (decide (110 ≤ t)), coolAt := heldSince c.ivl p.coolAt (decide (t < 95)),
                    hotTicks := hot % sec 1 },
    bb := { c.bb with life := { c.bb.life with above95 := c.bb.life.above95 + hot / sec 1, highTj := max c.bb.life.highTj t } } }

/-- A step is entered at the first sample at or above its threshold: source 304. -/
def stepEntered (c : Chip) : Chip :=
  let p := c.pow
  let s := ([3, 2, 1].find? (fun s => decide (stepAtTemp p s ≤ p.tj))).getD 0
  if p.tStep < s then raise { c with pow := { p with tStep := s } } 304 (srcInfo 0 0 s) else c

/-- THERMAL_SAMPLE (R469–R471). After a trip the housekeeping die goes on sampling for its release. -/
def thermalSample (m : ThermalReading) (c : Chip) : Chip :=
  if !(c.rst.running || c.rst.held.contains .thermal) ∨ !c.past c.pow.sampleAt (us 100) then c
  else
    let was := thermalStep2 c
    let c := { c with pow := { c.pow with sampleAt := c.ivl } }
    let c := (List.range 20).foldl (fun c i => sampleSensor c i (m.die.getD i none)) c
    let c := (List.range 2).foldl (fun c k => sampleSensor c (20 + k) (m.hbm.getD k none)) c
    let c := match highestTj c with
      | some t => tjSampled c t
      | none => c
    if !c.rst.running then c
    else
      let c := (List.range 2).foldl hbmHot (stepEntered c)
      stepsGo was { c with pow := { c.pow with quadStep := (List.range 4).any (quadBlind c) } }

/-- THERMAL_STEP_EXIT (R470): each step whose 10 ms have passed is left. -/
def thermalStepExit (c : Chip) : Chip :=
  let p := c.pow
  let longBelow : Nat → Bool := fun s => match p.belowAt.getD (s - 1) none with
    | some t => c.past t (ms 10)
    | none => false
  if !c.rst.running ∨ p.tStep = 0 ∨ !longBelow p.tStep then c
  else
    let s := ([2, 1].find? (fun s => decide (s < p.tStep) && !longBelow s)).getD 0
    stepsGo (thermalStep2 c) { c with pow := { p with tStep := s } }

/-! ### Commands (Tables 18.5, 18.6) -/

/-- A value that DEEPEST of a unit takes. -/
def deepestOk (i v : Nat) : Bool := if i = 8 then v == 0 || v == 3 else decide (v ≤ 4)

/-- RUNG_SET's ranges. -/
def rungSetCheck (d : Desc) : Option Status := if d.zeroBut [(16, 1)] ∧ deepestOk d.tgt (d.byte 16) then none else some .badParam

def rungSetDo (c : Chip) (d : Desc) : Chip := c.setRung d.tgt { c.rung d.tgt with deepest := d.byte 16 }

/-- A bound that excludes the current rung wakes the unit (R458, R468). -/
def rungBoundGo (c : Chip) (i : Nat) : Chip := if (c.rung i).deepest < (c.rung i).current then wake c i else c

def rungSetGo (c : Chip) (x : CmdRef) (d : Desc) : Chip := endCmd (rungBoundGo c d.tgt) x .ok

/-- RUNG_SET. -/
def rungSet (r : Nat) (d : Desc) (c : Chip) : Chip :=
  runCmd 0x0700 (fun c x => match rungSetCheck d with
    | some st => refuse c x st
    | none => admitOr c x (rungSetDo c d) (fun e => rungSetGo e x d)) r d c

/-- LOOP_BOUNDS' ranges (Table 18.6). -/
def loopBoundsCheck (d : Desc) : Option Status :=
  let v := d.u32 16
  let ok : Bool :=
    if d.tgt = 0 then
      d.zeroBut [(16, 8)] && decide (700 ≤ d.u16 16) && decide (d.u16 16 ≤ d.u16 18) && decide (d.u16 18 ≤ 800) &&
      decide (100 ≤ d.u32 20) && decide (d.u32 20 ≤ 100000)
    else if d.tgt = 1 then d.zeroBut [(16, 4)] && decide (10 ≤ v) && decide (v ≤ 100000)
    else if d.tgt = 2 then d.zeroBut [(16, 4)] && decide (10 ≤ v) && decide (v ≤ 10000)
    else if d.tgt = 3 then d.zeroBut [(16, 4)] && decide (200 ≤ v) && decide (v ≤ 1000000)
    else
      d.zeroBut [(16, 4)] && decide (85 ≤ d.byte 16) && decide (d.byte 16 ≤ 102) && decide (d.byte 16 + 1 ≤ d.byte 17) &&
      decide (d.byte 17 ≤ 104) && decide (85 ≤ d.byte 18) && decide (d.byte 18 ≤ 105) && decide (100 ≤ d.byte 19) &&
      decide (d.byte 19 ≤ 190)
  if ok then none else some .badParam

def loopBoundsDo (c : Chip) (d : Desc) : Chip :=
  let p := c.pow
  { c with pow :=
      if d.tgt = 0 then { p with vmin := d.u16 16, vmax := d.u16 18, avsIvl := d.u32 20 }
      else if d.tgt = 1 then { p with lwIvl := d.u32 16 }
      else if d.tgt = 2 then { p with rateIvl := d.u32 16 }
      else if d.tgt = 3 then { p with dampIdle := d.u32 16 }
      else { p with th1 := d.byte 16, th2 := d.byte 17, hbmTh := d.byte 18, iLimit := d.byte 19 } }

/-- R468: a target outside the new bounds moves; a target that R464 holds above AVS_VMAX stays, and before the management firmware
runs the loop commands nothing (R463). -/
def loopBoundsGo (c : Chip) (x : CmdRef) (d : Desc) : Chip :=
  let p := c.pow
  let v := if p.target < p.vmin then p.vmin else if p.vmax < p.target ∧ !p.override then p.vmax else p.target
  endCmd (if d.tgt = 0 ∧ c.rings.fwReady then avsMove c v else c) x .ok

/-- LOOP_BOUNDS. -/
def loopBounds (r : Nat) (d : Desc) (c : Chip) : Chip :=
  runCmd 0x0701 (fun c x => match loopBoundsCheck d with
    | some st => refuse c x st
    | none => admitOr c x (loopBoundsDo c d) (fun e => loopBoundsGo e x d)) r d c

/-- The step that THERM_STATUS.STEP reports. -/
def thermStep (c : Chip) : Nat := max c.pow.tStep (if c.pow.quadStep ∨ c.pow.busStep then 2 else nat1 c.pow.curStep)

/-- Rung, and time on each rung up to now. -/
def rungFigures (c : Chip) (i : Nat) : List Nat :=
  let x := c.rung i
  x.current :: (List.range 5).map (fun r => x.times.look r + (if r = x.current then c.ivl - x.entered else 0))

/-- A loop's pinned times. -/
def loopFigures (t : Tbl LoopState) (n : Nat) : List Nat := (List.range n).flatMap (fun i => [(t.look i).atLo, (t.look i).atHi])

/-- POWER_QUERY. The core current is a measurement: a free value. -/
def powerQuery (r : Nat) (d : Desc) (c : Chip) : Chip :=
  runCmd 0x0702 (fun c x =>
    if !d.zeroBut [(16, 12)] ∨ !d.bufferOk x.ring then refuse c x .badParam
    else
      let p := c.pow
      let vals := (List.range 9).flatMap (rungFigures c) ++ [p.target, p.avsLo, p.avsHi] ++
        (List.range 128).map (fun q => (c.port q).active) ++ loopFigures p.width 128 ++
        (List.range 16).map (fun l => nat1 (c.link l).rate) ++ loopFigures p.rate 16 ++
        (List.range 22).map (fun i => asNat (((p.sensors.look i).value).getD 0)) ++ [thermStep c, p.read, c.freeNat]
      endQuery c.usedFree x d (Config.queryBytes 0x0702) (openFields vals)) r d c

end Sys2Proof.Machine
end

