-- ==== Sys2Proof/Machine/Counters.lean ====
section
/-!
DEFINITION. Counters and telemetry (19_counters_telemetry.md): programmable counters, bandwidth windows, snapshots and dump schedules.
The counting itself stands in Machine/Counting.lean, the dump record in Machine/Mover.lean.
-/
namespace Sys2Proof.Machine

/-! ### Programmable counters (R473–R476) -/

/-- The blocks of Table 19.1. -/
inductive EventBlock where
  | none | device | port | xbar | slice | pc
  deriving DecidableEq, Repr, Inhabited

/-- Table 19.1: an event's block and the filters it carries: privilege, master, window, class. -/
def eventRow (code : Nat) : Option (EventBlock × Bool × Bool × Bool × Bool) :=
  if code = 0 then some (.none, false, false, false, false)
  else if code = 1 then some (.device, false, false, false, false)
  else if 0x010 ≤ code ∧ code ≤ 0x013 then some (.port, true, true, false, true)
  else if code = 0x014 then some (.port, false, true, false, false)
  else if code = 0x015 then some (.port, false, false, false, false)
  else if code = 0x016 then some (.port, false, false, false, true)
  else if code = 0x017 then some (.port, false, true, false, true)
  else if code = 0x020 then some (.xbar, true, true, false, true)
  else if code = 0x021 then some (.xbar, false, false, false, true)
  else if code = 0x030 then some (.slice, true, true, true, true)
  else if code = 0x031 ∨ code = 0x032 ∨ code = 0x050 then some (.slice, false, true, true, false)
  else if code = 0x033 ∨ code = 0x034 ∨ code = 0x042 ∨ code = 0x043 ∨ code = 0x051 ∨ code = 0x052 then
    some (.slice, false, false, true, false)
  else if code = 0x040 ∨ code = 0x041 then some (.slice, true, true, true, false)
  else if code = 0x060 ∨ code = 0x061 then some (.pc, false, false, false, false)
  else if code = 0x070 then some (.device, false, true, false, false)
  else none

/-- An instance of a block lies in quadrant `q` (R473); 0xFF names them all. -/
def instOk (b : EventBlock) (q i : Nat) : Bool :=
  i == 0xFF || (match b with
    | .none | .device => true
    | .port => i / 32 == q
    | .xbar => (decide (i < 32) && i / 8 == q) || i == 32 + q
    | .slice => decide (i < 32) && i / 8 == q
    | .pc => decide (i < 64) && i / 16 == q)

/-- A configuration that counter `i` takes (R473, R474). -/
def counterOk (i : Nat) (k : Counter) : Bool :=
  match eventRow k.event with
  | none => false
  | some (b, p, m, w, cl) =>
    instOk b (i / 256) k.inst && (p || k.priv == 0) && (m || k.mKind == 0) && (k.event != 0x070 || k.mKind == 0 || k.mKind == 2) &&
    (w || !k.winEn) && (cl || (k.scMask == 0xFF && k.mcMask == 0x3FF))

/-- The four register words of a counter's configuration, each as written; reserved bits are refused. -/
def cfgWord (k : Counter) (n v : Nat) : Counter :=
  if n = 0 then
    { k with event := field v 0 10, inst := field v 10 8, priv := field v 18 2, enable := bitOf v 20, ovfInt := bitOf v 21,
             winEn := bitOf v 22 }
  else if n = 1 then { k with mKind := field v 0 2, mValue := field v 2 12 }
  else if n = 2 then { k with scMask := BitVec.ofNat 8 v, mcMask := BitVec.ofNat 10 (v / 256) }
  else { k with window := field v 0 15 }

/-- Bits of those words. -/
def cfgBits (n : Nat) : Nat := if n = 0 then 23 else if n = 1 then 14 else if n = 2 then 18 else 15

/-- The word that a counter's configuration reads as. -/
def cfgRead (k : Counter) (n : Nat) : Nat :=
  if n = 0 then
    k.event + 2 ^ 10 * k.inst + 2 ^ 18 * k.priv + 2 ^ 20 * nat1 k.enable + 2 ^ 21 * nat1 k.ovfInt + 2 ^ 22 * nat1 k.winEn
  else if n = 1 then k.mKind + 4 * k.mValue
  else if n = 2 then k.scMask.toNat + 256 * k.mcMask.toNat
  else k.window

/-- The counter as CTR_CONFIG leaves it. -/
def counterSet (k : Counter) (d : Desc) : Counter :=
  let k := (List.range 4).foldl (fun k n => cfgWord k n (d.u32 (16 + 4 * n))) k
  { k with value := if bitOf (d.byte 40) 0 then BitVec.ofNat 64 (d.u64 32) else k.value }

/-- CTR_CONFIG's ranges. -/
def ctrConfigCheck (c : Chip) (d : Desc) : Option Status :=
  if d.zeroBut [(16, 25)] ∧ d.byte 40 < 2 ∧ (List.range 4).all (fun n => decide (d.u32 (16 + 4 * n) < 2 ^ cfgBits n)) ∧
      counterOk d.tgt (counterSet (c.counter d.tgt) d) then none
  else some .badParam

def ctrConfigDo (c : Chip) (d : Desc) : Chip := c.setCounter d.tgt (counterSet (c.counter d.tgt) d)

/-- CTR_CONFIG (R476). -/
def ctrConfig (r : Nat) (d : Desc) (c : Chip) : Chip :=
  runCmd 0x0500 (fun c x => match ctrConfigCheck c d with
    | some st => refuse c x st
    | none => admitOr c x (ctrConfigDo c d) (fun e => endCmd e x .ok)) r d c

/-! ### Snapshots (R481) -/

/-- OVF of the values of a set is cleared. -/
def clearOvf (c : Chip) (kind first count : Nat) : Chip :=
  (List.range count).foldl (fun c i =>
    if kind = 0 then c.setCounter (first + i) { c.counter (first + i) with ovf := false }
    else if kind = 1 then c.modTenant (first + i) (fun x => { x with ovf := 0 })
    else c) c

/-- CTR_READ (R481): the values of the set, 8 B each. -/
def ctrRead (r : Nat) (d : Desc) (c : Chip) : Chip :=
  runCmd 0x0501 (fun c x =>
    let k := d.byte 28
    let first := d.u16 30
    let n := d.u16 32
    if !d.zeroBut [(16, 18)] ∨ !d.bufferOk x.ring ∨ 4 ≤ k ∨ 2 ≤ d.byte 29 ∨ setItems k < first + n then refuse c x .badParam
    else
      let vs := setValues c k first n
      let c := if d.byte 29 = 1 then clearOvf c k first n else c
      endQuery c x d (8 * vs.length) (openFields (vs.map (·.1)))) r d c

/-! ### Dump schedules (R482–R484) -/

/-- The schedule a DUMP_SCHEDULE of ring `r` creates at this instant. -/
def newSchedule (c : Chip) (r : Nat) (d : Desc) : Schedule :=
  { active := true, owner := r, base := d.u64 16, period := d.u32 24, kind := d.byte 28 % 4, clear := bitOf (d.byte 28) 2,
    count := d.u16 30, first := d.u16 32, notify := d.u16 34, slots := d.u32 36, dst := d.u64 40,
    due := firstInstant (d.u64 16) (us (d.u32 24)) (c.now + us 2) }

/-- Bytes of a schedule's slot: its record rounded up to 64 B (R483). -/
def slotBytes (y : Schedule) : Nat := 64 * ceilDiv (recordBytes (y.count * setPer y.kind)) 64

/-- The schedule clears programmable counter `i`. -/
def clears (y : Schedule) (i : Nat) : Bool := y.active && y.clear && y.kind == 0 && decide (y.first ≤ i) && decide (i < y.first + y.count)

/-- CTR_STAT.IN_CLEAR_SCHED. -/
def inClear (c : Chip) (i : Nat) : Bool := c.ctr.dumps.any (fun y => clears y.2 i)

/-- Two CLEAR schedules share a counter. -/
def clearClash (a b : Schedule) : Bool :=
  a.active && a.clear && b.clear && a.kind == 0 && b.kind == 0 && decide (a.first < b.first + b.count) &&
  decide (b.first < a.first + a.count)

/-- DUMP_SCHEDULE's own checks: ranges, R53, an existing schedule, R482, R484. -/
def dumpScheduleCheck (c : Chip) (d : Desc) : Option Status :=
  let y := newSchedule c 0 d
  if bitOf (d.byte 28) 3 then
    (if !d.zeroBut [(16, 32)] ∨ 16 ≤ d.byte 28 ∨ d.byte 29 ≠ 0 then some .badParam
     else if c.ft.mode = .free then some .notPermitted else none)
  else if !d.zeroBut [(16, 32)] ∨ 16 ≤ d.byte 28 ∨ d.byte 29 ≠ 0 ∨ y.period < 10 ∨ 3600000000 < y.period ∨
      setItems y.kind < y.first + y.count ∨ y.slots = 0 ∨ 65536 < y.slots ∨ y.dst % 64 ≠ 0 ∨ (y.clear ∧ y.kind ≠ 0) then some .badParam
  else if c.ft.mode = .free then some .notPermitted
  else if (c.schedule d.tgt).active ∨ c.ctr.dumps.any (fun s => clearClash s.2 y) then some .busy
  else if y.period * 1000 * c.mov.autoRate ≤ slotBytes y * 4096 then some .capacity
  else none

/-- A schedule is removed; its snapshot that waits for an engine is dropped. -/
def removeSchedule (c : Chip) (k : Nat) : Chip :=
  let c := c.setSchedule k {}
  { c with mov := { c.mov with jobs := c.mov.jobs.filter (fun j => !(j.schedule == some k && j.engine.isNone)) } }

def dumpScheduleDo (c : Chip) (r : Nat) (d : Desc) : Chip :=
  if bitOf (d.byte 28) 3 then removeSchedule c d.tgt else c.setSchedule d.tgt (newSchedule c r d)

def dumpScheduleGo (c : Chip) (x : CmdRef) (d : Desc) : Chip :=
  let y := c.schedule d.tgt
  endCmd c x (if y.active ∧ y.base < y.due then .okBasePast else .ok)

/-- DUMP_SCHEDULE (R482). -/
def dumpSchedule (r : Nat) (d : Desc) (c : Chip) : Chip :=
  runCmd 0x0502 (fun c x => match dumpScheduleCheck c d with
    | some st => refuse c x st
    | none => admitOr c x (dumpScheduleDo c x.ring d) (fun e => dumpScheduleGo e x d)) r d c

/-- The snapshot of a schedule becomes a switch-started DUMP job (R483, R397). -/
def snapshotJob (c : Chip) (k : Nat) (y : Schedule) : Job :=
  { kind := .dump, auto := some .dump, ring := y.owner, number := y.seq, schedule := some k, sc := c.mov.autoSc,
    rate := min c.mov.autoRate 65536, dst := y.dst + (y.seq - 1) % y.slots * slotBytes y,
    length := recordBytes (y.count * setPer y.kind), record := dumpRecord c y.seq k y.kind y.first y.count y.missed, queuedAt := c.ivl }

/-- DUMP_INSTANT (R482, R483). -/
def dumpInstant (schedule : Nat) (c : Chip) : Chip :=
  let y := c.schedule schedule
  let next := y.due + us y.period
  if !c.rst.running ∨ c.rst.phase ≠ 0 ∨ 64 ≤ schedule ∨ !y.active ∨ c.now < y.due then c
  else if y.busy then
    raise (c.setSchedule schedule { y with missed := y.missed + 1, missSeen := true, due := next }) 321
  else
    let y' := { y with seq := y.seq + 1 }
    let j := snapshotJob c schedule y'
    let c := { c with mov := { c.mov with jobs := c.mov.jobs ++ [j] } }
    let c := c.setSchedule schedule { y' with missed := 0, busy := true, due := next }
    if !y.clear then c
    else (List.range y.count).foldl (fun c i => c.setCounter (y.first + i) { c.counter (y.first + i) with value := 0 }) c

/-! ### Bandwidth windows (R479) -/

/-- BW_WINDOW: the first window begins at the next multiple of L. -/
def bwWindow (r : Nat) (d : Desc) (c : Chip) : Chip :=
  runCmd 0x0503 (fun c x =>
    let n := d.u32 16
    if !d.zeroBut [(16, 4)] ∨ 1000000 < n then refuse c x .badParam
    else
      let b := c.ctr.bw.look d.tgt
      let b' := { b with len := n, inNow := 0, outNow := 0, done := if n = 0 then 0 else c.now / us n,
                         on := decide (n ≠ 0) && decide (c.now % us (max n 1) = 0) }
      endCmd { c with ctr := { c.ctr with bw := c.ctr.bw.put d.tgt b' } } x .ok) r d c

/-- BW_WINDOW_END: the port publishes the window that has ended. -/
def bwWindowEnd (port : Nat) (c : Chip) : Chip :=
  let b := c.ctr.bw.look port
  let cur := c.now / us (max b.len 1)
  if !c.rst.running ∨ 128 ≤ port ∨ b.len = 0 ∨ cur = b.done then c
  else
    let b' := if b.on then { b with inLast := BitVec.ofNat 64 b.inNow, outLast := BitVec.ofNat 64 b.outNow, index := BitVec.ofNat 32 (cur - 1) }
              else b
    { c with ctr := { c.ctr with bw := c.ctr.bw.put port { b' with inNow := 0, outNow := 0, done := cur, on := true } } }

end Sys2Proof.Machine
end

