-- ==== Sys2Proof/Machine/Security.lean ====
section
/-!
DEFINITION. Security, boot chain and attestation (20_security.md): image update and activation, fuses, SPDM and IDE_KM, debug. The
parts of R489 that start the device stand in Machine/Reset.lean.
-/
namespace Sys2Proof.Machine

/-! ### Images (R487–R489) -/

/-- The place of an image in the boot record: set 0 A or 1 B, TYPE 1–3. -/
abbrev imagePlace (set typ : Nat) : Nat := 3 * set + (typ - 1)

/-- Bytes of a TYPE's place (Table 20.1). -/
def placeBytes (typ : Nat) : Nat := if typ = 1 then 2 ^ 20 else if typ = 2 then 13 * 2 ^ 20 else 65536

/-- R488 on an image at the place of `typ`: the status of the first check that fails. -/
def verifyImage (c : Chip) (typ : Nat) (m : ImageFacts) : Option Status :=
  if !m.headerOk ∨ m.typ ≠ typ ∨ placeBytes typ < m.length + 8192 then some .badParam
  else if 4 ≤ m.keySlot ∨ c.sec.revoked.contains m.keySlot ∨ !m.keyHashOk then some .signatureFailed
  else if m.svn < c.sec.ctrs.getD (typ - 1) 0 then some .rollback
  else if !m.sigOk ∨ !m.digestOk then some .signatureFailed
  else none

/-- The image in a place that carries no invalid mark. -/
def imageAt (c : Chip) (set typ : Nat) : Option ImageFacts :=
  if c.sec.invalid.contains (imagePlace set typ) then none else c.sec.images.look (imagePlace set typ)

/-- The running image of a TYPE. -/
def runningImage (c : Chip) (typ : Nat) : ImageFacts := c.sec.running.getD (typ - 1) {}

/-- The set other than the running one. -/
abbrev otherSet (c : Chip) : Nat := 1 - c.sec.bootSet

/-! ### FW_UPDATE (R495, Table 20.3) -/

/-- The set an update writes: neither ACTIVE nor PENDING. -/
def updateSet (c : Chip) : Option Nat := [0, 1].find? (fun s => s != c.sec.active && c.sec.pend != some s)

/-- The first action of an update: its place is marked invalid. -/
def startUpdate (c : Chip) (u : Update) : Chip :=
  let k := imagePlace u.set u.typ
  { c with sec := { c.sec with update := some u, invalid := addOnce c.sec.invalid k, images := c.sec.images.put k none } }

/-- Result of FW_UPDATE: the set, and whether the image is verified. -/
def updateResult (set : Nat) (verified : Bool) : List Byte := leBytes 1 set ++ leBytes 1 (nat1 verified)

/-- A chunk over MCTP: `n` bytes at OFFSET. The last one waits for the verification. -/
def updateChunk (c : Chip) (x : CmdRef) (u : Update) (off n : Nat) : Chip :=
  let fresh : Update := { u with offset := 0 }
  if off ≠ u.offset then refuse { c with sec := { c.sec with update := some fresh } } x .badParam
  else if u.total ≤ off + n then { c with sec := { c.sec with update := some { u with offset := u.total, cmd := some x } } }
  else endCmd { c with sec := { c.sec with update := some { u with offset := off + n } } } x .ok (updateResult u.set false)

/-- FW_UPDATE through a ring: the whole image. -/
def fwUpdateRing (c : Chip) (x : CmdRef) (d : Desc) : Chip :=
  let typ := d.byte 28
  if d.indirect ∨ !d.zeroBut [(16, 13)] ∨ typ = 0 ∨ 3 < typ ∨ placeBytes typ < d.u32 24 then refuse c x .badParam
  else match c.sec.update, updateSet c with
    | none, some s => startUpdate c { typ := typ, set := s, total := d.u32 24, offset := d.u32 24, cmd := some x }
    | _, _ => refuse c x .busy

/-- FW_UPDATE over MCTP: the inline block holds 24 bytes of parameters, then a chunk of the image. -/
def fwUpdateMctp (c : Chip) (x : CmdRef) (d : Desc) : Chip :=
  let typ := d.byte 24
  let total := d.u32 20
  let n := min (d.blockLen - 24) (total - d.u32 16)
  let zeros := (List.range 15).all (fun i => d.byte (25 + i) == 0)
  if !d.indirect ∨ d.blockLen < 24 ∨ !zeros ∨ typ = 0 ∨ 3 < typ ∨ placeBytes typ < total ∨ total = 0 then refuse c x .badParam
  else match c.sec.update with
    | some u =>
      if !u.mctp ∨ u.cmd.isSome then refuse c x .busy
      else if u.typ ≠ typ ∨ u.total ≠ total then refuse { c with sec := { c.sec with update := some { u with offset := 0 } } } x .badParam
      else updateChunk c x u (d.u32 16) n
    | none => match updateSet c with
      | none => refuse c x .busy
      | some s =>
        let u : Update := { typ := typ, set := s, total := total, mctp := true }
        updateChunk (startUpdate c u) x u (d.u32 16) n

/-- FW_UPDATE. -/
def fwUpdate (r : Nat) (d : Desc) (c : Chip) : Chip :=
  runCmd 0x0800 (fun c x => if x.ring = 8192 then fwUpdateMctp c x d else fwUpdateRing c x d) r d c

/-- FW_IMAGE_WRITTEN (R495): the image is verified; a bad one leaves its place marked invalid. -/
def fwImageWritten (img : ImageFacts) (c : Chip) : Chip :=
  match c.sec.update with
  | none => c
  | some u =>
    match u.cmd with
    | none => c
    | some x =>
      let c := { c with sec := { c.sec with update := none } }
      match verifyImage c u.typ img with
      | some st => endCmd c x st
      | none =>
        let k := imagePlace u.set u.typ
        let c := { c with sec := { c.sec with images := c.sec.images.put k (some img), invalid := c.sec.invalid.filter (· ≠ k) } }
        endCmd c x .ok (updateResult u.set true)

/-! ### FW_ACTIVATE (R496), trials (R490) -/

/-- The set's three places are all unmarked, and the images verify. -/
def setStatus (c : Chip) (set : Nat) : Option Status :=
  if [1, 2, 3].any (fun t => (imageAt c set t).isNone) then some .badParam
  else [1, 2, 3].findSome? (fun t => match imageAt c set t with
    | some m => verifyImage c t m
    | none => none)

/-- The management firmware that the complex runs after its block reset. -/
def loadManagement (c : Chip) (m : ImageFacts) : Chip :=
  mgmtBlockReset { c with sec := { c.sec with running := setAt c.sec.running 1 m },
                          regs := { c.regs with fwVer := setAt c.regs.fwVer 1 m.version } }

/-- FW_ACTIVATE. -/
def fwActivate (r : Nat) (d : Desc) (c : Chip) : Chip :=
  runCmd 0x0801 (fun c x =>
    let s := d.tgt
    if !d.zeroBut [(16, 1)] ∨ 1 < d.byte 16 then refuse c x .badParam
    else if c.sec.update.isSome ∨ c.sec.trial then refuse c x .busy
    else match setStatus c s with
      | some st => refuse c x st
      | none =>
        let c := endCmd { c with sec := { c.sec with pend := some s, tries := 3 } } x .ok
        if d.byte 16 = 0 then c
        else
          let c := loadManagement c ((imageAt c s 2).getD {})
          { c with sec := { c.sec with trial := true, actWait := some c.ivl, sessions := [] } }) r d c

/-- TRIAL_CONFIRM (R490): FW_READY has stayed 1 for 10 s. -/
def trialConfirm (c : Chip) : Chip :=
  match c.sec.readyAt, c.sec.pend with
  | some t, some s =>
    if c.sec.trial ∧ c.rings.fwReady ∧ c.past t (sec 10) then
      { c with sec := { c.sec with active := s, pend := none, tries := 0, trial := false } }
    else c
  | _, _ => c

/-- ACTIVATE_FW_READY_TIMEOUT (R496): the ACTIVE set's management firmware is loaded again. -/
def activateFwReadyTimeout (c : Chip) : Chip :=
  match c.sec.actWait with
  | none => c
  | some t =>
    if c.rings.fwReady ∨ !c.past t (sec 2) then c
    else
      let c := loadManagement c ((c.sec.images.look (imagePlace c.sec.active 2)).getD {})
      raise { c with sec := { c.sec with actWait := none, trial := false } } 338

/-! ### Fuses (R492–R494) -/

/-- Bytes of the authorisation block as it stands. -/
def authHead (d : Desc) : List Nat := (d.block.take 16).map (fun b => b.toNat)

/-- The block's first 16 bytes as R493 lays them out for slot `s`. -/
def authHeadOk (c : Chip) (d : Desc) : Bool :=
  authHead d == (leBytes 8 c.regs.serial.toNat ++ leBytes 1 d.tgt ++ List.replicate 7 (0 : Byte)).map (fun b => b.toNat)

/-- The slot whose keys R493 takes for the signatures. -/
def authSlot (c : Chip) (d : Desc) (a : AuthBlock) : Nat :=
  let k := (runningImage c 1).keySlot
  if k ≠ d.tgt then k else if d.blockLen < 5376 then 4 else a.signer

/-- KEY_REVOKE (R493). -/
def keyRevoke (r : Nat) (d : Desc) (a : AuthBlock) (c : Chip) : Chip :=
  runCmd 0x0802 (fun c x =>
    let s := d.tgt
    let k := authSlot c d a
    let force := bitOf (d.direct 16) 0
    let elsewhere := [1, 2, 3].any (fun t => match imageAt c (otherSet c) t with
      | some m => m.keySlot == s
      | none => false)
    if !d.indirect ∨ 1 < d.direct 16 % 8 ∨ (d.blockLen ≠ 3392 ∧ d.blockLen ≠ 5376) ∨ !authHeadOk c d then refuse c x .badParam
    else if 4 ≤ k ∨ k = s ∨ c.sec.revoked.contains k ∨ !a.edOk ∨ !a.mldsaOk then refuse c x .signatureFailed
    else if [1, 2, 3].any (fun t => (runningImage c t).keySlot == s) ∨
        (List.range 4).all (fun i => i == s || c.sec.revoked.contains i) then refuse c x .notPermitted
    else if c.sec.trial ∨ c.sec.update.isSome ∨ (elsewhere && !force) then refuse c x .busy
    else endCmd (raise { c with sec := { c.sec with revoked := addOnce c.sec.revoked s } } 340 (srcInfo 0 0 s)) x .ok) r d c

/-- ROLLBACK_ADVANCE (R494). -/
def rollbackAdvance (r : Nat) (d : Desc) (c : Chip) : Chip :=
  runCmd 0x0803 (fun c x =>
    let t := d.tgt
    let v := (runningImage c t).svn
    let now := c.sec.ctrs.getD (t - 1) 0
    let lower : Bool := match imageAt c (otherSet c) t with
      | some m => decide (m.svn < v)
      | none => false
    if !d.zeroBut [(16, 1)] ∨ 1 < d.byte 16 then refuse c x .badParam
    else if c.sec.trial ∨ (lower && d.byte 16 == 0) then refuse c x .busy
    else if v ≤ now then endCmd c x .ok (leBytes 4 now)
    else endCmd (raise { c with sec := { c.sec with ctrs := setAt c.sec.ctrs (t - 1) v } } 341 (srcInfo 0 0 t)) x .ok (leBytes 4 v)) r d c

/-! ### Certificates and measurements (R499) -/

/-- A chain is present in a slot. -/
def chainPresent (c : Chip) (s : Nat) : Bool := if s = 0 then c.sec.slot0Ok else decide (s < 4) && !(c.sec.chains.look s).isEmpty

/-- CERT_GET. The slot 0 chain is written at manufacture: its bytes are a free value. -/
def certGet (r : Nat) (d : Desc) (c : Chip) : Chip :=
  runCmd 0x0820 (fun c x =>
    if !d.zeroBut [(16, 12)] ∨ !d.bufferOk x.ring then refuse c x .badParam
    else if !chainPresent c d.tgt then refuse c x .noSuchTarget
    else if d.tgt = 0 then endQuery c.usedFree x d (Config.queryBytes 0x0820) (leBytes (Config.queryBytes 0x0820) c.freeNat)
    else let b := c.sec.chains.look d.tgt; endQuery c x d b.length b) r d c

/-- MEASURE_GET: the blocks, then a signature over them and the nonce; digests and signature are free values. -/
def measureGet (r : Nat) (d : Desc) (c : Chip) : Chip :=
  runCmd 0x0821 (fun c x =>
    if !d.zeroBut [(16, 12), (28, 32)] ∨ !d.bufferOk x.ring then refuse c x .badParam
    else if !c.sec.identity then refuse c x .busy
    else endQuery c.usedFree x d (Config.queryBytes 0x0821) (leBytes (Config.queryBytes 0x0821) c.freeNat)) r d c

/-! ### SPDM (R500) -/

/-- A mailbox exists: 0 the management endpoint's, 1 + v that of vCS v, 100 and above MCTP. -/
def mboxUp (c : Chip) (m : Nat) : Bool :=
  if m = 0 then c.rst.running else if m ≤ 64 then c.rst.running && (c.vcsOf (m - 1)).present else decide (100 ≤ m) && c.rst.started

/-- An SPDM response. -/
def spdmReply (c : Chip) (m : Nat) (what : String) (vs : List Nat := []) : Chip := c.emit (.spdm m what vs)

/-- A request that needs the steps before it (SPDM 1.3; notes/assumptions/60.md). -/
def afterNegotiation (c : Chip) (m : Nat) (f : Chip → Chip) : Chip :=
  if !mboxUp c m then c else if c.sec.negotiated.contains m then f c else spdmReply c m "ERROR UnexpectedRequest"

/-- GET_VERSION: versions 1.2 and 1.3. -/
def getVersion (mbox : Nat) (c : Chip) : Chip :=
  if !mboxUp c mbox then c
  else spdmReply { c with sec := { c.sec with version := addOnce c.sec.version mbox,
                                              negotiated := c.sec.negotiated.filter (· ≠ mbox) } } mbox "VERSION" [0x12, 0x13]

/-- GET_CAPABILITIES. -/
def getCapabilities (mbox : Nat) (c : Chip) : Chip :=
  if !mboxUp c mbox then c
  else spdmReply c mbox (if c.sec.version.contains mbox then "CAPABILITIES" else "ERROR UnexpectedRequest")

/-- NEGOTIATE_ALGORITHMS: without a matching ExtAsym entry it fails. -/
def negotiateAlgorithms (mbox : Nat) (hybrid : Bool) (c : Chip) : Chip :=
  if !mboxUp c mbox then c
  else if !c.sec.version.contains mbox then spdmReply c mbox "ERROR UnexpectedRequest"
  else if !hybrid then spdmReply c mbox "ERROR InvalidRequest"
  else spdmReply { c with sec := { c.sec with negotiated := addOnce c.sec.negotiated mbox } } mbox "ALGORITHMS"

/-- GET_DIGESTS: of every slot that holds a chain; a digest is a free value. -/
def getDigests (mbox : Nat) (c : Chip) : Chip :=
  afterNegotiation c mbox (fun c =>
    spdmReply c.usedFree mbox "DIGESTS" ((List.range 4).filter (chainPresent c) ++ [c.freeNat]))

/-- GET_CERTIFICATE. -/
def getCertificate (mbox slot offset length : Nat) (c : Chip) : Chip :=
  afterNegotiation c mbox (fun c =>
    if !chainPresent c slot then spdmReply c mbox "ERROR InvalidRequest"
    else if slot = 0 then spdmReply c.usedFree mbox "CERTIFICATE" [c.freeNat]
    else
      let b := c.sec.chains.look slot
      if b.length ≤ offset then spdmReply c mbox "ERROR InvalidRequest"
      else spdmReply c mbox "CERTIFICATE" (((b.drop offset).take length).map (·.toNat)))

/-- CHALLENGE: without the identity, Unspecified (R497); the signature is a free value. -/
def challenge (mbox slot : Nat) (c : Chip) : Chip :=
  afterNegotiation c mbox (fun c =>
    if !c.sec.identity then spdmReply c mbox "ERROR Unspecified"
    else if !chainPresent c slot then spdmReply c mbox "ERROR InvalidRequest"
    else spdmReply c.usedFree mbox "CHALLENGE_AUTH" [slot, c.freeNat])

/-- GET_MEASUREMENTS: index 0 asks for their number, 0xFF for all, 1–7 for one (Table 20.4). -/
def getMeasurements (mbox index : Nat) (signed : Bool) (c : Chip) : Chip :=
  afterNegotiation c mbox (fun c =>
    if signed ∧ !c.sec.identity then spdmReply c mbox "ERROR Unspecified"
    else if 7 < index ∧ index ≠ 0xFF then spdmReply c mbox "ERROR InvalidRequest"
    else if index = 0 then spdmReply c mbox "MEASUREMENTS" [7]
    else spdmReply c.usedFree mbox "MEASUREMENTS" [index, c.freeNat])

/-- The sessions that count against Table 20.5's limit on a mailbox. -/
def sessionsOn (c : Chip) (m : Nat) : Nat :=
  (c.sec.sessions.filter (fun s => if 100 ≤ m then decide (100 ≤ s.mbox) else s.mbox == m)).length

/-- KEY_EXCHANGE: one session on each DOE mailbox, four over MCTP. -/
def keyExchange (mbox slot : Nat) (c : Chip) : Chip :=
  afterNegotiation c mbox (fun c =>
    if (if 100 ≤ mbox then 4 else 1) ≤ sessionsOn c mbox then spdmReply c mbox "ERROR Busy"
    else if !c.sec.identity then spdmReply c mbox "ERROR Unspecified"
    else if !chainPresent c slot then spdmReply c mbox "ERROR InvalidRequest"
    else
      let s : Session := { mbox := mbox, id := c.sec.nextSess }
      let v := c.freeNat
      let c := { c.usedFree with sec := { c.sec with sessions := c.sec.sessions ++ [s], nextSess := c.sec.nextSess + 1 } }
      spdmReply c mbox "KEY_EXCHANGE_RSP" [s.id, v])

/-- The session of a mailbox. -/
def sessionOf (c : Chip) (m id : Nat) : Option Session := c.sec.sessions.find? (fun s => s.mbox == m && s.id == id)

/-- A session changes, or ends. -/
def setSession (c : Chip) (x : Session) (y : Option Session) : Chip :=
  { c with sec := { c.sec with sessions := c.sec.sessions.filterMap (fun s =>
      if s.mbox = x.mbox ∧ s.id = x.id then y else some s) } }

/-- A request in an open session. -/
def inSession (c : Chip) (m id : Nat) (f : Chip → Session → Chip) : Chip :=
  if !mboxUp c m then c
  else match sessionOf c m id with
    | some s => if s.open_ then f c s else spdmReply c m "ERROR InvalidSession"
    | none => spdmReply c m "ERROR InvalidSession"

/-- FINISH: a failed handshake ends the session with source 345. -/
def finish (mbox sess : Nat) (ok : Bool) (c : Chip) : Chip :=
  if !mboxUp c mbox then c
  else match sessionOf c mbox sess with
    | none => spdmReply c mbox "ERROR InvalidSession"
    | some s =>
      if s.open_ then spdmReply c mbox "ERROR UnexpectedRequest"
      else if ok then spdmReply (setSession c s (some { s with open_ := true })) mbox "FINISH_RSP"
      else raise (spdmReply (setSession c s none) mbox "ERROR DecryptError") 345

/-- HEARTBEAT. -/
def heartbeat (mbox sess : Nat) (c : Chip) : Chip :=
  inSession c mbox sess (fun c _ => spdmReply c mbox "HEARTBEAT_ACK")

/-- KEY_UPDATE. -/
def keyUpdate (mbox sess : Nat) (c : Chip) : Chip :=
  inSession c mbox sess (fun c s => spdmReply (setSession c s (some { s with keyGen := s.keyGen + 1 })) mbox "KEY_UPDATE_ACK")

/-- END_SESSION. -/
def endSession (mbox sess : Nat) (c : Chip) : Chip :=
  inSession c mbox sess (fun c s => spdmReply (setSession c s none) mbox "END_SESSION_ACK")

/-- SET_CERTIFICATE (R499). `ok`: the chain ends in a hybrid certificate for the identity key. -/
def setCertificate (mbox sess slot : Nat) (ok : Bool) (chain : List Byte) (c : Chip) : Chip :=
  inSession c mbox sess (fun c _ =>
    if slot = 0 ∨ 3 < slot ∨ !ok ∨ chain.isEmpty then spdmReply c mbox "ERROR InvalidRequest"
    else spdmReply { c with sec := { c.sec with chains := c.sec.chains.put slot chain } } mbox "SET_CERTIFICATE_RSP")

/-- SPDM_UNSUPPORTED_REQUEST. -/
def spdmUnsupportedRequest (mbox code : Nat) (c : Chip) : Chip :=
  if mboxUp c mbox then spdmReply c mbox "ERROR UnsupportedRequest" [code] else c

/-! ### Link keys (R502, R503, Table 20.6) -/

/-- Key number: set × 2 + direction, 1 for transmit. -/
abbrev keyNo (set : Nat) (tx : Bool) : Nat := 2 * set + nat1 tx

/-- The session is the one that Table 20.6 lets program the port: the host's for an upstream port, the manager's for a link. -/
def keySession (c : Chip) (sess : Nat) (k : IdeKm) : Option Session :=
  (c.sec.sessions.find? (fun s => s.id == sess && s.open_)).filter (fun s =>
    mboxUp c s.mbox && decide (k.keySet < 2) &&
    (if k.port < 128 then (c.port k.port).upstream && decide (1 ≤ s.mbox) && decide (s.mbox ≤ 64) && (c.vcsOf (s.mbox - 1)).up == k.port
     else linkExists c (k.port - 128) && (s.mbox == 0 || decide (100 ≤ s.mbox))))

/-- An IDE_KM error: source 346. -/
def ideKmFail (c : Chip) (p : Nat) : Chip :=
  raise (c.emit (.ideKm p "ERROR")) 346 (if p < 128 then srcInfo 1 p else linkInfo (p - 128))

/-- A key set of a port is in use. -/
def portSetUsed (y : Port) (set : Nat) : Bool := y.ideOn && y.gone.any (fun g => g / 2 == set)

/-- A key set of a link is in use in either direction; re-sent flits keep theirs (R258). -/
def linkSetUsed (x : StvLink) (set : Nat) : Bool :=
  x.ideOn && (x.txSet == set || x.rxSet == set || x.goArmed == some set || x.replay.any (fun e => nat1 e.head.keySet == set))

/-- A key enters a port's set. -/
def Port.withKey (y : Port) (n : Nat) (key : BitVec 256) : Port :=
  { y with keyOf := y.keyOf.put n key, haveKeys := addOnce y.haveKeys n, gone := y.gone.filter (· ≠ n) }

/-- A key enters a link's set; a link that failed tags took down may train again once both directions have new keys (R260). -/
def StvLink.withKey (x : StvLink) (set : Nat) (tx : Bool) (key : BitVec 256) : StvLink :=
  let new := addOnce x.freshKey tx
  let x := { x with authDown := x.authDown && new.length < 2, freshKey := new }
  if tx then { x with keysTx := x.keysTx.put set key, haveTx := addOnce x.haveTx set }
  else { x with keysRx := x.keysRx.put set key, haveRx := addOnce x.haveRx set }

/-- KEY_PROG (R503). -/
def keyProg (sess : Nat) (k : IdeKm) (c : Chip) : Chip :=
  match keySession c sess k with
  | none => if c.rst.running then ideKmFail c k.port else c
  | some _ =>
    let l := k.port - 128
    if k.port < 128 then
      if portSetUsed (c.port k.port) k.keySet then ideKmFail c k.port
      else (c.modPort k.port (fun y => y.withKey (keyNo k.keySet k.tx) k.key)).emit (.ideKm k.port "KP_ACK")
    else if linkSetUsed (c.link l) k.keySet then ideKmFail c k.port
    else (c.modLink l (fun x => x.withKey k.keySet k.tx k.key)).emit (.ideKm k.port "KP_ACK")

/-- A direction of a port goes to a key set; with both, IDE is active and an insecure link returns to L0 (R287, R288). -/
def Port.goKey (y : Port) (n : Nat) : Port :=
  let gone := y.gone.filter (fun g => g % 2 ≠ n % 2) ++ [n]
  let both := gone.contains (n / 2 * 2) && gone.contains (n / 2 * 2 + 1)
  protocolsOn { y with gone := gone, ideOn := (both || y.ideOn) && dlUp y,
                       state := if both ∧ y.state = .ideInsecure then .l0 else y.state }

/-- K_SET_GO (R502): on a Stolevo Link it arms KEY_SET_GO of R258; IDE that training agreed on becomes active with it. -/
def kSetGo (sess : Nat) (k : IdeKm) (c : Chip) : Chip :=
  match keySession c sess k with
  | none => if c.rst.running then ideKmFail c k.port else c
  | some _ =>
    let l := k.port - 128
    let x := c.link l
    if k.port < 128 then
      if !(c.port k.port).haveKeys.contains (keyNo k.keySet k.tx) then ideKmFail c k.port
      else (c.modPort k.port (fun y => y.goKey (keyNo k.keySet k.tx))).emit (.ideKm k.port "K_GOSTOP_ACK")
    else if !(if k.tx then x.haveTx else x.haveRx).contains k.keySet then ideKmFail c k.port
    else
      let both := x.haveTx.contains k.keySet && x.haveRx.contains k.keySet
      let x := { x with goArmed := if k.tx then some k.keySet else x.goArmed,
                        ideOn := x.ideOn || (both && x.state == .active && chosenIde x.chosen) }
      (c.setLink l x).emit (.ideKm k.port "K_GOSTOP_ACK")

/-- A downstream port whose device can be reached for keys. -/
def keyReady (c : Chip) (p : Nat) : Bool := dlUp (c.port p) && (c.port p).goCmd.isNone

/-- IDE_KEY_PROG (R501, R502): the key set stands below the pointer of its indirect block (notes/assumptions/31.md). -/
def ideKeyProg (r : Nat) (d : Desc) (c : Chip) : Chip :=
  runCmd 0x0810 (fun c x =>
    let s := d.direct 16 % 8
    if !d.indirect ∨ 1 < s then refuse c x .badParam
    else if !keyReady c d.tgt ∨ portSetUsed (c.port d.tgt) s then refuse c x .busy
    else (c.modPort d.tgt (fun y => { y with goCmd := some x, progSet := s })).emit (.ideKm d.tgt "KEY_PROG")) r d c

/-- IDE_KEY_GO (R502). -/
def ideKeyGo (r : Nat) (d : Desc) (c : Chip) : Chip :=
  runCmd 0x0811 (fun c x =>
    let s := d.byte 16
    let y := c.port d.tgt
    if !d.zeroBut [(16, 1)] ∨ 1 < s then refuse c x .badParam
    else if !keyReady c d.tgt ∨ !(y.haveKeys.contains (2 * s) && y.haveKeys.contains (2 * s + 1)) then refuse c x .busy
    else (c.setPort d.tgt { y with goCmd := some x, progSet := s }).emit (.ideKm d.tgt "K_SET_GO")) r d c

/-- SPDM_RESPONSE (R501, R502): the device's answer to IDE_KEY_PROG or IDE_KEY_GO. The generated keys are free values. -/
def spdmResponse (port : Nat) (a : DeviceAnswer) (c : Chip) : Chip :=
  let y := c.port port
  match y.goCmd with
  | none => c
  | some x =>
    if !a.chainOk ∧ x.opcode = 0x0810 then endKeyCmd (raise c 345 (srcInfo 1 port)) port .signatureFailed
    else if !a.ackOk then endKeyCmd (raise c 346 (srcInfo 1 port)) port .busy
    else if x.opcode = 0x0810 then
      let k1 := BitVec.ofNat 256 c.freeNat
      let c := c.usedFree
      let k2 := BitVec.ofNat 256 c.freeNat
      let c := c.usedFree
      endKeyCmd (c.setPort port ((y.withKey (2 * y.progSet) k1).withKey (2 * y.progSet + 1) k2)) port .ok
    else endKeyCmd (c.setPort port ((y.goKey (2 * y.progSet)).goKey (2 * y.progSet + 1))) port .ok

/-! ### Debug (R506) and registers -/

/-- DEBUG_TOKEN. -/
def debugToken (t : DebugToken) (c : Chip) : Chip :=
  let s := c.sec
  if !c.rst.started ∨ s.debug ∨ !t.serialOk ∨ t.nonce ≠ s.debugNonce ∨ 4 ≤ t.slot ∨ s.revoked.contains t.slot ∨ !t.sigOk then c
  else raise { c with sec := { s with debug := true, identity := false } } 344

/-- SEC_STATUS. -/
def secStatus (c : Chip) : Nat :=
  let s := c.sec
  s.bootSet + 2 * nat1 s.trial + 4 * nat1 s.fallback + 8 * nat1 s.recovery +
  16 * (List.range 4).foldl (fun n i => n + 2 ^ i * nat1 (s.revoked.contains i)) 0 + 2 ^ 8 * (runningImage c 1).keySlot +
  2 ^ 10 * (runningImage c 2).keySlot + 2 ^ 12 * nat1 s.identity + 2 ^ 13 * nat1 s.debug

/-- SEC_SVN. -/
def secSvn (c : Chip) : Nat := c.sec.ctrs.getD 0 0 + 2 ^ 8 * c.sec.ctrs.getD 1 0 + 2 ^ 16 * c.sec.ctrs.getD 2 0

end Sys2Proof.Machine
end

