-- ==== Sys2Proof/Machine/Reset.lean ====
section
/-!
DEFINITION. Supplies, clocks, reset and start-up (21_power_clocks_reset.md): what each reset keeps (R515, R548), the warm and cold
reset rows, chip reset (R408) and thermal trip (Table 18.4), the start sequence (R516, Table 21.5), the orderly shutdown (R518).
-/
namespace Sys2Proof.Machine

/-! ### What a warm reset keeps (R515, Table 21.4, R548) -/

/-- Hardware that self-test has taken out of service stays out; settings of slice tests return to their defaults. -/
def keptTest (t : SelfTest) : SelfTest :=
  { spare := if t.spare = 127 then 127 else 64, lost := t.lost, excluded := t.excluded, portsOut := t.portsOut, fatal := t.fatal }

/-- R396: an engine out of service stays so until the next cold reset. -/
def keptEngines (m : Mover) : Mover :=
  { engines := m.engines.foldl (fun t e => if e.2.out then t.put e.1 { out := true } else t) [] }

/-- R302, R305: saved coefficients and quarantine stay; course modes and clocking stay until they are read again. -/
def keptLanes (x : Lanes) : Lanes :=
  { lanes := x.lanes.foldl (fun t e => t.put e.1 { quar := e.2.quar, saved := e.2.saved }) [],
    courses := x.courses.foldl (fun t e => t.put e.1 { stolevo := e.2.stolevo, sris := e.2.sris, ssc := e.2.ssc }) [] }

/-- R263: roles and widths of ports stay; the partner's serial number too, which the saved coefficients belong to (R302). Pins have the
levels that the board drives. -/
def keptPorts (x : Ports) : Ports :=
  { ports := x.ports.foldl (fun t e => t.put e.1 { role := e.2.role, cfgWidth := e.2.cfgWidth, serial := e.2.serial }) [],
    pIn := x.pIn.foldl (fun t e => t.put e.1 { raw := e.2.raw, since := e.2.since }) [],
    mgrPort := x.mgrPort }

/-- R402, R411: severities, reactions and the pins' own state stay; sources raised while the die is held wait (R511). -/
def keptCollector (f : Collector) : Collector :=
  { sev := f.sev, react := f.react, badSev := f.badSev, badReact := f.badReact, chips := f.chips, suppress := f.suppress, inReset := f.inReset, errLow := f.errLow,
    errAt := f.errAt, errMin := f.errMin, hold := f.hold, irqLow := f.irqLow, minWidth := f.minWidth,
    todo := f.todo.filter (fun t => match t with
      | .raise _ _ => true
      | .block _ _ | .ringError _ | .faultAction _ | .stopEnd _ => false) }

/-- The slot-power block is kept whole (R453); a command that waits there is lost. -/
def keptSlots (s : Slots) : Slots := { chans := s.chans.foldl (fun t e => t.put e.1 { e.2 with leadCmds := [] }) [] }

/-- NOR, fuses and debug stay; keys, sessions and running updates go (R503). -/
def keptSecure (s : Secure) : Secure :=
  { s with update := none, readyAt := none, bootWait := none, actWait := none, trial := false, sessions := [], version := [],
           negotiated := [] }

/-- The housekeeping die's own reset state. -/
def keptResets (r : Resets) : Resets :=
  { r with running := false, seqSeen := false, refAlt := false, sdMode := false, sdDrain := 1000, phase := 0, refused := false,
           drainOut := false, wbFail := 0 }

/-- The fabric die and the HBM as a warm reset leaves them. Fabric Time goes on (R36). -/
def fabricReset (c : Chip) : Chip :=
  { ft := { c.ft with pendSet := [] }, sw := { bufCells := 786432 - 12288 * c.test.lost },
    hbm := { dirSize := c.hbm.dirSize, lcWays := c.hbm.lcWays }, pool := { memberList := c.pool.memberList },
    ports := keptPorts c.ports, lanes := keptLanes c.lanes, rings := { console := c.rings.console }, mov := keptEngines c.mov,
    flt := keptCollector c.flt, bb := c.bb, test := keptTest c.test, slot := keptSlots c.slot,
    pow := { tripSeen := c.pow.tripSeen, hotTicks := c.pow.hotTicks }, sec := keptSecure c.sec, rst := keptResets c.rst,
    regs := { serial := c.regs.serial, engSample := c.regs.engSample, fwVer := c.regs.fwVer }, sent := c.sent, freeCtr := c.freeCtr }

/-! ### Warm resets (R514, Table 21.3) -/

/-- RESET_STATUS.CAUSE of a warm cause. -/
def Warm.cause : Warm → Nat
  | .pin => 2
  | .chip => 3
  | .thermal => 4
  | .rail => 5
  | .orderly => 6

/-- The fabric die is held in warm reset. A cause that arrives during a hold merges into it; the first one is reported. -/
def warmHold (c : Chip) (w : Warm) : Chip :=
  if !c.rst.started then c
  else if c.rst.running then
    let c := logRecord (snapCut c) { kind := .reset, detail := [if w = .chip then 2 else 1] }
    let c := fabricReset c
    { c with rst := { c.rst with held := [w], heldAt := c.ivl, nextCause := w.cause } }
  else
    let r := c.rst
    { c with test := { c.test with fatal := false },
             rst := { r with held := addOnce r.held w, halted := false, heldAt := if r.held.isEmpty then c.ivl else r.heldAt,
                             nextCause := if r.held.isEmpty then w.cause else r.nextCause } }

/-- WARM_N_QUALIFIED (R514): WARM_N has been low for 10 µs. -/
def warmNQualified (c : Chip) : Chip := if c.rst.started then raise (warmHold c .pin) 357 else c

/-- A main rail out of range (R511): the fabric die of a device that runs, or is held already, is held. -/
def railFault (c : Chip) (rail src : Nat) : Chip :=
  if !c.rst.started ∨ (!c.rst.running ∧ c.rst.held.isEmpty) then c
  else
    let c := warmHold c .rail
    raise { c with rst := { c.rst with badRails := addOnce c.rst.badRails rail } } src

/-- RAIL_UV (R511). -/
def railUv (rail : Nat) (c : Chip) : Chip := railFault c rail 352

/-- RAIL_OV (R511). -/
def railOv (rail : Nat) (c : Chip) : Chip := railFault c rail 353

/-- RAILS_GOOD (R511): every main rail has been in range for 2 ms. -/
def railsGood (c : Chip) : Chip :=
  { c with rst := { c.rst with badRails := [], held := c.rst.held.filter (· ≠ .rail) } }

/-- CHIP_RESET (R408): the handover and the capture are over. A capture still running is cut short only by SNAP_TIMEOUT. -/
def chipReset (c : Chip) : Chip :=
  match c.flt.chipWait with
  | none => c
  | some w =>
    if !c.rst.running ∨ (w.capture ∧ c.bb.running.isSome) then c
    else
      let ts := c.flt.chips.filter (fun t => decide (c.now < t + sec 600)) ++ [c.now]
      let tooMany := c.flt.suppress || decide (c.flt.chipLimit ≤ ts.length)
      let c := { c with flt := { c.flt with chips := ts, suppress := tooMany },
                        bb := { c.bb with life := { c.bb.life with chipResets := c.bb.life.chipResets + 1 } } }
      warmHold c .chip

/-- THERMAL_TRIP (Table 18.4): Tj has been at 110 °C or above for 100 µs. -/
def thermalTrip (c : Chip) : Chip :=
  match c.pow.tripAt with
  | none => c
  | some t =>
    if !c.rst.running ∨ !c.past t (us 100) then c
    else
      let c := warmHold c .thermal
      errOut (raise { c with pow := { c.pow with tripSeen := true } } 305)

/-- THERMAL_TRIP_RELEASE: Tj has been below 95 °C for 1 s. -/
def thermalTripRelease (c : Chip) : Chip :=
  match c.pow.coolAt with
  | none => c
  | some t =>
    if !c.rst.held.contains .thermal ∨ !c.past t (sec 1) then c
    else { c with rst := { c.rst with held := c.rst.held.filter (· ≠ .thermal) },
                  pow := { c.pow with tripAt := none } }

/-! ### Cold resets -/

/-- A capture that a cold reset meets is left INCOMPLETE. -/
def coldSlots (b : BlackBox) : List SnapSlot :=
  match b.running with
  | none => b.slots
  | some i => setAt b.slots i { b.slots.getD i {} with state := 3 }

/-- The whole device is reset, housekeeping die included. MRAM, NOR and fuses keep their contents; rails and pins are what the board
makes them. -/
def coldReset (c : Chip) (cause : Nat) : Chip :=
  let c := countHoldup c
  let s := c.sec
  { bb := { c.bb with queue := [], dropped := 0, slots := coldSlots c.bb, running := none, holdup := false, inhibit := false,
                      life := { c.bb.life with powerOn := c.bb.life.powerOn + c.ivl / sec 1 } },
    pool := { memberList := c.pool.memberList },
    ports := { pIn := c.ports.pIn.foldl (fun t e => t.put e.1 { raw := e.2.raw }) [] },
    sec := { active := s.active, pend := s.pend, tries := s.tries, invalid := s.invalid, images := s.images, revoked := s.revoked,
             ctrs := s.ctrs, chains := s.chains },
    rst := { badRails := c.rst.badRails, lowRails := c.rst.lowRails, nextCause := cause },
    regs := { serial := c.regs.serial }, sent := c.sent, freeCtr := c.freeCtr }

/-- RST_N_ASSERT (R514). -/
def rstNAssert (c : Chip) : Chip := coldReset c 1

/-- STANDBY_RAIL_LOW (R511): the start that follows is a power-on. -/
def standbyRailLow (_rail : Nat) (c : Chip) : Chip := coldReset c 0

/-! ### The boot chain (R486–R491) -/

/-- The images as the verifier finds them, and the fuses as they read (R492). -/
def bootImages (c : Chip) (b : StartFacts) : Chip :=
  let put : Tbl (Option ImageFacts) → Nat → Tbl (Option ImageFacts) := fun t i =>
    t.put i (if i < 3 then b.imagesA[i]? else b.imagesB[i - 3]?)
  { c with sec := { c.sec with images := (List.range 6).foldl put c.sec.images, revoked := b.fuseBad.foldl addOnce c.sec.revoked } }

/-- The set a start boots, and whether it is a PENDING set on trial (R489). -/
def chooseSet (s : Secure) : Nat × Bool :=
  match s.forceSet with
  | some n => (n, false)
  | none => match s.pend with
    | some p => if 0 < s.tries then (p, true) else (s.active, false)
    | none => (s.active, false)

/-- R489: starting PENDING lowers TRIES; at 0 PENDING is cleared. -/
def lowerTries (c : Chip) : Chip :=
  let n := c.sec.tries - 1
  if n = 0 then raise { c with sec := { c.sec with tries := 0, pend := none } } 338
  else { c with sec := { c.sec with tries := n } }

/-- The set runs: its images, their versions. -/
def bootSet (c : Chip) (s : Nat) (fallback trial : Bool) : Chip :=
  let ms := [1, 2, 3].map (fun t => (imageAt c s t).getD {})
  { c with sec := { c.sec with bootSet := s, fallback := fallback, trial := trial && c.sec.pend.isSome, running := ms,
                               recovery := false },
           regs := { c.regs with fwVer := ms.map (·.version) } }

/-- R491: the ROM serves the black box and FW_UPDATE over MCTP. -/
def enterRecovery (c : Chip) : Chip :=
  if c.sec.recovery then c else raise { c with sec := { c.sec with recovery := true } } 339

/-- The boot chain: a set boots, the start falls back to the other set, or the ROM enters recovery. -/
def bootChain (c : Chip) (b : StartFacts) : Chip :=
  let ok := fun (c : Chip) (s : Nat) => (setStatus c s).isNone
  let forced := !c.rst.started && !c.sec.recovery && c.rst.straps.toNat / 256 == 2
  if forced ∨ !b.bootRecordOk then enterRecovery c
  else if !ok c 0 ∧ !ok c 1 then enterRecovery (if c.sec.recovery then c else raise c 336)
  else
    let s := (chooseSet c.sec).1
    let trial := (chooseSet c.sec).2
    let repeated := c.sec.forceSet.isSome
    let c := if trial then lowerTries c else c
    if ok c s then bootSet c s repeated trial else bootSet (raise (raise c 336) 337) (1 - s) true false

/-! ### The housekeeping firmware's part (R417, R425, R497) -/

/-- The start repeats after a fallback of R489: the stop-state word has been read already. -/
abbrev repeats (c : Chip) : Bool := c.sec.forceSet.isSome

/-- The start path is full (R425). -/
def fullPath (c : Chip) : Bool := !repeats c && (c.bb.orderly != some true || c.bb.fullNext)

/-- The stop-state word is read, RUNNING and a START record are written; counts of the last stop. -/
def openStart (c : Chip) : Chip :=
  if repeats c then c
  else
    let full := fullPath c
    let orderly := c.bb.orderly == some true
    let c := countHoldup c
    let n := c.bb.life.boots + 1
    let life := { c.bb.life with boots := n, unclean := c.bb.life.unclean + nat1 !orderly }
    let c := { c with bb := { c.bb with holdup := false, inhibit := false, life := life, orderly := some false, wordBoot := n },
                      rst := { c.rst with lastOrderly := orderly } }
    let c := if c.rst.started then c else logRecord c { kind := .reset, detail := [0] }
    logRecord c { kind := .start, detail := [nat1 full, n % 2 ^ 32] }

/-- The identity (R497, R499, R506): the nonce of debug tokens is drawn at each cold reset. -/
def makeIdentity (c : Chip) (b : StartFacts) : Chip :=
  let id := b.pufOk && !c.sec.debug
  let c := if c.rst.started then c else { c.usedFree with sec := { c.sec with debugNonce := c.freeNat } }
  let c := { c with sec := { c.sec with identity := id, slot0Ok := b.slot0Ok } }
  let c := if b.fuseBad.isEmpty then c else raise c 342
  if id then c else raise c 343

/-! ### The fabric die leaves reset -/

/-- R511: what was raised while the die was held is pending again; IRQ_OUT_N follows R409. -/
def collectorRuns (c : Chip) : Chip :=
  let held := c.flt.inReset
  irqPin (held.foldl (fun c e => raiseAgain c e.1 e.2) { c with flt := { c.flt with inReset := [] } })

/-- The HBM is trained, the retirement map applied, soft repairs replayed (R217–R219), every line written (R214); the clocks of the scrubber
and of the placement loops start. -/
def hbmStarts (c : Chip) (b : StartFacts) : Chip :=
  let free := 16384 - c.bb.retired.length
  let c := c.bb.retired.foldl (fun c e =>
    let x := c.pcOf (e.1 / 2 ^ 20)
    c.setPc (e.1 / 2 ^ 20) { x with mapped := x.mapped ++ [e.1 % 2 ^ 20], retired := x.retired + 1 }) c
  let loops := (List.range 32).foldl (fun t s => t.put s { last := c.ivl }) c.hbm.loops
  let c := { c with hbm := { c.hbm with poolFree := free, poolLow := decide (free < 1638), initDone := true, loops := loops,
                                        scrubAt := c.ivl, mended := c.bb.soft.foldl addOnce c.bb.hard } }
  let c := returnBlocks c
  (List.range 64).foldl (fun c k => if b.pcTrainFail.contains k ∨ 1024 ≤ (c.pcOf k).retired then failPc c k else c) c

/-- The tests of the full path (R425, R430, R433): failures found before count anew. -/
def startTests (c : Chip) (rs : List TestResult) : Chip :=
  let c := { c with test := { c.test with spare := 64, lost := 0, excluded := [], portsOut := [], fatal := false },
                    sw := { c.sw with bufCells := 786432 },
                    bb := { c.bb with fullNext := false, bistBad := rs.any (fun r => r.outcome == 3), bistRecs := rs.length } }
  closeHeader (rs.foldl (fun c r => finding c 1 r) (openHeader c 1))

/-- Table 16.5: with buffer slices lost, every BUF_PORT_LIMIT starts 324 cells lower for each. -/
def limitsStart (c : Chip) : Chip :=
  let n := c.test.lost
  if n = 0 then c
  else (List.range 38).foldl (fun c p =>
    let x := c.sw.xports.look p
    { c with sw := { c.sw with xports := c.sw.xports.put p { x with portLimit := x.portLimit - 324 * n } } }) c

/-- What the start itself raises (R408, R417, R418, R510). -/
def startSources (c : Chip) (b : StartFacts) (again : Bool) : Chip :=
  let c := if again ∨ c.rst.lastOrderly then c else raise c 1
  let c := if again ∨ c.rst.lastOrderly ∨ c.bb.holdDone then c else raise c 21
  let c := if again ∨ c.rst.nextCause ≠ 3 then c else raise c 2
  if b.sequenceBad then raise { c with rst := { c.rst with seqSeen := true } } 354 else c

/-! ### The boot configuration (R21, R213, R263, R281, R295, R296, R512) -/

/-- Course modes: the configuration's, or the straps where it leaves them unset. -/
def courseModes (k : Option BootConfig) (straps : BitVec 10) : List Bool :=
  (List.range 8).map (fun i => (((k.getD {}).modes.getD i none)).getD (straps.getLsbD i))

/-- The straps decide a course mode. -/
def strapsDecide (k : Option BootConfig) : Bool := (List.range 8).any (fun i => ((k.getD {}).modes.getD i none).isNone)

/-- The fallback layout's ports (R263), on the courses in CXL mode: the first is the manager port. -/
def fallbackRoles (modes : List Bool) : List (Nat × Nat × Nat) :=
  let ps := ((List.range 32).map (fun i => 4 * i)).filter (fun p => !modes.getD (p / 16) false)
  ps.map (fun p => (p, if some p = ps.head? then 3 else 2, 0))

/-- R21, R263, R296: the course modes and port layout are refused. -/
def layoutRefused (k : Option BootConfig) (modes : List Bool) : Bool :=
  decide (4 < (modes.filter id).length) ||
  (match k with
   | none => false
   | some k =>
     decide (64 < (k.roles.filter (fun r => r.2.1 == 1 || r.2.1 == 3)).length) ||
     (k.roles.filter (fun r => r.2.1 == 3)).length != 1 ||
     (List.range 8).any (fun i => modes.getD i false && k.ssc.getD i false))

/-- An entry of the port layout lies on a CXL course as R18 places it. -/
def roleFits (modes : List Bool) (e : Nat × Nat × Nat) : Bool :=
  decide (e.1 < 128) && decide (1 ≤ e.2.1) && decide (e.2.1 ≤ 3) && !modes.getD (e.1 / 16) false && decide (e.2.2 ≤ 4) &&
  (if e.2.2 = 0 then decide (e.1 % 4 = 0) else if e.2.2 = 1 then decide (e.1 % 2 = 0) else true)

/-- Ports whose lanes an entry of the port layout takes. -/
def rolePorts (e : Nat × Nat × Nat) : Nat := if e.2.2 = 0 then 4 else if e.2.2 = 1 then 2 else 1

/-- The roles that the layout gives (R18): a port number whose lanes fall inside a wider port is unused. -/
def rolesOf (modes : List Bool) (l : List (Nat × Nat × Nat)) : List (Nat × Nat × Nat) :=
  let fit := l.filter (roleFits modes)
  fit.filter (fun e => !fit.any (fun f => decide (f.1 < e.1) && decide (e.1 < f.1 + rolePorts f)))

/-- Fault source 0: a boot configuration fault. -/
def configFault (c : Chip) : Chip := raise { c with rst := { c.rst with cfgFault := true } } 0

/-- At a cold reset: course modes, port roles, HBM partition, slot defaults (Table 21.4, R453). A DIR_SIZE or LC_WAYS above its range
(R213) is taken as the greatest value of the range (notes/assumptions/176.md). -/
def applyLayout (c : Chip) (k : Option BootConfig) : Chip :=
  let asked := courseModes k c.rst.straps
  let bad := layoutRefused k asked
  let modes := if bad then List.replicate 8 false else asked
  let roles := if bad ∨ k.isNone then fallbackRoles modes else rolesOf modes (k.getD {}).roles
  let c := (List.range 8).foldl (fun c i => c.modCourse i (fun x => { x with stolevo := modes.getD i false })) c
  let c := roles.foldl (fun c e => c.setPort e.1 { role := e.2.1, cfgWidth := e.2.2 }) { c with ports := { c.ports with ports := [] } }
  let mgr := ((roles.find? (fun e => e.2.1 == 3)).map (·.1)).getD 0
  let c := (k.getD {}).slots.foldl (fun c s => c.modChan s.1 (fun h => { h with p := { h.p with enable := s.2.1, port := s.2.2 } })) c
  let c := { c with ports := { c.ports with mgrPort := mgr },
                    hbm := { c.hbm with dirSize := min 32 (k.getD {}).dirSize, lcWays := min 4 (k.getD {}).lcWays },
                    rst := { c.rst with strapsUsed := !bad && strapsDecide k } }
  if bad then configFault c else c

/-- A PERST entry that R281 admits, after the entries already taken. -/
def takePin (c : Chip) (e : BootPin) : Chip :=
  let y := c.port e.port
  if 64 ≤ e.pin then c
  else if e.out then
    if y.role ≠ 2 ∨ (List.range 64).any (fun j => (c.pOut j).valid && (c.pOut j).port == e.port) then c
    else c.setPOut e.pin (outLevel { c.pOut e.pin with port := e.port, valid := true })
  else if !y.upstream ∨ (List.range 64).any (fun i => (c.pIn i).valid && (c.pIn i).port == e.port) then c
  else c.setPIn e.pin { c.pIn e.pin with port := e.port, valid := true, since := c.ivl }

/-- At every start: clocking and the core reference (R294–R296, R512), the PERST map (R548). -/
def applyClocks (c : Chip) (k : Option BootConfig) (refclkOk : List Bool) : Chip :=
  let x := k.getD {}
  let c := (List.range 8).foldl (fun c i => c.modCourse i (fun y =>
    let ok := refclkOk.getD i false
    { y with sris := !y.stolevo && x.clkMode.getD i false, ssc := !y.stolevo && x.ssc.getD i false, refOk := ok, pllH := ok,
             pllL := ok && !y.stolevo })) c
  let c := if (List.range 8).all (fun i => (c.course i).ssc) then configFault (c.modCourse 0 (fun y => { y with ssc := false })) else c
  let c := match findBelow 8 (refFit c) with
    | some i => { c with rst := { c.rst with refCourse := i, refAlt := false } }
    | none => raise { c with rst := { c.rst with refCourse := 0, refAlt := true } } 356 (srcInfo 4 0)
  x.perst.foldl takePin c

/-! ### Links and firmware -/

/-- CXL ports leave Detect, Stolevo Links enter PHY (Table 21.5). A port is present where its slot-power channel sees a card. -/
def linksStart (c : Chip) : Chip :=
  let c := (List.range 128).foldl (fun c p =>
    let y := c.port p
    if y.role = 0 then c
    else
      let there : Bool := match slotOf c p with
        | some n => (c.chan n).present
        | none => false
      let goes := (y.upstream || there) && !c.test.portsOut.contains (portXbar p)
      c.setPort p { y with present := there, state := if goes then .training else .down }) c
  ((List.range 16).filter (linkExists c)).foldl (fun c l => startPhy c l) c

/-- FW_READY = 1; a PENDING set on trial must still reach it (R489). -/
def firmwareStarts (c : Chip) : Chip :=
  if c.sec.trial then { c with sec := { c.sec with bootWait := some c.ivl, forceSet := none } }
  else
    deliverQueue { c with rings := { c.rings with fwReady := true },
                          sec := { c.sec with readyAt := some c.ivl, forceSet := none }, rst := { c.rst with cold := false } }

/-- The fabric die leaves reset and is configured. -/
def startFabric (c : Chip) (b : StartFacts) (full again : Bool) : Chip :=
  let cold := c.rst.cold
  let c := { c with rst := { c.rst with running := true, started := true, held := [], halted := false, cause := c.rst.nextCause,
                                        cfgValid := b.config.isSome, cfgFault := false, config := b.config },
                    stv := { c.stv with epoch := b.rngEpoch % 2 ^ 32 }, bb := { c.bb with bistPath := full } }
  let c := hbmStarts (startSources (collectorRuns c) b again) b
  let c := limitsStart (if full then startTests c b.results else c)
  if c.test.fatal then
    errOut { c with rst := { c.rst with running := false } }
  else
    let c := if cold then applyLayout c b.config else c
    let c := applyClocks c b.config b.refclkOk
    let c := (List.range 9).foldl (fun c i => c.setRung i { c.rung i with entered := c.ivl, since := c.ivl }) c
    let c := { c with pow := { c.pow with avsAt := c.ivl, sampleAt := c.ivl }, test := { c.test with lastTurn := c.ivl } }
    firmwareStarts (linksStart c)

/-- The start can run: no warm cause persists, the fabric die has been held for 1 ms, every main rail is in range (R514, R516). -/
def startReady (c : Chip) : Bool :=
  let r := c.rst
  !r.running && !r.halted && !r.held.contains .thermal && !r.held.contains .rail && r.badRails.isEmpty && !c.test.fatal &&
  (!r.started || repeats c || c.past r.heldAt (ms 1))

/-- START (R516): the whole sequence up to FW_READY. -/
def start (b : StartFacts) (c : Chip) : Chip :=
  if !startReady c then c
  else
    let latch := !c.rst.started && !c.sec.recovery
    let c := { c with rst := { c.rst with straps := if latch then b.straps else c.rst.straps },
                      regs := { c.regs with serial := b.serial, engSample := b.engSample } }
    let again := repeats c
    let full := fullPath c
    let c := bootChain (bootImages c b) b
    if c.sec.recovery then c else startFabric (makeIdentity (openStart c) b) b full again

/-- BOOT_FW_READY_TIMEOUT (R489): the start falls back to the other set and runs again. -/
def bootFwReadyTimeout (c : Chip) : Chip :=
  match c.sec.bootWait with
  | none => c
  | some t =>
    if !c.rst.running ∨ c.rings.fwReady ∨ !c.past t (sec 2) then c
    else
      let cause := c.rst.cause
      let cold := c.rst.cold
      let other := otherSet c
      let c := fabricReset c
      raise { c with sec := { c.sec with forceSet := some other }, rst := { c.rst with cold := cold, nextCause := cause } } 337

/-! ### Orderly shutdown (R518, R519) -/

/-- Phase 1 begins: rings stop fetching, schedules and jobs stop, tenants drain. -/
def beginShutdown (c : Chip) : Chip :=
  let c := { c with rst := { c.rst with phase := 1, drainOut := false, wbFail := 0 } }
  let c := (c.ctr.dumps.map (·.1)).foldl (fun c k => c.setSchedule k { c.schedule k with active := false }) c
  let js := (c.mov.jobs.filter (fun j => !(j.schedule.isSome && j.engine.isNone))).map (fun j =>
    if j.auto.isSome && j.engine.isSome then { j with stopPage := true } else j)
  let c := { c with mov := { c.mov with jobs := js } }
  let c := (c.mov.jobs.filter (fun j => j.auto.isNone)).foldl (fun c j => abortJob c j 0 false) c
  ((c.ten.tenants.filter (fun t => t.1 != 0 && t.2.state == .enabled)).map (·.1)).foldl (fun c t =>
    startDrain c t (1000 * c.rst.sdDrain) 0 none true) c

/-- SHUTDOWN_GO: a write of SHUTDOWN_CTL. A DRAIN outside 1–10,000 leaves the field unchanged. -/
def shutdownGo (path : Path) (v : BitVec 32) (c : Chip) : Chip :=
  let n := v.toNat
  let dr := field n 2 14
  let busy := c.rst.phase != 0 || c.grp.groups.any (fun g => g.2.state != .none) || c.sec.update.isSome
  if !pathOpen c path then c
  else if bitOf n 0 ∧ busy then { c with rst := { c.rst with refused := true } }
  else
    let c := { c with rst := { c.rst with sdMode := bitOf n 1,
                                          sdDrain := if 1 ≤ dr ∧ dr ≤ 10000 then dr else c.rst.sdDrain } }
    if bitOf n 0 then beginShutdown c else c

/-- Phase 1 is over: no command in flight, no tenant drains, no job runs. -/
def drainedAll (c : Chip) : Bool :=
  c.rings.rings.all (fun r => r.2.flight.isEmpty) && c.ten.tenants.all (fun t => t.2.state != .draining) &&
  c.mov.jobs.all (fun j => j.auto.isSome && j.engine.isNone)

/-- Phase 2 is over: no dirty line, and every backing write has completed or is late (R207). -/
def writtenAll (c : Chip) : Bool :=
  !c.hbm.ways.any (fun w => w.2.dirty) && c.pool.writes.all (·.late) && !c.pool.ops.any (fun o => !o.recon)

/-- The members with log bits, by SERIAL and extent (R207). -/
def loggedMembers (c : Chip) : List (Nat × Nat) :=
  c.pool.windows.flatMap (fun w => if w.2.mode = .plain then [] else
    (w.2.members.filter (fun m => m.2.present && anyPage m.2)).map (fun m => ((c.dev m.2.dev).serial, m.2.ext)))

/-- Phase 3: every CXL port and Stolevo Link is taken down, every PERST_OUT_N asserted. -/
def linksGoDown (c : Chip) : Chip :=
  let c := (List.range 128).foldl (fun c p => if (c.port p).role = 0 then c else portFalls c p .down) c
  let c := ((List.range 16).filter (linkExists c)).foldl (fun c l => linkHeld c l) c
  let c := (List.range 64).foldl (fun c j => c.setPOut j { c.pOut j with level := true }) c
  { c with ports := { c.ports with linksDown := true } }

/-- Phase 4: findings and hard repairs of shutdown BIST (R426, R432). -/
def shutdownTests (c : Chip) (f : PhaseFacts) : Chip :=
  let c := { c with bb := { c.bb with bistBad := f.results.any (fun r => r.outcome == 3), bistRecs := f.results.length } }
  let c := closeHeader (f.results.foldl (fun c r => finding c 0 r) c)
  let n := c.bb.soft.length
  let k := min f.hardRepaired 64
  let done := c.bb.soft.take k
  let c := { c with bb := { c.bb with soft := c.bb.soft.drop k, hard := done.foldl addOnce c.bb.hard }
                    hbm := { c.hbm with mended := done.foldl addOnce c.hbm.mended } }
  let c := returnBlocks c
  if 64 < n then raise c 261 else c

/-- Phase 5: the STOP record, then ORDERLY. MODE 0 keeps the fabric die in reset, MODE 1 is a warm reset. -/
def shutdownDone (c : Chip) : Chip :=
  let c := logRecord c { kind := .stop, detail := [1] }
  let c := flushLog c
  let c := { c with bb := { c.bb with orderly := some true, wordBoot := c.bb.life.boots } }
  if c.rst.sdMode then warmHold c .orderly
  else
    let c := fabricReset (snapCut c)
    { c with rst := { c.rst with halted := true, phase := 5 } }

/-- SHUTDOWN_PHASE_END (R518). -/
def shutdownPhaseEnd (f : PhaseFacts) (c : Chip) : Chip :=
  let go := fun (c : Chip) (n : Nat) => { c with rst := { c.rst with phase := n } }
  if !c.rst.running then c
  else if c.rst.phase = 1 then (if drainedAll c then (flushDirty (go c 2) (fun _ => true)).1 else c)
  else if c.rst.phase = 2 then
    (if writtenAll c then linksGoDown (go { c with pool := { c.pool with memberList := loggedMembers c } } 3) else c)
  else if c.rst.phase = 3 then openHeader (go c 4) 0
  else if c.rst.phase = 4 then shutdownDone (shutdownTests c f)
  else c

end Sys2Proof.Machine
end

