-- ==== Sys2Proof/Machine/RegMap.lean ====
section
/-!
DEFINITION. The register map of BAR0 (Table 23.2): the registers by name and instance, the register at an offset, which instances
exist (R542), and what each register reads as (R540, R545, R9).
-/
namespace Sys2Proof.Machine

/-- The registers of BAR0. `hi` picks the half of a pair. -/
inductive Reg where
  | devId | devRev | serial (hi : Bool) | fwVer (k : Nat) | cap (k : Nat) | configStatus | regView | accessErr | accessErrCnt | scratch
  | ftNow (hi : Bool) | ftStatus
  | capoGroup | capoStatus | capoNext (hi : Bool) | capoLast (hi : Bool)
  | faultSev (i : Nat) | faultReact (v : Nat) | faultPend (g : Nat) | faultSummary | errOutCtl | faultCnt (n : Nat)
  | mgrCmdBase (hi : Bool) | mgrEvtBase (hi : Bool) | mgrRingCfg | mgmtPathCtl
  | portCtl (p : Nat) | portStatus (p : Nat) | perstIn (i : Nat) | perstOut (j : Nat)
  | laneCtl (n : Nat) | laneStatus (n : Nat) | laneErr (n : Nat) | lanePrbs (n : Nat) | prbsErr (n : Nat) (hi : Bool)
  | prbsBits (n : Nat) (hi : Bool) | courseCfg (k : Nat) | courseStatus (k : Nat)
  | fretBank (x s : Nat) | fretCtl (x : Nat) | arbPrio (x k : Nat) | gateState (p : Nat) | gateStart (p : Nat) (hi : Bool)
  | cohCfg | hsStatus (s : Nat) | hbmCfg | pcStatus (k : Nat) | lcLoop (s : Nat)
  | ctrCfg (i n : Nat) | ctrVal (i : Nat) (hi : Bool) | ctrStat (i : Nat) | bandwidth (p n : Nat) | dumpStatus (k : Nat)
  | moverCfg | moverRate | engStatus (e : Nat) | engProg (e : Nat) (hi : Bool)
  | avsStatus | thermStatus | rungCtl (i : Nat) | resetStatus | strapStatus | shutdownCtl | shutdownStatus
  | slotStatus (n : Nat) | slotI (n : Nat) | slotV (n : Nat) | slotP (n : Nat) | slotE (n : Nat) (hi : Bool) | slotFeed (n : Nat)
  | secStatus | secSvn | sliceTest | bistLast
  | stvCtl (l : Nat) | stvStatus (l : Nat) | stvSeq (l : Nat) | stvRxSeq (l : Nat) | stvPeer (l : Nat) (hi : Bool) | stvEpoch (l : Nat)
  | stvDelay (l : Nat) | stvCnt (l n : Nat)
  deriving DecidableEq, Repr, Inhabited

/-- Identity, Fabric Time and Capo, 0x0000_0000–0x0000_FFFF. -/
def regLow (o : Nat) : Option Reg :=
  match o with
  | 0x0000 => some .devId
  | 0x0004 => some .devRev
  | 0x0008 => some (.serial false)
  | 0x000C => some (.serial true)
  | 0x0010 => some (.fwVer 0)
  | 0x0014 => some (.fwVer 1)
  | 0x0018 => some (.fwVer 2)
  | 0x0020 => some (.cap 0)
  | 0x0024 => some (.cap 1)
  | 0x0028 => some (.cap 2)
  | 0x0030 => some .configStatus
  | 0x0040 => some .regView
  | 0x0044 => some .accessErr
  | 0x0048 => some .accessErrCnt
  | 0x0050 => some .scratch
  | 0x4000 => some (.ftNow false)
  | 0x4004 => some (.ftNow true)
  | 0x4010 => some .ftStatus
  | 0x8000 => some .capoGroup
  | 0x8004 => some .capoStatus
  | 0x8008 => some (.capoNext false)
  | 0x800C => some (.capoNext true)
  | 0x8010 => some (.capoLast false)
  | 0x8014 => some (.capoLast true)
  | _ => none

/-- Fault collector and ring control, 0x0001_0000–0x0003_FFFF. -/
def regFault (o : Nat) : Option Reg :=
  if o < 0x10100 then some (.faultSev ((o - 0x10000) / 4))
  else if o < 0x10120 then some (.faultReact ((o - 0x10100) / 4))
  else if 0x10200 ≤ o ∧ o < 0x10280 then some (.faultPend ((o - 0x10200) / 4))
  else if o = 0x10280 then some .faultSummary
  else if o = 0x10300 then some .errOutCtl
  else if 0x11000 ≤ o ∧ o < 0x11800 then some (.faultCnt ((o - 0x11000) / 4))
  else if o = 0x20000 then some (.mgrCmdBase false)
  else if o = 0x20004 then some (.mgrCmdBase true)
  else if o = 0x20008 then some (.mgrEvtBase false)
  else if o = 0x2000C then some (.mgrEvtBase true)
  else if o = 0x20010 then some .mgrRingCfg
  else if o = 0x20014 then some .mgmtPathCtl
  else none

/-- Ports, PERST, lanes and courses, 0x0004_0000–0x0007_FFFF. -/
def regPort (o : Nat) : Option Reg :=
  if o < 0x60000 then
    let p := (o - 0x40000) / 0x400
    let x := o % 0x400
    if x = 0 then some (.portCtl p) else if x = 4 then some (.portStatus p) else none
  else if o < 0x60100 then some (.perstIn ((o - 0x60000) / 4))
  else if o < 0x60200 then some (.perstOut ((o - 0x60100) / 4))
  else if o < 0x70000 then none
  else if o < 0x74000 then
    let n := (o - 0x70000) / 0x20
    match o % 0x20 with
    | 0x00 => some (.laneCtl n)
    | 0x04 => some (.laneStatus n)
    | 0x08 => some (.laneErr n)
    | 0x0C => some (.lanePrbs n)
    | 0x10 => some (.prbsErr n false)
    | 0x14 => some (.prbsErr n true)
    | 0x18 => some (.prbsBits n false)
    | _ => some (.prbsBits n true)
  else if 0x78000 ≤ o ∧ o < 0x78200 then
    let k := (o - 0x78000) / 0x40
    let x := o % 0x40
    if x = 0 then some (.courseCfg k) else if x = 4 then some (.courseStatus k) else none
  else none

/-- Arbiters and schedulers, 0x0008_0000–0x000F_FFFF. -/
def regArb (o : Nat) : Option Reg :=
  if o < 0xC0000 then
    let x := (o - 0x80000) / 0x800
    let y := o % 0x800
    if 102 ≤ x then none
    else if y < 0x400 then some (.fretBank x (y / 4))
    else if y = 0x400 then some (.fretCtl x)
    else if 0x410 ≤ y ∧ y < 0x430 then some (.arbPrio x ((y - 0x410) / 4))
    else none
  else if o < 0xC0800 then
    let p := (o - 0xC0000) / 0x10
    match o % 0x10 with
    | 0x0 => some (.gateState p)
    | 0x4 => some (.gateStart p false)
    | 0x8 => some (.gateStart p true)
    | _ => none
  else none

/-- Home slices, HBM and counters, 0x0010_0000–0x0015_FFFF. -/
def regMem (o : Nat) : Option Reg :=
  if o = 0x100000 then some .cohCfg
  else if 0x101000 ≤ o ∧ o < 0x101800 then (if o % 0x40 = 0 then some (.hsStatus ((o - 0x101000) / 0x40)) else none)
  else if o = 0x120000 then some .hbmCfg
  else if 0x121000 ≤ o ∧ o < 0x121400 then (if o % 0x10 = 0 then some (.pcStatus ((o - 0x121000) / 0x10)) else none)
  else if 0x122000 ≤ o ∧ o < 0x122200 then (if o % 0x10 = 0 then some (.lcLoop ((o - 0x122000) / 0x10)) else none)
  else if 0x140000 ≤ o ∧ o < 0x148000 then
    let i := (o - 0x140000) / 0x20
    match o % 0x20 with
    | 0x00 => some (.ctrCfg i 0)
    | 0x04 => some (.ctrCfg i 1)
    | 0x08 => some (.ctrCfg i 2)
    | 0x0C => some (.ctrCfg i 3)
    | 0x10 => some (.ctrVal i false)
    | 0x14 => some (.ctrVal i true)
    | 0x18 => some (.ctrStat i)
    | _ => none
  else if 0x148000 ≤ o ∧ o < 0x149000 then
    (if o % 0x20 < 0x18 then some (.bandwidth ((o - 0x148000) / 0x20) (o % 0x20 / 4)) else none)
  else if 0x149000 ≤ o ∧ o < 0x149400 then (if o % 0x10 = 0 then some (.dumpStatus ((o - 0x149000) / 0x10)) else none)
  else none

/-- Data mover, power, slot power, security, BIST and Stolevo Links, 0x0016_0000–0x001F_FFFF. -/
def regHigh (o : Nat) : Option Reg :=
  if o = 0x160000 then some .moverCfg
  else if o = 0x160004 then some .moverRate
  else if 0x160100 ≤ o ∧ o < 0x160200 then
    let e := (o - 0x160100) / 0x10
    match o % 0x10 with
    | 0x0 => some (.engStatus e)
    | 0x4 => some (.engProg e false)
    | 0x8 => some (.engProg e true)
    | _ => none
  else if o = 0x170000 then some .avsStatus
  else if o = 0x170004 then some .thermStatus
  else if 0x170100 ≤ o ∧ o < 0x170190 then (if o % 0x10 = 0 then some (.rungCtl ((o - 0x170100) / 0x10)) else none)
  else if o = 0x170200 then some .resetStatus
  else if o = 0x170204 then some .strapStatus
  else if o = 0x170208 then some .shutdownCtl
  else if o = 0x17020C then some .shutdownStatus
  else if 0x180000 ≤ o ∧ o < 0x180800 then
    let n := (o - 0x180000) / 0x40
    match o % 0x40 with
    | 0x00 => some (.slotStatus n)
    | 0x04 => some (.slotI n)
    | 0x08 => some (.slotV n)
    | 0x0C => some (.slotP n)
    | 0x10 => some (.slotE n false)
    | 0x14 => some (.slotE n true)
    | 0x18 => if n < 4 then some (.slotFeed n) else none
    | _ => none
  else if o = 0x190000 then some .secStatus
  else if o = 0x190004 then some .secSvn
  else if o = 0x1A0000 then some .sliceTest
  else if o = 0x1A0004 then some .bistLast
  else if 0x1C0000 ≤ o ∧ o < 0x1C4000 then
    let l := (o - 0x1C0000) / 0x400
    let y := o % 0x400
    match y with
    | 0x00 => some (.stvCtl l)
    | 0x04 => some (.stvStatus l)
    | 0x08 => some (.stvSeq l)
    | 0x0C => some (.stvRxSeq l)
    | 0x10 => some (.stvPeer l false)
    | 0x14 => some (.stvPeer l true)
    | 0x18 => some (.stvEpoch l)
    | 0x1C => some (.stvDelay l)
    | _ => if 0x40 ≤ y ∧ y < 0x68 then some (.stvCnt l ((y - 0x40) / 4)) else none
  else none

/-- The register at an offset of BAR0 (Table 23.2); none: unimplemented. -/
def regAt (o : Nat) : Option Reg :=
  if o % 4 ≠ 0 then none
  else if o < 0x10000 then regLow o
  else if o < 0x40000 then regFault o
  else if o < 0x80000 then regPort o
  else if o < 0x100000 then regArb o
  else if o < 0x160000 then regMem o
  else regHigh o

/-- A course carries a port or a Stolevo Link. -/
def courseCarries (c : Chip) (k : Nat) : Bool :=
  stolevoCourse c k || (List.range 16).any (fun i => (c.port (16 * k + i)).role != 0)

/-- The instance exists at present (R542). -/
def regExists (c : Chip) (r : Reg) : Bool :=
  match r with
  | .portCtl p => (c.port p).role != 0
  | .laneCtl n | .laneStatus n | .laneErr n | .lanePrbs n | .prbsErr n _ | .prbsBits n _ => courseCarries c (n / 64)
  | .stvCtl l | .stvStatus l | .stvSeq l | .stvRxSeq l | .stvPeer l _ | .stvEpoch l | .stvDelay l | .stvCnt l _ => linkExists c l
  | _ => true

/-! ### RWC fields (R543–R545) -/

/-- The RWC fields of a register (R545); 0 where it has none. -/
def rwcMask (r : Reg) : Nat :=
  match r with
  | .portCtl _ => 0x3FFFC
  | .perstIn _ | .perstOut _ => 0xFF
  | .laneCtl _ => 0xF
  | .courseCfg _ => 0x7FFF8
  | .fretCtl _ => 0x6
  | .ctrCfg _ n => 2 ^ cfgBits n - 1
  | .moverCfg => 0x7F
  | .moverRate => 0xFFFFFFF
  | .rungCtl _ => 0x7
  | .stvCtl _ => 0x1F
  | _ => 0

/-- The object that the register indexes (Table 13.3, R544). -/
def rwcObj (r : Reg) : Obj :=
  match r with
  | .portCtl p => { kind := .port, index := p }
  | .perstIn i => { kind := .pin, index := i }
  | .perstOut j => { kind := .pin, index := 256 + j }
  | .laneCtl n => { kind := .lane, index := n }
  | .courseCfg k => { kind := .course, index := k }
  | .fretCtl x | .fretBank x _ | .arbPrio x _ => { kind := .arbiter, index := x }
  | .ctrCfg i _ => { kind := .counter, index := i }
  | .moverCfg | .moverRate => { kind := .mover, index := 0 }
  | .rungCtl i => { kind := .rung, index := i }
  | .stvCtl l => { kind := .link, index := l }
  | _ => { kind := .other, index := 0 }

/-! ### What registers read as -/

/-- The RWC and other fields of a register, live. -/
def regLive (c : Chip) (r : Reg) : Nat :=
  match r with
  | .portCtl p => portCtl c p
  | .perstIn i => let x := c.pIn i; x.port % 128 + 2 ^ 7 * nat1 x.valid + 2 ^ 8 * nat1 x.level + 2 ^ 9 * nat1 x.seen
  | .perstOut j => let x := c.pOut j; x.port % 128 + 2 ^ 7 * nat1 x.valid + 2 ^ 8 * nat1 x.force + 2 ^ 9 * nat1 x.level
  | .laneCtl n => (c.lane n).preset + 8 * nat1 (c.lane n).exclude
  | .courseCfg k => let x := c.course k; nat1 x.stolevo + 2 * nat1 x.sris + 4 * nat1 x.ssc + 8 * x.errLimit
  | .fretCtl x =>
    let a := c.arb x
    nat1 a.active + 2 * nat1 a.select + 4 * nat1 a.enable + 8 * nat1 a.view + 16 * nat1 a.locked + 32 * slotAt c.now
  | .ctrCfg i n => cfgRead (c.counter i) n
  | .moverCfg => c.mov.autoEng + 16 * c.mov.autoSc
  | .moverRate => c.mov.autoRate
  | .rungCtl i =>
    let held : Bool := if i = 8 then (List.range 8).any (courseHeld c) else courseHeld c i
    (c.rung i).deepest + 8 * (c.rung i).current + 64 * nat1 held
  | .stvCtl l => let x := c.link l; nat1 x.rateMin + 2 * nat1 x.rateMax + 4 * x.widthMin + 16 * nat1 x.ideReq
  | _ => 0

/-- Groups not in NONE. -/
def groupsOpen (c : Chip) : List Group := (c.grp.groups.map (·.2)).filter (fun g => g.state != .none)

/-- The apply instant of the earliest ARMED group, or 0. -/
def capoNext (c : Chip) : Nat :=
  (((groupsOpen c).filter (fun g => g.state == .armed)).map (·.due)).foldl (fun b n => if b = 0 then n else min b n) 0

/-- Traffic is held for a link out of ACTIVE (R256). -/
def linkHolds (c : Chip) (l : Nat) : Bool :=
  let x := c.link l
  let mine : QPkt → Bool := fun q => match q.egress with
    | .link k _ => k == l
    | _ => false
  x.state != .active && (!x.replay.isEmpty || !x.sendData.isEmpty || !x.sendSc0.isEmpty || !x.permits.isEmpty ||
    c.sw.voq.any (fun e => e.2.any mine) || c.sw.staging.any (fun e => e.2.any mine))

/-- A value of two's complement in `n` bits. -/
abbrev twos (n : Nat) (v : Int) : Nat := (BitVec.ofInt n v).toNat

/-- The whole value of a pair whose LO half this is (R540); the value alone of any other register. -/
def regValue (c : Chip) (r : Reg) : Nat :=
  match r with
  | .devId => 0x95121FB3
  | .devRev => 0xB0 + 2 ^ 8 + 2 ^ 16 * nat1 c.regs.engSample
  | .serial _ => c.regs.serial.toNat
  | .fwVer k => c.regs.fwVer.getD k 0
  | .cap k => if k = 0 then 0x81020200 else if k = 1 then 0x10001000 else 0x06108100
  | .configStatus =>
    (List.range 8).foldl (fun n k => n + 2 ^ k * nat1 (stolevoCourse c k)) 0 + 2 ^ 8 * (c.ports.mgrPort % 128) +
    2 ^ 15 * nat1 c.rst.cfgValid + 2 ^ 16 * nat1 c.rst.cfgFault
  | .regView => nat1 c.regs.live
  | .accessErr => c.regs.errReg.toNat
  | .accessErrCnt => c.regs.errCnt
  | .scratch => c.regs.scratch.toNat
  | .ftNow _ => c.now
  | .ftStatus => (ftStatus c.ft).toNat
  | .capoGroup => c.grp.regGroup.toNat
  | .capoStatus =>
    let gs := groupsOpen c
    gs.length + 2 ^ 7 * nat1 (gs.any (fun g => g.state == .armed)) + 2 ^ 8 * nat1 c.grp.rwcRefused + 2 ^ 9 * nat1 c.grp.lateSeen +
    2 ^ 10 * nat1 (gs.any (fun g => g.state == .checking || g.state == .committing))
  | .capoNext _ => capoNext c
  | .capoLast _ => c.grp.capoLast.toNat
  | .faultSev i => (List.range 8).foldl (fun n j => n + 2 ^ (4 * j) * sevOf c (8 * i + j)) 0
  | .faultReact v => reactOf c v
  | .faultPend g => (List.range 16).foldl (fun n j => n + 2 ^ j * nat1 (c.source (16 * g + j)).pending) 0
  | .faultSummary => (List.range 32).foldl (fun n g =>
      n + 2 ^ g * nat1 (c.flt.sources.any (fun s => s.1 / 16 == g && s.2.pending))) 0
  | .errOutCtl =>
    nat1 c.flt.hold + 4 * nat1 (errOutLow c) + 8 * nat1 c.flt.force + 16 * c.flt.minWidth + 2 ^ 18 * nat1 c.flt.irqLow
  | .faultCnt n => (c.source n).count
  | .mgrCmdBase _ => c.rings.mgrCmdBase.toNat
  | .mgrEvtBase _ => c.rings.mgrEvtBase.toNat
  | .mgrRingCfg =>
    c.rings.mgrCmdLog2 + 2 ^ 5 * c.rings.mgrEvtLog2 + 2 ^ 10 * nat1 c.rings.mgrEnable + 2 ^ 11 * nat1 c.rings.mgrErr +
    2 ^ 12 * c.rings.mgrCoal
  | .mgmtPathCtl => nat1 c.rings.console
  | .portStatus p => portStatus c p
  | .laneStatus n => laneStatus (c.lane n)
  | .laneErr n => (c.lane n).err
  | .lanePrbs n =>
    let x := c.lane n
    x.pattern + 2 ^ 4 * nat1 x.genEn + 2 ^ 5 * nat1 x.chkEn + 2 ^ 6 * x.loopback + 2 ^ 9 * x.injRate + 2 ^ 13 * nat1 (x.chkSync && decide (x.prbsSync ≤ c.ivl)) +
    2 ^ 15 * nat1 x.invert
  | .prbsErr n _ => (prbsNow c (c.lane n)).prbsErr
  | .prbsBits n _ => (prbsNow c (c.lane n)).prbsBits
  | .courseStatus k =>
    let x := c.course k
    nat1 x.refOk + 2 * nat1 x.pllH + 4 * nat1 x.pllL + 8 * (c.rung k).current + 64 * nat1 x.failSeen
  | .fretBank x s =>
    let a := c.arb x
    let b := if a.view then a.active else !a.active
    (fretEntry a x b (2 * s)).toNat + 2 ^ 16 * (fretEntry a x b (2 * s + 1)).toNat
  | .arbPrio x k => ((c.arb x).prio.lookD (prioDefault x k) k).toNat
  | .gateState p =>
    let g := c.gate p
    nat1 g.oper.isSome + 2 * nat1 g.pending.isSome + 4 * nat1 g.basePast + 8 * g.entry + 2 ^ 11 * openMask g
  | .gateStart p _ => (((c.gate p).pending.orElse (fun _ => (c.gate p).oper)).map (·.start)).getD 0
  | .cohCfg => c.hbm.dirSize + 2 ^ 6 * (c.home.domains.filter (fun d => d.2.present)).length
  | .hsStatus s =>
    let busy := poolUsed c s 0 + poolUsed c s 1 + starveUsed c s
    busy + 2 ^ 10 * starveUsed c s + 2 ^ 16 * fanUsed c s + 2 ^ 21 * nat1 (!c.home.sweeps.isEmpty) +
    2 ^ 22 * nat1 (c.home.starveOvf.look s)
  | .hbmCfg => c.hbm.dirSize + 2 ^ 6 * c.hbm.lcWays + 2 ^ 9 * nat1 c.hbm.initDone + 2 ^ 10 * nat1 c.hbm.scrubEn
  | .pcStatus k => pcStatus (c.pcOf k)
  | .lcLoop s => lcLoop (c.hbm.loops.look s)
  | .ctrVal i _ => (c.counter i).value.toNat
  | .ctrStat i => nat1 (c.counter i).ovf + 2 * nat1 (inClear c i)
  | .bandwidth p n =>
    let b := c.ctr.bw.look p
    if n = 0 then b.inLast.toNat % 2 ^ 32 else if n = 1 then b.inLast.toNat / 2 ^ 32
    else if n = 2 then b.outLast.toNat % 2 ^ 32 else if n = 3 then b.outLast.toNat / 2 ^ 32
    else if n = 4 then b.index.toNat else b.len
  | .dumpStatus k =>
    let y := c.schedule k
    nat1 y.active + 2 * nat1 y.err + 4 * nat1 y.missSeen + 8 * y.owner
  | .engStatus e =>
    let x := c.engine e
    match jobOf c e with
    | none => (if x.out then 3 else if x.testing then 2 else 0) + 4 * nat1 (autoEngine c e)
    | some j =>
      let kind := match j.kind with
        | .copy => 0
        | .fill => 1
        | .migrate => 2
        | .resync => 3
        | .dump => 4
      1 + 4 * nat1 (autoEngine c e) + 8 * kind + 2 ^ 6 * (if j.auto.isSome then 0x1FFF else j.ring) + 2 ^ 19 * (j.number % 32)
  | .engProg e _ => ((jobOf c e).map (·.progress)).getD 0
  | .avsStatus =>
    let p := c.pow
    p.target + 2 ^ 10 * p.read + 2 ^ 20 * nat1 (p.target == p.vmin) + 2 ^ 21 * nat1 (p.target == p.vmax) + 2 ^ 22 * nat1 p.override +
    2 ^ 23 * nat1 p.busErr
  | .thermStatus =>
    twos 8 c.pow.tj + 2 ^ 8 * twos 8 (max (c.pow.hbmT.getD 0 0) (c.pow.hbmT.getD 1 0)) + 2 ^ 16 * thermStep c +
    2 ^ 18 * nat1 c.pow.tripSeen + 2 ^ 19 * nat1 c.pow.curStep
  | .resetStatus =>
    c.rst.cause + 8 * nat1 c.rst.lastOrderly + 16 * nat1 c.rst.seqSeen + 32 * nat1 c.rst.refAlt + 64 * c.rst.refCourse
  | .strapStatus => c.rst.straps.toNat + 2 ^ 10 * nat1 c.rst.strapsUsed
  | .shutdownCtl => 2 * nat1 c.rst.sdMode + 4 * c.rst.sdDrain
  | .shutdownStatus => c.rst.phase + 8 * nat1 c.rst.refused + 16 * nat1 c.rst.drainOut + 32 * c.rst.wbFail
  | .slotStatus n => slotStatus c n
  | .slotI n => twos 32 (c.chan n).current
  | .slotV n => (c.chan n).vOut % 2 ^ 16 + 2 ^ 16 * ((c.chan n).vIn % 2 ^ 16)
  | .slotP n => twos 32 (c.chan n).power
  | .slotE n _ => twos 64 ((c.chan n).energy / 1000000)
  | .slotFeed n => (c.chan n).vA % 2 ^ 16 + 2 ^ 16 * ((c.chan n).vB % 2 ^ 16)
  | .secStatus => secStatus c
  | .secSvn => secSvn c
  | .sliceTest =>
    nat1 c.test.running.isSome + 2 * c.test.lastKind + 8 * c.test.lastIdx + 2 ^ 10 * c.test.lastOut + 2 ^ 13 * nat1 c.bb.fullNext +
    2 ^ 14 * c.test.spare
  | .bistLast => nat1 c.bb.bistPath + 2 * nat1 c.bb.bistBad + 4 * (c.bb.bistRecs % 2 ^ 16)
  | .stvStatus l =>
    let x := c.link l
    x.state.code + 8 * x.group + 64 * nat1 x.rate + 2 ^ 7 * nat1 x.leader + 2 ^ 8 * nat1 x.ideOn + 2 ^ 9 * nat1 x.restart +
    2 ^ 10 * nat1 (linkHolds c l)
  | .stvSeq l => let x := c.link l; x.nextSeq + 2 ^ 16 * ((x.replay.head?.map (·.head.seq)).getD x.nextSeq)
  | .stvRxSeq l => (c.link l).expected + 2 ^ 16 * (c.link l).held.length
  | .stvPeer l _ => (c.link l).peerSerial
  | .stvEpoch l => (c.link l).peerEpoch
  | .stvDelay l => (c.link l).delay
  | .stvCnt l n => (c.link l).cnt.look n
  | .portCtl _ | .perstIn _ | .perstOut _ | .laneCtl _ | .courseCfg _ | .fretCtl _ | .ctrCfg _ _ | .moverCfg | .moverRate | .rungCtl _
  | .stvCtl _ => regLive c r

/-- The HI half of a pair. -/
def Reg.isHi (r : Reg) : Bool :=
  match r with
  | .serial h | .ftNow h | .capoNext h | .capoLast h | .mgrCmdBase h | .mgrEvtBase h => h
  | .prbsErr _ h | .prbsBits _ h | .gateStart _ h | .ctrVal _ h | .engProg _ h | .slotE _ h | .stvPeer _ h => h
  | _ => false

/-- The LO half of a pair (R540). -/
def Reg.isLo (r : Reg) : Bool :=
  match r with
  | .serial h | .ftNow h | .capoNext h | .capoLast h | .mgrCmdBase h | .mgrEvtBase h => !h
  | .prbsErr _ h | .prbsBits _ h | .gateStart _ h | .ctrVal _ h | .engProg _ h | .slotE _ h | .stvPeer _ h => !h
  | _ => false

/-- The shadow of a register at an offset (R9). -/
def shadowAt (c : Chip) (o : Nat) : Option Word := c.grp.shadow.look o

/-- The key of a path's HI latch (R540). -/
abbrev latchKey (path : Path) (o : Nat) : Nat := path.latch * 2 ^ 21 + o

/-- What a 32-bit read at an offset of BAR0 returns to a manager's path (R539, R540, R542, R545, R9). -/
def readReg (c : Chip) (path : Path) (o : Nat) : Word :=
  match regAt o with
  | none => 0
  | some r =>
    if !regExists c r then 0
    else if r.isHi then (if r = .ftNow true then c.ft.latch.look path.latch else c.regs.latches.look (latchKey path o))
    else if let .bandwidth p n := r then
      if n = 0 ∨ n = 5 then BitVec.ofNat 32 (regValue c r) else (c.ctr.bwLatch.look (path.latch * 128 + p)).getD (n - 1) 0
    else
      let v := BitVec.ofNat 32 (regValue c r)
      let m := BitVec.ofNat 32 (rwcMask r)
      match shadowAt c o with
      | some s => if c.regs.live ∧ path = .endpoint then v else (v &&& ~~~m) ||| (s &&& m)
      | none => v

/-! ### The tenant page (Table 23.4) -/

/-- The eight fixed counters, OVF and CLEARED_AT in offset order from 0x1000 (Table 19.2). -/
def counterPage (x : Tenant) : List Nat := x.ctr ++ [x.ovf, x.clearedAt.toNat]

/-- What a register of the first 4 KiB of tenant `t`'s page reads as (Table 12.2, TENANT_STATUS, TENANT_CTL). -/
def ringPage (c : Chip) (t o : Nat) : Nat :=
  let r := c.ring t
  let x := c.tenant t
  match o with
  | 0x000 => r.cmdTail
  | 0x004 => r.evtHead
  | 0x008 => r.cmdHead
  | 0x00C => r.evtTail + 2 ^ 16 * nat1 r.phase
  | 0x010 =>
    r.state.code + 4 * nat1 r.dbErr + 8 * nat1 r.fetchErr + 16 * nat1 r.evtErr + 32 * nat1 c.rings.fwReady + 64 * r.flight.length
  | 0x014 => r.lost
  | 0xF00 =>
    x.state.code + 4 * nat1 x.resetting + 8 * nat1 x.limitSeen + 16 * x.binds.length + 2 ^ 8 * x.tki +
    2 ^ 15 * (windowsOf c t).length
  | 0xF04 => nat1 x.userCtr
  | _ => 0

/-- What an aligned 32-bit read at an offset of tenant `t`'s page returns: 0 for a tenant in NONE (R323, R550), and 0 for the
counters through the LD BAR unless USER_CTR is 1 (R336). -/
def readPage (c : Chip) (path : Path) (t o : Nat) : Word :=
  let x := c.tenant t
  let counters : Bool := match path with
    | .ld u => u == t && x.userCtr
    | .endpoint => true
    | .firmware | .mctp | .console => false
  if x.state = .none then 0
  else if o < 0x1000 then BitVec.ofNat 32 (ringPage c t o)
  else if !counters then 0
  else BitVec.ofNat 32 ((counterPage x).getD ((o - 0x1000) / 8) 0 / (if o % 8 = 4 then 2 ^ 32 else 1))

end Sys2Proof.Machine
end

