-- ==== Sys2Proof/Machine/Groups.lean ====
section
/-!
DEFINITION. Commit groups (13_commit_admission.md): the staged items and their end state, the check (R371–R373), arming (R374–R376),
the Capo's apply (R377–R380), leases and the group commands (R362–R369).
-/
namespace Sys2Proof.Machine

/-! ### Staged items -/

/-- A staged command's own checks on a state. -/
def itemCheck (c : Chip) (op : Nat) (d : Desc) : Option Status :=
  if op = 0x0100 then portConfigCheck d
  else if op = 0x0104 then portShaperSetCheck d
  else if op = 0x0108 then perstMapCheck c d
  else if op = 0x0110 then vcsCreateCheck c d
  else if op = 0x0111 then vcsDestroyCheck c d
  else if op = 0x0112 then vppbBindCheck c d
  else if op = 0x0113 then vppbUnbindCheck c d
  else if op = 0x0120 then laneConfigCheck d
  else if op = 0x0140 then stvLinkConfigCheck d
  else if op = 0x0150 then gateListSetCheck c d
  else if op = 0x0160 then fabricIdSetCheck c d
  else if op = 0x0202 then tenantSetCheck c d
  else if op = 0x0203 then tenantBindCheck c d
  else if op = 0x0204 then tenantUnbindCheck c d
  else if op = 0x021A then windowGrowCheck c d
  else if op = 0x021B then windowShrinkCheck c d
  else if op = 0x021C then windowSetCheck c d
  else if op = 0x0240 then sc0FlowAddCheck c d
  else if op = 0x0241 then (if d.zeroBut [] then none else some .badParam)
  else if op = 0x0500 then ctrConfigCheck c d
  else if op = 0x0502 then dumpScheduleCheck c d
  else if op = 0x0600 then faultSeverityCheck d
  else if op = 0x0601 then faultReactionCheck d
  else if op = 0x0603 then errOutConfigCheck d
  else if op = 0x0700 then rungSetCheck d
  else if op = 0x0701 then loopBoundsCheck d
  else if op = 0x0710 then slotConfigCheck c d
  else if op = 0x0901 then sliceTestConfigCheck d
  else if op = 0x0A01 then timeConfigCheck c d
  else if op = 0x0B02 then agentBindCheck c d
  else if op = 0x0B04 then agentRemoveCheck c d
  else if op = 0x0B10 then hbmReserveCheck d
  else if op = 0x0B11 then lcConfigCheck c d
  else none

/-- What a staged command changes in the core cycle of the apply. `r`: the ring that staged it. -/
def itemDo (c : Chip) (op r : Nat) (d : Desc) : Chip :=
  if op = 0x0100 then portConfigDo c d
  else if op = 0x0104 then portShaperSetDo c d
  else if op = 0x0108 then perstMapDo c d
  else if op = 0x0110 then vcsCreateDo c d
  else if op = 0x0111 then vcsDestroyDo c d
  else if op = 0x0112 then vppbBindDo c d
  else if op = 0x0120 then laneConfigDo c d
  else if op = 0x0140 then flowsRetimed (stvLinkConfigDo c d)
  else if op = 0x0150 then gateListSetDo c d
  else if op = 0x0160 then flowsRetimed (fabricIdSetDo c d)
  else if op = 0x0202 then tenantSetDo c d
  else if op = 0x0203 then tenantBindDo c d
  else if op = 0x0204 then tenantUnbindDo c d
  else if op = 0x021A then windowGrowDo c d
  else if op = 0x021C then windowSetDo c d
  else if op = 0x0240 then sc0FlowAddDo c d
  else if op = 0x0241 then sc0FlowRemoveDo c d
  else if op = 0x0500 then ctrConfigDo c d
  else if op = 0x0502 then dumpScheduleDo c r d
  else if op = 0x0600 then faultSeverityDo c d
  else if op = 0x0601 then faultReactionDo c d
  else if op = 0x0603 then errOutConfigDo c d
  else if op = 0x0700 then rungSetDo c d
  else if op = 0x0701 then loopBoundsDo c d
  else if op = 0x0710 then slotConfigDo c d
  else if op = 0x0901 then sliceTestConfigDo c d
  else if op = 0x0A01 then timeConfigSet c d
  else if op = 0x0B02 then agentBindDo c d
  else if op = 0x0B04 then agentRemoveDo c d
  else if op = 0x0B10 then hbmReserveDo c d
  else if op = 0x0B11 then lcConfigDo c d
  else c

/-- The further work that a staged command starts once its group has applied (R380); it ends `x`. `old`: the state before. -/
def itemGo (old c : Chip) (x : CmdRef) (d : Desc) : Chip :=
  let op := x.opcode
  if op = 0x0100 then portConfigGo old c x d
  else if op = 0x0108 then perstMapGo old c x d
  else if op = 0x0112 then vppbBindGo c x d
  else if op = 0x0113 then vppbUnbindGo c x d
  else if op = 0x0120 then laneConfigGo old c x d
  else if op = 0x0140 then stvLinkConfigGo c x d
  else if op = 0x0150 then gateListSetEnd c x d
  else if op = 0x0203 then tenantBindGo c x d
  else if op = 0x021A then windowGrowGo c x d (old.window d.tgt).span
  else if op = 0x021B then windowShrinkGo c x d
  else if op = 0x0502 then dumpScheduleGo c x d
  else if op = 0x0603 then errOutConfigGo c x d
  else if op = 0x0700 then rungSetGo c x d
  else if op = 0x0701 then loopBoundsGo c x d
  else if op = 0x0710 then slotConfigGo c x d
  else if op = 0x0A01 then endCmd (syncUseEnds c) x .ok
  else endCmd c x .ok

/-- The RWC fields of a register take the value staged. -/
def rwcSet (c : Chip) (r : Reg) (v : Nat) : Chip :=
  match r with
  | .portCtl p => c.modPort p (fun y => portCtlFields y v)
  | .perstIn i => inMapSet c i (v % 128) (bitOf v 7)
  | .perstOut j => outMapSet c j (v % 128) (bitOf v 7) (c.pOut j).force
  | .laneCtl n => c.modLane n (fun x => { x with preset := v % 8, exclude := bitOf v 3 })
  | .courseCfg k => c.modCourse k (fun x => { x with errLimit := field v 3 16 })
  | .fretCtl x => c.modArb x (fun a => { a with select := bitOf v 1, active := bitOf v 1, enable := bitOf v 2 })
  | .ctrCfg i n => c.setCounter i (cfgWord (c.counter i) n v)
  | .moverCfg =>
    let n := v % 16
    let s := field v 4 3
    let old := 16 - c.mov.autoEng
    let good : Bool := decide (1 ≤ n) && decide (n ≤ 8)
    let keep := (List.range 16).filter (fun e => good && decide (old ≤ e) && decide (e < 16 - n) &&
      ((jobOf c e).any (fun j => j.auto.isSome)))
    let c := keep.foldl (fun c e => c.setEngine e { c.engine e with auto := true }) c
    { c with mov := { c.mov with autoEng := if good then n else c.mov.autoEng, autoSc := if s = 0 then c.mov.autoSc else s } }
  | .moverRate => { c with mov := { c.mov with autoRate := v % 2 ^ 28 } }
  | .rungCtl i => c.setRung i { c.rung i with deepest := v % 8 }
  | .stvCtl l => flowsRetimed (c.modLink l (fun x => stvCtlSet x v))
  | _ => c

/-- What a register's new value sets off. A bank switch or a change of ENABLE lets the arbiter decide again (R107). -/
def rwcGo (old c : Chip) (r : Reg) : Chip :=
  match r with
  | .portCtl p => portCtlGo c p (old.port p)
  | .perstIn i => inMapGo old c i
  | .laneCtl n => excluded old c n
  | .fretCtl x =>
    let a := c.arb x
    let b := old.arb x
    bankSwitch (c.setArb x { a with active := b.active, enable := b.enable }) x a.active a.enable
  | .rungCtl i => rungBoundGo c i
  | .stvCtl l => rateBoundsGo c l
  | _ => c

/-- The RWC fields of a register hold values that the register takes. -/
def rwcOk (c : Chip) (r : Reg) : Bool :=
  match r with
  | .portCtl p => portCtlOk (Nat.land (portCtl c p) 0x3FFFC)
  | .perstIn i => let x := c.pIn i; !x.valid || mapOk c false i x.port
  | .perstOut j => let x := c.pOut j; !x.valid || mapOk c true j x.port
  | .courseCfg k => (c.course k).errLimit != 0
  | .ctrCfg i _ => counterOk i (c.counter i)
  | .rungCtl i => deepestOk i (c.rung i).deepest
  | .stvCtl l => stvCtlOk (regLive c (.stvCtl l))
  | _ => true

/-- One staged item on a state. -/
def applyItem (c : Chip) (i : Item) : Chip :=
  match i with
  | .cmd op r d => itemDo c op r d
  | .reg o v => match regAt o with
    | some r => rwcSet c r v.toNat
    | none => c

/-- The end state of a list of items (R371). -/
def endState (c : Chip) (is : List Item) : Chip := is.foldl applyItem c

/-! ### The check (R371, R372) -/

/-- An opcode whose target its own effect removes. -/
def removes (op : Nat) : Bool := op == 0x0111 || op == 0x0241

/-- KIND 0x02: the target of an item is missing in the end state. -/
def targetMissing (c e : Chip) (i : Item) : Bool :=
  match i with
  | .cmd op _ d => !targetOk (if removes op then c else e) op d
  | .reg _ _ => false

/-- The objects that an item acts on. -/
def itemObjs (c : Chip) (i : Item) : List Obj :=
  match i with
  | .cmd op _ d => claimsOf c op d
  | .reg o _ => match regAt o with
    | some r => [rwcObj r]
    | none => []

/-- The TARGET of an item. -/
def itemTarget (i : Item) : Nat :=
  match i with
  | .cmd _ _ d => d.tgt
  | .reg o _ => o

/-- The lowest index of an item that acts on an object of item `i`. -/
def firstOn (c : Chip) (is : List Item) (i : Item) : Nat :=
  (is.findIdx? (fun j => (itemObjs c j).any (fun o => (itemObjs c i).contains o))).getD 0xFFFF

/-- The lowest index of an item that changes what a check of KIND `k` on object `o` reads, from `n` on. -/
def firstChange (k o : Nat) : Chip → List Item → Nat → Nat
  | _, [], _ => 0xFFFF
  | c, i :: t, n =>
    let e := applyItem c i
    if subject k o c = subject k o e then firstChange k o e t (n + 1) else n

/-- The first target missing in the end state, lowest TARGET first. -/
def missingTarget (c e : Chip) (is : List Item) : Option (Nat × Refuse) :=
  let bad := (is.filter (targetMissing c e)).mergeSort (fun a b => decide (itemTarget a ≤ itemTarget b))
  bad.head?.map (fun i => (firstOn c is i, { status := .checkFailed, kind := 0x02, obj := itemTarget i }))

/-- The own checks of one item, on the live state with every other item applied; a register's on the end state (R370, R371). -/
def ownFailure (c e : Chip) (is : List Item) (n : Nat) : Option Refuse :=
  match is.getD n default with
  | .cmd op _ d =>
    let own := (itemCheck (endState c (is.eraseIdx n)) op d).orElse (fun _ =>
      if op = 0x0241 then sc0FlowRemoveEnd c e d else none)
    own.map (fun st =>
      if st = .noSuchTarget then { status := .checkFailed, kind := 0x02, obj := d.tgt }
      else if st = .capacity ∧ op = 0x0203 then bindLimit else { status := st, kind := 0, obj := d.tgt })
  | .reg o _ => match regAt o with
    | some r => if rwcOk e r then none else some { status := .badParam, kind := 0, obj := o }
    | none => none

/-- The first item whose own checks fail. -/
def ownFailures (c e : Chip) (is : List Item) : Option (Nat × Refuse) :=
  (List.range is.length).findSome? (fun n => (ownFailure c e is n).map (fun f => (n, f)))

/-- R371: the first failure of a group's check with its INDEX (R372); none: the check passes. -/
def groupFail (c : Chip) (id : Nat) : Option (Nat × Refuse) :=
  let is := (c.group id).items
  let e := endState c is
  let named : Refuse → Nat × Refuse := fun f => (firstChange f.kind f.obj c is 0, f)
  match (structural c e).find? (fun f => f.kind == 0x01) with
  | some f => some (named f)
  | none => match (missingTarget c e is).orElse (fun _ => ownFailures c e is) with
    | some f => some f
    | none => (admitFail c e id).map named

/-! ### Group commands (Table 13.1) -/

/-- GROUP_OPEN (R362, R369). -/
def groupOpen (r : Nat) (d : Desc) (c : Chip) : Chip :=
  runCmd 0x0300 (fun c x =>
    let id := d.tgt
    let lease := if d.u32 16 = 0 then 10000 else d.u32 16
    let g := c.group id
    let open_ := (c.grp.groups.filter (fun y => y.2.state != .none)).map (·.2)
    if !d.zeroBut [(16, 4)] ∨ id = 0 ∨ id = 0xFFFFFFFF ∨ 600000 < lease then refuse c x .badParam
    else if g.state ≠ .none then refuse c x (if g.owner = x.ring then .busy else .lockHeld)
    else if 64 ≤ open_.length ∨ 4 ≤ (open_.filter (fun y => y.owner == x.ring)).length then refuse c x .capacity
    else
      let c := c.setGroup id { state := .opened, owner := x.ring, expiry := c.now + ms lease }
      let k := c.grp
      let c := { c with grp := { c.grp with discGroup := 0, discCause := 0, discRing := 0, discCount := 0 } }
      endCmd c x .ok (leBytes 4 k.discGroup ++ leBytes 1 k.discCause ++ leBytes 2 k.discRing ++ leBytes 1 k.discCount)) r d c

/-- The status with which a command on a group ends that its state table does not take (R363, R364). -/
def groupRefusal (c : Chip) (x : CmdRef) (managerToo : Bool) (states : List GState) : Option Status :=
  let g := c.group x.target
  if g.state = .none then some .noSuchTarget
  else if g.owner ≠ x.ring ∧ !(managerToo ∧ isManager x.ring) then some .lockHeld
  else if !states.contains g.state then some .busy
  else none

/-- BANK_LOCKED of the arbiters whose SELECT a group writes, from its check on (R99, R108). -/
def lockBanks (c : Chip) (id : Nat) : Chip :=
  (c.group id).items.foldl (fun c i => match i with
    | .cmd _ _ _ => c
    | .reg o _ => match regAt o with
      | some (.fretCtl x) => c.modArb x (fun a => { a with locked := true })
      | _ => c) c

/-- A check starts (R373). -/
def beginCheck (c : Chip) (x : CmdRef) (st : GState) (asked : Nat) : Chip :=
  let n := c.grp.nextOrder
  let c := c.modGroup x.target (fun g => { g with state := st, cmd := some x, asked := asked, order := n })
  lockBanks { c with grp := { c.grp with nextOrder := n + 1 } } x.target

/-- GROUP_CHECK. -/
def groupCheck (r : Nat) (d : Desc) (c : Chip) : Chip :=
  runCmd 0x0301 (fun c x =>
    if !d.zeroBut [] then refuse c x .badParam
    else match groupRefusal c x false [.opened] with
      | some st => refuse c x st
      | none => beginCheck c x .checking 0) r d c

/-- GROUP_COMMIT (R374). -/
def groupCommit (r : Nat) (d : Desc) (c : Chip) : Chip :=
  runCmd 0x0302 (fun c x =>
    let at_ := d.u64 16
    if !d.zeroBut [(16, 8)] then refuse c x .badParam
    else match groupRefusal c x false [.opened] with
      | some st => refuse c x st
      | none =>
        if at_ ≠ 0 ∧ c.ft.mode = .free then refuse c x .notPermitted
        else if c.now + sec 60 < at_ then refuse c x .badParam
        else beginCheck c x .committing at_) r d c

/-- An applied group with this ID whose GROUP_COMMIT has not ended, and which the ring may name. -/
def tailOf (c : Chip) (x : CmdRef) : Bool :=
  c.grp.tails.any (fun t => (match t.2.cmd with
    | some y => y.target == x.target
    | none => false) && (t.2.owner == x.ring || isManager x.ring))

/-- GROUP_DISCARD (R368); OK_LATE_ABORT once the apply has won (R379). -/
def groupDiscard (r : Nat) (d : Desc) (c : Chip) : Chip :=
  runCmd 0x0303 (fun c x =>
    if !d.zeroBut [] then refuse c x .badParam
    else match groupRefusal c x true [.opened, .checking, .committing, .armed] with
      | some st => refuse c x (if st = .noSuchTarget ∧ tailOf c x then .okLateAbort else st)
      | none => endCmd (dropGroup c x.target) x .ok) r d c

/-- Group states as GROUP_QUERY reports them, in the order of Table 13.2. -/
def GState.code : GState → Nat
  | .none => 0
  | .opened => 1
  | .checking => 2
  | .committing => 3
  | .armed => 4

/-- An item as GROUP_QUERY writes it. -/
def itemValues (i : Item) : List Nat :=
  match i with
  | .cmd op _ d => [op, d.tgt, d.tag.toNat]
  | .reg o v => [0xFFFF, o, v.toNat]

/-- GROUP_QUERY. -/
def groupQuery (r : Nat) (d : Desc) (c : Chip) : Chip :=
  runCmd 0x0304 (fun c x =>
    if !d.zeroBut [(16, 12)] ∨ !d.bufferOk x.ring then refuse c x .badParam
    else match groupRefusal c x true [.opened, .checking, .committing, .armed] with
      | some st => refuse c x st
      | none =>
        let g := c.group x.target
        endQuery c x d (Config.queryBytes 0x0304)
          (openFields ([g.state.code, g.owner, g.expiry, g.cmds, g.regs] ++ g.items.flatMap itemValues ++
           g.claims.flatMap (fun o => [o.kind.ctorIdx, o.index]) ++ [g.asked, g.applyAt]))) r d c

/-- GROUP_RENEW (R367). -/
def groupRenew (r : Nat) (d : Desc) (c : Chip) : Chip :=
  runCmd 0x0305 (fun c x =>
    let lease := d.u32 16
    if !d.zeroBut [(16, 4)] ∨ lease = 0 ∨ 600000 < lease then refuse c x .badParam
    else match groupRefusal c x false [.opened, .checking, .committing] with
      | some st => refuse c x st
      | none =>
        let n := c.now + ms lease
        endCmd (c.modGroup x.target (fun g => { g with expiry := n })) x .ok (leBytes 8 n)) r d c

/-! ### Checks, arming and apply -/

/-- The group whose check runs: the one that started first (R373). -/
def runningCheck (c : Chip) : Option Nat :=
  ((c.grp.groups.filter (fun g => g.2.state == .checking || g.2.state == .committing)).foldl
    (fun (b : Option (Nat × Nat)) g => match b with
      | none => some (g.1, g.2.order)
      | some (i, o) => if g.2.order < o then some (g.1, g.2.order) else some (i, o)) none).map (·.1)

/-- The instant at which a group that is armed now applies (R374). -/
def applyInstant (c : Chip) (asked : Nat) : Nat :=
  if asked = 0 then (c.now / quantum + 1) * quantum else ceilDiv asked quantum * quantum

/-- A check or a commit ends without an apply: the group is OPEN (Table 13.2). -/
def reopen (c : Chip) (id : Nat) (st : Status) (res : List Byte) : Chip :=
  let g := c.group id
  let c := c.setGroup id { g with state := .opened, cmd := none }
  match g.cmd with
  | some x => endCmd c x st res
  | none => c

/-- The group is ARMED: its reservations are held and its lease reaches past its apply instant (R367, R373, R376). -/
def armGroup (c : Chip) (id at_ : Nat) : Chip :=
  let g := c.group id
  let n := c.grp.nextOrder
  let g' := reservation c (endState c g.items) g
  let c := c.setGroup id { g' with state := .armed, applyAt := at_, due := at_, order := n, expiry := max g.expiry (at_ + quantum) }
  { c with grp := { c.grp with nextOrder := n + 1 } }

/-- GROUP_CHECK_END (R364, R371–R376): the running check ends, with the arming of a commit. `storage` is the block
whose storage was found in error while loading (R376). -/
def groupCheckEnd (group : Nat) (storage : Option Nat) (c : Chip) : Chip :=
  if !c.rst.running ∨ runningCheck c ≠ some group then c
  else match groupFail c group with
    | some (n, f) => reopen c group f.status (f.bytes n)
    | none =>
      if (c.group group).state = .checking then reopen c group .ok []
      else
        match storage with
        | some b =>
          let f : Refuse := { status := .checkFailed, kind := 3, obj := b, need := 0, have_ := 0 }
          reopen (raise c 226) group f.status (f.bytes 0xFFFF)
        | none =>
          let at_ := applyInstant c (c.group group).asked
          if at_ ≤ c.now then reopen c group .staleTime [] else armGroup c group at_

/-- The group that the Capo applies in this core cycle (R378). -/
def dueGroup (c : Chip) : Option Nat :=
  let before : Group → Group → Bool := fun a b =>
    if a.skipped != b.skipped then a.skipped
    else if a.skipped && a.applyAt != b.applyAt then decide (a.applyAt < b.applyAt)
    else decide (a.order < b.order)
  ((c.grp.groups.filter (fun g => g.2.state == .armed && decide (g.2.due ≤ c.now))).foldl
    (fun (b : Option (Nat × Group)) g => match b with
      | none => some g
      | some y => if before g.2 y.2 then some g else some y) none).map (·.1)

/-- What stops a staged command at the apply: something that no group claims has gone to another use since the check. -/
def applyRefusal (c : Chip) (op : Nat) (d : Desc) : Option Status :=
  if [0x0108, 0x0112, 0x0203, 0x021A, 0x0502, 0x0B02, 0x0B04].contains op then itemCheck c op d else none

/-- The items of a group become live in order; those that cannot are returned with their status (R377). -/
def applyItems : List Item → Chip → Nat → Chip × List (Nat × Status)
  | [], c, _ => (c, [])
  | i :: t, c, n =>
    let stop := match i with
      | .cmd op _ d => applyRefusal c op d
      | .reg _ _ => none
    match stop with
    | some st => let (c, l) := applyItems t c (n + 1); (c, (n, st) :: l)
    | none => applyItems t (applyItem c i) (n + 1)

/-- The registers that a group wrote, each once. -/
def regsWritten (is : List Item) : List Reg :=
  is.foldl (fun l i => match i with
    | .cmd _ _ _ => l
    | .reg o _ => match regAt o with
      | some r => addOnce l r
      | none => l) []

/-- The further work of the items (R380); `k` is the key of the group's tail. -/
def startWork (old : Chip) (k : Nat) (stopped : List (Nat × Status)) : List Item → Chip → Nat → Chip
  | [], c, _ => c
  | i :: t, c, n =>
    let c := match i with
      | .reg _ _ => c
      | .cmd op r d =>
        let x : CmdRef := { ring := r, tag := d.tag, opcode := op, target := d.tgt, group := k, item := n }
        match stopped.find? (fun s => s.1 == n) with
        | some s => endCmd c x s.2
        | none => itemGo old c x d
    startWork old k stopped t c (n + 1)

/-- The Capo applies a group (R377–R380). -/
def applyGroup (c : Chip) (id : Nat) : Chip :=
  let g := c.group id
  let old := c
  let late := decide (g.due + quantum < c.now)
  let tail : Group := { g with state := .none, claims := [], applied := c.now, count := g.items.length, left := g.cmds, late := late }
  let c := clearGroup c id
  let c := { c with grp := { c.grp with tails := c.grp.tails.put g.order tail, capoLast := c.ft.count, cycle := some c.ivl,
                                        lateSeen := c.grp.lateSeen || late } }
  let (c, stopped) := applyItems g.items c 0
  let c := logRecord c { kind := .groupApplied, detail := [id, c.now] }
  let c := if late then raise c 225 (groupInfo id) else c
  let c := (regsWritten g.items).foldl (fun c r => rwcGo old c r) c
  startWork old g.order stopped g.items c 0

/-- GROUP_APPLY (R377, R378): at most one group in a core cycle. -/
def groupApply (c : Chip) : Chip :=
  if !c.rst.running ∨ c.grp.cycle = some c.ivl then c
  else match dueGroup c with
  | none => c
  | some id => applyGroup c id

/-- The result of GROUP_COMMIT (Table 13.5). -/
def commitResult (g : Group) : List Byte :=
  let bad : Nat × Nat := match g.firstBad with
    | none => (0xFFFF, 0)
    | some (i, st) => (i, st.code)
  leBytes 8 g.applied ++ leBytes 2 g.count ++ leBytes 2 bad.1 ++ leBytes 2 bad.2 ++ leBytes 1 (nat1 g.basePast + 2 * nat1 g.late)

/-- GROUP_COMMIT_END (R380): every piece of further work has ended. -/
def groupCommitEnd (group : Nat) (c : Chip) : Chip :=
  match c.grp.tails.find? (fun t => t.2.left == 0 && (match t.2.cmd with
      | some x => x.target == group
      | none => false)) with
  | none => c
  | some (k, g) =>
    let c := { c with grp := { c.grp with tails := c.grp.tails.del k } }
    match g.cmd with
    | some x => endCmd c x (if g.basePast then .okBasePast else .ok) (commitResult g)
    | none => c

/-- GROUP_LEASE_EXPIRE (R367). -/
def groupLeaseExpire (group : Nat) (c : Chip) : Chip :=
  if c.rst.running ∧ (c.group group).state ≠ .none ∧ (c.group group).expiry ≤ c.now then discardGroup c group 2 else c

end Sys2Proof.Machine
end

