-- ==== Sys2Proof/Machine/Abort.lean ====
section
/-!
DEFINITION. Ending commands early (12_command_interface.md): ABORT (R352, R353) and the end of the commands that a block reset of the
management complex met (R360).
-/
namespace Sys2Proof.Machine

/-- The abortable commands (R352). -/
def abortable (op : Nat) : Bool := [0x0410, 0x0411, 0x0412, 0x0413, 0x0414, 0x0122, 0x0123, 0x0B03, 0x0900, 0x0301].contains op

/-- A command ends with ABORTED and its progress. -/
def endAborted (c : Chip) (x : CmdRef) (progress : Nat) (tag : Word) : Chip := endCmd c x .aborted (abortedResult progress tag)

/-- LANE_TEST is aborted: the lane is out of test; its progress is the bits checked. -/
def abortLaneTest (c : Chip) (n : Nat) (tag : Word) : Chip :=
  match (c.lane n).test with
  | none => c
  | some y => let r := cutTest c n; endAborted r.1 y r.2 tag

/-- LANE_MARGIN is aborted; the steps completed are free. -/
def abortMargin (c : Chip) (n : Nat) (tag : Word) : Chip :=
  let x := c.lane n
  match x.margin with
  | none => c
  | some y => let p := c.freeNat; endAborted (c.usedFree.setLane n { x with margin := none }) y p tag

/-- AGENT_UNBIND is aborted: the agent stays bound and the lines it holds stay held (R353). -/
def abortUnbind (c : Chip) (d : Nat) (x : CmdRef) (tag : Word) : Chip :=
  match (c.domain d).agents.find? (fun a => match a.2.unbind with
      | some u => (match u.cmd with
        | some y => y.ring == x.ring && sameCmd y x
        | none => false)
      | none => false) with
  | none => c
  | some (a, y) =>
    let n := (y.unbind.map (·.flushed)).getD 0
    endAborted (c.modAgent d a (fun y => { y with unbind := none })) x n tag

/-- GROUP_CHECK is aborted: the group is OPEN (Table 13.2); the items checked are free. -/
def abortCheck (c : Chip) (id : Nat) (tag : Word) : Chip :=
  let g := c.group id
  match g.state, g.cmd with
  | .checking, some x =>
    let p := c.freeNat % (g.items.length + 1)
    endAborted (c.usedFree.setGroup id { g with state := .opened, cmd := none }) x p tag
  | _, _ => c

/-- The running command `x` is aborted (R353). -/
def abortRunning (c : Chip) (x : CmdRef) (tag : Word) : Chip :=
  if x.opcode = 0x0122 then abortLaneTest c x.target tag
  else if x.opcode = 0x0123 then abortMargin c x.target tag
  else if x.opcode = 0x0B03 then abortUnbind c x.target x tag
  else if x.opcode = 0x0900 then
    (match c.test.running.bind (·.cmd) with
     | some y => if y.ring = x.ring ∧ sameCmd y x then abortTest c y tag else c
     | none => c)
  else if x.opcode = 0x0301 then abortCheck c x.target tag
  else match jobByTag c x.ring x.tag with
    | some j => abortJob c j tag false
    | none => c

/-- ABORT (R352): it writes no event when it finds its target. -/
def abort (r : Nat) (d : Desc) (c : Chip) : Chip :=
  runCmd 0x0400 (fun c x =>
    let tag : Word := BitVec.ofNat 32 (d.u32 16)
    let running := (c.ring (ringKey d.tgt)).flight.filter (fun f => f.started && f.cmd.tag == tag && !sameCmd f.cmd x)
    if !d.zeroBut [(16, 4)] then refuse c x .badParam
    else match running with
      | [] => refuse c x .noSuchTarget
      | f :: _ =>
        if !abortable f.cmd.opcode then refuse c x .badParam
        else abortRunning (leaveRing c x) { f.cmd with ring := d.tgt } x.tag) r d c

/-- A command that the block reset of the management complex met, once firmware is ready again (R360). -/
def endRestarted (c : Chip) (ring : Nat) (f : InFlight) : Chip :=
  let x : CmdRef := { f.cmd with ring := ring }
  if !f.restarted then c
  else if !f.started then endCmd c x .busy
  else if !abortable f.cmd.opcode then c
  else if (jobByTag c ring f.cmd.tag).any (fun j => j.ended) then c
  else abortRunning c x 0

/-- The rings whose commands the reset met, by ring number. -/
def restartedRings (c : Chip) : List Nat :=
  (c.rings.rings.filter (fun r => r.2.flight.any (·.restarted))).map (fun r => if r.1 ≥ 8192 then r.1 else 2 * r.1)

/-- MGMT_FW_READY (R360, R489, R496): the management firmware is ready, after a block reset or at a trial start. -/
def mgmtFwReady (c : Chip) : Chip :=
  if !c.rst.running ∨ !(c.rings.mgmtReset ∨ c.sec.bootWait.isSome) then c
  else
    let c := { c with rings := { c.rings with mgmtReset := false, fwReady := true },
                      sec := { c.sec with readyAt := some c.ivl, bootWait := none, actWait := none },
                      rst := { c.rst with cold := false } }
    let rs := restartedRings c
    let c := rs.foldl (fun c r => (c.ring (ringKey r)).flight.foldl (fun c f => endRestarted c r f) c) c
    let c := rs.foldl (fun c r => raise c 212 (ringInfo r)) c
    deliverQueue c

end Sys2Proof.Machine
end

