-- ==== Sys2Proof/Machine/Registers.lean ====
section
/-!
DEFINITION. Register accesses (23_register_map.md): the latching reads (R37, R480, R540), writes under the field maps and the access
types (R7, R8, R539, R541, R542, R547, R549, R550), writes to staged and claimed state (R543, R544), counter clears (R546).
-/
namespace Sys2Proof.Machine

/-! ### Latching reads -/

/-- FT_NOW_LO_READ (R37, R540): the count, and its upper half into the path's FT_NOW_HI. -/
def ftNowLoRead (path : Path) (c : Chip) : Chip :=
  if !pathOpen c path then c
  else
    let c := { c with ft := { c.ft with latch := c.ft.latch.put path.latch (BitVec.ofNat 32 (c.now / 2 ^ 32)) } }
    c.emit (.readData path c.ft.count)

/-- REG_PAIR_LO_READ (R540): a read of the LO half of a pair of BAR0. -/
def regPairLoRead (path : Path) (offset : Nat) (c : Chip) : Chip :=
  match regAt offset with
  | none => c
  | some r =>
    if !r.isLo ∨ !pathOpen c path then c
    else if r = .ftNow false then ftNowLoRead path c
    else if !regExists c r then c.emit (.readData path 0)
    else
      let v := regValue c r
      let k := c.regs.latches.put (latchKey path (offset + 4)) (BitVec.ofNat 32 (v / 2 ^ 32))
      { c with regs := { c.regs with latches := k } }.emit (.readData path (BitVec.ofNat 64 v))

/-- PORT_BW_IN_LO_READ (R480). -/
def portBwInLoRead (path : Path) (port : Nat) (c : Chip) : Chip :=
  if 128 ≤ port ∨ !pathOpen c path then c
  else
    let b := c.ctr.bw.look port
    let rest : List Word := [BitVec.ofNat 32 (b.inLast.toNat / 2 ^ 32), BitVec.ofNat 32 b.outLast.toNat,
                             BitVec.ofNat 32 (b.outLast.toNat / 2 ^ 32), b.index]
    { c with ctr := { c.ctr with bwLatch := c.ctr.bwLatch.put (path.latch * 128 + port) rest } }.emit (.readData path b.inLast)

/-! ### Writes to staged and claimed state -/

/-- An ignored write is recorded in ACCESS_ERR if it came through the management endpoint. -/
def recordErr (c : Chip) (path : Path) (bar2 : Bool) (off cause : Nat) : Chip :=
  if path = .endpoint then accessErr c bar2 off cause else c

/-- R543, R544: RWC_REFUSED, with its cause. -/
def rwcRefuse (c : Chip) (path : Path) (off cause : Nat) : Chip :=
  recordErr { c with grp := { c.grp with rwcRefused := true } } path false off cause

/-- The group that CAPO_REG_GROUP names, if it is OPEN and owned by ring 0 (R370). -/
def regGroup (c : Chip) : Option Nat :=
  let id := c.grp.regGroup.toNat
  if id ≠ 0 ∧ (c.group id).state = .opened ∧ (c.group id).owner = 0 then some id else none

/-- R543 case 1: the object is claimed by a group other than the one CAPO_REG_GROUP names. -/
def claimedElsewhere (c : Chip) (o : Obj) : Bool := heldByOther c [o] c.grp.regGroup.toNat

/-- R543 cases 2 and 3: the RWC fields are staged into the named group, or ignored. At the limit of R370 they are ignored. -/
def stageReg (c : Chip) (path : Path) (r : Reg) (off v : Nat) : Chip :=
  match regGroup c with
  | none => rwcRefuse c path off 3
  | some id =>
    if 4096 ≤ (c.group id).regs then { c with grp := { c.grp with rwcRefused := true } }
    else
      let w : Word := BitVec.ofNat 32 v &&& BitVec.ofNat 32 (rwcMask r)
      let c := c.modGroup id (fun g => { g with items := g.items ++ [Item.reg off w], claims := addOnce g.claims (rwcObj r) })
      { c with grp := { c.grp with shadow := c.grp.shadow.put off (some w) } }

/-- R544: a write to FRET_BANK or ARB_PRIO claims the arbiter for the named group. -/
def claimArb (c : Chip) (x : Nat) : Chip :=
  match regGroup c with
  | none => c
  | some id => c.modGroup id (fun g => { g with claims := addOnce g.claims { kind := .arbiter, index := x } })

/-- FRET_BANK[x][s] takes a value (R99). Slots that a parity error opened follow the table again once the bank is written (Table 4.7). -/
def fretSet (c : Chip) (x s : Nat) (v : Word) : Chip :=
  let a := c.arb x
  let put2 : Tbl (BitVec 16) → Tbl (BitVec 16) := fun t =>
    (t.putD (fretDefault x (2 * s)) (2 * s) (v.extractLsb' 0 16)).putD (fretDefault x (2 * s + 1)) (2 * s + 1) (v.extractLsb' 16 16)
  if a.view ∨ a.locked then c
  else if a.active then c.setArb x { a with bankA := put2 a.bankA, badA := [] }
  else c.setArb x { a with bankB := put2 a.bankB, badB := [] }

/-- ARB_PRIO[x][k] takes a value: decisions of the next cycle read it (R103). Of an arbiter of requesters 0–7 only k = 0 exists; of a pseudo-
channel's, k = 3 to 7 are RO 0 (R227). -/
def prioSet (c : Chip) (x k : Nat) (v : Word) : Chip :=
  if k ≠ 0 ∧ (x ≤ 37 ∨ (x ≤ 101 ∧ 2 < k)) then c
  else
    let v := if x ≤ 37 then v &&& 0x0FFFFFFF else v
    c.modArb x (fun a => { a with prio := a.prio.putD (prioDefault x k) k v, prioAt := c.ivl,
                                  prioOld := if a.prioAt = c.ivl then a.prioOld else a.prio })

/-- R544: a write to an arbiter's fret entries or priorities at an offset. -/
def arbWrite (c : Chip) (path : Path) (x off : Nat) (f : Chip → Chip) : Chip :=
  if claimedElsewhere c { kind := .arbiter, index := x } then rwcRefuse c path off 2 else f (claimArb c x)

/-- FRET_BANK_WRITE (R99, R544). -/
def fretBankWrite (path : Path) (x s : Nat) (v : BitVec 32) (c : Chip) : Chip :=
  if 102 ≤ x ∨ 256 ≤ s ∨ !pathOpen c path then c
  else arbWrite c path x (0x80000 + 0x800 * x + 4 * s) (fun c => fretSet c x s v)

/-- ARB_PRIO_WRITE (R103, R544). -/
def arbPrioWrite (path : Path) (x k : Nat) (v : BitVec 32) (c : Chip) : Chip :=
  if 102 ≤ x ∨ 8 ≤ k ∨ !pathOpen c path then c
  else arbWrite c path x (0x80410 + 0x800 * x + 4 * k) (fun c => prioSet c x k v)

/-! ### The fields that act at once -/

/-- A W1C bit: 1 clears it (R7). -/
abbrev w1c (b : Bool) (v i : Nat) : Bool := b && !bitOf v i

/-- ERR_OUT_CTL (R410): RELEASE acts; a MIN_WIDTH outside 1–10,000 is ignored. -/
def errOutWrite (c : Chip) (v : Nat) : Chip :=
  let w := field v 4 14
  let c := { c with flt := { c.flt with hold := bitOf v 0, force := bitOf v 3,
                                        minWidth := if 1 ≤ w ∧ w ≤ 10000 then w else c.flt.minWidth } }
  if bitOf v 1 then releasePin c else c

/-- A half of a 64-bit register takes a value. -/
def halfSet (q : DWord) (hi : Bool) (v : Nat) : DWord :=
  if hi then BitVec.ofNat 64 (q.toNat % 2 ^ 32 + 2 ^ 32 * (v % 2 ^ 32)) else BitVec.ofNat 64 (q.toNat / 2 ^ 32 * 2 ^ 32 + v % 2 ^ 32)

/-- The W1C bits of a register. -/
def Reg.w1cMask (r : Reg) : Nat :=
  match r with
  | .ftStatus | .portStatus _ => 2 ^ 19
  | .capoStatus => 3 * 2 ^ 8
  | .faultPend _ => 0xFFFF
  | .perstIn _ | .stvStatus _ => 2 ^ 9
  | .laneStatus _ => 7 * 2 ^ 12
  | .courseStatus _ => 2 ^ 6
  | .gateState _ | .dumpStatus _ => 2 ^ 2
  | .hsStatus _ => 2 ^ 22
  | .ctrStat _ => 1
  | .avsStatus => 2 ^ 23
  | .thermStatus => 2 ^ 18
  | .resetStatus => 2 ^ 4
  | .shutdownStatus => 2 ^ 3
  | .slotStatus _ => 7 * 2 ^ 19
  | _ => 0

/-- The W1C bits at an offset of a tenant page (Table 23.4). -/
def pageW1c (o : Nat) : Nat := if o = 0x10 then 7 * 2 ^ 2 else if o = 0xF00 then 2 ^ 3 else 0

/-- R8: a 1 written to a W1C bit that hardware sets in the same core cycle clears nothing. -/
def clearsLess (mask v held : Nat) : Nat := v ^^^ (v &&& held &&& mask)

/-- The fields of a register that act at once: RW, RWS, W1C and WO, and the counters that a write clears (R7). -/
def writeFields (c : Chip) (path : Path) (r : Reg) (v : Nat) : Chip :=
  match r with
  | .regView => { c with regs := { c.regs with live := bitOf v 0 } }
  | .accessErrCnt => { c with regs := { c.regs with errCnt := 0 } }
  | .ftStatus => { c with ft := { c.ft with stepped := w1c c.ft.stepped v 19 } }
  | .scratch => { c with regs := { c.regs with scratch := BitVec.ofNat 32 v } }
  | .capoGroup => { c with grp := { c.grp with regGroup := BitVec.ofNat 32 v } }
  | .capoStatus => { c with grp := { c.grp with rwcRefused := w1c c.grp.rwcRefused v 8, lateSeen := w1c c.grp.lateSeen v 9 } }
  | .faultSev i => (List.range 8).foldl (fun c j =>
      { c with flt := { c.flt with sev := c.flt.sev.putD (sevDef (8 * i + j)) (8 * i + j) (field v (4 * j) 3),
                                   badSev := c.flt.badSev.filter (· != 8 * i + j) } }) (cfgWrite c)
  | .faultReact n =>
    let c := cfgWrite c
    { c with flt := { c.flt with react := setAt c.flt.react n (v % 256), badReact := c.flt.badReact.filter (· != n) } }
  | .faultPend g => faultPendClear path g (BitVec.ofNat 32 v) c
  | .errOutCtl => errOutWrite c v
  | .faultCnt n => { c with flt := { c.flt with sources := c.flt.sources.upd n (fun s => { s with count := 0 }) } }
  | .mgrCmdBase h => { c with rings := { c.rings with mgrCmdBase := halfSet c.rings.mgrCmdBase h v } }
  | .mgrEvtBase h => { c with rings := { c.rings with mgrEvtBase := halfSet c.rings.mgrEvtBase h v } }
  | .mgrRingCfg => if bitOf v 10 then mgrRingEnable path (BitVec.ofNat 32 v) c else mgrRingDisable path (BitVec.ofNat 32 v) c
  | .mgmtPathCtl => if path = .endpoint then { c with rings := { c.rings with console := bitOf v 0 } } else c
  | .portCtl p => if bitOf v 18 then portCtlRetrain path p c else c
  | .portStatus p => c.modPort p (fun x => { x with degraded := w1c x.degraded v 19 })
  | .perstIn i => c.setPIn i { c.pIn i with seen := w1c (c.pIn i).seen v 9 }
  | .perstOut j => c.setPOut j (outLevel { c.pOut j with force := bitOf v 8 })
  | .laneCtl n =>
    let c := if bitOf v 4 then clrQuar path n c else c
    if bitOf v 5 then eqClear path n c else c
  | .laneStatus n => c.modLane n (fun x =>
      { x with losSeen := w1c x.losSeen v 12, unlockSeen := w1c x.unlockSeen v 13, limitSeen := w1c x.limitSeen v 14 })
  | .laneErr n => c.modLane n (fun x => { x with err := 0 })
  | .lanePrbs n =>
    let c := lanePrbsWrite path n (BitVec.ofNat 32 v) c
    let c := if bitOf v 8 then injectOne path n c else c
    if bitOf v 14 then prbsClr path n c else c
  | .courseStatus k => c.modCourse k (fun x => { x with failSeen := w1c x.failSeen v 6 })
  | .fretBank x s => fretSet c x s (BitVec.ofNat 32 v)
  | .fretCtl x => c.modArb x (fun a => { a with view := bitOf v 3 })
  | .arbPrio x k => prioSet c x k (BitVec.ofNat 32 v)
  | .gateState p => c.setGate p { c.gate p with basePast := w1c (c.gate p).basePast v 2 }
  | .hsStatus s => { c with home := { c.home with starveOvf := c.home.starveOvf.upd s (fun b => w1c b v 22) } }
  | .hbmCfg => { c with hbm := { c.hbm with scrubEn := bitOf v 10 } }
  | .ctrStat i => c.setCounter i { c.counter i with ovf := w1c (c.counter i).ovf v 0 }
  | .dumpStatus k => c.setSchedule k { c.schedule k with missSeen := w1c (c.schedule k).missSeen v 2 }
  | .avsStatus => { c with pow := { c.pow with busErr := w1c c.pow.busErr v 23 } }
  | .thermStatus => { c with pow := { c.pow with tripSeen := w1c c.pow.tripSeen v 18 } }
  | .resetStatus => { c with rst := { c.rst with seqSeen := w1c c.rst.seqSeen v 4 } }
  | .shutdownCtl => shutdownGo path (BitVec.ofNat 32 v) c
  | .shutdownStatus => { c with rst := { c.rst with refused := w1c c.rst.refused v 3 } }
  | .slotStatus n => c.modChan n (fun h =>
      { h with faultSeen := w1c h.faultSeen v 19, switchSeen := w1c h.switchSeen v 20, offVSeen := w1c h.offVSeen v 21 })
  | .stvCtl l =>
    let c := if bitOf v 6 then clrCnt path l c else c
    if bitOf v 5 then stvCtlRetrain path l c else c
  | .stvStatus l => c.modLink l (fun x => { x with restart := w1c x.restart v 9 })
  | .devId | .devRev | .serial _ | .fwVer _ | .cap _ | .configStatus | .accessErr | .ftNow _ | .capoNext _ | .capoLast _
  | .faultSummary | .prbsErr _ _ | .prbsBits _ _ | .courseCfg _ | .gateStart _ _ | .cohCfg | .pcStatus _ | .lcLoop _ | .ctrCfg _ _
  | .ctrVal _ _ | .bandwidth _ _ | .moverCfg | .moverRate | .engStatus _ | .engProg _ _ | .rungCtl _ | .strapStatus | .slotI _
  | .slotV _ | .slotP _ | .slotE _ _ | .slotFeed _ | .secStatus | .secSvn | .sliceTest | .bistLast | .stvSeq _ | .stvRxSeq _
  | .stvPeer _ _ | .stvEpoch _ | .stvDelay _ | .stvCnt _ _ => c

/-! ### One write -/

/-- The arbiter whose fret entries or priorities a register holds (R544). -/
def Reg.arbiter (r : Reg) : Option Nat :=
  match r with
  | .fretBank x _ | .arbPrio x _ => some x
  | _ => none

/-- A 32-bit write at an offset of BAR0 (R542–R544, R549). -/
def writeReg (c : Chip) (path : Path) (off v : Nat) : Chip :=
  match regAt off with
  | none => recordErr c path false off 1
  | some r =>
    if !regExists c r then recordErr c path false off 5
    else match r.arbiter with
      | some x => arbWrite c path x off (fun c => writeFields c path r v)
      | none =>
        if rwcMask r = 0 then writeFields c path r v
        else if claimedElsewhere c (rwcObj r) then rwcRefuse c path off 2
        else writeFields (stageReg c path r off v) path r v

/-- An offset of a tenant page that holds a register (Table 23.4). -/
def pageImplemented (o : Nat) : Bool := decide (o ≤ 0x14) || o == 0xF00 || o == 0xF04 || (decide (0x1000 ≤ o) && decide (o < 0x1050))

/-- A 32-bit write into the page of tenant `t` (Table 23.4, R550). -/
def writePage (c : Chip) (path : Path) (t o v : Nat) : Chip :=
  let off := 0x2000 * t + o
  if o = 0 then doorbell path t (BitVec.ofNat 32 v) c
  else if o = 4 then evtHeadWrite path t (BitVec.ofNat 32 v) c
  else if !pageImplemented o then recordErr c path true off 1
  else if (c.tenant t).state = .none then recordErr c path true off 5
  else if o = 0x10 then c.modRing t (fun r =>
    { r with dbErr := w1c r.dbErr v 2, fetchErr := w1c r.fetchErr v 3, evtErr := w1c r.evtErr v 4 })
  else if o = 0xF00 then c.modTenant t (fun x => { x with limitSeen := w1c x.limitSeen v 3 })
  else if o = 0xF04 then c.modTenant t (fun x => { x with userCtr := bitOf v 0 })
  else c

/-- The bytes of a BAR as a path sees it: through an LD BAR, one page (R316). -/
def barSize (path : Path) (bar2 : Bool) : Nat :=
  match path with
  | .ld _ => 0x2000
  | .endpoint | .firmware | .mctp | .console => if bar2 then 2 ^ 25 else 2 ^ 21

/-- A path reaches a BAR: BAR2 belongs to the management endpoint, a tenant's page of it to its LD BAR too (R316, R542). -/
def barOpen (c : Chip) (path : Path) (bar2 : Bool) : Bool :=
  match path with
  | .ld t => bar2 && c.rst.running && decide (t < 4096)
  | .endpoint => pathOpen c .endpoint
  | .firmware => !bar2 && c.rst.running
  | .mctp | .console => false

/-- The write of one 32-bit word of a BAR; `held` are the W1C bits that hardware sets in the same core cycle. -/
def writeWord (c : Chip) (path : Path) (bar2 : Bool) (off v held : Nat) : Chip :=
  if !bar2 then writeReg c path off (clearsLess (((regAt off).map Reg.w1cMask).getD 0) v held)
  else
    let page := match path with
      | .ld t => (t, off)
      | .endpoint | .firmware | .mctp | .console => (off / 0x2000, off % 0x2000)
    writePage c path page.1 page.2 (clearsLess (pageW1c page.2) v held)

/-- A write access (R539, R540): LO and then HI of an aligned 64-bit write. -/
def writeAccess (c : Chip) (path : Path) (a : RegAccess) : Chip :=
  if !barOpen c path a.bar2 ∨ barSize path a.bar2 ≤ a.offset then c
  else if !a.full ∨ a.offset % (if a.wide then 8 else 4) ≠ 0 then recordErr c path a.bar2 a.offset 0
  else
    let c := writeWord c path a.bar2 a.offset (a.value.toNat % 2 ^ 32) (a.held.toNat % 2 ^ 32)
    if a.wide then writeWord c path a.bar2 (a.offset + 4) (a.value.toNat / 2 ^ 32) (a.held.toNat / 2 ^ 32) else c

/-- REGISTER_WRITE. -/
def registerWrite (path : Path) (acc : RegAccess) (c : Chip) : Chip := writeAccess c path acc

/-- RWC_REGISTER_WRITE (R543): a write to a register with RWC fields. -/
def rwcRegisterWrite (path : Path) (acc : RegAccess) (c : Chip) : Chip :=
  match regAt (acc.offset / 4 * 4) with
  | none => c
  | some r => if acc.bar2 ∨ rwcMask r = 0 then c else writeAccess c path acc

/-- A counter that software clears takes an increment of the cycle (R546). -/
def counterAdd (c : Chip) (r : Reg) (n : Nat) : Chip :=
  match r with
  | .faultCnt i => { c with flt := { c.flt with sources := c.flt.sources.upd i (fun s => { s with count := min (s.count + n) 65535 }) } }
  | .laneErr i => c.modLane i (fun x => { x with err := min (x.err + n) 0xFFFFFFFF })
  | .accessErrCnt => { c with regs := { c.regs with errCnt := min (c.regs.errCnt + n) 0xFFFFFFFF } }
  | _ => c

/-- COUNTER_CLEAR_WRITE (R546): the clear comes before the increment of the same core cycle. -/
def counterClearWrite (path : Path) (acc : RegAccess) (incr : Nat) (c : Chip) : Chip :=
  match regAt (acc.offset / 4 * 4) with
  | none => c
  | some r => if acc.bar2 ∨ !pathOpen c path ∨ !regExists c r then c else counterAdd (writeAccess c path acc) r incr

end Sys2Proof.Machine
end

