-- ==== Sys2Proof/Machine/Reactions.lean ====
section
/-!
DEFINITION. What follows a command (the reactions that a raise sets off: R334, R367, R406–R408), and the core cycle in which the
block idles (R44, Table 19.1).
-/
namespace Sys2Proof.Machine

/-- TENANT_RESET (R331): a commit group that applies in the core cycle in which the reset begins applies first (R333). -/
def tenantReset (r : Nat) (d : Desc) (c : Chip) : Chip :=
  runCmd 0x0207 (fun c x =>
    if d.tgt = 0 then refuse c x .notPermitted
    else if !d.zeroBut [] then refuse c x .badParam
    else resetTenant (groupApply c) d.tgt 0 (some x)) r d c

/-- One reaction. A commit group that applies in the core cycle in which a tenant reset begins applies first (R333). -/
def react (c : Chip) (t : Todo) : Chip :=
  match t with
  | .block src info => blockReset (if infoKind info = 10 then groupApply c else c) src info
  | .raise src info => raise c src info
  | .ringError tenant => discardRing c (2 * tenant) 1
  | .faultAction tenant => applyFaultAction (groupApply c) tenant
  | .stopEnd key => endStop c key

/-- The reactions of the running command, oldest first, with those that they set off; at most `n` of them (none is left over,
notes/assumptions/11.md). -/
def settle : Nat → Chip → Chip
  | 0, c => { c with flt := { c.flt with todo := [] } }
  | n + 1, c => match c.flt.todo with
    | [] => c
    | t :: rest => settle n (react { c with flt := { c.flt with todo := rest } } t)

/-- The pins that the housekeeping die drives: while the fabric die runs, IRQ_OUT_N follows R409 (through a reset it keeps its level,
R411); ERR_OUT_N is low while its minimum width runs (R410). -/
def pins (c : Chip) : Chip :=
  let c := if c.rst.running then irqPin c else c
  { c with flt := { c.flt with errLow := c.flt.errLow || c.flt.errMin } }

/-- How many reactions one command may set off (notes/assumptions/11.md). -/
abbrev reactionLimit : Nat := 100000

/-- Remote devices declared lost that have a usable path again return (R195, R196). -/
def remotesBack (old c : Chip) : Chip :=
  let back := c.pool.devs.filter (fun d => d.2.remote && d.2.lost && d.2.downAt.isNone && (old.dev d.1).downAt.isSome)
  back.foldl (fun c d => deviceReturns c d.1) c

/-- A command has changed `old` to `c`: devices that it has made reachable return, its reactions follow, the mover's pending jobs follow the pooling state (R397), and the pins
follow. -/
def conclude (old c : Chip) : Chip :=
  let c := settle reactionLimit (if c.pool = old.pool then c else remotesBack old c)
  pins (if c.pool = old.pool then c else syncAuto c)

/-- The outcome of a command that has changed the chip to `c`. -/
def outcome (s : State) (c : Chip) : Host.Outcome State Fault Refusal := .next { s with chip := conclude s.chip c }

/-- A port and class whose every credit is withheld (R76), as event 0x016 counts it. -/
def stalled (c : Chip) : List Happening :=
  (c.sw.credits.filter (fun x => x.2.out == 0 && decide (0 < x.2.kept))).map (fun x =>
    { code := 0x016, quad := x.1 / 10 / 32, inst := x.1 / 10, port := x.1 / 10, mc := x.1 % 10 })

/-- One core cycle (R44): Fabric Time advances, events 0x001 and 0x016 are counted, and every home slice with waiting messages takes one
(R159), and a
course that may not descend waits anew (R456); while a started fabric die is held, Fabric Time
alone goes on (R36, R516); before the first start the nominal clock of the housekeeping die alone passes (R411). -/
def coreCycle (c : Chip) : Chip :=
  if c.rst.running then
    let c := { c with ft := ftTick c.ft }
    let c := countEvent c { code := 0x001, device := true }
    let c := (stalled c).foldl (fun c e => countEvent c e) c
    conclude c (rungsHeld (slicesTake c))
  else if c.rst.started then pins { c with ft := ftTick c.ft }
  else pins { c with ft := { c.ft with ivl := c.ft.ivl + 8 } }

end Sys2Proof.Machine
end

