-- ==== Sys2Proof/Machine/ExecArbitration.lean ====
section
/-!
DEFINITION. The meanings of the commands of one family (arbitration): each command's effect with the reactions that follow it.
-/
namespace Sys2Proof.Machine

/-- ARBITER_DECISION (R101). -/
def execArbiterDecision (x : Nat) (waiting : List Nat) (s : State) : Host.Outcome State Fault Refusal :=
  outcome s (arbiterDecision x waiting s.chip)

/-- SLOT_START (R104). -/
def execSlotStart (x : Nat) (s : State) : Host.Outcome State Fault Refusal := outcome s (slotStart x s.chip)

/-- FRET_PARITY (R132). -/
def execFretParity (x slot : Nat) (s : State) : Host.Outcome State Fault Refusal := outcome s (fretParity x slot s.chip)

/-- EGRESS_FLIT_BOUNDARY (R109). -/
def execEgressFlitBoundary (port : Nat) (s : State) : Host.Outcome State Fault Refusal :=
  outcome s (egressFlitBoundary port s.chip)

/-- GATE_LIST_SET (R116). -/
def execGateListSet (r : Nat) (d : Desc) (s : State) : Host.Outcome State Fault Refusal := outcome s (gateListSet r d s.chip)

/-- GATE_LIST_QUERY (R116). -/
def execGateListQuery (r : Nat) (d : Desc) (s : State) : Host.Outcome State Fault Refusal :=
  outcome s (gateListQuery r d s.chip)

/-- GATE_LIST_START (R112). -/
def execGateListStart (port : Nat) (s : State) : Host.Outcome State Fault Refusal := outcome s (gateListStart port s.chip)

/-- GATE_ENTRY_BOUNDARY (R111). -/
def execGateEntryBoundary (port : Nat) (s : State) : Host.Outcome State Fault Refusal :=
  outcome s (gateEntryBoundary port s.chip)

/-- SHAPER_RELEASE (R122). -/
def execShaperRelease (s : State) : Host.Outcome State Fault Refusal := outcome s (shaperRelease s.chip)

/-- COARSE_BUCKET_START (R121). -/
def execCoarseBucketStart (s : State) : Host.Outcome State Fault Refusal := outcome s (coarseBucketStart s.chip)

/-- PORT_SHAPER_SET (R120). -/
def execPortShaperSet (r : Nat) (d : Desc) (s : State) : Host.Outcome State Fault Refusal :=
  outcome s (portShaperSet r d s.chip)

/-- SC0_FLOW_ADD (R124). -/
def execSc0FlowAdd (r : Nat) (d : Desc) (s : State) : Host.Outcome State Fault Refusal := outcome s (sc0FlowAdd r d s.chip)

/-- SC0_FLOW_REMOVE (R124). -/
def execSc0FlowRemove (r : Nat) (d : Desc) (s : State) : Host.Outcome State Fault Refusal :=
  outcome s (sc0FlowRemove r d s.chip)

/-- SC0_FLOW_QUERY (R124). -/
def execSc0FlowQuery (r : Nat) (d : Desc) (s : State) : Host.Outcome State Fault Refusal := outcome s (sc0FlowQuery r d s.chip)

/-- FRET_BANK_WRITE (R544). -/
def execFretBankWrite (path : Path) (x n : Nat) (v : BitVec 32) (s : State) : Host.Outcome State Fault Refusal :=
  outcome s (fretBankWrite path x n v s.chip)

/-- ARB_PRIO_WRITE (R103). -/
def execArbPrioWrite (path : Path) (x k : Nat) (v : BitVec 32) (s : State) : Host.Outcome State Fault Refusal :=
  outcome s (arbPrioWrite path x k v s.chip)

end Sys2Proof.Machine
end

