-- ==== Sys2Proof/Machine/ExecCoherence.lean ====
section
/-!
DEFINITION. The meanings of the commands of one family (coherence): each command's effect with the reactions that follow it.
-/
namespace Sys2Proof.Machine

/-- MEM_RD (R148). -/
def execMemRd (m : MemReq) (s : State) : Host.Outcome State Fault Refusal := outcome s (memRd m s.chip)

/-- MEM_INV (R148). -/
def execMemInv (m : MemReq) (s : State) : Host.Outcome State Fault Refusal := outcome s (memInv m s.chip)

/-- MEM_CLN_EVCT (R148). -/
def execMemClnEvct (m : MemReq) (s : State) : Host.Outcome State Fault Refusal := outcome s (memClnEvct m s.chip)

/-- MEM_WR (R149). -/
def execMemWr (m : MemReq) (s : State) : Host.Outcome State Fault Refusal := outcome s (memWr m s.chip)

/-- MEM_WR_PTL (R149). -/
def execMemWrPtl (m : MemReq) (s : State) : Host.Outcome State Fault Refusal := outcome s (memWrPtl m s.chip)

/-- BIRSP (R149). -/
def execBirsp (m : SnoopRsp) (s : State) : Host.Outcome State Fault Refusal := outcome s (birsp m s.chip)

/-- BICONFLICT (R153). -/
def execBiconflict (port line : Nat) (accepted : Bool) (s : State) : Host.Outcome State Fault Refusal :=
  outcome s (biconflict port line accepted s.chip)

/-- NACK (R161). -/
def execNack (port : Nat) (m : MemReq) (s : State) : Host.Outcome State Fault Refusal := outcome s (nack port m s.chip)

/-- RETRY_BACKOFF_EXPIRE (R161). -/
def execRetryBackoffExpire (port line : Nat) (s : State) : Host.Outcome State Fault Refusal :=
  outcome s (retryBackoffExpire port line s.chip)

/-- LINE_DATA_READY (R151). -/
def execLineDataReady (line : Nat) (s : State) : Host.Outcome State Fault Refusal := outcome s (lineDataReady line s.chip)

/-- SNOOP_REACHABLE (R154). -/
def execSnoopReachable (line agent : Nat) (s : State) : Host.Outcome State Fault Refusal :=
  outcome s (snoopReachable line agent s.chip)

/-- BISNP_TIMEOUT (R167). -/
def execBisnpTimeout (line agent : Nat) (s : State) : Host.Outcome State Fault Refusal :=
  outcome s (bisnpTimeout line agent s.chip)

/-- AGENT_DEAD_TIME_EXPIRE (R155). -/
def execAgentDeadTimeExpire (domain agent : Nat) (s : State) : Host.Outcome State Fault Refusal :=
  outcome s (agentDeadTimeExpire domain agent s.chip)

/-- AGENT_SWEEP_END (R155). -/
def execAgentSweepEnd (domain agent : Nat) (s : State) : Host.Outcome State Fault Refusal :=
  outcome s (agentSweepEnd domain agent s.chip)

/-- RESPONSE_DEADLINE_EXPIRE (R188). -/
def execResponseDeadlineExpire (line : Nat) (s : State) : Host.Outcome State Fault Refusal :=
  outcome s (responseDeadlineExpire line s.chip)

/-- DOMAIN_CREATE (R136). -/
def execDomainCreate (r : Nat) (d : Desc) (s : State) : Host.Outcome State Fault Refusal := outcome s (domainCreate r d s.chip)

/-- DOMAIN_DESTROY (R136). -/
def execDomainDestroy (r : Nat) (d : Desc) (s : State) : Host.Outcome State Fault Refusal :=
  outcome s (domainDestroy r d s.chip)

/-- AGENT_BIND (R137). -/
def execAgentBind (r : Nat) (d : Desc) (s : State) : Host.Outcome State Fault Refusal := outcome s (agentBind r d s.chip)

/-- AGENT_UNBIND (R156). -/
def execAgentUnbind (r : Nat) (d : Desc) (s : State) : Host.Outcome State Fault Refusal := outcome s (agentUnbind r d s.chip)

/-- AGENT_UNBIND_END (R156). -/
def execAgentUnbindEnd (domain agent : Nat) (s : State) : Host.Outcome State Fault Refusal :=
  outcome s (agentUnbindEnd domain agent s.chip)

/-- AGENT_UNBIND_DEADLINE (R156). -/
def execAgentUnbindDeadline (domain agent : Nat) (s : State) : Host.Outcome State Fault Refusal :=
  outcome s (agentUnbindDeadline domain agent s.chip)

/-- AGENT_REMOVE (R155). -/
def execAgentRemove (r : Nat) (d : Desc) (s : State) : Host.Outcome State Fault Refusal := outcome s (agentRemove r d s.chip)

/-- DOMAIN_QUERY (R136). -/
def execDomainQuery (r : Nat) (d : Desc) (s : State) : Host.Outcome State Fault Refusal := outcome s (domainQuery r d s.chip)

end Sys2Proof.Machine
end

