-- ==== Sys2Proof/Machine/ExecCounters.lean ====
section
/-!
DEFINITION. The meanings of the commands of one family (counters): each command's effect with the reactions that follow it.
-/
namespace Sys2Proof.Machine

/-- CTR_CONFIG (R476). -/
def execCtrConfig (r : Nat) (d : Desc) (s : State) : Host.Outcome State Fault Refusal := outcome s (ctrConfig r d s.chip)

/-- CTR_READ (R481). -/
def execCtrRead (r : Nat) (d : Desc) (s : State) : Host.Outcome State Fault Refusal := outcome s (ctrRead r d s.chip)

/-- DUMP_SCHEDULE (R482). -/
def execDumpSchedule (r : Nat) (d : Desc) (s : State) : Host.Outcome State Fault Refusal := outcome s (dumpSchedule r d s.chip)

/-- BW_WINDOW (R479). -/
def execBwWindow (r : Nat) (d : Desc) (s : State) : Host.Outcome State Fault Refusal := outcome s (bwWindow r d s.chip)

/-- BW_WINDOW_END (R479). -/
def execBwWindowEnd (port : Nat) (s : State) : Host.Outcome State Fault Refusal := outcome s (bwWindowEnd port s.chip)

/-- DUMP_INSTANT (R482). -/
def execDumpInstant (schedule : Nat) (s : State) : Host.Outcome State Fault Refusal := outcome s (dumpInstant schedule s.chip)

end Sys2Proof.Machine
end

