-- ==== Sys2Proof/Machine/ExecFaults.lean ====
section
/-!
DEFINITION. The meanings of the commands of one family (faults): each command's effect with the reactions that follow it.
-/
namespace Sys2Proof.Machine

/-- FAULT_HOLDOFF_EXPIRE (R404). -/
def execFaultHoldoffExpire (source : Nat) (s : State) : Host.Outcome State Fault Refusal :=
  outcome s (faultHoldoffExpire source s.chip)

/-- FAULT_QUEUE_ROOM (R404). -/
def execFaultQueueRoom (s : State) : Host.Outcome State Fault Refusal := outcome s (faultQueueRoom s.chip)

/-- CHIP_RESET (R408). -/
def execChipReset (s : State) : Host.Outcome State Fault Refusal := outcome s (chipReset s.chip)

/-- SNAP_TIMEOUT_EXPIRE (R408). -/
def execSnapTimeoutExpire (s : State) : Host.Outcome State Fault Refusal := outcome s (snapTimeoutExpire s.chip)

/-- MIN_WIDTH_EXPIRE (R410). -/
def execMinWidthExpire (s : State) : Host.Outcome State Fault Refusal := outcome s (minWidthExpire s.chip)

/-- RELEASE (R410). -/
def execRelease (path : Path) (s : State) : Host.Outcome State Fault Refusal := outcome s (release path s.chip)

/-- FAULT_PEND_CLEAR (R409). -/
def execFaultPendClear (path : Path) (group : Nat) (w : PendWrite) (s : State) : Host.Outcome State Fault Refusal :=
  outcome s (faultPendWrite path group w s.chip)

/-- FAULT_SEVERITY (R402). -/
def execFaultSeverity (r : Nat) (d : Desc) (s : State) : Host.Outcome State Fault Refusal :=
  outcome s (faultSeverity r d s.chip)

/-- FAULT_REACTION (R402). -/
def execFaultReaction (r : Nat) (d : Desc) (s : State) : Host.Outcome State Fault Refusal :=
  outcome s (faultReaction r d s.chip)

/-- FAULT_QUERY (R400). -/
def execFaultQuery (r : Nat) (d : Desc) (bad : Option CfgEntry) (s : State) : Host.Outcome State Fault Refusal :=
  outcome s (faultQuery r d bad s.chip)

/-- ERR_OUT_CONFIG (R410). -/
def execErrOutConfig (r : Nat) (d : Desc) (s : State) : Host.Outcome State Fault Refusal := outcome s (errOutConfig r d s.chip)

/-- BB_READ (R414). -/
def execBbRead (r : Nat) (d : Desc) (bad : List BadCopy) (s : State) : Host.Outcome State Fault Refusal :=
  outcome s (bbRead r d bad s.chip)

/-- BB_EXPORT (R421). -/
def execBbExport (r : Nat) (d : Desc) (s : State) : Host.Outcome State Fault Refusal := outcome s (bbExport r d s.chip)

/-- BB_SNAPSHOT (R416). -/
def execBbSnapshot (r : Nat) (d : Desc) (s : State) : Host.Outcome State Fault Refusal := outcome s (bbSnapshot r d s.chip)

/-- BB_RECORD_WRITE (R415). -/
def execBbRecordWrite (again : Bool) (s : State) : Host.Outcome State Fault Refusal := outcome s (bbRecordWrite again s.chip)

/-- SNAPSHOT_END (R416). -/
def execSnapshotEnd (complete : Bool) (s : State) : Host.Outcome State Fault Refusal := outcome s (snapshotEnd complete s.chip)

/-- SUPPLY_WARNING (R418). -/
def execSupplyWarning (rail : Nat) (s : State) : Host.Outcome State Fault Refusal := outcome s (supplyWarning rail s.chip)

/-- SUPPLY_RESTORED (R419). -/
def execSupplyRestored (rail : Nat) (s : State) : Host.Outcome State Fault Refusal := outcome s (supplyRestored rail s.chip)

/-- MGMT_WATCHDOG (R401). -/
def execMgmtWatchdog (core : Nat) (s : State) : Host.Outcome State Fault Refusal := outcome s (mgmtWatchdog core s.chip)

/-- MGMT_ECC_ERROR (R401). -/
def execMgmtEccError (core : Nat) (corrected : Bool) (s : State) : Host.Outcome State Fault Refusal :=
  outcome s (mgmtEccError core corrected s.chip)

/-- MGMT_FW_ASSERT (R401). -/
def execMgmtFwAssert (info : BitVec 64) (s : State) : Host.Outcome State Fault Refusal := outcome s (mgmtFwAssert info s.chip)

end Sys2Proof.Machine
end

