-- ==== Sys2Proof/Machine/ExecGroups.lean ====
section
/-!
DEFINITION. The meanings of the commands of one family (groups): each command's effect with the reactions that follow it.
-/
namespace Sys2Proof.Machine

/-- GROUP_OPEN (R362). -/
def execGroupOpen (r : Nat) (d : Desc) (s : State) : Host.Outcome State Fault Refusal := outcome s (groupOpen r d s.chip)

/-- GROUP_CHECK (R371). -/
def execGroupCheck (r : Nat) (d : Desc) (s : State) : Host.Outcome State Fault Refusal := outcome s (groupCheck r d s.chip)

/-- GROUP_COMMIT (R374). -/
def execGroupCommit (r : Nat) (d : Desc) (s : State) : Host.Outcome State Fault Refusal := outcome s (groupCommit r d s.chip)

/-- GROUP_DISCARD (R368). -/
def execGroupDiscard (r : Nat) (d : Desc) (s : State) : Host.Outcome State Fault Refusal := outcome s (groupDiscard r d s.chip)

/-- GROUP_QUERY (R363). -/
def execGroupQuery (r : Nat) (d : Desc) (s : State) : Host.Outcome State Fault Refusal := outcome s (groupQuery r d s.chip)

/-- GROUP_RENEW (R367). -/
def execGroupRenew (r : Nat) (d : Desc) (s : State) : Host.Outcome State Fault Refusal := outcome s (groupRenew r d s.chip)

/-- GROUP_APPLY (R377). -/
def execGroupApply (s : State) : Host.Outcome State Fault Refusal := outcome s (groupApply s.chip)

/-- GROUP_LEASE_EXPIRE (R367). -/
def execGroupLeaseExpire (group : Nat) (s : State) : Host.Outcome State Fault Refusal :=
  outcome s (groupLeaseExpire group s.chip)

/-- GROUP_COMMIT_END (R380). -/
def execGroupCommitEnd (group : Nat) (s : State) : Host.Outcome State Fault Refusal := outcome s (groupCommitEnd group s.chip)

/-- GROUP_CHECK_END (R364). -/
def execGroupCheckEnd (group : Nat) (storage : Option Nat) (s : State) : Host.Outcome State Fault Refusal :=
  outcome s (groupCheckEnd group storage s.chip)

end Sys2Proof.Machine
end

