-- ==== Sys2Proof/Machine/ExecHbm.lean ====
section
/-!
DEFINITION. The meanings of the commands of one family (HBM): each command's effect with the reactions that follow it.
-/
namespace Sys2Proof.Machine

/-- HBM_CODEWORD_READ (R215). -/
def execHbmCodewordRead (c : CodewordRead) (s : State) : Host.Outcome State Fault Refusal :=
  outcome s (hbmCodewordRead c s.chip)

/-- PATROL_SCRUB (R216). -/
def execPatrolScrub (c : CodewordRead) (s : State) : Host.Outcome State Fault Refusal := outcome s (patrolScrub c s.chip)

/-- RETIREMENT_COPY_END (R217). -/
def execRetirementCopyEnd (pc block : Nat) (s : State) : Host.Outcome State Fault Refusal :=
  outcome s (retirementCopyEnd pc block s.chip)

/-- PLACEMENT_LOOP_UPDATE (R225). -/
def execPlacementLoopUpdate (slice : Nat) (s : State) : Host.Outcome State Fault Refusal :=
  outcome s (placementLoopUpdate slice s.chip)

/-- PURGE_END (R226). -/
def execPurgeEnd (dev extent : Nat) (s : State) : Host.Outcome State Fault Refusal := outcome s (purgeEnd dev extent s.chip)

/-- HBM_RESERVE (R229). -/
def execHbmReserve (r : Nat) (d : Desc) (s : State) : Host.Outcome State Fault Refusal := outcome s (hbmReserve r d s.chip)

/-- LC_CONFIG (R225). -/
def execLcConfig (r : Nat) (d : Desc) (s : State) : Host.Outcome State Fault Refusal := outcome s (lcConfig r d s.chip)

/-- HBM_QUERY (R219). -/
def execHbmQuery (r : Nat) (d : Desc) (s : State) : Host.Outcome State Fault Refusal := outcome s (hbmQuery r d s.chip)

end Sys2Proof.Machine
end

