-- ==== Sys2Proof/Machine/ExecLanes.lean ====
section
/-!
DEFINITION. The meanings of the commands of one family (lanes): each command's effect with the reactions that follow it.
-/
namespace Sys2Proof.Machine

/-- REFCLK_COUNT (R294). -/
def execRefclkCount (course edges : Nat) (s : State) : Host.Outcome State Fault Refusal :=
  outcome s (refclkCount course edges s.chip)

/-- REFCLK_EDGE_LOSS (R294). -/
def execRefclkEdgeLoss (course : Nat) (s : State) : Host.Outcome State Fault Refusal := outcome s (refclkEdgeLoss course s.chip)

/-- LANE_LOS (R303). -/
def execLaneLos (lane : Nat) (s : State) : Host.Outcome State Fault Refusal := outcome s (laneLos lane s.chip)

/-- LANE_CDR_UNLOCK (R303). -/
def execLaneCdrUnlock (lane : Nat) (s : State) : Host.Outcome State Fault Refusal := outcome s (laneCdrUnlock lane s.chip)

/-- LANE_ERR_LIMIT (R303). -/
def execLaneErrLimit (lane corrections : Nat) (s : State) : Host.Outcome State Fault Refusal :=
  outcome s (laneErrLimit lane corrections s.chip)

/-- EQ_FAIL (R301). -/
def execEqFail (lane : Nat) (s : State) : Host.Outcome State Fault Refusal := outcome s (eqFail lane s.chip)

/-- LANE_CONFIG (R312). -/
def execLaneConfig (r : Nat) (d : Desc) (s : State) : Host.Outcome State Fault Refusal := outcome s (laneConfig r d s.chip)

/-- LANE_QUERY (R312). -/
def execLaneQuery (r : Nat) (d : Desc) (s : State) : Host.Outcome State Fault Refusal := outcome s (laneQuery r d s.chip)

/-- LANE_TEST (R308). -/
def execLaneTest (r : Nat) (d : Desc) (s : State) : Host.Outcome State Fault Refusal := outcome s (laneTest r d s.chip)

/-- LANE_TEST_END (R311). -/
def execLaneTestEnd (lane : Nat) (bits errors losses : Nat) (s : State) : Host.Outcome State Fault Refusal :=
  outcome s (laneTestEnd lane bits errors losses s.chip)

/-- LANE_MARGIN (R307). -/
def execLaneMargin (r : Nat) (d : Desc) (s : State) : Host.Outcome State Fault Refusal := outcome s (laneMargin r d s.chip)

/-- LANE_MARGIN_END (R307). -/
def execLaneMarginEnd (lane left right up down : Nat) (s : State) : Host.Outcome State Fault Refusal :=
  outcome s (laneMarginEnd lane left right up down s.chip)

/-- MARGIN_REQUEST (R306). -/
def execMarginRequest (lane : Nat) (s : State) : Host.Outcome State Fault Refusal := outcome s (marginRequest lane s.chip)

/-- LANE_EQ_CLEAR (R302). -/
def execLaneEqClear (r : Nat) (d : Desc) (s : State) : Host.Outcome State Fault Refusal := outcome s (laneEqClear r d s.chip)

/-- EQ_CLEAR (R302). -/
def execEqClear (path : Path) (lane : Nat) (s : State) : Host.Outcome State Fault Refusal :=
  outcome s (eqClear path lane s.chip)

/-- CLR_QUAR (R305). -/
def execClrQuar (path : Path) (lane : Nat) (s : State) : Host.Outcome State Fault Refusal :=
  outcome s (clrQuar path lane s.chip)

/-- LANE_PRBS_WRITE (R308). -/
def execLanePrbsWrite (path : Path) (lane : Nat) (v : BitVec 32) (s : State) : Host.Outcome State Fault Refusal :=
  outcome s (lanePrbsWrite path lane v s.chip)

/-- INJECT_ONE (R310). -/
def execInjectOne (path : Path) (lane : Nat) (s : State) : Host.Outcome State Fault Refusal :=
  outcome s (injectOne path lane s.chip)

/-- PRBS_CLR (R546). -/
def execPrbsClr (path : Path) (lane : Nat) (s : State) : Host.Outcome State Fault Refusal :=
  outcome s (prbsClr path lane s.chip)

end Sys2Proof.Machine
end

