-- ==== Sys2Proof/Machine/ExecMover.lean ====
section
/-!
DEFINITION. The meanings of the commands of one family (mover): each command's effect with the reactions that follow it.
-/
namespace Sys2Proof.Machine

/-- COPY (R389). -/
def execCopy (r : Nat) (d : Desc) (s : State) : Host.Outcome State Fault Refusal := outcome s (copy r d s.chip)

/-- FILL (R389). -/
def execFill (r : Nat) (d : Desc) (s : State) : Host.Outcome State Fault Refusal := outcome s (fill r d s.chip)

/-- MIGRATE (R203). -/
def execMigrate (r : Nat) (d : Desc) (s : State) : Host.Outcome State Fault Refusal := outcome s (migrate r d s.chip)

/-- RESYNC (R398). -/
def execResync (r : Nat) (d : Desc) (s : State) : Host.Outcome State Fault Refusal := outcome s (resync r d s.chip)

/-- DUMP (R387). -/
def execDump (r : Nat) (d : Desc) (s : State) : Host.Outcome State Fault Refusal := outcome s (dump r d s.chip)

/-- JOB_START (R383). -/
def execJobStart (engine : Nat) (s : State) : Host.Outcome State Fault Refusal := outcome s (jobStart engine s.chip)

/-- AUTO_JOB_START (R397). -/
def execAutoJobStart (engine : Nat) (s : State) : Host.Outcome State Fault Refusal := outcome s (autoJobStart engine s.chip)

/-- MOVER_LINE_TRANSACTION (R391). -/
def execMoverLineTransaction (engine line : Nat) (s : State) : Host.Outcome State Fault Refusal :=
  outcome s (moverLineTransaction engine line s.chip)

/-- JOB_END (R394). -/
def execJobEnd (engine : Nat) (s : State) : Host.Outcome State Fault Refusal := outcome s (jobEnd engine s.chip)

/-- JOB_FAULT (R392). -/
def execJobFault (engine : Nat) (f : AccessFailure) (s : State) : Host.Outcome State Fault Refusal :=
  outcome s (jobFault engine f s.chip)

/-- MOVER_ENGINE_FAULT (R396). -/
def execMoverEngineFault (engine : Nat) (s : State) : Host.Outcome State Fault Refusal :=
  outcome s (moverEngineFault engine s.chip)

/-- MOVER_AUTO_BACKLOG (R397). -/
def execMoverAutoBacklog (s : State) : Host.Outcome State Fault Refusal := outcome s (moverAutoBacklog s.chip)

/-- MOVER_WRITE_COMPLETE (R393). -/
def execMoverWriteComplete (engine : Nat) (m : MoverLines) (s : State) : Host.Outcome State Fault Refusal :=
  outcome s (moverWriteComplete engine m s.chip)

end Sys2Proof.Machine
end

