-- ==== Sys2Proof/Machine/ExecPooling.lean ====
section
/-!
DEFINITION. The meanings of the commands of one family (pooling): each command's effect with the reactions that follow it.
-/
namespace Sys2Proof.Machine

/-- BACKING_ADD (R169). -/
def execBackingAdd (r : Nat) (d : Desc) (dev : DeviceFacts) (s : State) : Host.Outcome State Fault Refusal :=
  outcome s (backingAdd r d dev s.chip)

/-- BACKING_REMOVE (R170). -/
def execBackingRemove (r : Nat) (d : Desc) (s : State) : Host.Outcome State Fault Refusal :=
  outcome s (backingRemove r d s.chip)

/-- SPARE_SET (R170). -/
def execSpareSet (r : Nat) (d : Desc) (s : State) : Host.Outcome State Fault Refusal := outcome s (spareSet r d s.chip)

/-- WINDOW_CREATE (R174). -/
def execWindowCreate (r : Nat) (d : Desc) (s : State) : Host.Outcome State Fault Refusal := outcome s (windowCreate r d s.chip)

/-- WINDOW_DESTROY (R176). -/
def execWindowDestroy (r : Nat) (d : Desc) (s : State) : Host.Outcome State Fault Refusal :=
  outcome s (windowDestroy r d s.chip)

/-- WINDOW_GROW (R178). -/
def execWindowGrow (r : Nat) (d : Desc) (s : State) : Host.Outcome State Fault Refusal := outcome s (windowGrow r d s.chip)

/-- WINDOW_SHRINK (R179). -/
def execWindowShrink (r : Nat) (d : Desc) (s : State) : Host.Outcome State Fault Refusal := outcome s (windowShrink r d s.chip)

/-- WINDOW_SET (R175). -/
def execWindowSet (r : Nat) (d : Desc) (s : State) : Host.Outcome State Fault Refusal := outcome s (windowSet r d s.chip)

/-- WINDOW_QUERY (R197). -/
def execWindowQuery (r : Nat) (d : Desc) (s : State) : Host.Outcome State Fault Refusal := outcome s (windowQuery r d s.chip)

/-- MEMBER_FAIL (R196). -/
def execMemberFail (r : Nat) (d : Desc) (s : State) : Host.Outcome State Fault Refusal := outcome s (memberFail r d s.chip)

/-- MEMBER_REPLACE (R196). -/
def execMemberReplace (r : Nat) (d : Desc) (s : State) : Host.Outcome State Fault Refusal :=
  outcome s (memberReplace r d s.chip)

/-- DC_RESPONSE (R178). -/
def execDcResponse (port : Nat) (window : Nat) (accepted : Nat) (s : State) : Host.Outcome State Fault Refusal :=
  outcome s (dcResponse port window accepted s.chip)

/-- DC_RESPONSE_TIME_EXPIRE (R178). -/
def execDcResponseTimeExpire (window : Nat) (s : State) : Host.Outcome State Fault Refusal :=
  outcome s (dcResponseTimeExpire window s.chip)

/-- RELEASE_CAPACITY_RESPONSE (R179). -/
def execReleaseCapacityResponse (port window extent : Nat) (s : State) : Host.Outcome State Fault Refusal :=
  outcome s (releaseCapacityResponse port window extent s.chip)

/-- SHRINK_DRAIN_DEADLINE (R179). -/
def execShrinkDrainDeadline (window : Nat) (s : State) : Host.Outcome State Fault Refusal :=
  outcome s (shrinkDrainDeadline window s.chip)

/-- DS_TRIGGER_EXPIRE (R186). -/
def execDsTriggerExpire (line : Nat) (s : State) : Host.Outcome State Fault Refusal := outcome s (dsTriggerExpire line s.chip)

/-- BACKING_READ_RESULT (R186). -/
def execBackingReadResult (line member : Nat) (r : ReadResult) (s : State) : Host.Outcome State Fault Refusal :=
  outcome s (backingReadResult line member r s.chip)

/-- BACKING_TIMEOUT_EXPIRE (R189). -/
def execBackingTimeoutExpire (line : Nat) (s : State) : Host.Outcome State Fault Refusal :=
  outcome s (backingTimeoutExpire line s.chip)

/-- BACKING_WRITE_COMPLETE (R192). -/
def execBackingWriteComplete (line member : Nat) (ok : Bool) (s : State) : Host.Outcome State Fault Refusal :=
  outcome s (backingWriteComplete line member ok s.chip)

/-- BACKING_WRITE_LATE (R194). -/
def execBackingWriteLate (line member : Nat) (s : State) : Host.Outcome State Fault Refusal :=
  outcome s (backingWriteLate line member s.chip)

/-- MEMBER_LOSS_TIME_EXPIRE (R195). -/
def execMemberLossTimeExpire (dev : Nat) (s : State) : Host.Outcome State Fault Refusal :=
  outcome s (memberLossTimeExpire dev s.chip)

/-- MEMBER_SLOW_RECOVERY (R196). -/
def execMemberSlowRecovery (dev : Nat) (s : State) : Host.Outcome State Fault Refusal :=
  outcome s (memberSlowRecovery dev s.chip)

/-- AUTO_SPARE_DELAY_EXPIRE (R196). -/
def execAutoSpareDelayExpire (window member : Nat) (s : State) : Host.Outcome State Fault Refusal :=
  outcome s (autoSpareDelayExpire window member s.chip)

/-- LEADER_REQUEST (R184). -/
def execLeaderRequest (line : Nat) (reconstruct : Bool) (s : State) : Host.Outcome State Fault Refusal :=
  outcome s (leaderRequest line reconstruct s.chip)

end Sys2Proof.Machine
end

