-- ==== Sys2Proof/Machine/ExecPorts.lean ====
section
/-!
DEFINITION. The meanings of the commands of one family (CXL ports): each command's effect with the reactions that follow it.
-/
namespace Sys2Proof.Machine

/-- CXL_LINK_UP (R266). -/
def execCxlLinkUp (port : Nat) (p : PartnerFacts) (s : State) : Host.Outcome State Fault Refusal :=
  outcome s (cxlLinkUp port p s.chip)

/-- CXL_LINK_DOWN (R268). -/
def execCxlLinkDown (port : Nat) (s : State) : Host.Outcome State Fault Refusal := outcome s (cxlLinkDown port s.chip)

/-- HOT_RESET (R268). -/
def execHotReset (port : Nat) (s : State) : Host.Outcome State Fault Refusal := outcome s (hotReset port s.chip)

/-- L0P_REQUEST (R269). -/
def execL0pRequest (port width : Nat) (s : State) : Host.Outcome State Fault Refusal := outcome s (l0pRequest port width s.chip)

/-- L0P_RESPONSE (R270). -/
def execL0pResponse (port : Nat) (accepted : Bool) (s : State) : Host.Outcome State Fault Refusal :=
  outcome s (l0pResponse port accepted s.chip)

/-- RECEIVER_DETECT (R277). -/
def execReceiverDetect (port : Nat) (s : State) : Host.Outcome State Fault Refusal := outcome s (receiverDetect port s.chip)

/-- PORT_CONFIG (R356). -/
def execPortConfig (r : Nat) (d : Desc) (s : State) : Host.Outcome State Fault Refusal := outcome s (portConfig r d s.chip)

/-- PORT_QUERY (R267). -/
def execPortQuery (r : Nat) (d : Desc) (s : State) : Host.Outcome State Fault Refusal := outcome s (portQuery r d s.chip)

/-- PORT_RETRAIN (R304). -/
def execPortRetrain (r : Nat) (d : Desc) (s : State) : Host.Outcome State Fault Refusal := outcome s (portRetrain r d s.chip)

/-- PORT_CTL_RETRAIN (R304). -/
def execPortCtlRetrain (path : Path) (port : Nat) (s : State) : Host.Outcome State Fault Refusal :=
  outcome s (portCtlRetrain path port s.chip)

/-- PERST_MAP (R281). -/
def execPerstMap (r : Nat) (d : Desc) (s : State) : Host.Outcome State Fault Refusal := outcome s (perstMap r d s.chip)

/-- VCS_CREATE (R271). -/
def execVcsCreate (r : Nat) (d : Desc) (s : State) : Host.Outcome State Fault Refusal := outcome s (vcsCreate r d s.chip)

/-- VCS_DESTROY (R271). -/
def execVcsDestroy (r : Nat) (d : Desc) (s : State) : Host.Outcome State Fault Refusal := outcome s (vcsDestroy r d s.chip)

/-- VPPB_BIND (R273). -/
def execVppbBind (r : Nat) (d : Desc) (s : State) : Host.Outcome State Fault Refusal := outcome s (vppbBind r d s.chip)

/-- VPPB_UNBIND (R279). -/
def execVppbUnbind (r : Nat) (d : Desc) (s : State) : Host.Outcome State Fault Refusal := outcome s (vppbUnbind r d s.chip)

/-- VCS_QUERY (R271). -/
def execVcsQuery (r : Nat) (d : Desc) (s : State) : Host.Outcome State Fault Refusal := outcome s (vcsQuery r d s.chip)

/-- UNBIND_TIMEOUT_EXPIRE (R279). -/
def execUnbindTimeoutExpire (vcs vppb : Nat) (s : State) : Host.Outcome State Fault Refusal :=
  outcome s (unbindTimeoutExpire vcs vppb s.chip)

/-- POWER_CONTROLLER_OFF (R278). -/
def execPowerControllerOff (vcs vppb : Nat) (s : State) : Host.Outcome State Fault Refusal :=
  outcome s (powerControllerOff vcs vppb s.chip)

/-- PERST_IN_N_EDGE (R282). -/
def execPerstInNEdge (pin : Nat) (low : Bool) (s : State) : Host.Outcome State Fault Refusal :=
  outcome s (perstInNEdge pin low s.chip)

/-- PERST_IN_ASSERT (R282): a commit group that applies in the same core cycle applies first (R283). -/
def execPerstInAssert (pin : Nat) (s : State) : Host.Outcome State Fault Refusal := outcome s (perstInAssert pin (groupApply s.chip))

/-- PERST_IN_RELEASE (R283). -/
def execPerstInRelease (pin : Nat) (s : State) : Host.Outcome State Fault Refusal := outcome s (perstInRelease pin s.chip)

/-- PERST_OUT_MIN_EXPIRE (R283). -/
def execPerstOutMinExpire (pin : Nat) (s : State) : Host.Outcome State Fault Refusal := outcome s (perstOutMinExpire pin s.chip)

/-- IDENTIFY (R275). -/
def execIdentify (q : FmReq) (s : State) : Host.Outcome State Fault Refusal := outcome s (identify q s.chip)

/-- BACKGROUND_OPERATION_STATUS (R275). -/
def execBackgroundOperationStatus (q : FmReq) (s : State) : Host.Outcome State Fault Refusal :=
  outcome s (backgroundOperationStatus q s.chip)

/-- GET_RESPONSE_MESSAGE_LIMIT (R275). -/
def execGetResponseMessageLimit (q : FmReq) (s : State) : Host.Outcome State Fault Refusal :=
  outcome s (getResponseMessageLimit q s.chip)

/-- SET_RESPONSE_MESSAGE_LIMIT (R275). -/
def execSetResponseMessageLimit (q : FmReq) (limit : Nat) (s : State) : Host.Outcome State Fault Refusal :=
  outcome s (setResponseMessageLimit q limit s.chip)

/-- IDENTIFY_SWITCH_DEVICE (R275). -/
def execIdentifySwitchDevice (q : FmReq) (s : State) : Host.Outcome State Fault Refusal :=
  outcome s (identifySwitchDevice q s.chip)

/-- GET_PHYSICAL_PORT_STATE (R275). -/
def execGetPhysicalPortState (q : FmReq) (port : Nat) (s : State) : Host.Outcome State Fault Refusal :=
  outcome s (getPhysicalPortState q port s.chip)

/-- PHYSICAL_PORT_CONTROL (R275). -/
def execPhysicalPortControl (q : FmReq) (port : Nat) (action : PortAction) (s : State) : Host.Outcome State Fault Refusal :=
  outcome s (physicalPortControl q port action s.chip)

/-- SEND_PPB_CXL_IO_CONFIGURATION_REQUEST (R275). -/
def execSendPpbCxlIoConfigurationRequest (q : FmReq) (port reg : Nat) (write : Bool) (value : BitVec 32) (s : State) : Host.Outcome State Fault Refusal :=
  outcome s (sendPpbCxlIoConfigurationRequest q port reg write value s.chip)

/-- GET_VIRTUAL_CXL_SWITCH_INFO (R275). -/
def execGetVirtualCxlSwitchInfo (q : FmReq) (vcs : Nat) (s : State) : Host.Outcome State Fault Refusal :=
  outcome s (getVirtualCxlSwitchInfo q vcs s.chip)

/-- BIND_VPPB (R276). -/
def execBindVppb (q : FmReq) (vcs vppb port : Nat) (ld : Option Nat) (s : State) : Host.Outcome State Fault Refusal :=
  outcome s (bindVppb q vcs vppb port ld s.chip)

/-- UNBIND_VPPB (R276). -/
def execUnbindVppb (q : FmReq) (vcs vppb option : Nat) (s : State) : Host.Outcome State Fault Refusal :=
  outcome s (unbindVppb q vcs vppb option s.chip)

/-- GENERATE_AER_EVENT (R275). -/
def execGenerateAerEvent (q : FmReq) (vcs vppb : Nat) (err : BitVec 32) (s : State) : Host.Outcome State Fault Refusal :=
  outcome s (generateAerEvent q vcs vppb err s.chip)

/-- TUNNEL_MANAGEMENT_COMMAND (R275). -/
def execTunnelManagementCommand (q : FmReq) (port : Nat) (body : List (BitVec 8)) (s : State) : Host.Outcome State Fault Refusal :=
  outcome s (tunnelManagementCommand q port body s.chip)

/-- SEND_LD_CXL_IO_CONFIGURATION_REQUEST (R275). -/
def execSendLdCxlIoConfigurationRequest (q : FmReq) (port ld reg : Nat) (write : Bool) (value : BitVec 32) (s : State) : Host.Outcome State Fault Refusal :=
  outcome s (sendLdCxlIoConfigurationRequest q port ld reg write value s.chip)

/-- SEND_LD_CXL_IO_MEMORY_REQUEST (R275). -/
def execSendLdCxlIoMemoryRequest (q : FmReq) (port ld : Nat) (write : Bool) (addr : BitVec 64) (body : List (BitVec 8)) (s : State) : Host.Outcome State Fault Refusal :=
  outcome s (sendLdCxlIoMemoryRequest q port ld write addr body s.chip)

/-- GET_LD_INFO (R275). -/
def execGetLdInfo (q : FmReq) (port : Nat) (s : State) : Host.Outcome State Fault Refusal := outcome s (getLdInfo q port s.chip)

/-- GET_LD_ALLOCATIONS (R275). -/
def execGetLdAllocations (q : FmReq) (port : Nat) (body : List (BitVec 8)) (s : State) : Host.Outcome State Fault Refusal :=
  outcome s (getLdAllocations q port body s.chip)

/-- SET_LD_ALLOCATIONS (R275). -/
def execSetLdAllocations (q : FmReq) (port : Nat) (shrinks : List Nat) (body : List (BitVec 8)) (s : State) : Host.Outcome State Fault Refusal :=
  outcome s (setLdAllocations q port shrinks body s.chip)

/-- GET_QOS_CONTROL (R275). -/
def execGetQosControl (q : FmReq) (port : Nat) (s : State) : Host.Outcome State Fault Refusal :=
  outcome s (getQosControl q port s.chip)

/-- SET_QOS_CONTROL (R275). -/
def execSetQosControl (q : FmReq) (port : Nat) (body : List (BitVec 8)) (s : State) : Host.Outcome State Fault Refusal :=
  outcome s (setQosControl q port body s.chip)

/-- GET_QOS_STATUS (R275). -/
def execGetQosStatus (q : FmReq) (port : Nat) (s : State) : Host.Outcome State Fault Refusal :=
  outcome s (getQosStatus q port s.chip)

/-- GET_QOS_ALLOCATED_BW (R275). -/
def execGetQosAllocatedBw (q : FmReq) (port : Nat) (body : List (BitVec 8)) (s : State) : Host.Outcome State Fault Refusal :=
  outcome s (getQosAllocatedBw q port body s.chip)

/-- SET_QOS_ALLOCATED_BW (R275). -/
def execSetQosAllocatedBw (q : FmReq) (port : Nat) (body : List (BitVec 8)) (s : State) : Host.Outcome State Fault Refusal :=
  outcome s (setQosAllocatedBw q port body s.chip)

/-- GET_QOS_BW_LIMIT (R275). -/
def execGetQosBwLimit (q : FmReq) (port : Nat) (body : List (BitVec 8)) (s : State) : Host.Outcome State Fault Refusal :=
  outcome s (getQosBwLimit q port body s.chip)

/-- SET_QOS_BW_LIMIT (R275). -/
def execSetQosBwLimit (q : FmReq) (port : Nat) (body : List (BitVec 8)) (s : State) : Host.Outcome State Fault Refusal :=
  outcome s (setQosBwLimit q port body s.chip)

/-- GET_MULTI_HEADED_INFO (R275). -/
def execGetMultiHeadedInfo (q : FmReq) (s : State) : Host.Outcome State Fault Refusal := outcome s (getMultiHeadedInfo q s.chip)

/-- GET_HEAD_INFO (R275). -/
def execGetHeadInfo (q : FmReq) (first count : Nat) (s : State) : Host.Outcome State Fault Refusal :=
  outcome s (getHeadInfo q first count s.chip)

/-- GET_DCD_INFO (R275). -/
def execGetDcdInfo (q : FmReq) (s : State) : Host.Outcome State Fault Refusal := outcome s (getDcdInfo q s.chip)

/-- GET_HOST_DC_REGION_CONFIGURATION (R275). -/
def execGetHostDcRegionConfiguration (q : FmReq) (port : Nat) (s : State) : Host.Outcome State Fault Refusal :=
  outcome s (getHostDcRegionConfiguration q port s.chip)

/-- GET_DC_REGION_EXTENT_LISTS (R275). -/
def execGetDcRegionExtentLists (q : FmReq) (port ld : Nat) (s : State) : Host.Outcome State Fault Refusal :=
  outcome s (getDcRegionExtentLists q port ld s.chip)

/-- FM_API_UNSUPPORTED (R276). -/
def execFmApiUnsupported (q : FmReq) (code : Nat) (s : State) : Host.Outcome State Fault Refusal :=
  outcome s (fmApiUnsupported q code s.chip)

end Sys2Proof.Machine
end

