-- ==== Sys2Proof/Machine/ExecRegisters.lean ====
section
/-!
DEFINITION. The meanings of the commands of one family (registers and host configuration): each command's effect with the reactions that follow it.
-/
namespace Sys2Proof.Machine

/-- FT_NOW_LO_READ (R37). -/
def execFtNowLoRead (path : Path) (s : State) : Host.Outcome State Fault Refusal := outcome s (ftNowLoRead path s.chip)

/-- REG_PAIR_LO_READ (R540). -/
def execRegPairLoRead (path : Path) (offset : Nat) (s : State) : Host.Outcome State Fault Refusal :=
  outcome s (regPairLoRead path offset s.chip)

/-- PORT_BW_IN_LO_READ (R480). -/
def execPortBwInLoRead (path : Path) (port : Nat) (s : State) : Host.Outcome State Fault Refusal :=
  outcome s (portBwInLoRead path port s.chip)

/-- REGISTER_WRITE (R539). -/
def execRegisterWrite (path : Path) (acc : RegAccess) (s : State) : Host.Outcome State Fault Refusal :=
  outcome s (registerWrite path acc s.chip)

/-- RWC_REGISTER_WRITE (R543). -/
def execRwcRegisterWrite (path : Path) (acc : RegAccess) (s : State) : Host.Outcome State Fault Refusal :=
  outcome s (rwcRegisterWrite path acc s.chip)

/-- COUNTER_CLEAR_WRITE (R546). -/
def execCounterClearWrite (path : Path) (acc : RegAccess) (incr : Nat) (s : State) : Host.Outcome State Fault Refusal :=
  outcome s (counterClearWrite path acc incr s.chip)

/-- HOST_CONFIG_WRITE (R58). -/
def execHostConfigWrite (port : Nat) (w : ConfigWrite) (s : State) : Host.Outcome State Fault Refusal :=
  outcome s (hostConfigWrite port w s.chip)

end Sys2Proof.Machine
end

