-- ==== Sys2Proof/Machine/ExecRings.lean ====
section
/-!
DEFINITION. The meanings of the commands of one family (rings): each command's effect with the reactions that follow it.
-/
namespace Sys2Proof.Machine

/-- DOORBELL (R341). -/
def execDoorbell (path : Path) (tenant : Nat) (v : BitVec 32) (s : State) : Host.Outcome State Fault Refusal :=
  outcome s (doorbell path tenant v s.chip)

/-- EVT_HEAD_WRITE (R343). -/
def execEvtHeadWrite (path : Path) (tenant : Nat) (v : BitVec 32) (s : State) : Host.Outcome State Fault Refusal :=
  outcome s (evtHeadWrite path tenant v s.chip)

/-- DESCRIPTOR_FETCH (R342). -/
def execDescriptorFetch (tenant : Nat) (f : Fetch) (s : State) : Host.Outcome State Fault Refusal :=
  outcome s (descriptorFetch tenant f s.chip)

/-- EVT_COALESCE_EXPIRE (R351). -/
def execEvtCoalesceExpire (tenant : Nat) (s : State) : Host.Outcome State Fault Refusal :=
  outcome s (evtCoalesceExpire tenant s.chip)

/-- MGR_RING_ENABLE (R340). -/
def execMgrRingEnable (path : Path) (v : BitVec 32) (s : State) : Host.Outcome State Fault Refusal :=
  outcome s (mgrRingEnable path v s.chip)

/-- MGR_RING_DISABLE (R340). -/
def execMgrRingDisable (path : Path) (v : BitVec 32) (s : State) : Host.Outcome State Fault Refusal :=
  outcome s (mgrRingDisable path v s.chip)

/-- RING_SETUP (R339). -/
def execRingSetup (r : Nat) (d : Desc) (s : State) : Host.Outcome State Fault Refusal := outcome s (ringSetup r d s.chip)

/-- RING_STOP (R339). -/
def execRingStop (r : Nat) (d : Desc) (s : State) : Host.Outcome State Fault Refusal := outcome s (ringStop r d s.chip)

/-- RING_QUERY (R339). -/
def execRingQuery (r : Nat) (d : Desc) (s : State) : Host.Outcome State Fault Refusal := outcome s (ringQuery r d s.chip)

/-- NOP (R346). -/
def execNop (r : Nat) (d : Desc) (s : State) : Host.Outcome State Fault Refusal := outcome s (nop r d s.chip)

/-- ABORT (R352). -/
def execAbort (r : Nat) (d : Desc) (s : State) : Host.Outcome State Fault Refusal := outcome s (abort r d s.chip)

/-- JOB_QUERY (R395). -/
def execJobQuery (r : Nat) (d : Desc) (s : State) : Host.Outcome State Fault Refusal := outcome s (jobQuery r d s.chip)

/-- MCTP_MESSAGE (R358). -/
def execMctpMessage (endpoint : Nat) (m : MctpMsg) (s : State) : Host.Outcome State Fault Refusal :=
  outcome s (mctpMessage endpoint m s.chip)

/-- MCTP_ENDPOINT_RESET (R359). -/
def execMctpEndpointReset (endpoint : Nat) (s : State) : Host.Outcome State Fault Refusal :=
  outcome s (mctpEndpointReset endpoint s.chip)

/-- CONSOLE_COMMAND (R359). -/
def execConsoleCommand (opcode : Nat) (d : Desc) (s : State) : Host.Outcome State Fault Refusal :=
  outcome s (consoleCommand opcode d s.chip)

/-- MGMT_FW_READY (R360). -/
def execMgmtFwReady (s : State) : Host.Outcome State Fault Refusal := outcome s (mgmtFwReady s.chip)

/-- COMPLETION_TIMEOUT (R342). -/
def execCompletionTimeout (kind : ReadKind) (s : State) : Host.Outcome State Fault Refusal :=
  outcome s (completionTimeout kind s.chip)

end Sys2Proof.Machine
end

