-- ==== Sys2Proof/Machine/ExecRungs.lean ====
section
/-!
DEFINITION. The meanings of the commands of one family (rungs): each command's effect with the reactions that follow it.
-/
namespace Sys2Proof.Machine

/-- RUNG_DESCENT (R456). -/
def execRungDescent (course : Nat) (s : State) : Host.Outcome State Fault Refusal := outcome s (rungDescent course s.chip)

/-- COURSE_WAKE (R457). -/
def execCourseWake (course : Nat) (s : State) : Host.Outcome State Fault Refusal := outcome s (courseWake course s.chip)

/-- DEVICE_SLACK_ENTRY (R460). -/
def execDeviceSlackEntry (s : State) : Host.Outcome State Fault Refusal := outcome s (deviceSlackEntry s.chip)

/-- DEVICE_WAKE (R460). -/
def execDeviceWake (s : State) : Host.Outcome State Fault Refusal := outcome s (deviceWake s.chip)

/-- AVS_INTERVAL (R463). -/
def execAvsInterval (m : AvsReading) (s : State) : Host.Outcome State Fault Refusal := outcome s (avsInterval m s.chip)

/-- AVS_EMERGENCY (R464). -/
def execAvsEmergency (m : AvsReading) (s : State) : Host.Outcome State Fault Refusal := outcome s (avsEmergency m s.chip)

/-- CORE_CURRENT_LIMIT (R465). -/
def execCoreCurrentLimit (amps : Nat) (s : State) : Host.Outcome State Fault Refusal := outcome s (coreCurrentLimit amps s.chip)

/-- CORE_CURRENT_RELEASE (R465). -/
def execCoreCurrentRelease (s : State) : Host.Outcome State Fault Refusal := outcome s (coreCurrentRelease s.chip)

/-- LW_INTERVAL (R466). -/
def execLwInterval (port : Nat) (bytes : Nat) (s : State) : Host.Outcome State Fault Refusal :=
  outcome s (lwInterval port bytes s.chip)

/-- RATE_INTERVAL (R467). -/
def execRateInterval (link : Nat) (bytes : Nat) (s : State) : Host.Outcome State Fault Refusal :=
  outcome s (rateInterval link bytes s.chip)

/-- THERMAL_SAMPLE (R469). -/
def execThermalSample (m : ThermalReading) (s : State) : Host.Outcome State Fault Refusal := outcome s (thermalSample m s.chip)

/-- THERMAL_STEP_EXIT (R470). -/
def execThermalStepExit (s : State) : Host.Outcome State Fault Refusal := outcome s (thermalStepExit s.chip)

/-- THERMAL_TRIP (R470). -/
def execThermalTrip (s : State) : Host.Outcome State Fault Refusal := outcome s (thermalTrip s.chip)

/-- THERMAL_TRIP_RELEASE (R470). -/
def execThermalTripRelease (s : State) : Host.Outcome State Fault Refusal := outcome s (thermalTripRelease s.chip)

/-- RUNG_SET (R456). -/
def execRungSet (r : Nat) (d : Desc) (s : State) : Host.Outcome State Fault Refusal := outcome s (rungSet r d s.chip)

/-- LOOP_BOUNDS (R468). -/
def execLoopBounds (r : Nat) (d : Desc) (s : State) : Host.Outcome State Fault Refusal := outcome s (loopBounds r d s.chip)

/-- POWER_QUERY (R468). -/
def execPowerQuery (r : Nat) (d : Desc) (s : State) : Host.Outcome State Fault Refusal := outcome s (powerQuery r d s.chip)

end Sys2Proof.Machine
end

