-- ==== Sys2Proof/Machine/ExecSecurity.lean ====
section
/-!
DEFINITION. The meanings of the commands of one family (security): each command's effect with the reactions that follow it.
-/
namespace Sys2Proof.Machine

/-- FW_UPDATE (R495). -/
def execFwUpdate (r : Nat) (d : Desc) (s : State) : Host.Outcome State Fault Refusal := outcome s (fwUpdate r d s.chip)

/-- FW_ACTIVATE (R496). -/
def execFwActivate (r : Nat) (d : Desc) (s : State) : Host.Outcome State Fault Refusal := outcome s (fwActivate r d s.chip)

/-- KEY_REVOKE (R493). -/
def execKeyRevoke (r : Nat) (d : Desc) (a : AuthBlock) (s : State) : Host.Outcome State Fault Refusal :=
  outcome s (keyRevoke r d a s.chip)

/-- ROLLBACK_ADVANCE (R494). -/
def execRollbackAdvance (r : Nat) (d : Desc) (s : State) : Host.Outcome State Fault Refusal :=
  outcome s (rollbackAdvance r d s.chip)

/-- IDE_KEY_PROG (R502). -/
def execIdeKeyProg (r : Nat) (d : Desc) (s : State) : Host.Outcome State Fault Refusal := outcome s (ideKeyProg r d s.chip)

/-- IDE_KEY_GO (R502). -/
def execIdeKeyGo (r : Nat) (d : Desc) (s : State) : Host.Outcome State Fault Refusal := outcome s (ideKeyGo r d s.chip)

/-- CERT_GET (R499). -/
def execCertGet (r : Nat) (d : Desc) (s : State) : Host.Outcome State Fault Refusal := outcome s (certGet r d s.chip)

/-- MEASURE_GET (R499). -/
def execMeasureGet (r : Nat) (d : Desc) (s : State) : Host.Outcome State Fault Refusal := outcome s (measureGet r d s.chip)

/-- KEY_PROG (R503). -/
def execKeyProg (sess : Nat) (k : IdeKm) (s : State) : Host.Outcome State Fault Refusal := outcome s (keyProg sess k s.chip)

/-- K_SET_GO (R502). -/
def execKSetGo (sess : Nat) (k : IdeKm) (s : State) : Host.Outcome State Fault Refusal := outcome s (kSetGo sess k s.chip)

/-- GET_VERSION (R500). -/
def execGetVersion (mbox : Nat) (s : State) : Host.Outcome State Fault Refusal := outcome s (getVersion mbox s.chip)

/-- GET_CAPABILITIES (R500). -/
def execGetCapabilities (mbox : Nat) (s : State) : Host.Outcome State Fault Refusal := outcome s (getCapabilities mbox s.chip)

/-- NEGOTIATE_ALGORITHMS (R500). -/
def execNegotiateAlgorithms (mbox : Nat) (hybrid : Bool) (s : State) : Host.Outcome State Fault Refusal :=
  outcome s (negotiateAlgorithms mbox hybrid s.chip)

/-- GET_DIGESTS (R500). -/
def execGetDigests (mbox : Nat) (s : State) : Host.Outcome State Fault Refusal := outcome s (getDigests mbox s.chip)

/-- GET_CERTIFICATE (R500). -/
def execGetCertificate (mbox slot offset length : Nat) (s : State) : Host.Outcome State Fault Refusal :=
  outcome s (getCertificate mbox slot offset length s.chip)

/-- CHALLENGE (R500). -/
def execChallenge (mbox slot : Nat) (s : State) : Host.Outcome State Fault Refusal := outcome s (challenge mbox slot s.chip)

/-- GET_MEASUREMENTS (R500). -/
def execGetMeasurements (mbox index : Nat) (signed : Bool) (s : State) : Host.Outcome State Fault Refusal :=
  outcome s (getMeasurements mbox index signed s.chip)

/-- KEY_EXCHANGE (R500). -/
def execKeyExchange (mbox slot : Nat) (s : State) : Host.Outcome State Fault Refusal := outcome s (keyExchange mbox slot s.chip)

/-- FINISH (R500). -/
def execFinish (mbox sess : Nat) (ok : Bool) (s : State) : Host.Outcome State Fault Refusal :=
  outcome s (finish mbox sess ok s.chip)

/-- HEARTBEAT (R500). -/
def execHeartbeat (mbox sess : Nat) (s : State) : Host.Outcome State Fault Refusal := outcome s (heartbeat mbox sess s.chip)

/-- KEY_UPDATE (R500). -/
def execKeyUpdate (mbox sess : Nat) (s : State) : Host.Outcome State Fault Refusal := outcome s (keyUpdate mbox sess s.chip)

/-- END_SESSION (R500). -/
def execEndSession (mbox sess : Nat) (s : State) : Host.Outcome State Fault Refusal := outcome s (endSession mbox sess s.chip)

/-- SET_CERTIFICATE (R499). -/
def execSetCertificate (mbox sess slot : Nat) (ok : Bool) (chain : List (BitVec 8)) (s : State) : Host.Outcome State Fault Refusal :=
  outcome s (setCertificate mbox sess slot ok chain s.chip)

/-- SPDM_UNSUPPORTED_REQUEST (R500). -/
def execSpdmUnsupportedRequest (mbox code : Nat) (s : State) : Host.Outcome State Fault Refusal :=
  outcome s (spdmUnsupportedRequest mbox code s.chip)

/-- TRIAL_CONFIRM (R490). -/
def execTrialConfirm (s : State) : Host.Outcome State Fault Refusal := outcome s (trialConfirm s.chip)

/-- BOOT_FW_READY_TIMEOUT (R489). -/
def execBootFwReadyTimeout (s : State) : Host.Outcome State Fault Refusal := outcome s (bootFwReadyTimeout s.chip)

/-- ACTIVATE_FW_READY_TIMEOUT (R496). -/
def execActivateFwReadyTimeout (s : State) : Host.Outcome State Fault Refusal := outcome s (activateFwReadyTimeout s.chip)

/-- DEBUG_TOKEN (R506). -/
def execDebugToken (t : DebugToken) (s : State) : Host.Outcome State Fault Refusal := outcome s (debugToken t s.chip)

/-- FW_IMAGE_WRITTEN (R495). -/
def execFwImageWritten (img : ImageFacts) (s : State) : Host.Outcome State Fault Refusal :=
  outcome s (fwImageWritten img s.chip)

/-- SPDM_RESPONSE (R501). -/
def execSpdmResponse (port : Nat) (r : DeviceAnswer) (s : State) : Host.Outcome State Fault Refusal :=
  outcome s (spdmResponse port r s.chip)

end Sys2Proof.Machine
end

