-- ==== Sys2Proof/Machine/ExecSelfTest.lean ====
section
/-!
DEFINITION. The meanings of the commands of one family (self test): each command's effect with the reactions that follow it.
-/
namespace Sys2Proof.Machine

/-- BIST_RUN (R434). -/
def execBistRun (r : Nat) (d : Desc) (s : State) : Host.Outcome State Fault Refusal := outcome s (bistRun r d s.chip)

/-- SLICE_TEST_CONFIG (R427). -/
def execSliceTestConfig (r : Nat) (d : Desc) (s : State) : Host.Outcome State Fault Refusal :=
  outcome s (sliceTestConfig r d s.chip)

/-- BIST_RESULT (R430). -/
def execBistResult (r : Nat) (d : Desc) (s : State) : Host.Outcome State Fault Refusal := outcome s (bistResult r d s.chip)

/-- ERR_INJECT (R435). -/
def execErrInject (r : Nat) (d : Desc) (s : State) : Host.Outcome State Fault Refusal := outcome s (errInject r d s.chip)

/-- SLICE_INTERVAL_EXPIRE (R427). -/
def execSliceIntervalExpire (s : State) : Host.Outcome State Fault Refusal := outcome s (sliceIntervalExpire s.chip)

/-- SLICE_ISOLATION_DONE (R427). -/
def execSliceIsolationDone (s : State) : Host.Outcome State Fault Refusal := outcome s (sliceIsolationDone s.chip)

/-- SLICE_DRAIN_EXPIRE (R427). -/
def execSliceDrainExpire (s : State) : Host.Outcome State Fault Refusal := outcome s (sliceDrainExpire s.chip)

/-- SLICE_TEST_END (R427). -/
def execSliceTestEnd (r : List TestResult) (s : State) : Host.Outcome State Fault Refusal := outcome s (sliceTestEnd r s.chip)

end Sys2Proof.Machine
end

