-- ==== Sys2Proof/Machine/ExecSlotPower.lean ====
section
/-!
DEFINITION. The meanings of the commands of one family (slot power): each command's effect with the reactions that follow it.
-/
namespace Sys2Proof.Machine

/-- PRSNT_N_FALL (R440). -/
def execPrsntNFall (chan : Nat) (s : State) : Host.Outcome State Fault Refusal := outcome s (prsntNFall chan s.chip)

/-- DEBOUNCE_ABORT (R440). -/
def execDebounceAbort (chan : Nat) (s : State) : Host.Outcome State Fault Refusal := outcome s (debounceAbort chan s.chip)

/-- INSERTION_QUALIFIED (R441). -/
def execInsertionQualified (chan : Nat) (s : State) : Host.Outcome State Fault Refusal :=
  outcome s (insertionQualified chan s.chip)

/-- REMOVAL (R441). -/
def execRemoval (chan : Nat) (s : State) : Host.Outcome State Fault Refusal := outcome s (removal chan s.chip)

/-- FAULT_TIMER_EXPIRE (R443). -/
def execFaultTimerExpire (chan : Nat) (s : State) : Host.Outcome State Fault Refusal := outcome s (faultTimerExpire chan s.chip)

/-- FAST_TRIP (R443). -/
def execFastTrip (chan : Nat) (s : State) : Host.Outcome State Fault Refusal := outcome s (fastTrip chan s.chip)

/-- POWER_GOOD (R444). -/
def execPowerGood (chan : Nat) (s : State) : Host.Outcome State Fault Refusal := outcome s (powerGood chan s.chip)

/-- POWER_GOOD_LOST (R444). -/
def execPowerGoodLost (chan : Nat) (s : State) : Host.Outcome State Fault Refusal := outcome s (powerGoodLost chan s.chip)

/-- RETRY_HOLDOFF_END (R445). -/
def execRetryHoldoffEnd (chan : Nat) (s : State) : Host.Outcome State Fault Refusal := outcome s (retryHoldoffEnd chan s.chip)

/-- RETRY_COUNT_RESET (R445). -/
def execRetryCountReset (chan : Nat) (s : State) : Host.Outcome State Fault Refusal := outcome s (retryCountReset chan s.chip)

/-- GATE_STUCK (R447). -/
def execGateStuck (chan : Nat) (s : State) : Host.Outcome State Fault Refusal := outcome s (gateStuck chan s.chip)

/-- OFF_VOLTAGE (R448). -/
def execOffVoltage (chan : Nat) (s : State) : Host.Outcome State Fault Refusal := outcome s (offVoltage chan s.chip)

/-- FEED_BAD (R449). -/
def execFeedBad (chan feed : Nat) (s : State) : Host.Outcome State Fault Refusal := outcome s (feedBad chan feed s.chip)

/-- FEED_GOOD (R449). -/
def execFeedGood (chan feed : Nat) (s : State) : Host.Outcome State Fault Refusal := outcome s (feedGood chan feed s.chip)

/-- FEED_RETURN_EXPIRE (R449). -/
def execFeedReturnExpire (chan : Nat) (s : State) : Host.Outcome State Fault Refusal := outcome s (feedReturnExpire chan s.chip)

/-- DEAD_TIME_END (R449). -/
def execDeadTimeEnd (chan : Nat) (s : State) : Host.Outcome State Fault Refusal := outcome s (deadTimeEnd chan s.chip)

/-- INPUT_LOW (R450). -/
def execInputLow (chan : Nat) (low : Bool) (s : State) : Host.Outcome State Fault Refusal :=
  outcome s (inputLow chan low s.chip)

/-- WARN_LEAD_END (R450). -/
def execWarnLeadEnd (chan : Nat) (s : State) : Host.Outcome State Fault Refusal := outcome s (warnLeadEnd chan s.chip)

/-- SP_WARN_RELEASE (R450). -/
def execSpWarnRelease (chan : Nat) (s : State) : Host.Outcome State Fault Refusal := outcome s (spWarnRelease chan s.chip)

/-- SLOT_SAMPLE (R452). -/
def execSlotSample (chan : Nat) (m : SlotReading) (s : State) : Host.Outcome State Fault Refusal :=
  outcome s (slotSample chan m s.chip)

/-- SLOT_CONFIG (R453). -/
def execSlotConfig (r : Nat) (d : Desc) (s : State) : Host.Outcome State Fault Refusal := outcome s (slotConfig r d s.chip)

/-- SLOT_ON (R450). -/
def execSlotOn (r : Nat) (d : Desc) (s : State) : Host.Outcome State Fault Refusal := outcome s (slotOn r d s.chip)

/-- SLOT_OFF (R450). -/
def execSlotOff (r : Nat) (d : Desc) (s : State) : Host.Outcome State Fault Refusal := outcome s (slotOff r d s.chip)

/-- SLOT_QUERY (R452). -/
def execSlotQuery (r : Nat) (d : Desc) (s : State) : Host.Outcome State Fault Refusal := outcome s (slotQuery r d s.chip)

/-- FEED_SELECT (R449). -/
def execFeedSelect (r : Nat) (d : Desc) (s : State) : Host.Outcome State Fault Refusal := outcome s (feedSelect r d s.chip)

/-- CURRENT_LIMIT_ENGAGE (R443). -/
def execCurrentLimitEngage (chan : Nat) (s : State) : Host.Outcome State Fault Refusal :=
  outcome s (currentLimitEngage chan s.chip)

/-- CURRENT_LIMIT_RELEASE (R443). -/
def execCurrentLimitRelease (chan : Nat) (s : State) : Host.Outcome State Fault Refusal :=
  outcome s (currentLimitRelease chan s.chip)

end Sys2Proof.Machine
end

