-- ==== Sys2Proof/Machine/ExecStolevo.lean ====
section
/-!
DEFINITION. The meanings of the commands of one family (Stolevo): each command's effect with the reactions that follow it.
-/
namespace Sys2Proof.Machine

/-- STV_FLIT_RECEIVE (R237). -/
def execStvFlitReceive (link : Nat) (f : WireFlit) (s : State) : Host.Outcome State Fault Refusal :=
  outcome s (stvFlitReceive link f s.chip)

/-- STV_FLIT_TRANSMIT (R247). -/
def execStvFlitTransmit (link : Nat) (s : State) : Host.Outcome State Fault Refusal := outcome s (stvFlitTransmit link s.chip)

/-- ACK_TIMEOUT_EXPIRE (R244). -/
def execAckTimeoutExpire (link : Nat) (s : State) : Host.Outcome State Fault Refusal := outcome s (ackTimeoutExpire link s.chip)

/-- REPLAY_AGE_EXPIRE (R246). -/
def execReplayAgeExpire (link : Nat) (s : State) : Host.Outcome State Fault Refusal := outcome s (replayAgeExpire link s.chip)

/-- STV_LANES_LOCKED (R251). -/
def execStvLanesLocked (link : Nat) (lanes : BitVec 16) (s : State) : Host.Outcome State Fault Refusal :=
  outcome s (stvLanesLocked link lanes s.chip)

/-- MARKERS_DESKEWED (R252). -/
def execMarkersDeskewed (link : Nat) (marks : List LaneMark) (s : State) : Host.Outcome State Fault Refusal :=
  outcome s (markersDeskewed link marks s.chip)

/-- TRAIN_FLIT (R253). -/
def execTrainFlit (link : Nat) (f : TrainIn) (s : State) : Host.Outcome State Fault Refusal :=
  outcome s (trainFlit link f s.chip)

/-- TRAIN_TIMEOUT_EXPIRE (R251). -/
def execTrainTimeoutExpire (link : Nat) (s : State) : Host.Outcome State Fault Refusal :=
  outcome s (trainTimeoutExpire link s.chip)

/-- IDLE_DOWN_EXPIRE (R251). -/
def execIdleDownExpire (link : Nat) (s : State) : Host.Outcome State Fault Refusal := outcome s (idleDownExpire link s.chip)

/-- RETRY_INTERVAL_EXPIRE (R251). -/
def execRetryIntervalExpire (link : Nat) (s : State) : Host.Outcome State Fault Refusal :=
  outcome s (retryIntervalExpire link s.chip)

/-- STV_LINK_CONFIG (R261). -/
def execStvLinkConfig (r : Nat) (d : Desc) (s : State) : Host.Outcome State Fault Refusal :=
  outcome s (stvLinkConfig r d s.chip)

/-- STV_LINK_RETRAIN (R251). -/
def execStvLinkRetrain (r : Nat) (d : Desc) (s : State) : Host.Outcome State Fault Refusal :=
  outcome s (stvLinkRetrain r d s.chip)

/-- STV_CTL_RETRAIN (R251). -/
def execStvCtlRetrain (path : Path) (link : Nat) (s : State) : Host.Outcome State Fault Refusal :=
  outcome s (stvCtlRetrain path link s.chip)

/-- CLR_CNT (R546). -/
def execClrCnt (path : Path) (link : Nat) (s : State) : Host.Outcome State Fault Refusal := outcome s (clrCnt path link s.chip)

/-- STV_LINK_REMOVE (R257). -/
def execStvLinkRemove (r : Nat) (d : Desc) (s : State) : Host.Outcome State Fault Refusal :=
  outcome s (stvLinkRemove r d s.chip)

/-- STV_LINK_RESTORE (R257). -/
def execStvLinkRestore (r : Nat) (d : Desc) (s : State) : Host.Outcome State Fault Refusal :=
  outcome s (stvLinkRestore r d s.chip)

/-- STV_LINK_QUERY (R251). -/
def execStvLinkQuery (r : Nat) (d : Desc) (s : State) : Host.Outcome State Fault Refusal := outcome s (stvLinkQuery r d s.chip)

end Sys2Proof.Machine
end

