-- ==== Sys2Proof/Machine/ExecSupplies.lean ====
section
/-!
DEFINITION. The meanings of the commands of one family (supplies): each command's effect with the reactions that follow it.
-/
namespace Sys2Proof.Machine

/-- RST_N_ASSERT (R514). -/
def execRstNAssert (s : State) : Host.Outcome State Fault Refusal := outcome s (rstNAssert s.chip)

/-- STANDBY_RAIL_LOW (R511). -/
def execStandbyRailLow (rail : Nat) (s : State) : Host.Outcome State Fault Refusal := outcome s (standbyRailLow rail s.chip)

/-- START (R516). -/
def execStart (b : StartFacts) (s : State) : Host.Outcome State Fault Refusal := outcome s (start b s.chip)

/-- WARM_N_QUALIFIED (R514). -/
def execWarmNQualified (s : State) : Host.Outcome State Fault Refusal := outcome s (warmNQualified s.chip)

/-- RAIL_UV (R511). -/
def execRailUv (rail : Nat) (s : State) : Host.Outcome State Fault Refusal := outcome s (railUv rail s.chip)

/-- RAIL_OV (R511). -/
def execRailOv (rail : Nat) (s : State) : Host.Outcome State Fault Refusal := outcome s (railOv rail s.chip)

/-- RAILS_GOOD (R511). -/
def execRailsGood (s : State) : Host.Outcome State Fault Refusal := outcome s (railsGood s.chip)

/-- SHUTDOWN_GO (R518). -/
def execShutdownGo (path : Path) (v : BitVec 32) (s : State) : Host.Outcome State Fault Refusal :=
  outcome s (shutdownGo path v s.chip)

/-- SHUTDOWN_PHASE_END (R518). -/
def execShutdownPhaseEnd (r : PhaseFacts) (s : State) : Host.Outcome State Fault Refusal :=
  outcome s (shutdownPhaseEnd r s.chip)

end Sys2Proof.Machine
end

