-- ==== Sys2Proof/Machine/ExecSwitching.lean ====
section
/-!
DEFINITION. The meanings of the commands of one family (switching core): each command's effect with the reactions that follow it.
-/
namespace Sys2Proof.Machine

/-- CXL_FLIT_RECEIVE (R68). -/
def execCxlFlitReceive (port : Nat) (f : CxlFlit) (s : State) : Host.Outcome State Fault Refusal :=
  outcome s (cxlFlitReceive port f s.chip)

/-- PACKET_LOOKUP (R57). -/
def execPacketLookup (p : PacketIn) (s : State) : Host.Outcome State Fault Refusal := outcome s (packetLookup p s.chip)

/-- SPILL_RETURN (R78). -/
def execSpillReturn (input output sc : Nat) (cls : MsgClass) (s : State) : Host.Outcome State Fault Refusal :=
  outcome s (spillReturn input output sc cls s.chip)

/-- CELL_LEAVE (R76). -/
def execCellLeave (output bank : Nat) (v : Ecc) (s : State) : Host.Outcome State Fault Refusal :=
  outcome s (cellLeave output bank v s.chip)

/-- CREDIT_STALL_TIME_EXPIRE (R76). -/
def execCreditStallTimeExpire (port : Nat) (cls : MsgClass) (s : State) : Host.Outcome State Fault Refusal :=
  outcome s (creditStallTimeExpire port cls s.chip)

/-- CXL_RETRY_REQUEST (R69). -/
def execCxlRetryRequest (port : Nat) (seq : Nat) (s : State) : Host.Outcome State Fault Refusal :=
  outcome s (cxlRetryRequest port seq s.chip)

/-- GOOD_COPY (R69). -/
def execGoodCopy (port : Nat) (copy : CopyIn) (s : State) : Host.Outcome State Fault Refusal := outcome s (goodCopy port copy s.chip)

/-- STOMP_HOLD_EXPIRE (R71). -/
def execStompHoldExpire (port pid : Nat) (s : State) : Host.Outcome State Fault Refusal :=
  outcome s (stompHoldExpire port pid s.chip)

/-- PERMIT_REQ (R82). -/
def execPermitReq (link : Nat) (m : PermitMsg) (s : State) : Host.Outcome State Fault Refusal :=
  outcome s (permitReq link m s.chip)

/-- PERMIT_GRANT (R82). -/
def execPermitGrant (link : Nat) (m : PermitMsg) (s : State) : Host.Outcome State Fault Refusal :=
  outcome s (permitGrant link m s.chip)

/-- PERMIT_RETURN (R83). -/
def execPermitReturn (link : Nat) (m : PermitMsg) (s : State) : Host.Outcome State Fault Refusal :=
  outcome s (permitReturn link m s.chip)

/-- PERMIT_REQUEST_RETRY (R82). -/
def execPermitRequestRetry (dst path cls : Nat) (s : State) : Host.Outcome State Fault Refusal :=
  outcome s (permitRequestRetry dst path cls s.chip)

/-- PERMIT_IDLE_EXPIRE (R83). -/
def execPermitIdleExpire (dst path cls : Nat) (s : State) : Host.Outcome State Fault Refusal :=
  outcome s (permitIdleExpire dst path cls s.chip)

/-- PERMIT_REQ_LOST (R255). -/
def execPermitReqLost (dst path cls : Nat) (s : State) : Host.Outcome State Fault Refusal :=
  outcome s (permitReqLost dst path cls s.chip)

/-- PATH_GUARD_EXPIRE (R87). -/
def execPathGuardExpire (dst tag : Nat) (s : State) : Host.Outcome State Fault Refusal :=
  outcome s (pathGuardExpire dst tag s.chip)

/-- PATH_PROBE (R87). -/
def execPathProbe (id path : Nat) (s : State) : Host.Outcome State Fault Refusal := outcome s (pathProbe id path s.chip)

/-- PROBE_RETURN (R87). -/
def execProbeReturn (id path : Nat) (s : State) : Host.Outcome State Fault Refusal := outcome s (probeReturn id path s.chip)

/-- GUARDED_REQUEST_ARRIVAL (R88). -/
def execGuardedRequestArrival (src : Nat) (g : GuardedReq) (s : State) : Host.Outcome State Fault Refusal :=
  outcome s (guardedRequestArrival src g s.chip)

/-- GUARDED_RESPONSE (R89). -/
def execGuardedResponse (dst tag : Nat) (executed : Bool) (s : State) : Host.Outcome State Fault Refusal :=
  outcome s (guardedResponse dst tag executed s.chip)

/-- DUPLICATE (R89). -/
def execDuplicate (dst tag : Nat) (s : State) : Host.Outcome State Fault Refusal := outcome s (duplicate dst tag s.chip)

/-- FABRIC_ID_SET (R61). -/
def execFabricIdSet (r : Nat) (d : Desc) (s : State) : Host.Outcome State Fault Refusal := outcome s (fabricIdSet r d s.chip)

/-- FABRIC_ID_QUERY (R61). -/
def execFabricIdQuery (r : Nat) (d : Desc) (s : State) : Host.Outcome State Fault Refusal :=
  outcome s (fabricIdQuery r d s.chip)

end Sys2Proof.Machine
end

