-- ==== Sys2Proof/Machine/ExecTenants.lean ====
section
/-!
DEFINITION. The meanings of the commands of one family (tenants): each command's effect with the reactions that follow it.
-/
namespace Sys2Proof.Machine

/-- TENANT_CREATE (R324). -/
def execTenantCreate (r : Nat) (d : Desc) (s : State) : Host.Outcome State Fault Refusal := outcome s (tenantCreate r d s.chip)

/-- TENANT_DESTROY (R323). -/
def execTenantDestroy (r : Nat) (d : Desc) (s : State) : Host.Outcome State Fault Refusal :=
  outcome s (tenantDestroy r d s.chip)

/-- TENANT_SET (R330). -/
def execTenantSet (r : Nat) (d : Desc) (s : State) : Host.Outcome State Fault Refusal := outcome s (tenantSet r d s.chip)

/-- TENANT_BIND (R321). -/
def execTenantBind (r : Nat) (d : Desc) (s : State) : Host.Outcome State Fault Refusal := outcome s (tenantBind r d s.chip)

/-- TENANT_UNBIND (R322). -/
def execTenantUnbind (r : Nat) (d : Desc) (s : State) : Host.Outcome State Fault Refusal := outcome s (tenantUnbind r d s.chip)

/-- TENANT_ENABLE (R324). -/
def execTenantEnable (r : Nat) (d : Desc) (s : State) : Host.Outcome State Fault Refusal := outcome s (tenantEnable r d s.chip)

/-- TENANT_DISABLE (R325). -/
def execTenantDisable (r : Nat) (d : Desc) (s : State) : Host.Outcome State Fault Refusal :=
  outcome s (tenantDisable r d s.chip)

/-- TENANT_RESET (R331). -/
def execTenantReset (r : Nat) (d : Desc) (s : State) : Host.Outcome State Fault Refusal :=
  outcome s (tenantReset r d s.chip)

/-- TENANT_QUERY (R324). -/
def execTenantQuery (r : Nat) (d : Desc) (s : State) : Host.Outcome State Fault Refusal := outcome s (tenantQuery r d s.chip)

/-- DRAIN_COMPLETE (R326). -/
def execDrainComplete (tenant : Nat) (s : State) : Host.Outcome State Fault Refusal := outcome s (drainComplete tenant s.chip)

/-- TENANT_DRAIN_DEADLINE (R327). -/
def execTenantDrainDeadline (tenant : Nat) (s : State) : Host.Outcome State Fault Refusal :=
  outcome s (tenantDrainDeadline tenant s.chip)

end Sys2Proof.Machine
end

