-- ==== Sys2Proof/Machine/ExecTime.lean ====
section
/-!
DEFINITION. The meanings of the commands of one family (Fabric Time): each command's effect with the reactions that follow it.
-/
namespace Sys2Proof.Machine

/-- FT_SYNC_MARKER (R40). -/
def execFtSyncMarker (pulse : MarkPulse) (s : State) : Host.Outcome State Fault Refusal := outcome s (ftSyncMarker pulse s.chip)

/-- FT_SYNC_FRAME (R41). -/
def execFtSyncFrame (f : SyncFrame) (s : State) : Host.Outcome State Fault Refusal := outcome s (ftSyncFrame f s.chip)

/-- FT_SYNC_IN_LOST (R39). -/
def execFtSyncInLost (s : State) : Host.Outcome State Fault Refusal := outcome s (ftSyncInLost s.chip)

/-- FT_SYNC_OUT_MARKER (R42). -/
def execFtSyncOutMarker (s : State) : Host.Outcome State Fault Refusal := outcome s (ftSyncOutMarker s.chip)

/-- TIME_SET (R43). -/
def execTimeSet (r : Nat) (d : Desc) (s : State) : Host.Outcome State Fault Refusal := outcome s (timeSet r d s.chip)

/-- TIME_SET_LOAD (R43). -/
def execTimeSetLoad (s : State) : Host.Outcome State Fault Refusal := outcome s (timeSetLoad s.chip)

/-- TIME_CONFIG (R50). -/
def execTimeConfig (r : Nat) (d : Desc) (s : State) : Host.Outcome State Fault Refusal := outcome s (timeConfig r d s.chip)

/-- TIME_QUERY (R37). -/
def execTimeQuery (r : Nat) (d : Desc) (s : State) : Host.Outcome State Fault Refusal := outcome s (timeQuery r d s.chip)

/-- FT_STEP (R45). -/
def execFtStep (s : State) : Host.Outcome State Fault Refusal := outcome s (ftStep s.chip)

/-- TIME_EXCHANGE (R250). -/
def execTimeExchange (link : Nat) (s : State) : Host.Outcome State Fault Refusal := outcome s (timeExchange link s.chip)

/-- TIME_REQ (R250). -/
def execTimeReq (link exchId : Nat) (t1 : BitVec 64) (sub : Nat) (s : State) : Host.Outcome State Fault Refusal :=
  outcome s (timeReq link exchId t1 sub s.chip)

/-- TIME_RSP (R46). -/
def execTimeRsp (link exchId : Nat) (t2 t3 : BitVec 64) (sub : Nat) (s : State) : Host.Outcome State Fault Refusal :=
  outcome s (timeRsp link exchId t2 t3 sub s.chip)

/-- TIME_ANNOUNCE (R38). -/
def execTimeAnnounce (link : Nat) (cls hops : Nat) (traceable : Bool) (root : BitVec 64) (s : State) : Host.Outcome State Fault Refusal :=
  outcome s (timeAnnounce link cls hops traceable root s.chip)

/-- TIME_RSP_MISSED (R250). -/
def execTimeRspMissed (link : Nat) (s : State) : Host.Outcome State Fault Refusal := outcome s (timeRspMissed link s.chip)

/-- FT_HOLDOVER_LIMIT_EXPIRE (R49). -/
def execFtHoldoverLimitExpire (s : State) : Host.Outcome State Fault Refusal := outcome s (ftHoldoverLimitExpire s.chip)

/-- FT_OSC_FAIL (R49). -/
def execFtOscFail (s : State) : Host.Outcome State Fault Refusal := outcome s (ftOscFail s.chip)

/-- FT_OSC_RESTORED (R49). -/
def execFtOscRestored (s : State) : Host.Outcome State Fault Refusal := outcome s (ftOscRestored s.chip)

end Sys2Proof.Machine
end

