-- ==== Sys2Proof/Machine/Dispatch.lean ====
section
/-!
DEFINITION. `exec`: one arm per command, each a direct call of the command's meaning.
-/
namespace Sys2Proof.Machine

/-- The effect of a command on everything but the queue. -/
def exec (i : Instr) (s : State) : Host.Outcome State Fault Refusal :=
  match i with
  | .ftNowLoRead path => Sys2Proof.Machine.execFtNowLoRead path s
  | .regPairLoRead path offset => Sys2Proof.Machine.execRegPairLoRead path offset s
  | .portBwInLoRead path port => Sys2Proof.Machine.execPortBwInLoRead path port s
  | .registerWrite path acc => Sys2Proof.Machine.execRegisterWrite path acc s
  | .rwcRegisterWrite path acc => Sys2Proof.Machine.execRwcRegisterWrite path acc s
  | .counterClearWrite path acc incr => Sys2Proof.Machine.execCounterClearWrite path acc incr s
  | .hostConfigWrite port w => Sys2Proof.Machine.execHostConfigWrite port w s
  | .ftSyncMarker pulse => Sys2Proof.Machine.execFtSyncMarker pulse s
  | .ftSyncFrame f => Sys2Proof.Machine.execFtSyncFrame f s
  | .ftSyncInLost => Sys2Proof.Machine.execFtSyncInLost s
  | .ftSyncOutMarker => Sys2Proof.Machine.execFtSyncOutMarker s
  | .timeSet r d => Sys2Proof.Machine.execTimeSet r d s
  | .timeSetLoad => Sys2Proof.Machine.execTimeSetLoad s
  | .timeConfig r d => Sys2Proof.Machine.execTimeConfig r d s
  | .timeQuery r d => Sys2Proof.Machine.execTimeQuery r d s
  | .ftStep => Sys2Proof.Machine.execFtStep s
  | .timeExchange link => Sys2Proof.Machine.execTimeExchange link s
  | .timeReq link exchId t1 sub => Sys2Proof.Machine.execTimeReq link exchId t1 sub s
  | .timeRsp link exchId t2 t3 sub => Sys2Proof.Machine.execTimeRsp link exchId t2 t3 sub s
  | .timeAnnounce link cls hops traceable root => Sys2Proof.Machine.execTimeAnnounce link cls hops traceable root s
  | .timeRspMissed link => Sys2Proof.Machine.execTimeRspMissed link s
  | .ftHoldoverLimitExpire => Sys2Proof.Machine.execFtHoldoverLimitExpire s
  | .ftOscFail => Sys2Proof.Machine.execFtOscFail s
  | .cxlFlitReceive port f => Sys2Proof.Machine.execCxlFlitReceive port f s
  | .packetLookup p => Sys2Proof.Machine.execPacketLookup p s
  | .spillReturn input output sc cls => Sys2Proof.Machine.execSpillReturn input output sc cls s
  | .cellLeave output bank v => Sys2Proof.Machine.execCellLeave output bank v s
  | .creditStallTimeExpire port cls => Sys2Proof.Machine.execCreditStallTimeExpire port cls s
  | .cxlRetryRequest port seq => Sys2Proof.Machine.execCxlRetryRequest port seq s
  | .goodCopy port copy => Sys2Proof.Machine.execGoodCopy port copy s
  | .stompHoldExpire port pid => Sys2Proof.Machine.execStompHoldExpire port pid s
  | .permitReq link m => Sys2Proof.Machine.execPermitReq link m s
  | .permitGrant link m => Sys2Proof.Machine.execPermitGrant link m s
  | .permitReturn link m => Sys2Proof.Machine.execPermitReturn link m s
  | .permitRequestRetry dst path cls => Sys2Proof.Machine.execPermitRequestRetry dst path cls s
  | .permitIdleExpire dst path cls => Sys2Proof.Machine.execPermitIdleExpire dst path cls s
  | .permitReqLost dst path cls => Sys2Proof.Machine.execPermitReqLost dst path cls s
  | .pathGuardExpire dst tag => Sys2Proof.Machine.execPathGuardExpire dst tag s
  | .pathProbe id path => Sys2Proof.Machine.execPathProbe id path s
  | .probeReturn id path => Sys2Proof.Machine.execProbeReturn id path s
  | .guardedRequestArrival src g => Sys2Proof.Machine.execGuardedRequestArrival src g s
  | .guardedResponse dst tag executed => Sys2Proof.Machine.execGuardedResponse dst tag executed s
  | .duplicate dst tag => Sys2Proof.Machine.execDuplicate dst tag s
  | .fabricIdSet r d => Sys2Proof.Machine.execFabricIdSet r d s
  | .fabricIdQuery r d => Sys2Proof.Machine.execFabricIdQuery r d s
  | .arbiterDecision x waiting => Sys2Proof.Machine.execArbiterDecision x waiting s
  | .slotStart x => Sys2Proof.Machine.execSlotStart x s
  | .fretParity x slot => Sys2Proof.Machine.execFretParity x slot s
  | .egressFlitBoundary port => Sys2Proof.Machine.execEgressFlitBoundary port s
  | .gateListSet r d => Sys2Proof.Machine.execGateListSet r d s
  | .gateListQuery r d => Sys2Proof.Machine.execGateListQuery r d s
  | .gateListStart port => Sys2Proof.Machine.execGateListStart port s
  | .gateEntryBoundary port => Sys2Proof.Machine.execGateEntryBoundary port s
  | .shaperRelease => Sys2Proof.Machine.execShaperRelease s
  | .coarseBucketStart => Sys2Proof.Machine.execCoarseBucketStart s
  | .portShaperSet r d => Sys2Proof.Machine.execPortShaperSet r d s
  | .sc0FlowAdd r d => Sys2Proof.Machine.execSc0FlowAdd r d s
  | .sc0FlowRemove r d => Sys2Proof.Machine.execSc0FlowRemove r d s
  | .sc0FlowQuery r d => Sys2Proof.Machine.execSc0FlowQuery r d s
  | .fretBankWrite path x n v => Sys2Proof.Machine.execFretBankWrite path x n v s
  | .arbPrioWrite path x k v => Sys2Proof.Machine.execArbPrioWrite path x k v s
  | .memRd m => Sys2Proof.Machine.execMemRd m s
  | .memInv m => Sys2Proof.Machine.execMemInv m s
  | .memClnEvct m => Sys2Proof.Machine.execMemClnEvct m s
  | .memWr m => Sys2Proof.Machine.execMemWr m s
  | .memWrPtl m => Sys2Proof.Machine.execMemWrPtl m s
  | .birsp m => Sys2Proof.Machine.execBirsp m s
  | .biconflict port line accepted => Sys2Proof.Machine.execBiconflict port line accepted s
  | .nack port m => Sys2Proof.Machine.execNack port m s
  | .retryBackoffExpire port line => Sys2Proof.Machine.execRetryBackoffExpire port line s
  | .lineDataReady line => Sys2Proof.Machine.execLineDataReady line s
  | .snoopReachable line agent => Sys2Proof.Machine.execSnoopReachable line agent s
  | .bisnpTimeout line agent => Sys2Proof.Machine.execBisnpTimeout line agent s
  | .agentDeadTimeExpire domain agent => Sys2Proof.Machine.execAgentDeadTimeExpire domain agent s
  | .agentSweepEnd domain agent => Sys2Proof.Machine.execAgentSweepEnd domain agent s
  | .responseDeadlineExpire line => Sys2Proof.Machine.execResponseDeadlineExpire line s
  | .domainCreate r d => Sys2Proof.Machine.execDomainCreate r d s
  | .domainDestroy r d => Sys2Proof.Machine.execDomainDestroy r d s
  | .agentBind r d => Sys2Proof.Machine.execAgentBind r d s
  | .agentUnbind r d => Sys2Proof.Machine.execAgentUnbind r d s
  | .agentUnbindEnd domain agent => Sys2Proof.Machine.execAgentUnbindEnd domain agent s
  | .agentUnbindDeadline domain agent => Sys2Proof.Machine.execAgentUnbindDeadline domain agent s
  | .agentRemove r d => Sys2Proof.Machine.execAgentRemove r d s
  | .domainQuery r d => Sys2Proof.Machine.execDomainQuery r d s
  | .backingAdd r d dev => Sys2Proof.Machine.execBackingAdd r d dev s
  | .backingRemove r d => Sys2Proof.Machine.execBackingRemove r d s
  | .spareSet r d => Sys2Proof.Machine.execSpareSet r d s
  | .windowCreate r d => Sys2Proof.Machine.execWindowCreate r d s
  | .windowDestroy r d => Sys2Proof.Machine.execWindowDestroy r d s
  | .windowGrow r d => Sys2Proof.Machine.execWindowGrow r d s
  | .windowShrink r d => Sys2Proof.Machine.execWindowShrink r d s
  | .windowSet r d => Sys2Proof.Machine.execWindowSet r d s
  | .windowQuery r d => Sys2Proof.Machine.execWindowQuery r d s
  | .memberFail r d => Sys2Proof.Machine.execMemberFail r d s
  | .memberReplace r d => Sys2Proof.Machine.execMemberReplace r d s
  | .dcResponse port window accepted => Sys2Proof.Machine.execDcResponse port window accepted s
  | .dcResponseTimeExpire window => Sys2Proof.Machine.execDcResponseTimeExpire window s
  | .releaseCapacityResponse port window extent => Sys2Proof.Machine.execReleaseCapacityResponse port window extent s
  | .shrinkDrainDeadline window => Sys2Proof.Machine.execShrinkDrainDeadline window s
  | .dsTriggerExpire line => Sys2Proof.Machine.execDsTriggerExpire line s
  | .backingReadResult line member r => Sys2Proof.Machine.execBackingReadResult line member r s
  | .backingTimeoutExpire line => Sys2Proof.Machine.execBackingTimeoutExpire line s
  | .backingWriteComplete line member ok => Sys2Proof.Machine.execBackingWriteComplete line member ok s
  | .backingWriteLate line member => Sys2Proof.Machine.execBackingWriteLate line member s
  | .memberLossTimeExpire dev => Sys2Proof.Machine.execMemberLossTimeExpire dev s
  | .memberSlowRecovery dev => Sys2Proof.Machine.execMemberSlowRecovery dev s
  | .autoSpareDelayExpire window member => Sys2Proof.Machine.execAutoSpareDelayExpire window member s
  | .leaderRequest line reconstruct => Sys2Proof.Machine.execLeaderRequest line reconstruct s
  | .hbmCodewordRead c => Sys2Proof.Machine.execHbmCodewordRead c s
  | .patrolScrub c => Sys2Proof.Machine.execPatrolScrub c s
  | .retirementCopyEnd pc block => Sys2Proof.Machine.execRetirementCopyEnd pc block s
  | .placementLoopUpdate slice => Sys2Proof.Machine.execPlacementLoopUpdate slice s
  | .purgeEnd dev extent => Sys2Proof.Machine.execPurgeEnd dev extent s
  | .hbmReserve r d => Sys2Proof.Machine.execHbmReserve r d s
  | .lcConfig r d => Sys2Proof.Machine.execLcConfig r d s
  | .hbmQuery r d => Sys2Proof.Machine.execHbmQuery r d s
  | .stvFlitReceive link f => Sys2Proof.Machine.execStvFlitReceive link f s
  | .stvFlitTransmit link => Sys2Proof.Machine.execStvFlitTransmit link s
  | .ackTimeoutExpire link => Sys2Proof.Machine.execAckTimeoutExpire link s
  | .replayAgeExpire link => Sys2Proof.Machine.execReplayAgeExpire link s
  | .stvLanesLocked link lanes => Sys2Proof.Machine.execStvLanesLocked link lanes s
  | .markersDeskewed link marks => Sys2Proof.Machine.execMarkersDeskewed link marks s
  | .trainFlit link f => Sys2Proof.Machine.execTrainFlit link f s
  | .trainTimeoutExpire link => Sys2Proof.Machine.execTrainTimeoutExpire link s
  | .idleDownExpire link => Sys2Proof.Machine.execIdleDownExpire link s
  | .retryIntervalExpire link => Sys2Proof.Machine.execRetryIntervalExpire link s
  | .stvLinkConfig r d => Sys2Proof.Machine.execStvLinkConfig r d s
  | .stvLinkRetrain r d => Sys2Proof.Machine.execStvLinkRetrain r d s
  | .stvCtlRetrain path link => Sys2Proof.Machine.execStvCtlRetrain path link s
  | .clrCnt path link => Sys2Proof.Machine.execClrCnt path link s
  | .stvLinkRemove r d => Sys2Proof.Machine.execStvLinkRemove r d s
  | .stvLinkRestore r d => Sys2Proof.Machine.execStvLinkRestore r d s
  | .stvLinkQuery r d => Sys2Proof.Machine.execStvLinkQuery r d s
  | .cxlLinkUp port p => Sys2Proof.Machine.execCxlLinkUp port p s
  | .cxlLinkDown port => Sys2Proof.Machine.execCxlLinkDown port s
  | .hotReset port => Sys2Proof.Machine.execHotReset port s
  | .l0pRequest port width => Sys2Proof.Machine.execL0pRequest port width s
  | .l0pResponse port accepted => Sys2Proof.Machine.execL0pResponse port accepted s
  | .receiverDetect port => Sys2Proof.Machine.execReceiverDetect port s
  | .portConfig r d => Sys2Proof.Machine.execPortConfig r d s
  | .portQuery r d => Sys2Proof.Machine.execPortQuery r d s
  | .portRetrain r d => Sys2Proof.Machine.execPortRetrain r d s
  | .portCtlRetrain path port => Sys2Proof.Machine.execPortCtlRetrain path port s
  | .perstMap r d => Sys2Proof.Machine.execPerstMap r d s
  | .vcsCreate r d => Sys2Proof.Machine.execVcsCreate r d s
  | .vcsDestroy r d => Sys2Proof.Machine.execVcsDestroy r d s
  | .vppbBind r d => Sys2Proof.Machine.execVppbBind r d s
  | .vppbUnbind r d => Sys2Proof.Machine.execVppbUnbind r d s
  | .vcsQuery r d => Sys2Proof.Machine.execVcsQuery r d s
  | .unbindTimeoutExpire vcs vppb => Sys2Proof.Machine.execUnbindTimeoutExpire vcs vppb s
  | .powerControllerOff vcs vppb => Sys2Proof.Machine.execPowerControllerOff vcs vppb s
  | .perstInNEdge pin low => Sys2Proof.Machine.execPerstInNEdge pin low s
  | .perstInAssert pin => Sys2Proof.Machine.execPerstInAssert pin s
  | .perstInRelease pin => Sys2Proof.Machine.execPerstInRelease pin s
  | .perstOutMinExpire pin => Sys2Proof.Machine.execPerstOutMinExpire pin s
  | .identify q => Sys2Proof.Machine.execIdentify q s
  | .backgroundOperationStatus q => Sys2Proof.Machine.execBackgroundOperationStatus q s
  | .getResponseMessageLimit q => Sys2Proof.Machine.execGetResponseMessageLimit q s
  | .setResponseMessageLimit q limit => Sys2Proof.Machine.execSetResponseMessageLimit q limit s
  | .identifySwitchDevice q => Sys2Proof.Machine.execIdentifySwitchDevice q s
  | .getPhysicalPortState q port => Sys2Proof.Machine.execGetPhysicalPortState q port s
  | .physicalPortControl q port action => Sys2Proof.Machine.execPhysicalPortControl q port action s
  | .sendPpbCxlIoConfigurationRequest q port reg write value => Sys2Proof.Machine.execSendPpbCxlIoConfigurationRequest q port reg write value s
  | .getVirtualCxlSwitchInfo q vcs => Sys2Proof.Machine.execGetVirtualCxlSwitchInfo q vcs s
  | .bindVppb q vcs vppb port ld => Sys2Proof.Machine.execBindVppb q vcs vppb port ld s
  | .unbindVppb q vcs vppb option => Sys2Proof.Machine.execUnbindVppb q vcs vppb option s
  | .generateAerEvent q vcs vppb err => Sys2Proof.Machine.execGenerateAerEvent q vcs vppb err s
  | .tunnelManagementCommand q port body => Sys2Proof.Machine.execTunnelManagementCommand q port body s
  | .sendLdCxlIoConfigurationRequest q port ld reg write value => Sys2Proof.Machine.execSendLdCxlIoConfigurationRequest q port ld reg write value s
  | .sendLdCxlIoMemoryRequest q port ld write addr body => Sys2Proof.Machine.execSendLdCxlIoMemoryRequest q port ld write addr body s
  | .getLdInfo q port => Sys2Proof.Machine.execGetLdInfo q port s
  | .getLdAllocations q port body => Sys2Proof.Machine.execGetLdAllocations q port body s
  | .setLdAllocations q port shrinks body => Sys2Proof.Machine.execSetLdAllocations q port shrinks body s
  | .getQosControl q port => Sys2Proof.Machine.execGetQosControl q port s
  | .setQosControl q port body => Sys2Proof.Machine.execSetQosControl q port body s
  | .getQosStatus q port => Sys2Proof.Machine.execGetQosStatus q port s
  | .getQosAllocatedBw q port body => Sys2Proof.Machine.execGetQosAllocatedBw q port body s
  | .setQosAllocatedBw q port body => Sys2Proof.Machine.execSetQosAllocatedBw q port body s
  | .getQosBwLimit q port body => Sys2Proof.Machine.execGetQosBwLimit q port body s
  | .setQosBwLimit q port body => Sys2Proof.Machine.execSetQosBwLimit q port body s
  | .getMultiHeadedInfo q => Sys2Proof.Machine.execGetMultiHeadedInfo q s
  | .getHeadInfo q first count => Sys2Proof.Machine.execGetHeadInfo q first count s
  | .getDcdInfo q => Sys2Proof.Machine.execGetDcdInfo q s
  | .getHostDcRegionConfiguration q port => Sys2Proof.Machine.execGetHostDcRegionConfiguration q port s
  | .getDcRegionExtentLists q port ld => Sys2Proof.Machine.execGetDcRegionExtentLists q port ld s
  | .fmApiUnsupported q code => Sys2Proof.Machine.execFmApiUnsupported q code s
  | .refclkCount course edges => Sys2Proof.Machine.execRefclkCount course edges s
  | .refclkEdgeLoss course => Sys2Proof.Machine.execRefclkEdgeLoss course s
  | .laneLos lane => Sys2Proof.Machine.execLaneLos lane s
  | .laneCdrUnlock lane => Sys2Proof.Machine.execLaneCdrUnlock lane s
  | .laneErrLimit lane corrections => Sys2Proof.Machine.execLaneErrLimit lane corrections s
  | .eqFail lane => Sys2Proof.Machine.execEqFail lane s
  | .laneConfig r d => Sys2Proof.Machine.execLaneConfig r d s
  | .laneQuery r d => Sys2Proof.Machine.execLaneQuery r d s
  | .laneTest r d => Sys2Proof.Machine.execLaneTest r d s
  | .laneTestEnd lane bits errors losses => Sys2Proof.Machine.execLaneTestEnd lane bits errors losses s
  | .laneMargin r d => Sys2Proof.Machine.execLaneMargin r d s
  | .laneMarginEnd lane left right up down => Sys2Proof.Machine.execLaneMarginEnd lane left right up down s
  | .marginRequest lane => Sys2Proof.Machine.execMarginRequest lane s
  | .laneEqClear r d => Sys2Proof.Machine.execLaneEqClear r d s
  | .eqClear path lane => Sys2Proof.Machine.execEqClear path lane s
  | .clrQuar path lane => Sys2Proof.Machine.execClrQuar path lane s
  | .lanePrbsWrite path lane v => Sys2Proof.Machine.execLanePrbsWrite path lane v s
  | .injectOne path lane => Sys2Proof.Machine.execInjectOne path lane s
  | .prbsClr path lane => Sys2Proof.Machine.execPrbsClr path lane s
  | .tenantCreate r d => Sys2Proof.Machine.execTenantCreate r d s
  | .tenantDestroy r d => Sys2Proof.Machine.execTenantDestroy r d s
  | .tenantSet r d => Sys2Proof.Machine.execTenantSet r d s
  | .tenantBind r d => Sys2Proof.Machine.execTenantBind r d s
  | .tenantUnbind r d => Sys2Proof.Machine.execTenantUnbind r d s
  | .tenantEnable r d => Sys2Proof.Machine.execTenantEnable r d s
  | .tenantDisable r d => Sys2Proof.Machine.execTenantDisable r d s
  | .tenantReset r d => Sys2Proof.Machine.execTenantReset r d s
  | .tenantQuery r d => Sys2Proof.Machine.execTenantQuery r d s
  | .drainComplete tenant => Sys2Proof.Machine.execDrainComplete tenant s
  | .tenantDrainDeadline tenant => Sys2Proof.Machine.execTenantDrainDeadline tenant s
  | .doorbell path tenant v => Sys2Proof.Machine.execDoorbell path tenant v s
  | .evtHeadWrite path tenant v => Sys2Proof.Machine.execEvtHeadWrite path tenant v s
  | .descriptorFetch tenant f => Sys2Proof.Machine.execDescriptorFetch tenant f s
  | .evtCoalesceExpire tenant => Sys2Proof.Machine.execEvtCoalesceExpire tenant s
  | .mgrRingEnable path v => Sys2Proof.Machine.execMgrRingEnable path v s
  | .mgrRingDisable path v => Sys2Proof.Machine.execMgrRingDisable path v s
  | .ringSetup r d => Sys2Proof.Machine.execRingSetup r d s
  | .ringStop r d => Sys2Proof.Machine.execRingStop r d s
  | .ringQuery r d => Sys2Proof.Machine.execRingQuery r d s
  | .nop r d => Sys2Proof.Machine.execNop r d s
  | .abort r d => Sys2Proof.Machine.execAbort r d s
  | .jobQuery r d => Sys2Proof.Machine.execJobQuery r d s
  | .mctpMessage endpoint m => Sys2Proof.Machine.execMctpMessage endpoint m s
  | .mctpEndpointReset endpoint => Sys2Proof.Machine.execMctpEndpointReset endpoint s
  | .consoleCommand opcode d => Sys2Proof.Machine.execConsoleCommand opcode d s
  | .mgmtFwReady => Sys2Proof.Machine.execMgmtFwReady s
  | .groupOpen r d => Sys2Proof.Machine.execGroupOpen r d s
  | .groupCheck r d => Sys2Proof.Machine.execGroupCheck r d s
  | .groupCommit r d => Sys2Proof.Machine.execGroupCommit r d s
  | .groupDiscard r d => Sys2Proof.Machine.execGroupDiscard r d s
  | .groupQuery r d => Sys2Proof.Machine.execGroupQuery r d s
  | .groupRenew r d => Sys2Proof.Machine.execGroupRenew r d s
  | .groupApply => Sys2Proof.Machine.execGroupApply s
  | .groupLeaseExpire group => Sys2Proof.Machine.execGroupLeaseExpire group s
  | .groupCommitEnd group => Sys2Proof.Machine.execGroupCommitEnd group s
  | .copy r d => Sys2Proof.Machine.execCopy r d s
  | .fill r d => Sys2Proof.Machine.execFill r d s
  | .migrate r d => Sys2Proof.Machine.execMigrate r d s
  | .resync r d => Sys2Proof.Machine.execResync r d s
  | .dump r d => Sys2Proof.Machine.execDump r d s
  | .jobStart engine => Sys2Proof.Machine.execJobStart engine s
  | .autoJobStart engine => Sys2Proof.Machine.execAutoJobStart engine s
  | .moverLineTransaction engine line => Sys2Proof.Machine.execMoverLineTransaction engine line s
  | .jobEnd engine => Sys2Proof.Machine.execJobEnd engine s
  | .jobFault engine f => Sys2Proof.Machine.execJobFault engine f s
  | .moverEngineFault engine => Sys2Proof.Machine.execMoverEngineFault engine s
  | .moverAutoBacklog => Sys2Proof.Machine.execMoverAutoBacklog s
  | .faultHoldoffExpire source => Sys2Proof.Machine.execFaultHoldoffExpire source s
  | .faultQueueRoom => Sys2Proof.Machine.execFaultQueueRoom s
  | .chipReset => Sys2Proof.Machine.execChipReset s
  | .snapTimeoutExpire => Sys2Proof.Machine.execSnapTimeoutExpire s
  | .minWidthExpire => Sys2Proof.Machine.execMinWidthExpire s
  | .release path => Sys2Proof.Machine.execRelease path s
  | .faultPendClear path group w => Sys2Proof.Machine.execFaultPendClear path group w s
  | .faultSeverity r d => Sys2Proof.Machine.execFaultSeverity r d s
  | .faultReaction r d => Sys2Proof.Machine.execFaultReaction r d s
  | .faultQuery r d bad => Sys2Proof.Machine.execFaultQuery r d bad s
  | .errOutConfig r d => Sys2Proof.Machine.execErrOutConfig r d s
  | .bbRead r d bad => Sys2Proof.Machine.execBbRead r d bad s
  | .bbExport r d => Sys2Proof.Machine.execBbExport r d s
  | .bbSnapshot r d => Sys2Proof.Machine.execBbSnapshot r d s
  | .bbRecordWrite again => Sys2Proof.Machine.execBbRecordWrite again s
  | .snapshotEnd complete => Sys2Proof.Machine.execSnapshotEnd complete s
  | .supplyWarning rail => Sys2Proof.Machine.execSupplyWarning rail s
  | .supplyRestored rail => Sys2Proof.Machine.execSupplyRestored rail s
  | .mgmtWatchdog core => Sys2Proof.Machine.execMgmtWatchdog core s
  | .mgmtEccError core corrected => Sys2Proof.Machine.execMgmtEccError core corrected s
  | .mgmtFwAssert info => Sys2Proof.Machine.execMgmtFwAssert info s
  | .bistRun r d => Sys2Proof.Machine.execBistRun r d s
  | .sliceTestConfig r d => Sys2Proof.Machine.execSliceTestConfig r d s
  | .bistResult r d => Sys2Proof.Machine.execBistResult r d s
  | .errInject r d => Sys2Proof.Machine.execErrInject r d s
  | .sliceIntervalExpire => Sys2Proof.Machine.execSliceIntervalExpire s
  | .sliceIsolationDone => Sys2Proof.Machine.execSliceIsolationDone s
  | .sliceDrainExpire => Sys2Proof.Machine.execSliceDrainExpire s
  | .sliceTestEnd r => Sys2Proof.Machine.execSliceTestEnd r s
  | .prsntNFall chan => Sys2Proof.Machine.execPrsntNFall chan s
  | .debounceAbort chan => Sys2Proof.Machine.execDebounceAbort chan s
  | .insertionQualified chan => Sys2Proof.Machine.execInsertionQualified chan s
  | .removal chan => Sys2Proof.Machine.execRemoval chan s
  | .faultTimerExpire chan => Sys2Proof.Machine.execFaultTimerExpire chan s
  | .fastTrip chan => Sys2Proof.Machine.execFastTrip chan s
  | .powerGood chan => Sys2Proof.Machine.execPowerGood chan s
  | .powerGoodLost chan => Sys2Proof.Machine.execPowerGoodLost chan s
  | .retryHoldoffEnd chan => Sys2Proof.Machine.execRetryHoldoffEnd chan s
  | .retryCountReset chan => Sys2Proof.Machine.execRetryCountReset chan s
  | .gateStuck chan => Sys2Proof.Machine.execGateStuck chan s
  | .offVoltage chan => Sys2Proof.Machine.execOffVoltage chan s
  | .feedBad chan feed => Sys2Proof.Machine.execFeedBad chan feed s
  | .feedGood chan feed => Sys2Proof.Machine.execFeedGood chan feed s
  | .feedReturnExpire chan => Sys2Proof.Machine.execFeedReturnExpire chan s
  | .deadTimeEnd chan => Sys2Proof.Machine.execDeadTimeEnd chan s
  | .inputLow chan low => Sys2Proof.Machine.execInputLow chan low s
  | .warnLeadEnd chan => Sys2Proof.Machine.execWarnLeadEnd chan s
  | .spWarnRelease chan => Sys2Proof.Machine.execSpWarnRelease chan s
  | .slotSample chan m => Sys2Proof.Machine.execSlotSample chan m s
  | .slotConfig r d => Sys2Proof.Machine.execSlotConfig r d s
  | .slotOn r d => Sys2Proof.Machine.execSlotOn r d s
  | .slotOff r d => Sys2Proof.Machine.execSlotOff r d s
  | .slotQuery r d => Sys2Proof.Machine.execSlotQuery r d s
  | .feedSelect r d => Sys2Proof.Machine.execFeedSelect r d s
  | .rungDescent course => Sys2Proof.Machine.execRungDescent course s
  | .courseWake course => Sys2Proof.Machine.execCourseWake course s
  | .deviceSlackEntry => Sys2Proof.Machine.execDeviceSlackEntry s
  | .deviceWake => Sys2Proof.Machine.execDeviceWake s
  | .avsInterval m => Sys2Proof.Machine.execAvsInterval m s
  | .avsEmergency m => Sys2Proof.Machine.execAvsEmergency m s
  | .coreCurrentLimit amps => Sys2Proof.Machine.execCoreCurrentLimit amps s
  | .coreCurrentRelease => Sys2Proof.Machine.execCoreCurrentRelease s
  | .lwInterval port bytes => Sys2Proof.Machine.execLwInterval port bytes s
  | .rateInterval link bytes => Sys2Proof.Machine.execRateInterval link bytes s
  | .thermalSample m => Sys2Proof.Machine.execThermalSample m s
  | .thermalStepExit => Sys2Proof.Machine.execThermalStepExit s
  | .thermalTrip => Sys2Proof.Machine.execThermalTrip s
  | .thermalTripRelease => Sys2Proof.Machine.execThermalTripRelease s
  | .rungSet r d => Sys2Proof.Machine.execRungSet r d s
  | .loopBounds r d => Sys2Proof.Machine.execLoopBounds r d s
  | .powerQuery r d => Sys2Proof.Machine.execPowerQuery r d s
  | .ctrConfig r d => Sys2Proof.Machine.execCtrConfig r d s
  | .ctrRead r d => Sys2Proof.Machine.execCtrRead r d s
  | .dumpSchedule r d => Sys2Proof.Machine.execDumpSchedule r d s
  | .bwWindow r d => Sys2Proof.Machine.execBwWindow r d s
  | .bwWindowEnd port => Sys2Proof.Machine.execBwWindowEnd port s
  | .dumpInstant schedule => Sys2Proof.Machine.execDumpInstant schedule s
  | .fwUpdate r d => Sys2Proof.Machine.execFwUpdate r d s
  | .fwActivate r d => Sys2Proof.Machine.execFwActivate r d s
  | .keyRevoke r d a => Sys2Proof.Machine.execKeyRevoke r d a s
  | .rollbackAdvance r d => Sys2Proof.Machine.execRollbackAdvance r d s
  | .ideKeyProg r d => Sys2Proof.Machine.execIdeKeyProg r d s
  | .ideKeyGo r d => Sys2Proof.Machine.execIdeKeyGo r d s
  | .certGet r d => Sys2Proof.Machine.execCertGet r d s
  | .measureGet r d => Sys2Proof.Machine.execMeasureGet r d s
  | .keyProg sess k => Sys2Proof.Machine.execKeyProg sess k s
  | .kSetGo sess k => Sys2Proof.Machine.execKSetGo sess k s
  | .getVersion mbox => Sys2Proof.Machine.execGetVersion mbox s
  | .getCapabilities mbox => Sys2Proof.Machine.execGetCapabilities mbox s
  | .negotiateAlgorithms mbox hybrid => Sys2Proof.Machine.execNegotiateAlgorithms mbox hybrid s
  | .getDigests mbox => Sys2Proof.Machine.execGetDigests mbox s
  | .getCertificate mbox slot offset length => Sys2Proof.Machine.execGetCertificate mbox slot offset length s
  | .challenge mbox slot => Sys2Proof.Machine.execChallenge mbox slot s
  | .getMeasurements mbox index signed => Sys2Proof.Machine.execGetMeasurements mbox index signed s
  | .keyExchange mbox slot => Sys2Proof.Machine.execKeyExchange mbox slot s
  | .finish mbox sess ok => Sys2Proof.Machine.execFinish mbox sess ok s
  | .heartbeat mbox sess => Sys2Proof.Machine.execHeartbeat mbox sess s
  | .keyUpdate mbox sess => Sys2Proof.Machine.execKeyUpdate mbox sess s
  | .endSession mbox sess => Sys2Proof.Machine.execEndSession mbox sess s
  | .setCertificate mbox sess slot ok chain => Sys2Proof.Machine.execSetCertificate mbox sess slot ok chain s
  | .spdmUnsupportedRequest mbox code => Sys2Proof.Machine.execSpdmUnsupportedRequest mbox code s
  | .trialConfirm => Sys2Proof.Machine.execTrialConfirm s
  | .bootFwReadyTimeout => Sys2Proof.Machine.execBootFwReadyTimeout s
  | .activateFwReadyTimeout => Sys2Proof.Machine.execActivateFwReadyTimeout s
  | .debugToken t => Sys2Proof.Machine.execDebugToken t s
  | .rstNAssert => Sys2Proof.Machine.execRstNAssert s
  | .standbyRailLow rail => Sys2Proof.Machine.execStandbyRailLow rail s
  | .start b => Sys2Proof.Machine.execStart b s
  | .warmNQualified => Sys2Proof.Machine.execWarmNQualified s
  | .railUv rail => Sys2Proof.Machine.execRailUv rail s
  | .railOv rail => Sys2Proof.Machine.execRailOv rail s
  | .railsGood => Sys2Proof.Machine.execRailsGood s
  | .shutdownGo path v => Sys2Proof.Machine.execShutdownGo path v s
  | .shutdownPhaseEnd r => Sys2Proof.Machine.execShutdownPhaseEnd r s
  | .groupCheckEnd group storage => Sys2Proof.Machine.execGroupCheckEnd group storage s
  | .ftOscRestored => Sys2Proof.Machine.execFtOscRestored s
  | .completionTimeout kind => Sys2Proof.Machine.execCompletionTimeout kind s
  | .moverWriteComplete engine m => Sys2Proof.Machine.execMoverWriteComplete engine m s
  | .currentLimitEngage chan => Sys2Proof.Machine.execCurrentLimitEngage chan s
  | .currentLimitRelease chan => Sys2Proof.Machine.execCurrentLimitRelease chan s
  | .fwImageWritten img => Sys2Proof.Machine.execFwImageWritten img s
  | .spdmResponse port r => Sys2Proof.Machine.execSpdmResponse port r s

end Sys2Proof.Machine
end

