-- ==== Sys2Proof/WellFormed.lean ====
section
/-!
DEFINITION. Well-formed commands: every number an operand gives lies in the range the spec gives it. `exec` is total and
needs none of it.
-/
namespace Sys2Proof

/-- A port (Table 1.3). -/
def portOk (n : Nat) : Bool := decide (n < 128)

/-- A Stolevo Link (R230). -/
def linkOk (n : Nat) : Bool := decide (n < 16)

/-- A lane. -/
def laneOk (n : Nat) : Bool := decide (n < 512)

/-- A slot-power channel. -/
def chanOk (n : Nat) : Bool := decide (n < 32)

/-- A tenant (R315). -/
def tenantOk (n : Nat) : Bool := decide (n < 4096)

/-- A home slice. -/
def sliceOk (n : Nat) : Bool := decide (n < 32)

/-- An engine of the data mover. -/
def engineOk (n : Nat) : Bool := decide (n < 16)

/-- A course. -/
def courseOk (n : Nat) : Bool := decide (n < 8)

/-- A virtual CXL switch (R31). -/
def vcsOk (n : Nat) : Bool := decide (n < 64)

/-- A vPPB (R272). -/
def vppbOk (n : Nat) : Bool := decide (n < 48)

/-- A window (CAP1). -/
def windowOk (n : Nat) : Bool := decide (n < 32768)

/-- A coherence domain (CAP2). -/
def domainOk (n : Nat) : Bool := decide (n < 256)

/-- A PERST pin. -/
def pinOk (n : Nat) : Bool := decide (n < 64)

/-- A fabric ID (R59). -/
def fabOk (n : Nat) : Bool := decide (n < 4096)

/-- An arbiter. -/
def arbOk (n : Nat) : Bool := decide (n < 102)

/-- A crossbar input or output. -/
def xbarOk (n : Nat) : Bool := decide (n < 38)

/-- A service class. -/
def scOk (n : Nat) : Bool := decide (n < 8)

/-- A dump schedule. -/
def scheduleOk (n : Nat) : Bool := decide (n < 64)

/-- A fault source (R400). -/
def sourceOk (n : Nat) : Bool := decide (n < 512)

/-- An EXCH_ID (Table 8.6). -/
def exchOk (n : Nat) : Bool := decide (n < 256)

/-- A tick of a core cycle (R44). -/
def subOk (n : Nat) : Bool := decide (n < 8)

/-- A supply rail, in the order of Table 21.1. -/
def railOk (n : Nat) : Bool := decide (n < 23)

/-- A feed. -/
def feedOk (n : Nat) : Bool := decide (n < 2)

/-- A pseudo-channel. -/
def pcOk (n : Nat) : Bool := decide (n < 64)

/-- A bank of the central buffer. -/
def bankOk (n : Nat) : Bool := decide (n < 65)

/-- A path of a fabric ID entry (R59). -/
def pathOk (n : Nat) : Bool := decide (n < 4)

/-- A permit pool: a message class, or 10 for SC0. -/
def poolOk (n : Nat) : Bool := decide (n < 11)

/-- A class of Table 2.2. -/
def ftClassOk (n : Nat) : Bool := decide (n < 16)

/-- A register of FAULT_PEND. -/
def pendOk (n : Nat) : Bool := decide (n < 32)

/-- A slot of a fret table. -/
def fretSlotOk (n : Nat) : Bool := decide (n < 512)

/-- A register of ARB_PRIO. -/
def prioOk (n : Nat) : Bool := decide (n < 8)

/-- A register of FRET_BANK. -/
def fretPairOk (n : Nat) : Bool := decide (n < 256)

/-- A backing device (R169). -/
def devOk (n : Nat) : Bool := decide (n < 1024)

/-- A command ring: the even ring of a pair, or a pseudo-ring (R359). -/
def ringOk (r : Nat) : Bool := (decide (r < 8192) && r % 2 == 0) || r == 8192 || r == 8193

/-- A register access lies in its BAR (Table 23.1). -/
def accOk (a : RegAccess) : Bool := decide (a.offset < if a.bar2 then 2 ^ 25 else 2 ^ 21)

/-- A Fabric Manager API request comes from a tenant. -/
def fmOk (q : FmReq) : Bool := decide (q.tenant < 4096)

/-- An offset of BAR0. -/
def offsetOk (n : Nat) : Bool := decide (n < 2 ^ 21)

/-- The partition of the boot configuration lies in its ranges (R213). -/
def bootOk (b : StartFacts) : Bool :=
  match b.config with
  | none => true
  | some k => decide (k.dirSize ≤ 32) && decide (k.lcWays ≤ 4)

/-- The command is well formed. -/
def Instr.wf (i : Instr) : Bool :=
  match i with
  | .ftNowLoRead _ | .ftSyncFrame _ | .ftSyncInLost | .ftSyncOutMarker | .timeSetLoad | .ftStep | .ftHoldoverLimitExpire
  | .ftOscFail | .ftOscRestored | .packetLookup _ | .shaperRelease | .coarseBucketStart | .memRd _ | .memInv _
  | .memClnEvct _ | .memWr _ | .memWrPtl _ | .birsp _ | .lineDataReady _ | .snoopReachable _ _ | .bisnpTimeout _ _
  | .responseDeadlineExpire _ | .dsTriggerExpire _ | .backingReadResult _ _ _ | .backingTimeoutExpire _
  | .backingWriteComplete _ _ _ | .backingWriteLate _ _ | .leaderRequest _ _ | .hbmCodewordRead _ | .patrolScrub _
  | .mgrRingEnable _ _ | .mgrRingDisable _ _ | .mctpMessage _ _ | .mctpEndpointReset _ | .consoleCommand _ _ | .mgmtFwReady
  | .completionTimeout _ | .groupApply | .groupLeaseExpire _ | .groupCommitEnd _ | .groupCheckEnd _ _ | .moverAutoBacklog
  | .faultQueueRoom | .chipReset | .snapTimeoutExpire | .minWidthExpire | .release _ | .bbRecordWrite _ | .snapshotEnd _
  | .mgmtWatchdog _ | .mgmtEccError _ _ | .mgmtFwAssert _ | .sliceIntervalExpire | .sliceIsolationDone | .sliceDrainExpire
  | .sliceTestEnd _ | .deviceSlackEntry | .deviceWake | .avsInterval _ | .avsEmergency _ | .coreCurrentLimit _
  | .coreCurrentRelease | .thermalSample _ | .thermalStepExit | .thermalTrip | .thermalTripRelease | .keyProg _ _
  | .kSetGo _ _ | .getVersion _ | .getCapabilities _ | .negotiateAlgorithms _ _ | .getDigests _ | .getCertificate _ _ _ _
  | .challenge _ _ | .getMeasurements _ _ _ | .keyExchange _ _ | .finish _ _ _ | .heartbeat _ _ | .keyUpdate _ _
  | .endSession _ _ | .setCertificate _ _ _ _ _ | .spdmUnsupportedRequest _ _ | .trialConfirm | .bootFwReadyTimeout
  | .activateFwReadyTimeout | .debugToken _ | .fwImageWritten _ | .rstNAssert | .warmNQualified | .railsGood
  | .shutdownGo _ _ | .shutdownPhaseEnd _ => true
  | .start b => bootOk b
  | .regPairLoRead _ offset => offsetOk offset
  | .portBwInLoRead _ port | .hostConfigWrite port _ | .cxlFlitReceive port _ | .creditStallTimeExpire port _
  | .cxlRetryRequest port _ | .goodCopy port _ | .stompHoldExpire port _ | .egressFlitBoundary port | .gateListStart port
  | .gateEntryBoundary port | .biconflict port _ _ | .nack port _ | .retryBackoffExpire port _ | .cxlLinkUp port _
  | .cxlLinkDown port | .hotReset port | .l0pRequest port _ | .l0pResponse port _ | .receiverDetect port
  | .portCtlRetrain _ port | .lwInterval port _ | .bwWindowEnd port | .spdmResponse port _ => portOk port
  | .registerWrite _ acc | .rwcRegisterWrite _ acc | .counterClearWrite _ acc _ => accOk acc
  | .ftSyncMarker p => subOk p.sub
  | .timeSet r _ | .timeConfig r _ | .timeQuery r _ | .fabricIdSet r _ | .fabricIdQuery r _ | .gateListSet r _
  | .gateListQuery r _ | .portShaperSet r _ | .sc0FlowAdd r _ | .sc0FlowRemove r _ | .sc0FlowQuery r _ | .domainCreate r _
  | .domainDestroy r _ | .agentBind r _ | .agentUnbind r _ | .agentRemove r _ | .domainQuery r _ | .backingAdd r _ _
  | .backingRemove r _ | .spareSet r _ | .windowCreate r _ | .windowDestroy r _ | .windowGrow r _ | .windowShrink r _
  | .windowSet r _ | .windowQuery r _ | .memberFail r _ | .memberReplace r _ | .hbmReserve r _ | .lcConfig r _
  | .hbmQuery r _ | .stvLinkConfig r _ | .stvLinkRetrain r _ | .stvLinkRemove r _ | .stvLinkRestore r _ | .stvLinkQuery r _
  | .portConfig r _ | .portQuery r _ | .portRetrain r _ | .perstMap r _ | .vcsCreate r _ | .vcsDestroy r _ | .vppbBind r _
  | .vppbUnbind r _ | .vcsQuery r _ | .laneConfig r _ | .laneQuery r _ | .laneTest r _ | .laneMargin r _ | .laneEqClear r _
  | .tenantCreate r _ | .tenantDestroy r _ | .tenantSet r _ | .tenantBind r _ | .tenantUnbind r _ | .tenantEnable r _
  | .tenantDisable r _ | .tenantReset r _ | .tenantQuery r _ | .ringSetup r _ | .ringStop r _ | .ringQuery r _ | .nop r _
  | .abort r _ | .jobQuery r _ | .groupOpen r _ | .groupCheck r _ | .groupCommit r _ | .groupDiscard r _ | .groupQuery r _
  | .groupRenew r _ | .copy r _ | .fill r _ | .migrate r _ | .resync r _ | .dump r _ | .faultSeverity r _
  | .faultReaction r _ | .faultQuery r _ _ | .errOutConfig r _ | .bbRead r _ _ | .bbExport r _ | .bbSnapshot r _
  | .bistRun r _ | .sliceTestConfig r _ | .bistResult r _ | .errInject r _ | .slotConfig r _ | .slotOn r _ | .slotOff r _
  | .slotQuery r _ | .feedSelect r _ | .rungSet r _ | .loopBounds r _ | .powerQuery r _ | .ctrConfig r _ | .ctrRead r _
  | .dumpSchedule r _ | .bwWindow r _ | .fwUpdate r _ | .fwActivate r _ | .keyRevoke r _ _ | .rollbackAdvance r _
  | .ideKeyProg r _ | .ideKeyGo r _ | .certGet r _ | .measureGet r _ => ringOk r
  | .timeExchange link | .timeRspMissed link | .permitReq link _ | .permitGrant link _ | .permitReturn link _
  | .stvFlitReceive link _ | .stvFlitTransmit link | .ackTimeoutExpire link | .replayAgeExpire link | .stvLanesLocked link _
  | .markersDeskewed link _ | .trainFlit link _ | .trainTimeoutExpire link | .idleDownExpire link
  | .retryIntervalExpire link | .stvCtlRetrain _ link | .clrCnt _ link | .rateInterval link _ => linkOk link
  | .timeReq link exchId _ sub | .timeRsp link exchId _ _ sub => linkOk link && exchOk exchId && subOk sub
  | .timeAnnounce link cls _ _ _ => linkOk link && ftClassOk cls
  | .spillReturn input output sc _ => xbarOk input && xbarOk output && scOk sc
  | .cellLeave output bank _ => xbarOk output && bankOk bank
  | .permitRequestRetry dst path cls | .permitIdleExpire dst path cls | .permitReqLost dst path cls =>
    fabOk dst && pathOk path && poolOk cls
  | .pathGuardExpire dst _ | .guardedResponse dst _ _ | .duplicate dst _ => fabOk dst
  | .pathProbe id path | .probeReturn id path => fabOk id && pathOk path
  | .guardedRequestArrival src _ => fabOk src
  | .arbiterDecision x _ | .slotStart x => arbOk x
  | .fretParity x slot => arbOk x && fretSlotOk slot
  | .fretBankWrite _ x n _ => arbOk x && fretPairOk n
  | .arbPrioWrite _ x k _ => arbOk x && prioOk k
  | .agentDeadTimeExpire domain _ | .agentSweepEnd domain _ | .agentUnbindEnd domain _ | .agentUnbindDeadline domain _ =>
    domainOk domain
  | .dcResponse port window _ | .releaseCapacityResponse port window _ => portOk port && windowOk window
  | .dcResponseTimeExpire window | .shrinkDrainDeadline window | .autoSpareDelayExpire window _ => windowOk window
  | .memberLossTimeExpire dev | .memberSlowRecovery dev | .purgeEnd dev _ => devOk dev
  | .retirementCopyEnd pc _ => pcOk pc
  | .placementLoopUpdate slice => sliceOk slice
  | .unbindTimeoutExpire vcs vppb | .powerControllerOff vcs vppb => vcsOk vcs && vppbOk vppb
  | .perstInNEdge pin _ | .perstInAssert pin | .perstInRelease pin | .perstOutMinExpire pin => pinOk pin
  | .identify q | .backgroundOperationStatus q | .getResponseMessageLimit q | .setResponseMessageLimit q _
  | .identifySwitchDevice q | .getMultiHeadedInfo q | .getHeadInfo q _ _ | .getDcdInfo q | .fmApiUnsupported q _ => fmOk q
  | .getPhysicalPortState q port | .physicalPortControl q port _ | .sendPpbCxlIoConfigurationRequest q port _ _ _
  | .tunnelManagementCommand q port _ | .sendLdCxlIoConfigurationRequest q port _ _ _ _
  | .sendLdCxlIoMemoryRequest q port _ _ _ _ | .getLdInfo q port | .getLdAllocations q port _ | .setLdAllocations q port _ _
  | .getQosControl q port | .setQosControl q port _ | .getQosStatus q port | .getQosAllocatedBw q port _
  | .setQosAllocatedBw q port _ | .getQosBwLimit q port _ | .setQosBwLimit q port _ | .getHostDcRegionConfiguration q port
  | .getDcRegionExtentLists q port _ => fmOk q && portOk port
  | .getVirtualCxlSwitchInfo q vcs => fmOk q && vcsOk vcs
  | .bindVppb q vcs vppb port _ => fmOk q && vcsOk vcs && vppbOk vppb && portOk port
  | .unbindVppb q vcs vppb _ | .generateAerEvent q vcs vppb _ => fmOk q && vcsOk vcs && vppbOk vppb
  | .refclkCount course _ | .refclkEdgeLoss course | .rungDescent course | .courseWake course => courseOk course
  | .laneLos lane | .laneCdrUnlock lane | .laneErrLimit lane _ | .eqFail lane | .laneTestEnd lane _ _ _
  | .laneMarginEnd lane _ _ _ _ | .marginRequest lane | .eqClear _ lane | .clrQuar _ lane | .lanePrbsWrite _ lane _
  | .injectOne _ lane | .prbsClr _ lane => laneOk lane
  | .drainComplete tenant | .tenantDrainDeadline tenant | .doorbell _ tenant _ | .evtHeadWrite _ tenant _
  | .descriptorFetch tenant _ | .evtCoalesceExpire tenant => tenantOk tenant
  | .jobStart engine | .autoJobStart engine | .moverLineTransaction engine _ | .jobEnd engine | .jobFault engine _
  | .moverEngineFault engine | .moverWriteComplete engine _ => engineOk engine
  | .faultHoldoffExpire source => sourceOk source
  | .faultPendClear _ group _ => pendOk group
  | .supplyWarning rail | .supplyRestored rail | .standbyRailLow rail | .railUv rail | .railOv rail => railOk rail
  | .prsntNFall chan | .debounceAbort chan | .insertionQualified chan | .removal chan | .faultTimerExpire chan
  | .fastTrip chan | .powerGood chan | .powerGoodLost chan | .retryHoldoffEnd chan | .retryCountReset chan | .gateStuck chan
  | .offVoltage chan | .feedReturnExpire chan | .deadTimeEnd chan | .inputLow chan _ | .warnLeadEnd chan
  | .spWarnRelease chan | .slotSample chan _ | .currentLimitEngage chan | .currentLimitRelease chan => chanOk chan
  | .feedBad chan feed | .feedGood chan feed => chanOk chan && feedOk feed
  | .dumpInstant schedule => scheduleOk schedule

end Sys2Proof
end

