-- ==== Sys2Proof/Safety.lean ====
section
/-!
DEFINITION. What every state of a safe run keeps (the waiting commands are well formed, no reaction is left over, the pins that the
housekeeping die drives follow the fault collector: R409, R410, R411), and the words in which the claims speak of a command's
outcome and of a vendor command that its ring delivers.
-/
namespace Sys2Proof

open Machine

/-- Every waiting command is well formed. -/
def QueueOk (s : State) : Prop := s.pending.all Instr.wf = true

/-- A source is pending whose reaction set at its last raise includes IRQ_OUT (R409). -/
def irqDue (c : Chip) : Bool := c.flt.sources.any (fun s => s.2.pending && s.2.irqOut)

/-- The pins follow the collector: IRQ_OUT_N while the fabric die runs (R409, R411), ERR_OUT_N through its minimum width (R410). -/
def PinsFollow (c : Chip) : Prop :=
  (c.rst.running = true → c.flt.irqLow = irqDue c) ∧ (c.flt.errMin = true → c.flt.errLow = true)

/-- What every step keeps. -/
def Safe (s : State) : Prop := QueueOk s ∧ s.chip.flt.todo = [] ∧ PinsFollow s.chip

/-- Command `i` completes on `s`: it changes the chip to `c`, and what follows of itself has followed (the reactions that its raises
set off, the pins). -/
def After (s : State) (i : Instr) (c : Chip) : Prop := exec i s = .next { s with chip := conclude s.chip c }

/-- The opcode, ring and descriptor of a row that is a vendor command (Table 12.7). -/
def Instr.vendor : Instr → Option (Nat × Nat × Desc)
  | .timeSet r d => some (0x0A00, r, d)
  | .timeConfig r d => some (0x0A01, r, d)
  | .timeQuery r d => some (0x0A02, r, d)
  | .fabricIdSet r d => some (0x0160, r, d)
  | .fabricIdQuery r d => some (0x0161, r, d)
  | .gateListSet r d => some (0x0150, r, d)
  | .gateListQuery r d => some (0x0151, r, d)
  | .portShaperSet r d => some (0x0104, r, d)
  | .sc0FlowAdd r d => some (0x0240, r, d)
  | .sc0FlowRemove r d => some (0x0241, r, d)
  | .sc0FlowQuery r d => some (0x0242, r, d)
  | .domainCreate r d => some (0x0B00, r, d)
  | .domainDestroy r d => some (0x0B01, r, d)
  | .agentBind r d => some (0x0B02, r, d)
  | .agentUnbind r d => some (0x0B03, r, d)
  | .agentRemove r d => some (0x0B04, r, d)
  | .domainQuery r d => some (0x0B05, r, d)
  | .backingAdd r d _ => some (0x0210, r, d)
  | .backingRemove r d => some (0x0211, r, d)
  | .spareSet r d => some (0x0212, r, d)
  | .windowCreate r d => some (0x0218, r, d)
  | .windowDestroy r d => some (0x0219, r, d)
  | .windowGrow r d => some (0x021A, r, d)
  | .windowShrink r d => some (0x021B, r, d)
  | .windowSet r d => some (0x021C, r, d)
  | .windowQuery r d => some (0x021D, r, d)
  | .memberFail r d => some (0x0220, r, d)
  | .memberReplace r d => some (0x0221, r, d)
  | .hbmReserve r d => some (0x0B10, r, d)
  | .lcConfig r d => some (0x0B11, r, d)
  | .hbmQuery r d => some (0x0B12, r, d)
  | .stvLinkConfig r d => some (0x0140, r, d)
  | .stvLinkRetrain r d => some (0x0141, r, d)
  | .stvLinkRemove r d => some (0x0142, r, d)
  | .stvLinkRestore r d => some (0x0143, r, d)
  | .stvLinkQuery r d => some (0x0144, r, d)
  | .portConfig r d => some (0x0100, r, d)
  | .portQuery r d => some (0x0101, r, d)
  | .portRetrain r d => some (0x0102, r, d)
  | .perstMap r d => some (0x0108, r, d)
  | .vcsCreate r d => some (0x0110, r, d)
  | .vcsDestroy r d => some (0x0111, r, d)
  | .vppbBind r d => some (0x0112, r, d)
  | .vppbUnbind r d => some (0x0113, r, d)
  | .vcsQuery r d => some (0x0114, r, d)
  | .laneConfig r d => some (0x0120, r, d)
  | .laneQuery r d => some (0x0121, r, d)
  | .laneTest r d => some (0x0122, r, d)
  | .laneMargin r d => some (0x0123, r, d)
  | .laneEqClear r d => some (0x0124, r, d)
  | .tenantCreate r d => some (0x0200, r, d)
  | .tenantDestroy r d => some (0x0201, r, d)
  | .tenantSet r d => some (0x0202, r, d)
  | .tenantBind r d => some (0x0203, r, d)
  | .tenantUnbind r d => some (0x0204, r, d)
  | .tenantEnable r d => some (0x0205, r, d)
  | .tenantDisable r d => some (0x0206, r, d)
  | .tenantReset r d => some (0x0207, r, d)
  | .tenantQuery r d => some (0x0208, r, d)
  | .ringSetup r d => some (0x0230, r, d)
  | .ringStop r d => some (0x0231, r, d)
  | .ringQuery r d => some (0x0232, r, d)
  | .nop r d => some (0x0233, r, d)
  | .abort r d => some (0x0400, r, d)
  | .jobQuery r d => some (0x0401, r, d)
  | .groupOpen r d => some (0x0300, r, d)
  | .groupCheck r d => some (0x0301, r, d)
  | .groupCommit r d => some (0x0302, r, d)
  | .groupDiscard r d => some (0x0303, r, d)
  | .groupQuery r d => some (0x0304, r, d)
  | .groupRenew r d => some (0x0305, r, d)
  | .copy r d => some (0x0410, r, d)
  | .fill r d => some (0x0411, r, d)
  | .migrate r d => some (0x0412, r, d)
  | .resync r d => some (0x0413, r, d)
  | .dump r d => some (0x0414, r, d)
  | .faultSeverity r d => some (0x0600, r, d)
  | .faultReaction r d => some (0x0601, r, d)
  | .faultQuery r d _ => some (0x0602, r, d)
  | .errOutConfig r d => some (0x0603, r, d)
  | .bbRead r d _ => some (0x0610, r, d)
  | .bbExport r d => some (0x0611, r, d)
  | .bbSnapshot r d => some (0x0612, r, d)
  | .bistRun r d => some (0x0900, r, d)
  | .sliceTestConfig r d => some (0x0901, r, d)
  | .bistResult r d => some (0x0902, r, d)
  | .errInject r d => some (0x0910, r, d)
  | .slotConfig r d => some (0x0710, r, d)
  | .slotOn r d => some (0x0711, r, d)
  | .slotOff r d => some (0x0712, r, d)
  | .slotQuery r d => some (0x0713, r, d)
  | .feedSelect r d => some (0x0714, r, d)
  | .rungSet r d => some (0x0700, r, d)
  | .loopBounds r d => some (0x0701, r, d)
  | .powerQuery r d => some (0x0702, r, d)
  | .ctrConfig r d => some (0x0500, r, d)
  | .ctrRead r d => some (0x0501, r, d)
  | .dumpSchedule r d => some (0x0502, r, d)
  | .bwWindow r d => some (0x0503, r, d)
  | .fwUpdate r d => some (0x0800, r, d)
  | .fwActivate r d => some (0x0801, r, d)
  | .keyRevoke r d _ => some (0x0802, r, d)
  | .rollbackAdvance r d => some (0x0803, r, d)
  | .ideKeyProg r d => some (0x0810, r, d)
  | .ideKeyGo r d => some (0x0811, r, d)
  | .certGet r d => some (0x0820, r, d)
  | .measureGet r d => some (0x0821, r, d)
  | _ => none

/-- The command `f` of ring `r`'s list, with descriptor `d`, is next to run, and steps 2 to 4 of R346 let it pass. -/
def Passes (c : Chip) (r op : Nat) (d : Desc) (f : InFlight) : Prop :=
  fwServes c r op = true ∧ startable [] (c.ring (ringKey r)).flight op d = some f ∧ pathWaits c r f = false ∧
  preStatus c r op d = none

/-- It runs: it passes, it is not staged, and no group claims an object that it would change (R366). -/
def Runs (c : Chip) (r op : Nat) (d : Desc) (f : InFlight) : Prop :=
  Passes c r op d f ∧ d.stage = false ∧ (isQuery op || !heldByOther c (claimsOf c op d) 0) = true

/-- How the command is known while it runs. -/
def refOf (r : Nat) (d : Desc) (f : InFlight) : CmdRef := { f.cmd with ring := r, respond := d.respond }

/-- The chip once the command is marked as started. -/
def begun (c : Chip) (r : Nat) (d : Desc) (f : InFlight) : Chip :=
  c.modRing (ringKey r) (fun q => { q with flight := markStarted q.flight (refOf r d f) })

/-- A vendor command that runs completes: where `pre` holds of the chip as it begins, its effect is `eff` of that chip and of how the
command is known. -/
def Completes (s : State) (i : Instr) (op r : Nat) (d : Desc) (pre : Chip → Prop) (eff : Chip → CmdRef → Chip) : Prop :=
  ∀ f, Runs s.chip r op d f → pre (begun s.chip r d f) → After s i (eff (begun s.chip r d f) (refOf r d f))

end Sys2Proof
end

