-- ==== Sys2Proof/Certificates/Slice0/Obligations.lean ====
section
/-!
DEFINITION. The statements for the provers. `After s i c`: command `i` on `s` answers a next state with chip `c` and what follows of
itself (Safety.lean); `Completes s i op r d pre eff`: a vendor command that its ring has delivered, that passes its checks and meets
`pre`, completes with `eff`.
-/

section Statements

open Sys2Proof Sys2Proof.Machine

/-! ### The whole machine -/

/-- A step takes the command at the front of the queue and runs it with the queue's rest (the queue is the model's own,
notes/assumptions/1.md). -/
def Obligations.StepRunsFrontCommand : Prop :=
  ∀ (i : Instr) (s : State), step { s with pending := i :: s.pending } = exec i s

/-- R44: on an empty queue a step is one core cycle (the model's choice, notes/assumptions/1.md).
Choices of the model's own in it: notes/assumptions 1. -/
def Obligations.IdleStepAdvancesFabricTime : Prop :=
  (∀ s : State, s.pending = [] → s.chip.rst.running = true → s.chip.ctr.ctrs.all (fun k => !k.2.enable) = true →
    s.chip.flt.todo = [] → s.chip.home.inq = [] →
    step s = .next { s with chip := pins (rungsHeld { s.chip with ft := { s.chip.ft with
      count := s.chip.ft.count + BitVec.ofNat 64 (8 + ((s.chip.ft.fracAcc : Int) + s.chip.ft.rate.toInt) / 2 ^ 32).toNat,
      ivl := s.chip.ft.ivl + (8 + ((s.chip.ft.fracAcc : Int) + s.chip.ft.rate.toInt) / 2 ^ 32).toNat,
      fracAcc := (((s.chip.ft.fracAcc : Int) + s.chip.ft.rate.toInt) % 2 ^ 32).toNat,
      newSlot := (s.chip.ft.count + BitVec.ofNat 64 (8 + ((s.chip.ft.fracAcc : Int) + s.chip.ft.rate.toInt) / 2 ^ 32).toNat).toNat / 64
        != s.chip.ft.count.toNat / 64 } }) }) ∧
  (∀ s : State, s.pending = [] → s.chip.rst.running = false → s.chip.rst.started = true →
    step s = .next { s with chip := pins { s.chip with ft := { s.chip.ft with
      count := s.chip.ft.count + BitVec.ofNat 64 (8 + ((s.chip.ft.fracAcc : Int) + s.chip.ft.rate.toInt) / 2 ^ 32).toNat,
      ivl := s.chip.ft.ivl + (8 + ((s.chip.ft.fracAcc : Int) + s.chip.ft.rate.toInt) / 2 ^ 32).toNat,
      fracAcc := (((s.chip.ft.fracAcc : Int) + s.chip.ft.rate.toInt) % 2 ^ 32).toNat,
      newSlot := (s.chip.ft.count + BitVec.ofNat 64 (8 + ((s.chip.ft.fracAcc : Int) + s.chip.ft.rate.toInt) / 2 ^ 32).toNat).toNat / 64
        != s.chip.ft.count.toNat / 64 } } }) ∧
  (∀ s : State, s.pending = [] → s.chip.rst.running = false → s.chip.rst.started = false →
    step s = .next { s with chip := pins { s.chip with ft := { s.chip.ft with ivl := s.chip.ft.ivl + 8 } } })

/-- Every command completes: no step ends in a fault or a refusal. -/
def Obligations.EveryStepAnswersNextState : Prop :=
  ∀ s : State, ∃ t : State, step s = .next t ∧ t.pending = s.pending.tail

/-- The invariant of a safe run holds after reset. -/
def Obligations.ResetStateIsSafe : Prop := Safe State.reset

/-- Every step of every command keeps the invariant.
Choices of the model's own in it: notes/assumptions 11. -/
def Obligations.EveryStepKeepsSafety : Prop :=
  ∀ s t : State, Safe s → step s = .next t → Safe t

/-- R36, R315, R402, R548: the state after a cold reset.
Choices of the model's own in it: notes/assumptions 4, 14. -/
def Obligations.ColdResetStateValues : Prop :=
  let c := State.reset.chip
  c.ft.count = 0 ∧ c.ft.mode = .free ∧ c.ft.cls = 15 ∧ c.ft.source = .none ∧ c.ft.stepped = false ∧
  (c.tenant 0).state = .enabled ∧ (∀ t, 0 < t → (c.tenant t).state = .none) ∧
  (∀ n, (c.source n).pending = false ∧ (c.source n).count = 0) ∧
  sevOf c 4 = 5 ∧ sevOf c 48 = 4 ∧ sevOf c 50 = 4 ∧ sevOf c 136 = 7 ∧ (∀ n, 192 ≤ n → n ≤ 196 → sevOf c n = 2) ∧ sevOf c 0 = 3 ∧
  (∀ k, (c.ring k).state = .unset) ∧ c.rings.fwReady = false ∧
  (∀ g, (c.group g).state = .none) ∧ (∀ f, (c.flow f).present = false) ∧ (∀ w, (c.window w).present = false) ∧
  (∀ b, (c.dev b).present = false) ∧ (∀ n, (c.domain n).present = false) ∧ (∀ v, (c.vcsOf v).present = false) ∧
  State.reset.pending = [] ∧ c.sent = []

/-- R346 steps 2 to 4 and R366, for every row that is a vendor command.
Choices of the model's own in it: notes/assumptions 19, 20, 21, 25. -/
def Obligations.VendorCommandChecksInOrder : Prop :=
  ∀ (i : Instr) (op r : Nat) (d : Desc) (s : State) (f : InFlight), i.vendor = some (op, r, d) →
    fwServes s.chip r op = true → startable [] (s.chip.ring (ringKey r)).flight op d = some f → pathWaits s.chip r f = false →
    (∀ st, preStatus s.chip r op d = some st → After s i (endNow s.chip (refOf r d f) st [])) ∧
    (preStatus s.chip r op d = none → d.stage = false → isQuery op = false → heldByOther s.chip (claimsOf s.chip op d) 0 = true →
      After s i (endNow s.chip (refOf r d f) .lockHeld []))

/-- R370: staging, for every row that is a vendor command.
Choices of the model's own in it: notes/assumptions 25. -/
def Obligations.StagingCopiesDescriptorIntoGroup : Prop :=
  ∀ (i : Instr) (op r : Nat) (d : Desc) (s : State) (f : InFlight), i.vendor = some (op, r, d) → Passes s.chip r op d f →
    d.stage = true →
    let g := s.chip.group d.grp
    let os := claimsOf s.chip op d
    let full : Bool := decide (1024 ≤ g.cmds) || decide (256 * 1024 < g.bytes + copiedBytes d)
    let ends := fun st => After s i (endNow s.chip (refOf r d f) st [])
    (g.state = .none → ends .noSuchTarget) ∧
    (g.state ≠ .none → g.owner ≠ r → ends .lockHeld) ∧
    (g.state ≠ .none → g.owner = r → g.state ≠ .opened → ends .busy) ∧
    (g.state = .opened → g.owner = r → full = true → ends .capacity) ∧
    (g.state = .opened → g.owner = r → full = false → heldByOther s.chip os d.grp = true → ends .lockHeld) ∧
    (g.state = .opened → g.owner = r → full = false → heldByOther s.chip os d.grp = false →
      let g' : Group := { g with items := g.items ++ [Item.cmd op r d], bytes := g.bytes + copiedBytes d,
                                 claims := os.foldl addOnce g.claims }
      After s i (endNow (s.chip.setGroup d.grp g') (refOf r d f) .ok [] true))

/-- R349, R359, R360: a command that may not start leaves the chip as it is.
Choices of the model's own in it: notes/assumptions 22. -/
def Obligations.VendorCommandWaitsItsTurn : Prop :=
  ∀ (i : Instr) (op r : Nat) (d : Desc) (s : State), i.vendor = some (op, r, d) →
    (fwServes s.chip r op = false ∨ startable [] (s.chip.ring (ringKey r)).flight op d = none ∨
      ∃ f, startable [] (s.chip.ring (ringKey r)).flight op d = some f ∧ pathWaits s.chip r f = true) →
    After s i s.chip

/-- The frame of what follows a command. -/
def Obligations.QuietCommandLeavesOnlyPins : Prop :=
  ∀ a b : Chip, b.flt.todo = [] → b.pool = a.pool →
    let low := if b.rst.running then irqDue b else b.flt.irqLow
    conclude a b = { b with flt := { b.flt with irqLow := low, errLow := b.flt.errLow || b.flt.errMin } }

/-- R400. -/
def Obligations.RaiseSetsPendingAndRecord : Prop :=
  ∀ (c : Chip) (n : Nat) (v : DWord), c.rst.running = true →
    let a := c.source n
    let b := (raise c n v).source n
    b.pending = true ∧ b.count = min (a.count + 1) 65535 ∧
    (a.pending = false → b.first = c.ft.count ∧ b.info = v) ∧
    (a.pending = true → b.first = a.first ∧ b.info = a.info) ∧
    (∀ m, m ≠ n → (raise c n v).source m = c.source m) ∧
    (c.flt.sources.wf = true → (clearPending c n).source n = { a with pending := false, first := 0, info := 0 }) ∧
    (∀ m, m ≠ n → (clearPending c n).source m = c.source m)

/-- R343, R344: the event of a command on a command ring. -/
def Obligations.EventRecordWrittenAtTail : Prop :=
  ∀ (c : Chip) (x : CmdRef) (st : Status) (res : List Byte) (f : InFlight), x.ring < 8192 →
    (c.ring (x.ring / 2)).flight.find? (fun y => sameCmd y.cmd x) = some f → (c.ring (x.ring / 2)).stopCmd = none →
    let t := x.ring / 2
    let q := { c.ring t with flight := dropFirst (c.ring t).flight x, reserved := (c.ring t).reserved - 1 }
    ((st = .ok ∧ x.respond = false ∧ f.restarted = false) → endNow c x st res = c.setRing t q) ∧
    (¬ (st = .ok ∧ x.respond = false ∧ f.restarted = false) → q.state ≠ .unset → canWrite c t = true →
      let next := (q.evtTail + 1) % q.evtSize
      let e : EventRec := { code := x.opcode, status := st, tag := x.tag, time := c.ft.count, result := res, phase := q.phase,
                            restarted := f.restarted }
      let turn : Bool := if next = 0 then !q.phase else q.phase
      endNow c x st res = interrupt (((c.setRing t q).setRing t
          { q with evtTail := next, phase := turn, lostRaised := false }).emit
        (.event (2 * t) (q.evtBase.toNat + 32 * q.evtTail) e.bytes)) t)

/-! ### Fabric Time -/

/-- R43, R45, Table 2.5: the time commands, the load cycle of a TIME_SET, the step in ACQUIRE.
Choices of the model's own in it: notes/assumptions 18, 132, 156, 163. -/
def Obligations.FabricTimeCommandsComplete : Prop :=
  ∀ (s : State) (r : Nat) (d : Desc),
  Completes s (.timeSet r d) 0x0A00 r d
    (fun c => d.zeroBut [(16, 8)] = true ∧ (c.ft.mode = .free ∨ c.ft.mode = .set) ∧ c.now ≤ d.u64 16)
    (fun c x => { c with ft := { c.ft with pendSet :=
      c.ft.pendSet ++ [{ value := d.u64 16, load := (c.now / quantum + 1) * quantum, cmd := x }] } }) ∧
  Completes s (.timeConfig r d) 0x0A01 r d (fun c => timeConfigCheck c d = none)
    (fun c x => endCmd (syncUseEnds { c with ft := { c.ft with
      inDelay := (if bitOf (d.u16 16) 0 then d.u16 18 else c.ft.inDelay),
      stepThresh := (if bitOf (d.u16 16) 1 then d.u32 20 else c.ft.stepThresh),
      holdLimit := (if bitOf (d.u16 16) 2 then d.u16 24 else c.ft.holdLimit),
      syncUse := (if bitOf (d.u16 16) 3 then d.byte 26 == 1 else c.ft.syncUse),
      linkAsym := (if bitOf (d.u16 16) 4 then c.ft.linkAsym.put (d.byte 27) (signed 16 (d.u16 28)) else c.ft.linkAsym) } }) x .ok) ∧
  Completes s (.timeQuery r d) 0x0A02 r d (fun _ => d.bufferOk r = true ∧ d.zeroBut [(16, 12)] = true)
    (fun c x => endQuery c x d (Config.queryBytes 0x0A02) (openFields (timeValues c))) ∧
  (∀ p, s.chip.ft.pendSet = [p] → p.load ≤ s.chip.now →
    let c := { s.chip with ft := { s.chip.ft with pendSet := [] } }
    let c1 := if c.ft.mode = .free then loadCount c (p.value - c.now) else stepCount c (p.value - c.now)
    let f : FabricTime := { c1.ft with mode := .set, source := .manager, cls := 14, hops := 0, root := c1.regs.serial.toNat,
                                       rate := if c1.ft.oscOk then freeRate c1.freeCtr else 0, stateIvl := c1.ivl,
                                       timeIn := c1.ft.timeIn.upd c.ft.mode.code (· + (c1.ivl - c1.ft.stateIvl)) }
    let c2 := timeEvent { c1 with ft := f }.usedFree c.ft.mode (c.ft.mode != .free && decide (0 < p.value - c.now))
    After s .timeSetLoad (endCmd c2 p.cmd .ok (leBytes 8 c2.now))) ∧
  (∀ n due, s.chip.ft.pendStep = some (n, due) → due ≤ s.chip.now →
    let c := { s.chip with ft := { s.chip.ft with pendStep := none } }
    (s.chip.ft.mode = .acquire → After s .ftStep (stepCount c n)) ∧ (s.chip.ft.mode ≠ .acquire → After s .ftStep c))

/-- R39 to R42, R44, R49: the inputs of the Fabric Time state machine other than commands and link messages.
Choices of the model's own in it: notes/assumptions 17, 130, 131, 157, 158, 159. -/
def Obligations.FabricTimeSourcesComplete : Prop :=
  ∀ (s : State),
  (∀ sub high e, s.chip.ft.expect = some e →
    let f : FabricTime := { s.chip.ft with usable := false, expect := some ((e + 1) % 2 ^ 40) }
    let off : Int := ((e * 2 ^ 24 : Nat) : Int) - (((s.chip.now + sub : Nat) : Int) - s.chip.ft.inDelay)
    (45056 ≤ high ∧ high ≤ 53248 → s.chip.ft.usable = true →
      (s.chip.ft.syncUse = true → s.chip.ft.source = .sync →
        After s (.ftSyncMarker { sub := sub, high := high }) (measure { s.chip with ft := { f with lastMarker := s.chip.ivl } } off)) ∧
      (s.chip.ft.syncUse = false ∨ s.chip.ft.source ≠ .sync → After s (.ftSyncMarker { sub := sub, high := high }) { s.chip with ft := { f with lastMarker := s.chip.ivl } })) ∧
    (high < 45056 ∨ 53248 < high ∨ s.chip.ft.usable = false → After s (.ftSyncMarker { sub := sub, high := high }) { s.chip with ft := f })) ∧
  (∀ (f : SyncFrame) (b : BitVec 64), frameBits f = some b → crc8 b = b.toNat / 2 ^ 56 →
    let next := b.toNat % 2 ^ 40
    let g : FabricTime := { s.chip.ft with
      usable := true, expect := some next, lastFrame := some ((next + 1) % 2 ^ 40), frameTrace := bitOf b.toNat 44,
      lastMarker := if s.chip.ft.syncCand.isNone then s.chip.ivl else s.chip.ft.lastMarker,
      syncCand := some { cls := min (field b.toNat 40 4) 11, root := s.chip.regs.serial.toNat, hops := 0 } }
    (s.chip.ft.expect = none ∨ s.chip.ft.expect = some next ∨ s.chip.ft.lastFrame = some next →
      After s (.ftSyncFrame f) (candReported { s.chip with ft := g } 0)) ∧
    (¬ (s.chip.ft.expect = none ∨ s.chip.ft.expect = some next ∨ s.chip.ft.lastFrame = some next) →
      After s (.ftSyncFrame f) (raise { s.chip with ft := { s.chip.ft with
        usable := false, lastFrame := some ((next + 1) % 2 ^ 40) } } 34))) ∧
  (∀ f : SyncFrame, frameBits f = none ∨ (∃ b, frameBits f = some b ∧ crc8 b ≠ b.toNat / 2 ^ 56) →
    After s (.ftSyncFrame f) (raise { s.chip with ft := { s.chip.ft with usable := false, lastFrame := none } } 34)) ∧
  (∀ x, s.chip.past s.chip.ft.lastMarker (3 * 2 ^ 24) = true → s.chip.ft.syncCand = some x →
    let f : FabricTime := { s.chip.ft with syncCand := none, usable := false, expect := none, lastFrame := none, frameTrace := false }
    After s .ftSyncInLost (if s.chip.ft.source = .sync then sourceLost { s.chip with ft := f } else { s.chip with ft := f })) ∧
  (s.chip.ft.lastOut ≠ some (s.chip.now / 2 ^ 24) → After s .ftSyncOutMarker
    (Chip.emit { s.chip with ft := { s.chip.ft with lastOut := some (s.chip.now / 2 ^ 24) } }
      (.syncOut (s.chip.now / 2 ^ 24 + 1) s.chip.ft.cls (s.chip.ft.frameTrace && s.chip.ft.source == .sync)))) ∧
  (s.chip.ft.mode = .holdover → s.chip.past s.chip.ft.holdSince (sec s.chip.ft.holdLimit) = true →
    After s .ftHoldoverLimitExpire
      (raise (ftMove { s.chip with ft := { s.chip.ft with cls := 13 } } .holdoverExpired) 33)) ∧
  (s.chip.ft.oscOk = true →
    (s.chip.ft.mode ≠ .holdover → s.chip.ft.mode ≠ .set →
      After s .ftOscFail (raise { s.chip with ft := { s.chip.ft with oscOk := false } } 35)) ∧
    (s.chip.ft.mode = .holdover → let c := raise { s.chip with ft := { s.chip.ft with oscOk := false } } 35
      After s .ftOscFail (raise (ftMove { c with ft := { c.ft with cls := 13 } } .holdoverExpired) 33)) ∧
    (s.chip.ft.mode = .set → After s .ftOscFail
      (raise { s.chip with ft := { s.chip.ft with oscOk := false, rate := 0 } }.usedFree 35))) ∧
  (s.chip.ft.oscOk = false →
    (s.chip.ft.mode ≠ .set → After s .ftOscRestored { s.chip with ft := { s.chip.ft with oscOk := true } }) ∧
    (s.chip.ft.mode = .set → After s .ftOscRestored
      { s.chip with ft := { s.chip.ft with oscOk := true, rate := freeRate s.chip.freeCtr } }.usedFree))

/-- R38, R39, R46, R250.
Choices of the model's own in it: notes/assumptions 130, 132, 143, 158. -/
def Obligations.TimeExchangeRowsComplete : Prop :=
  ∀ (s : State) (l : Nat), linkExists s.chip l = true →
  (s.chip.ft.lastXchg.look l ≠ some (s.chip.now / 2 ^ 20) →
    let f : FabricTime := { s.chip.ft with lastXchg := s.chip.ft.lastXchg.put l (some (s.chip.now / 2 ^ 20)) }
    let x := s.chip.link l
    (x.state = .active → After s (.timeExchange l)
      (timeReview ({ s.chip with ft := { f with nextExch := (s.chip.ft.nextExch + 1) % 256 } }.setLink l
        { x with unseq := x.unseq ++ [(0, s.chip.ft.nextExch, 0), (2, 0, 0)] }))) ∧
    (x.state ≠ .active → s.chip.ft.cands.look l = none → After s (.timeExchange l) (timeReview { s.chip with ft := f })) ∧
    (x.state ≠ .active → s.chip.ft.cands.look l ≠ none → After s (.timeExchange l)
      (timeReview (exchangeMissed { s.chip with ft := f } l)))) ∧
  (∀ e t1 sub, let x := s.chip.link l
    x.inbox.contains (.timeReq e t1) = true → After s (.timeReq l e t1 sub) (s.chip.setLink l
      { x with inbox := x.inbox.erase (.timeReq e t1), unseq := x.unseq ++ [(1, e, s.chip.ft.count + BitVec.ofNat 64 sub)] })) ∧
  (∀ (t2 t3 : BitVec 64) (sub : Nat), let m : CtrlMsg := .timeRsp (s.chip.ft.exch.look l).exchId t2 t3
    (s.chip.link l).inbox.contains m = true → (s.chip.ft.exch.look l).active = true →
    let t1 : Int := ((s.chip.ft.exch.look l).t1 : Nat)
    let t4 : Int := ((s.chip.now + sub : Nat) : Int)
    let i2 : Int := (t2.toNat : Nat)
    let i3 : Int := (t3.toNat : Nat)
    let dly := halfTicks ((t4 - t1) - (i3 - i2) - s.chip.ft.linkAsym.look l) s.chip.freeCtr
    let off := halfTicks ((i2 - t1) - (t4 - i3)) (s.chip.freeCtr + 1)
    let f : FabricTime := { s.chip.ft with exch := s.chip.ft.exch.put l {}, missed := s.chip.ft.missed.put l 0,
                                           offset := s.chip.ft.offset.put l off, delay := s.chip.ft.delay.put l dly }
    let c := { takeMsg s.chip l m with ft := f, freeCtr := s.chip.freeCtr + 2 }.modLink l
      (fun y => { y with delay := dly.toNat % 2 ^ 24, measured := true })
    After s (.timeRsp l (s.chip.ft.exch.look l).exchId t2 t3 sub)
      (if s.chip.ft.source = .link ∧ s.chip.ft.link = l ∧ timeTrusted ((takeMsg s.chip l m).link l) = true then measure c off else c)) ∧
  (∀ cls hops tr (root : BitVec 64), let m : CtrlMsg := .announce cls hops tr root
    (s.chip.link l).inbox.contains m = true → hops < 63 → timeTrusted (s.chip.link l) = true →
    After s (.timeAnnounce l cls hops tr root) (candReported
      { takeMsg s.chip l m with ft := { s.chip.ft with cands := s.chip.ft.cands.put l (some { cls := cls, root := root.toNat, hops := hops + 1 }) } }
      (l + 1))) ∧
  ((s.chip.ft.exch.look l).active = true → s.chip.past (s.chip.ft.exch.look l).since (us 16) = true →
    let n := s.chip.ft.missed.look l + 1
    let c := { s.chip with ft := { s.chip.ft with exch := s.chip.ft.exch.put l {}, missed := s.chip.ft.missed.put l n } }
    After s (.timeRspMissed l) (if 4 ≤ n then linkTimeLost c l else c))

/-! ### Switching -/

/-- R57, R58, R66, R68, R69, R71, R76, R78: the rows of the ingress, the buffer and the replay buffers.
Choices of the model's own in it: notes/assumptions 133, 138, 139, 148, 162, 164, 178, 182, 183, 184, 185, 186, 188. -/
def Obligations.FlitAndBufferRowsComplete : Prop :=
  ∀ (s : State),
  (∀ p f, p < 128 → linkUp (s.chip.port p) = true →
    (f.crcOk = false → After s (.cxlFlitReceive p f) (badFlit s.chip p f.carries)) ∧
    (f.crcOk = true →
      let c := lastCells (s.chip.modPort p (fun y => { y with retries := 0 })) f.ends
      (f.macOk = some false → (c.port p).ideOn = true →
        After s (.cxlFlitReceive p f) (macFailed c p (f.carries.map (·.1)))) ∧
      (¬ (f.macOk = some false ∧ (c.port p).ideOn = true) →
        (f.odd = none → After s (.cxlFlitReceive p f) c) ∧
        (∀ k, f.odd = some k → After s (.cxlFlitReceive p f) (oddTlp c p k))))) ∧
  (∀ p, lookable s.chip p = true →
    (ideHeld s.chip p = true →
      ((∀ a, p.traffic = .ioAddr a → After s (.packetLookup p) (s.chip.emit (.tlpAnswer p.port .unsupported))) ∧
       (∀ a, p.traffic = .mem a true ∨ p.traffic = .mem a false → After s (.packetLookup p) s.chip))) ∧
    (ideHeld s.chip p = false →
      let c := { s.chip with sw := { s.chip.sw with lookups := s.chip.sw.lookups + 1 } }
      (∀ q, lookup c p = .go q → After s (.packetLookup p) (enqueueRouted c p q)) ∧
      (∀ qs, lookup c p = .copies qs → After s (.packetLookup p) (qs.foldl (fun c q => enqueueRouted c p q) c)) ∧
      (∀ d, lookup c p = .done d → After s (.packetLookup p) (countReceived d p (packetOf c p))))) ∧
  (∀ i o sc cls n pl, (s.chip.sw.voq.look (laneKey i o sc cls)).findIdx? (fun q => 0 < q.spilled) = some n →
    let lane := s.chip.sw.voq.look (laneKey i o sc cls)
    let q := lane.getD n {}
    admitPlace s.chip q.input q.sc q.cls.code = some pl →
    let c := takePlace s.chip q.input q.sc q.cls.code pl
    let q' := { q with places := q.places ++ [pl], spilled := q.spilled - 1, whole := true }
    After s (.spillReturn i o sc cls) (spillCheck { c with sw := { c.sw with
      spill := c.sw.spill - 1, voq := c.sw.voq.put (laneKey i o sc cls) (setAt lane n q') } })) ∧
  (∀ o b k q rest pl more, (s.chip.arb o).carry = some k → s.chip.sw.voq.look k.lane = q :: rest → q.pid = k.pid →
    stagingRoom s.chip q 1 = true → crossbarFree s.chip q.input o = true → q.places = pl :: more →
    let last := decide (q.cells ≤ q.moved + 1)
    let q' := { q with moved := q.moved + 1, places := more }
    let used := { s.chip.sw with inCell := s.chip.sw.inCell.put q.input (s.chip.ivl + 1), outCell := s.chip.sw.outCell.put o (s.chip.ivl + 1) }
    let c1 := freePlace { s.chip with sw := used } q.input q.sc q.cls.code pl
    let c2 := if q.input < 32 ∧ !q.fromStv ∧ !q.noCredit then giveBack c1 q.port q.cls.code else c1
    let c3 := { c2 with sw := { c2.sw with voq := c2.sw.voq.put k.lane (if last then rest else q' :: rest) } }
    let c4 := if last then parkHeads (c3.setArb o { s.chip.arb o with carry := none }) else c3
    (∀ p, q.egress.portNo = some p → After s (.cellLeave o b .clean) (offerAll (stageCell c4 p q') q.input)) ∧
    (q.egress.portNo = none →
      let c5 := permitLeaves c4 q 1 true
      (∀ h, q.slice = some h → After s (.cellLeave o b .clean)
        (offerAll (if last then sc0Late (c5.emit (.toSlice h q.pid q.moved)) q 0 else c5.emit (.toSlice h q.pid q.moved)) q.input)) ∧
      (q.slice = none → After s (.cellLeave o b .clean) (offerAll (if last then sc0Late c5 q 0 else c5) q.input)))) ∧
  (∀ o b q, outPacket s.chip o = some q →
    let c := spendArmed s.chip [68, 69]
    let i := srcInfo 8 b
    After s (.cellLeave o b .corrected) (cellMove o (raise c 68 i)) ∧
    After s (.cellLeave o b .double)
      (cellMove o (noGoodQueued (countEvent (raise (markTail (raise c 69 i) [(q.pid, q.moved)]) 66 i) (portEvent q 0x014)) q))) ∧
  (∀ p k t, (creditOf s.chip p (MsgClass.code k)).since = some t → (creditOf s.chip p k.code).raised = false →
    s.chip.past t (us s.chip.sw.timers.creditStall) = true →
    After s (.creditStallTimeExpire p k)
      (raise (setCredit s.chip p k.code { creditOf s.chip p k.code with raised := true }) 76 (srcInfo 1 p k.code))) ∧
  (∀ p seq, p < 128 → linkUp (s.chip.port p) = true →
    let bad := (s.chip.sw.replay.look p).any (fun e => e.bad && decide (seq ≤ e.seq))
    (bad = false → After s (.cxlRetryRequest p seq)
      (s.chip.emit (.replay p seq ((s.chip.sw.replay.look p).filter (fun e => decide (seq ≤ e.seq)))))) ∧
    (bad = true → After s (.cxlRetryRequest p seq)
      (Chip.emit { s.chip with sw := { s.chip.sw with retryFrom := s.chip.sw.retryFrom.put p (some seq) } } (.nop p)))) ∧
  (∀ p pid body, s.chip.rst.running = true →
    After s (.goodCopy p { pid := pid, body := body }) (replaceCopy s.chip p pid false false (some body))) ∧
  (∀ p pid x, (s.chip.sw.stomped.look p).find? (fun s => s.pid == pid) = some x →
    s.chip.past x.since (us s.chip.sw.timers.stompHold) = true → After s (.stompHoldExpire p pid) (noGoodCopy s.chip p pid)) ∧
  (∀ p, (s.chip.port p).role = 1 ∨ (s.chip.port p).role = 3 →
    let h := s.chip.sw.host.look p
    let set := fun (c : Chip) (h' : HostCfg) => { c with sw := { c.sw with host := c.sw.host.put p h' } }
    (∀ fn k b l, After s (.hostConfigWrite p (.range fn k b l))
      (set s.chip { h with ranges := h.ranges.filter (fun r => r.1 ≠ fn ∨ r.2.1 ≠ k) ++ [(fn, k, b, l)] })) ∧
    (∀ fn a b, After s (.hostConfigWrite p (.buses fn a b))
      (set s.chip { h with buses := h.buses.filter (fun r => r.1 ≠ fn) ++ [(fn, a, b)] })) ∧
    (∀ fn b d f, After s (.hostConfigWrite p (.captured fn b d f))
      (set s.chip { h with ids := h.ids.filter (fun r => r.1 ≠ fn) ++ [(fn, b, d, f)] })) ∧
    (∀ i b n v a, After s (.hostConfigWrite p (.hdm i b n v a))
      (set s.chip { h with hdm := h.hdm.filter (fun x => x.index ≠ i) ++
        (if n = 0 then [] else [{ index := i, base := b, size := n, vppb := v, dpa := a }]) })) ∧
    (∀ fn on, After s (.hostConfigWrite p (.busMaster fn on))
      (set s.chip { h with busMaster := if on then addOnce h.busMaster fn else h.busMaster.erase fn })) ∧
    (∀ fn v m, After s (.hostConfigWrite p (.vectorMask fn v m))
      (let c' := set s.chip { h with masked := if m then addOnce h.masked (fn, v) else h.masked.erase (fn, v) }
       if m then c' else sendHeld c' p fn v)) ∧
    (∀ n, After s (.hostConfigWrite p (.maxPayload n)) (set s.chip { h with maxPayload := min n 2048 })) ∧
    (∀ on, After s (.hostConfigWrite p (.dcEvents on)) (set s.chip { h with dcEvents := on })) ∧
    (∀ v i, After s (.hostConfigWrite p (.cacheId v i))
      (set s.chip { h with cacheIds := h.cacheIds.filter (fun e => e.1 ≠ v) ++ (if i < 16 then [(v, i)] else []) })) ∧
    (∀ v i, After s (.hostConfigWrite p (.biId v i))
      (set s.chip { h with biIds := h.biIds.filter (fun e => e.1 ≠ v) ++ (if i < 256 then [(v, i)] else []) })) ∧
    (∀ v on, After s (.hostConfigWrite p (.dpc v on))
      (set s.chip { h with dpcEn := if on then addOnce h.dpcEn v else h.dpcEn.erase v })) ∧
    (∀ v on, After s (.hostConfigWrite p (.hotPlug v on))
      (set s.chip { h with hotEn := if on then addOnce h.hotEn v else h.hotEn.erase v })) ∧
    (∀ fn bits, After s (.hostConfigWrite p (.aerClear fn bits))
      (set s.chip { h with aer := h.aer.upd fn (· &&& ~~~bits) })) ∧
    (∀ v, After s (.hostConfigWrite p (.dpcClear v)) (set (dpcReleased s.chip p v) { h with dpcOn := h.dpcOn.erase v })))

/-- R61, R82, R83, R86 to R89, R255.
Choices of the model's own in it: notes/assumptions 12, 134, 135, 143, 165, 166, 178, 187. -/
def Obligations.PermitAndGuardRowsComplete : Prop :=
  ∀ (s : State),
  (∀ l m, hasArrived s.chip l (.permit .req m) = true →
    let c := takeMsg s.chip l (.permit .req m)
    (∀ b, m.dst = ownId c → routeLink c m.src m.path = some b →
      let g := min m.count (permitRoom c m.cls m.sc0)
      After s (.permitReq l m) (sendPermit (debitPool c m.src m.path m.cls g m.sc0) b .grant { m with count := g } g)) ∧
    (∀ on, m.dst ≠ ownId c → routeLink c m.dst m.path = some on → After s (.permitReq l m) (sendPermit c on .req m 0))) ∧
  (∀ l m, hasArrived s.chip l (.permit .grant m) = true →
    let c := takeMsg s.chip l (.permit .grant m)
    (m.src = ownId c →
      let k := balKey m.dst m.path (if m.sc0 then 10 else m.cls)
      let b := c.sw.balances.look k
      let again := if m.count = 0 then some c.ivl else b.retryAt
      After s (.permitGrant l m) (askPermits (setBalance c k
        { b with permits := b.permits + m.count, reqAt := none, lastUse := c.ivl, retryAt := again })
        m.dst m.path (if m.sc0 then 10 else m.cls))) ∧
    (∀ back, m.src ≠ ownId c → routeLink c m.src m.path = some back →
      (m.sc0 = true → After s (.permitGrant l m) (sendPermit c back .grant m 0)) ∧
      (m.sc0 = false →
        let g := min m.count (permitRoom c m.cls false)
        let c2 := sendPermit (debitPool c m.src m.path m.cls g false) back .grant { m with count := g } g
        (g = m.count → After s (.permitGrant l m) c2) ∧
        (∀ on, g ≠ m.count → routeLink c2 m.dst m.path = some on →
          After s (.permitGrant l m) (sendPermit c2 on .ret { m with count := m.count - g } 0))))) ∧
  (∀ l m, hasArrived s.chip l (.permit .ret m) = true →
    let c := creditPool (takeMsg s.chip l (.permit .ret m)) m.src m.path m.cls m.count m.sc0
    (m.dst = ownId c → After s (.permitReturn l m) c) ∧
    (∀ on, m.dst ≠ ownId c → routeLink c m.dst m.path = some on → After s (.permitReturn l m) (sendPermit c on .ret m 0))) ∧
  (∀ dst path cls t, let k := balKey dst path cls
    let b := s.chip.sw.balances.look k
    (b.retryAt = some t → s.chip.past t (us 1) = true →
      After s (.permitRequestRetry dst path cls) (askPermits (setBalance s.chip k { b with retryAt := none }) dst path cls)) ∧
    (b.reqAt = some t → s.chip.past t (us 100) = true →
      After s (.permitReqLost dst path cls) (askPermits (setBalance s.chip k { b with reqAt := none }) dst path cls)) ∧
    (∀ l, cls < 10 → b.permits ≠ 0 → s.chip.past b.lastUse (us s.chip.sw.timers.permitIdle) = true →
      routeLink s.chip dst path = some l →
      After s (.permitIdleExpire dst path cls) (sendPermit (setBalance s.chip k { b with permits := 0 }) l .ret
        { src := ownId s.chip, dst := dst, path := path, cls := cls, count := b.permits } 0))) ∧
  (∀ dst tag i, s.chip.sw.guardStore.findIdx? (fun g => g.dst == dst && g.tag == tag) = some i →
    let g := s.chip.sw.guardStore.getD i {}
    let keep := fun g' : GuardEntry => { s.chip with sw := { s.chip.sw with guardStore := setAt s.chip.sw.guardStore i g' } }
    g.reissued = false → g.expired = false → s.chip.past g.since (ns s.chip.sw.timers.pathGuard) = true →
    let held := (s.chip.sw.srcHeld.filter (fun h => h.1 == dst)).length
    (16384 ≤ held → After s (.pathGuardExpire dst tag) (raise (keep { g with expired := true }) 75)) ∧
    (held < 16384 → nextPath (feOf s.chip g.dstId) g.path = none →
      After s (.pathGuardExpire dst tag) (raise (keep { g with expired := true }) 74)) ∧
    (∀ j, held < 16384 → nextPath (feOf s.chip g.dstId) g.path = some j →
      let c := keep { g with reissued := true, since := s.chip.ivl, path := j }
      let e := placeCells c (reissueCopy c g j)
      let c2 := setUsable (joinLane e.1 e.2) g.dstId g.path false
      let ps := (c2.sw.probes.filter (fun p => p.id ≠ g.dstId ∨ p.path ≠ g.path)) ++
        [{ id := g.dstId, path := g.path, last := c2.ivl }]
      After s (.pathGuardExpire dst tag) (raise { c2 with sw := { c2.sw with probes := ps } } 73))) ∧
  (∀ id path i, s.chip.sw.probes.findIdx? (fun p => p.id == id && p.path == path) = some i →
    let p := s.chip.sw.probes.getD i {}
    s.chip.past p.last (us 100) = true →
    After s (.pathProbe id path) (Chip.emit { s.chip with sw := { s.chip.sw with
      probes := setAt s.chip.sw.probes i { p with last := s.chip.ivl } } } (.probe id path))) ∧
  (∀ id path, s.chip.sw.probes.any (fun p => p.id == id && p.path == path) = true →
    After s (.probeReturn id path) (setUsable { s.chip with sw := { s.chip.sw with
      probes := s.chip.sw.probes.filter (fun p => p.id ≠ id ∨ p.path ≠ path) } } id path true)) ∧
  (∀ src (g : GuardedReq), let c := windowTo s.chip src g.oldest
    let listed : Nat × Nat × Nat → Bool := fun q => q.1 == src && q.2.1 == g.tag
    let inside := decide ((g.tag + 65536 - c.sw.base.look src) % 65536 < 32768)
    let done := (c.sw.executed.look src).contains g.tag
    let run := Chip.emit { c with sw := { c.sw with executed := c.sw.executed.upd src (g.tag :: ·) } } (.execute src g.pid g.write)
    (c.sw.quarantine.any listed = true → After s (.guardedRequestArrival src g)
      (Chip.emit { c with sw := { c.sw with quarantine := c.sw.quarantine.eraseP listed } } (.guardAnswer src g.tag g.path true))) ∧
    (c.sw.quarantine.any listed = false → inside = false → After s (.guardedRequestArrival src g)
      { c with sw := { c.sw with belowWin := c.sw.belowWin + 1 } }) ∧
    (c.sw.quarantine.any listed = false → inside = true → done = false →
      (g.reissue = false → After s (.guardedRequestArrival src g) run) ∧
      (g.reissue = true → run.sw.quarantine.length < 16384 → After s (.guardedRequestArrival src g)
        { run with sw := { run.sw with quarantine := run.sw.quarantine ++ [(src, g.tag, g.path)] } }) ∧
      (g.reissue = true → 16384 ≤ run.sw.quarantine.length → After s (.guardedRequestArrival src g) (raise run 75))) ∧
    (c.sw.quarantine.any listed = false → inside = true → done = true →
      (g.reissue = false → After s (.guardedRequestArrival src g) c) ∧
      (g.reissue = true → g.write = false → After s (.guardedRequestArrival src g) (c.emit (.execute src g.pid false))) ∧
      (g.reissue = true → g.write = true → (c.sw.applied.look src).contains g.tag = true →
        After s (.guardedRequestArrival src g) (c.emit (.guardAnswer src g.tag g.path false))) ∧
      (g.reissue = true → g.write = true → (c.sw.applied.look src).contains g.tag = false →
        After s (.guardedRequestArrival src g) { c with sw := { c.sw with owed := c.sw.owed ++ [(src, g.tag, g.path)] } }))) ∧
  (∀ dst tag ex, (s.chip.sw.guardStore.find? (fun g => g.dst == dst && g.tag == tag) = none →
      After s (.guardedResponse dst tag ex) { s.chip with sw := { s.chip.sw with guardLate := s.chip.sw.guardLate + 1 } }) ∧
    (∀ g, s.chip.sw.guardStore.find? (fun g => g.dst == dst && g.tag == tag) = some g →
      let held := if g.reissued && !ex then s.chip.sw.srcHeld ++ [(dst, tag, g.pid)] else s.chip.sw.srcHeld
      After s (.guardedResponse dst tag ex) (guardRoom { s.chip with sw := { s.chip.sw with
        guardStore := s.chip.sw.guardStore.filter (fun x => x.dst ≠ dst ∨ x.tag ≠ tag), srcHeld := held } }))) ∧
  (∀ dst tag, After s (.duplicate dst tag)
    { s.chip with sw := { s.chip.sw with srcHeld := s.chip.sw.srcHeld.eraseP (fun h => h.1 == dst && h.2.1 == tag) } }) ∧
  (∀ r d, Completes s (.fabricIdSet r d) 0x0160 r d
      (fun c => fabricIdSetCheck c d = none ∧ admitFail c (flowsRetimed (fabricIdSetDo c d)) 0 = none)
      (fun c x => endCmd (flowsRetimed (fabricIdSetDo c d)) x .ok) ∧
    Completes s (.fabricIdQuery r d) 0x0161 r d (fun _ => d.zeroBut [] = true)
      (fun c x => endCmd c x .ok (leBytes 8 (feOf c d.tgt).toNat)))

/-! ### Arbitration and scheduling -/

/-- R99 to R104, R109 to R112, R121, R122, R132, R544.
Choices of the model's own in it: notes/assumptions 6, 138, 185. -/
def Obligations.ArbitrationRowsComplete : Prop :=
  ∀ (s : State),
  (∀ x w, x ≤ 37 →
    ((s.chip.arb x).carry = none →
      After s (.arbiterDecision x w) (decideWith (parkHeads s.chip) (arbNext s.chip x) x s.chip.nextNow)) ∧
    (∀ k, (s.chip.arb x).carry = some k → After s (.arbiterDecision x w) s.chip)) ∧
  (∀ x w, 38 ≤ x → x ≤ 101 →
    let a := arbNext s.chip x
    let slot := s.chip.nextNow / 64
    let own := slotOwner a x (slot % 512)
    let cs := (w.filter (· ≤ 21)).eraseDups.map (fun i => (i, 8, 0))
    (winner s.chip x a own (openAllowed s.chip x slot) cs = none → After s (.arbiterDecision x w) s.chip) ∧
    (∀ g, winner s.chip x a own (openAllowed s.chip x slot) cs = some g →
      let c := s.chip.setArb x { s.chip.arb x with loss := lossAfter x a.loss cs g, last := some g.1 }
      let won : Happening := { code := 0x061, quad := (x - 38) / 16, inst := x - 38 }
      (own ≠ .open_ → After s (.arbiterDecision x w) (countEvent c won)) ∧
      (own = .open_ → After s (.arbiterDecision x w)
        (countEvent { c with pow := { c.pow with skip := c.pow.skip.put x (slot + 1) } } won)))) ∧
  (∀ x k, x ≤ 37 → (s.chip.arb x).carry = some k → s.chip.ft.newSlot = true →
    slotOwner (s.chip.arb x) x (slotAt s.chip.now) = .sc 0 →
    k.sc ≠ 0 → (candsOf s.chip x).any (fun y => y.2.1 == 0) = true →
    let quad := if x < 32 then x / 8 else if x < 36 then x - 32 else 4
    let c := countEvent s.chip { code := 0x021, quad := quad, inst := x, sc := k.sc, mc := k.lane % 10 }
    After s (.slotStart x) (decideOutput (c.setArb x { s.chip.arb x with carry := none }) x c.now)) ∧
  (∀ x n, x ≤ 101 → n ≤ 511 →
    let a := s.chip.arb x
    After s (.fretParity x n) (raise (s.chip.setArb x (if a.active then { a with badB := addOnce a.badB n }
      else { a with badA := addOnce a.badA n })) 84 (srcInfo 5 x))) ∧
  (∀ p l, (s.chip.gate p).pending = some l → l.start ≤ s.chip.now →
    After s (.gateListStart p) (s.chip.setGate p
      { s.chip.gate p with oper := some l, pending := none, entry := entryAt l s.chip.now })) ∧
  (∀ p l, (s.chip.gate p).oper = some l → l.start ≤ s.chip.now →
    After s (.gateEntryBoundary p) (s.chip.setGate p { s.chip.gate p with entry := entryAt l s.chip.now })) ∧
  (let used := if s.chip.sched.releasedAt = s.chip.now / 256 then s.chip.sched.released else 0
   let due := (dueShapers s.chip).take (32 - used)
   After s .shaperRelease (due.foldl (fun c e => releaseOne c e.2)
     { s.chip with sched := { s.chip.sched with released := used + due.length, releasedAt := s.chip.now / 256 } })) ∧
  (let again := fun (x : Shaper) => match x.release with
     | some r => if x.coarse ∧ x.bucket ≤ s.chip.now / 1048576 then onWheel s.chip.now x r else x
     | none => x
   After s .coarseBucketStart { s.chip with sched := { s.chip.sched with
     tShapers := s.chip.sched.tShapers.map (fun x => (x.1, again x.2)),
     pShapers := s.chip.sched.pShapers.map (fun x => (x.1, again x.2)) } }) ∧
  (∀ p, p < 128 →
    let c := markOverrun s.chip p
    (∀ sc q, portLink c p = none → (c.port p).state = .l0 ∨ (c.port p).state = .l0p → pickClass c p = some sc →
      stagedHead c p sc = some q → After s (.egressFlitBoundary p) (sendCxlFlit c p sc q)) ∧
    (∀ l q, portLink c p = some l → (c.link l).sendSc0.isEmpty = true → stagedHead c p 0 = some q → q.cells ≤ q.moved →
      mayStart c p 0 q = true → After s (.egressFlitBoundary p) (toLink c p l 0 q))) ∧
  (∀ path x n v, x < 102 → n < 256 → pathOpen s.chip path = true →
    let off := 0x80000 + 0x800 * x + 4 * n
    let held := claimedElsewhere s.chip { kind := .arbiter, index := x }
    (held = false → After s (.fretBankWrite path x n v) (fretSet (claimArb s.chip x) x n v)) ∧
    (held = true → After s (.fretBankWrite path x n v) (rwcRefuse s.chip path off 2))) ∧
  (∀ path x k v, x < 102 → k < 8 → pathOpen s.chip path = true →
    let off := 0x80410 + 0x800 * x + 4 * k
    let held := claimedElsewhere s.chip { kind := .arbiter, index := x }
    (held = false → After s (.arbPrioWrite path x k v) (prioSet (claimArb s.chip x) x k v)) ∧
    (held = true → After s (.arbPrioWrite path x k v) (rwcRefuse s.chip path off 2)))

/-- R112, R116, R120, R124.
Choices of the model's own in it: notes/assumptions 136, 137. -/
def Obligations.SchedulingCommandsComplete : Prop :=
  ∀ (s : State) (r : Nat) (d : Desc),
  Completes s (.gateListSet r d) 0x0150 r d
    (fun c => gateListSetCheck c d = none ∧ glCount d ≠ 0 ∧
      admitFail c (c.setGate d.tgt { c.gate d.tgt with pending := some (gateListOf c d).1, basePast := (gateListOf c d).2 }) 0 = none)
    (fun c x =>
      let g := { c.gate d.tgt with pending := some (gateListOf c d).1, basePast := (gateListOf c d).2 }
      endCmd (c.setGate d.tgt g) x (if (gateListOf c d).2 then .okBasePast else .ok) (leBytes 8 (gateListOf c d).1.start)) ∧
  Completes s (.gateListSet r d) 0x0150 r d
    (fun c => gateListSetCheck c d = none ∧ glCount d = 0 ∧
      admitFail c (c.setGate d.tgt { c.gate d.tgt with oper := none, pending := none, entry := 0 }) 0 = none)
    (fun c x => endCmd (c.setGate d.tgt { c.gate d.tgt with oper := none, pending := none, entry := 0 }) x .ok (leBytes 8 c.now)) ∧
  Completes s (.gateListQuery r d) 0x0151 r d (fun _ => d.bufferOk r = true ∧ d.zeroBut [(16, 12)] = true)
    (fun c x => let g := c.gate d.tgt
      let b := gateListBytes g.oper ++ gateListBytes g.pending
      endQuery c x d b.length b) ∧
  Completes s (.portShaperSet r d) 0x0104 r d
    (fun c => portShaperSetCheck d = none ∧ admitFail c (portShaperSetDo c d) 0 = none)
    (fun c x => let h := shaperTo c (c.sched.pShapers.look d.tgt) (d.byte 16 == 1) (d.u32 20) (d.u24 24)
      endCmd { c with sched := { c.sched with pShapers := c.sched.pShapers.put d.tgt h } } x .ok) ∧
  Completes s (.sc0FlowAdd r d) 0x0240 r d
    (fun c => sc0FlowAddCheck c d = none ∧ admitFail c (sc0FlowAddDo c d) 0 = none)
    (fun c x =>
      let b := standingPermits c (c.flow d.tgt) false
      let e := flowsRetimed (standingPermits (b.setFlow d.tgt (flowFrom d)) (flowFrom d) true)
      endCmd e x .ok (leBytes 4 (ceilDiv (e.flow d.tgt).term 16))) ∧
  Completes s (.sc0FlowRemove r d) 0x0241 r d
    (fun c => d.zeroBut [] = true ∧ sc0FlowRemoveEnd c (sc0FlowRemoveDo c d) d = none ∧ admitFail c (sc0FlowRemoveDo c d) 0 = none)
    (fun c x => endCmd (flowsRetimed ((standingPermits c (c.flow d.tgt) false).setFlow d.tgt {})) x .ok) ∧
  Completes s (.sc0FlowQuery r d) 0x0242 r d (fun _ => d.zeroBut [] = true)
    (fun c x => let f := c.flow d.tgt
      endCmd c x .ok (leBytes 2 f.tenant ++ leBytes 1 f.ingress ++ leBytes 1 f.hopsIn ++ leBytes 2 f.dst ++
        leBytes 1 (f.path + 4 * f.m) ++ leBytes 4 (ceilDiv f.term 16) ++ leBytes 4 f.share))

/-! ### Registers -/

/-- R7, R8, R37, R480, R539, R540, R542, R546, R549, R550.
Choices of the model's own in it: notes/assumptions 29, 30, 33, 34, 35, 36, 160, 189, 212. -/
def Obligations.RegisterAccessRowsComplete : Prop :=
  ∀ (s : State),
  (∀ path, pathOpen s.chip path = true →
    let c := { s.chip with ft := { s.chip.ft with latch := s.chip.ft.latch.put path.latch (BitVec.ofNat 32 (s.chip.now / 2 ^ 32)) } }
    After s (.ftNowLoRead path) (c.emit (.readData path s.chip.ft.count)) ∧
    (∀ off x, regAt off = some x → x.isLo = true →
      (x = .ftNow false → After s (.regPairLoRead path off) (c.emit (.readData path s.chip.ft.count))) ∧
      (x ≠ .ftNow false → regExists s.chip x = false → After s (.regPairLoRead path off) (s.chip.emit (.readData path 0))) ∧
      (x ≠ .ftNow false → regExists s.chip x = true →
        let v := regValue s.chip x
        let k := s.chip.regs.latches.put (latchKey path (off + 4)) (BitVec.ofNat 32 (v / 2 ^ 32))
        After s (.regPairLoRead path off)
          ({ s.chip with regs := { s.chip.regs with latches := k } }.emit (.readData path (BitVec.ofNat 64 v))))) ∧
    (∀ p, p < 128 →
      let b := s.chip.ctr.bw.look p
      let rest : List Word := [BitVec.ofNat 32 (b.inLast.toNat / 2 ^ 32), BitVec.ofNat 32 b.outLast.toNat,
                               BitVec.ofNat 32 (b.outLast.toNat / 2 ^ 32), b.index]
      After s (.portBwInLoRead path p) ({ s.chip with ctr := { s.chip.ctr with
        bwLatch := s.chip.ctr.bwLatch.put (path.latch * 128 + p) rest } }.emit (.readData path b.inLast)))) ∧
  (∀ path (w : RegAccess), barOpen s.chip path w.bar2 = true → w.offset < barSize path w.bar2 →
    let lo := writeWord s.chip path w.bar2 w.offset (w.value.toNat % 2 ^ 32) (w.held.toNat % 2 ^ 32)
    (w.full = false ∨ w.offset % (if w.wide then 8 else 4) ≠ 0 →
      After s (.registerWrite path w) (recordErr s.chip path w.bar2 w.offset 0)) ∧
    (w.full = true → w.wide = false → w.offset % 4 = 0 → After s (.registerWrite path w) lo) ∧
    (w.full = true → w.wide = true → w.offset % 8 = 0 → After s (.registerWrite path w)
      (writeWord lo path w.bar2 (w.offset + 4) (w.value.toNat / 2 ^ 32) (w.held.toNat / 2 ^ 32)))) ∧
  (∀ (c : Chip) path off v held,
    (∀ x, regAt off = some x → regExists c x = true → x.arbiter = none → rwcMask x = 0 →
      writeWord c path false off v held = writeFields c path x (clearsLess x.w1cMask v held)) ∧
    (regAt off = none → writeWord c path false off v held = recordErr c path false off 1) ∧
    (∀ x, regAt off = some x → regExists c x = false → writeWord c path false off v held = recordErr c path false off 5)) ∧
  (∀ (c : Chip) path t o v held, o < 0x2000 → path = .endpoint ∨ path = .firmware →
    let at' := 0x2000 * t + o
    (o = 0 → writeWord c path true at' v held = doorbell path t (BitVec.ofNat 32 v) c) ∧
    (o = 4 → writeWord c path true at' v held = evtHeadWrite path t (BitVec.ofNat 32 v) c) ∧
    (o = 0xF04 → (c.tenant t).state ≠ .none →
      writeWord c path true at' v held = c.modTenant t (fun x => { x with userCtr := bitOf v 0 })) ∧
    (pageImplemented o = false → writeWord c path true at' v held = recordErr c path true at' 1)) ∧
  (∀ path (c : Chip) (v : Nat),
    writeFields c path .scratch v = { c with regs := { c.regs with scratch := BitVec.ofNat 32 v } } ∧
    writeFields c path .ftStatus v = { c with ft := { c.ft with stepped := c.ft.stepped && !bitOf v 19 } } ∧
    writeFields c path .accessErrCnt v = { c with regs := { c.regs with errCnt := 0 } }) ∧
  (∀ path off v incr r, barOpen s.chip path false = true → pathOpen s.chip path = true → off < barSize path false → off % 4 = 0 →
    regAt off = some r → regExists s.chip r = true → r.arbiter = none → rwcMask r = 0 →
    let w : RegAccess := { offset := off, value := v }
    After s (.counterClearWrite path w incr) (counterAdd (writeFields s.chip path r (v.toNat % 2 ^ 32)) r incr) ∧
    (∀ n, r = .faultCnt n →
      let z := { s.chip with flt := { s.chip.flt with sources := s.chip.flt.sources.upd n (fun x => { x with count := 0 }) } }
      After s (.counterClearWrite path w incr) { z with flt := { z.flt with
        sources := z.flt.sources.upd n (fun x => { x with count := min (x.count + incr) 65535 }) } }) ∧
    (∀ n, r = .laneErr n → After s (.counterClearWrite path w incr)
      ((s.chip.modLane n (fun x => { x with err := 0 })).modLane n (fun x => { x with err := min (x.err + incr) 0xFFFFFFFF }))) ∧
    (r = .accessErrCnt → After s (.counterClearWrite path w incr)
      { s.chip with regs := { s.chip.regs with errCnt := min incr 0xFFFFFFFF } }))

/-- R543. -/
def Obligations.RwcWriteHandledAsWhole : Prop :=
  ∀ (s : State) (path : Path) (off : Nat) (v : Word) (x : Reg), barOpen s.chip path false = true →
    path = .endpoint ∨ path = .firmware → off < 2 ^ 21 → off % 4 = 0 → regAt off = some x → rwcMask x ≠ 0 →
    regExists s.chip x = true → x.arbiter = none →
    let w : RegAccess := { offset := off, value := v.setWidth 64 }
    let refused := fun (cause : Nat) => recordErr { s.chip with grp := { s.chip.grp with rwcRefused := true } } path false off cause
    let both := fun (c : Chip) => After s (.rwcRegisterWrite path w) c ∧ After s (.registerWrite path w) c
    (claimedElsewhere s.chip (rwcObj x) = true → both (refused 2)) ∧
    (claimedElsewhere s.chip (rwcObj x) = false → regGroup s.chip = none → both (writeFields (refused 3) path x v.toNat)) ∧
    (∀ g, claimedElsewhere s.chip (rwcObj x) = false → regGroup s.chip = some g → (s.chip.group g).regs < 4096 →
      let f : Word := BitVec.ofNat 32 v.toNat &&& BitVec.ofNat 32 (rwcMask x)
      let c := s.chip.modGroup g (fun y => { y with items := y.items ++ [Item.reg off f], claims := addOnce y.claims (rwcObj x) })
      both (writeFields { c with grp := { c.grp with shadow := c.grp.shadow.put off (some f) } } path x v.toNat))

/-! ### Coherence -/

/-- R139, R142, R148, R149, R154, R157 to R161, R188.
Choices of the model's own in it: notes/assumptions 10, 96, 97, 148, 167, 169, 190, 193, 194. -/
def Obligations.CoherentRequestsEnter : Prop :=
  ∀ (s : State),
  (let row : SliceMsg → Instr := fun x => match x with
     | .rd m => .memRd m
     | .inv m => .memInv m
     | .evict m => .memClnEvct m
     | .wr m => .memWr m
     | .ptl m => .memWrPtl m
     | .rsp m => .birsp m
     | .data n k r => .backingReadResult n k r
     | .done n k ok => .backingWriteComplete n k ok
   ∀ x : SliceMsg, let h := x.slice s.chip
     let q := s.chip.home.inq.look h ++ [x.stamped s.chip]
     let wait := { s.chip with home := { s.chip.home with inq := s.chip.home.inq.put h q } }
     (x.more = true ∨ s.chip.home.entered.look h = s.chip.ivl + 1 → After s (row x) wait) ∧
     (x.more = false → s.chip.home.entered.look h ≠ s.chip.ivl + 1 →
       ∃ y rest, takeEntry (s.chip.home.lastIn.look h) q = some (y, rest) ∧
         After s (row x) (enterMsg { wait with home := { wait.home with
           inq := wait.home.inq.put h rest
           entered := wait.home.entered.put h (s.chip.ivl + 1)
           lastIn := match y.req? with
             | some m => wait.home.lastIn.put h (m.input + 1)
             | none => wait.home.lastIn } } y))) ∧
  (∀ last q x rest, takeEntry last q = some (x, rest) →
    (∃ a b, q = a ++ x :: b ∧ rest = a ++ b) ∧ (∀ y ∈ q, x.rank ≤ y.rank) ∧
    (∀ y m n, y ∈ q → x.req? = some m → y.req? = some n →
      q.find? (fun z => (z.req?.map (·.input)) == some n.input) = some y → keyLess (reqKey last n) (reqKey last m) = false)) ∧
  (∀ (c : Chip) (m : MemReq) (i : Bool), let n := m.line
    let k := lineSlice n
    let e := touchLine (countReq c m 0) n m.ecc
    let q := { m with stamp := some (m.stamp.getD e.ivl) }
    let t : Tracker := { purpose := .read q i, stamp := m.stamp.getD e.ivl, domain := 256, sc := m.sc, want := m.want }
    enterMsg c (if i then .inv m else .rd m) = enterReq c m i ∧
    (isLate e q = true → enterReq c m i = sendDrs (deadlineMissed e n) q .invalid 0 true) ∧
    (isLate e q = false → ∀ u, e.tracker n = some u →
      (m.nacks < 4 → enterReq c m i = sendNack e q) ∧
      (4 ≤ m.nacks → starveUsed e k < 32 →
        enterReq c m i = e.setTracker n (some { u with starving := u.starving ++ [(q, i)] })) ∧
      (4 ≤ m.nacks → 32 ≤ starveUsed e k → enterReq c m i = sendNack
        (raise { e with home := { e.home with starveOvf := e.home.starveOvf.put k true } } 96 (srcInfo 6 k)) q)) ∧
    (isLate e q = false → e.tracker n = none → poolUsed e k 0 < sharedTrackers e k →
      (lineDomain e n = none →
        (i = false → enterReq c m i = beginData (e.setTracker n (some t)) n m.fab) ∧ (i = true → enterReq c m i = sendDone e q)) ∧
      (∀ d e', lineDomain e n = some d →
        let st := stateOf e d n
        let hold := holders e d n
        let r := agentOf e d q
        let w := wantOf st hold r q i
        let p := readPlan st hold r w
        let t' := { t with domain := d, want := w }
        (p.fan && decide (16 ≤ fanUsed e k)) = false → fit e d n st hold r w = .ok e' →
        (p.dsts.isEmpty = true →
          let after := stateAfter st hold [] [] (st == .unknown || (st == .wide && w == .any)) r
          let g := grant (markAsked e' d n) d n after r w
          (i = false → enterReq c m i = beginData (g.setTracker n (some { t' with before := after })) n m.fab) ∧
          (i = true → enterReq c m i = sendDone g q)) ∧
        (p.dsts.isEmpty = false →
          let u := snoopTo (markAsked e' d n) d n m.sc p.op p.dsts
          let g := u.1.setTracker n (some { t' with phase := .snpPend, pending := u.2, fanout := p.fan })
          (i = false → enterReq c m i = beginData g n m.fab) ∧ (i = true → enterReq c m i = g))))) ∧
  (∀ (c : Chip) (m : MemReq), let n := m.line
    let e := countReq c m 0
    (e.tracker n ≠ none → enterMsg c (.evict m) = sendNack e { m with evict := true }) ∧
    (e.tracker n = none → poolUsed e (lineSlice n) 0 < sharedTrackers e (lineSlice n) → ∀ d a, lineDomain e n = some d →
      let f := touchLine e n m.ecc
      agentOf f d m = some a → (f.line n).agents.contains a = true → let l := (f.line n).agents.erase a
      enterMsg c (.evict m) = sendDone (putRec f d n (if l.isEmpty then .inv else (f.line n).state) l) m)) ∧
  (∀ (c : Chip) (m : MemReq) (ptl : Bool), let n := m.line
    let e := touchLine (countReq c m 1) n m.ecc
    let q := { m with stamp := some (m.stamp.getD e.ivl) }
    let pool := writePool e (lineSlice n)
    enterMsg c (if ptl then .ptl m else .wr m) = enterWrite c m ptl ∧
    (e.tracker n = none → lineDomain e n = none →
      (pool = none ∧ mustRead e n ptl = true → enterWrite c m ptl = nackWrite e q) ∧
      (∀ p, pool = some p → enterWrite c m ptl = writeNow e q ptl p 256)) ∧
    (e.tracker n = none → ∀ d a, lineDomain e n = some d → agentOf e d q = some a → stateOf e d n = .any → holders e d n = [a] →
      enterWrite c m ptl = writeNow (match m.want with
        | .any => e
        | .shared => putRec e d n .sh [a]
        | .invalid => putRec e d n .inv []) q ptl 3 d) ∧
    (∀ t, e.tracker n = some t → t.domain < 256 → ∀ a, agentOf e t.domain q = some a →
      (t.pending.any (fun p => p.agent == a) = true → enterWrite c m ptl = takeWrite e q ptl) ∧
      (t.pending.any (fun p => p.agent == a) = false → writerHolds e t.domain n (some a) m.want = false →
        enterWrite c m ptl = holdWrite e q ptl)))

/-- R149, R151, R153, R154, R158, R161, R167, R188.
Choices of the model's own in it: notes/assumptions 96, 97, 98, 190, 193. -/
def Obligations.CoherentTransactionRowsComplete : Prop :=
  ∀ (s : State),
  (∀ (c : Chip) (m : SnoopRsp) t, c.tracker m.line = some t →
    let dest := t.pending.find? (fun p => p.agent == m.agent && p.sent)
    (dest = none ∨ m.block = true → enterMsg c (.rsp m) = discardRsp c t.domain m.agent) ∧
    (∀ p, dest = some p → m.block = false →
      let wrong := (m.kind != .rspI && p.op == .inv) || (m.kind == .rspE && p.op == .data)
      let warned := raise c 103 (srcInfo 10 (c.agent t.domain m.agent).tenant)
      (wrong = false →
        let ps := t.pending.filter (fun p => p.agent != m.agent)
        let e := c.setTracker m.line (some { t with
          pending := ps,
          gone := if m.kind == .rspI then addOnce t.gone m.agent else t.gone,
          toShared := if m.kind == .rspS then addOnce t.toShared m.agent else t.toShared })
        enterMsg c (.rsp m) = if ps.isEmpty then snoopsDone e m.line else e) ∧
      (wrong = true → p.again = true → enterMsg c (.rsp m) = (killAgent warned t.domain m.agent false true).1))) ∧
  (∀ m : SnoopRsp, m.more = false → s.chip.home.inq.look (lineSlice m.line) = [] →
    s.chip.home.entered.look (lineSlice m.line) ≠ s.chip.ivl + 1 →
    After s (.birsp m) (enterMsg { s.chip with home := { s.chip.home with
      inq := (s.chip.home.inq.put (lineSlice m.line) [.rsp m]).put (lineSlice m.line) []
      entered := s.chip.home.entered.put (lineSlice m.line) (s.chip.ivl + 1) } } (.rsp m))) ∧
  (∀ p n, (requestOpen s.chip p n = true → After s (.biconflict p n true)
      { s.chip with home := { s.chip.home with conflicts := s.chip.home.conflicts ++ [(p, n)] } }) ∧
    (requestOpen s.chip p n = false → After s (.biconflict p n true) (s.chip.emit (.conflictAck p n))) ∧
    After s (.biconflict p n false) (s.chip.emit (.conflictAck p n))) ∧
  (∀ p (m : MemReq), let wait := fun (c : Chip) => { c with home := { c.home with
      nacked := c.home.nacked ++ [{ port := p, since := c.ivl, req := { m with nacks := min 7 (m.nacks + 1) } }] } }
    (m.evict = true → After s (.nack p m) s.chip) ∧
    (m.evict = false → m.nacks ≠ 3 → After s (.nack p m) (wait s.chip)) ∧
    (m.evict = false → m.nacks = 3 → let c := countEvent s.chip (lineEvent s.chip m.line 0x032 m.fab)
      (lineDomain c m.line = none → After s (.nack p m) (wait c)) ∧
      (∀ d, lineDomain c m.line = some d → After s (.nack p m) (wait (c.modDomain d (fun x => { x with starving := x.starving + 1 })))))) ∧
  (∀ p n w rest, takeFirst (fun w => w.port == p && w.req.line == n && s.chip.past w.since (ns s.chip.home.backoff)) s.chip.home.nacked =
      some (w, rest) →
    After s (.retryBackoffExpire p n) (Chip.emit { s.chip with home := { s.chip.home with nacked := rest } } (.resend p w.req))) ∧
  (∀ n t, s.chip.tracker n = some t → wantsData t = true → t.phase = .rdPend → s.chip.pool.reads.look n = none →
    (∀ m x, t.data = some x → t.purpose = .read m false → t.answered = false → t.patch = [] →
      After s (.lineDataReady n) (closeLine (sendDrs (s.chip.setTracker n (some t)) m t.want x.1 x.2) n)) ∧
    (t.data = none →
      (∀ c i, findWay s.chip n = (c, some i) → let w := c.way (wayKey (lineSlice n) (lineSet n) i)
        After s (.lineDataReady n) (dataAtHand c n w.data w.poison)) ∧
      (∀ c, findWay s.chip n = (c, none) → After s (.lineDataReady n) (startRead c n)))) ∧
  (∀ n a t p c, s.chip.tracker n = some t → t.pending.find? (fun p => p.agent == a && !p.sent) = some p →
    let fab := (s.chip.agent t.domain a).fab
    (sendSnoop s.chip fab n t.sc p.op = some c → After s (.snoopReachable n a) (c.setTracker n (some { t with
      pending := t.pending.map (fun q => if q.agent = a then { q with sent := true } else q) }))) ∧
    (reachable s.chip fab = true → feLocal (feOf s.chip fab) = true →
      sendSnoop s.chip fab n t.sc p.op = some (s.chip.emit (.snoop fab n t.sc p.op)))) ∧
  (∀ n a t p, s.chip.tracker n = some t →
    t.pending.find? (fun p => p.agent == a && !p.raised && s.chip.past p.since (us s.chip.home.snpTime)) = some p →
    After s (.bisnpTimeout n a) (raise (s.chip.setTracker n (some { t with
      pending := t.pending.map (fun q => if q.agent = a then { q with raised := true } else q) })) 97 (srcInfo 6 (lineSlice n)))) ∧
  (∀ n, After s (.responseDeadlineExpire n) (trackerLate (waitingLate s.chip n) n)) ∧
  (∀ (c : Chip) n t m i, c.tracker n = some t → t.purpose = .read m i → t.starving = [] → t.waiting = [] →
    (t.answered = false → isLate c m = true →
      let c1 := c.setTracker n (some { t with answered := true })
      let c2 := if t.phase = .rdPend ∧ t.domain < 256 then putRec c1 t.domain n t.before.1 t.before.2 else c1
      let c3 := sendDrs (deadlineMissed c2 m.line) m .invalid 0 true
      trackerLate c n = if readStuck c3 n then endLine (endRead c3 n) n else c3) ∧
    (t.answered = true ∨ isLate c m = false → trackerLate c n = c.setTracker n (some t))) ∧
  (∀ (c : Chip) n, c.home.nacked = [] → c.pool.writes = [] → c.pool.ops = [] → c.pool.held = [] →
    waitingLate c n = (c.home.stalled.filter (fun q => q.1.line == n && isLate c q.1)).foldl (fun c q => answerLate c q.1)
      { c with home := { c.home with stalled := c.home.stalled.filter (fun q => !(q.1.line == n && isLate c q.1)) } })

/-- R136 to R138, R142, R155, R156 and the rows of Table 12.12.
Choices of the model's own in it: notes/assumptions 99, 163, 170, 171, 194. -/
def Obligations.AgentAndDomainRowsComplete : Prop :=
  ∀ (s : State),
  (∀ r d, let sc := if field (d.byte 16) 2 3 = 0 then 5 else field (d.byte 16) 2 3
    let y : Domain := { present := true, tags := bitOf (d.byte 16) 0, entries := d.u32 20, keep := bitOf (d.byte 16) 1, sc := sc }
    Completes s (.domainCreate r d) 0x0B00 r d
      (fun c => d.zeroBut [(16, 1), (20, 4), (24, 2), (28, 4), (32, 4)] = true ∧ d.byte 16 < 32 ∧ d.u32 20 ≠ 0 ∧
        d.u32 20 % (if bitOf (d.byte 16) 0 then 256 else 128) = 0 ∧ (c.domain d.tgt).present = false ∧
        (d.u16 24 = 65535 ∨ (d.u16 24 ≤ 1000 ∧ d.u16 24 % 2 = 0)) ∧
        (d.u32 28 = 4294967295 ∨ (1 ≤ d.u32 28 ∧ d.u32 28 ≤ 100000)) ∧ (d.u32 32 = 4294967295 ∨ (1 ≤ d.u32 32 ∧ d.u32 32 ≤ 10000)) ∧
        dirBytes (c.setDomain d.tgt y) ≤ c.hbm.dirSize * 2 ^ 28)
      (fun c x => let c' := c.setDomain d.tgt y
        endCmd { c' with home := { c'.home with
          backoff := if d.u16 24 = 65535 then c.home.backoff else d.u16 24
          snpTime := if d.u32 28 = 4294967295 then c.home.snpTime else d.u32 28
          deadTime := if d.u32 32 = 4294967295 then c.home.deadTime else d.u32 32 } } x .ok (leBytes 4 (d.u32 20))) ∧
    Completes s (.domainDestroy r d) 0x0B01 r d
      (fun c => d.zeroBut [] = true ∧ c.pool.windows.any (fun w => w.2.present && w.2.domain == d.tgt) = false ∧
        (c.domain d.tgt).agents.any (fun a => a.2.bound) = false)
      (fun c x => endCmd (dropDomain c d.tgt) x .ok) ∧
    Completes s (.agentBind r d) 0x0B02 r d (fun c => agentBindCheck c d = none)
      (fun c x =>
        let share := if (c.domain d.tgt).tags then ceilDiv (d.u24 24 * 5) 128 else 0
        let down := if reachable c (d.u16 18) then none else some c.ivl
        let a : Agent := { bound := true, fab := d.u16 18, tenant := d.u16 20, capLines := d.u24 24, share := share, downAt := down }
        let c' := c.setAgent d.tgt (d.u16 16) a
        endCmd c' x .ok (leBytes 4 (d.u16 16) ++ leBytes 4 (c'.agent d.tgt (d.u16 16)).share)) ∧
    Completes s (.agentUnbind r d) 0x0B03 r d
      (fun c => d.zeroBut [(16, 2), (20, 4)] = true ∧ d.u32 20 ≤ 10000000 ∧ (c.agent d.tgt (d.u16 16)).bound = true ∧
        ((c.agent d.tgt (d.u16 16)).unbind.bind (·.cmd)) = none)
      (fun c x => beginFlush c d.tgt (d.u16 16) (us (if d.u32 20 = 0 then 100000 else d.u32 20)) (some x)) ∧
    Completes s (.agentRemove r d) 0x0B04 r d
      (fun c => d.zeroBut [(16, 2)] = true ∧ (c.agent d.tgt (d.u16 16)).bound = true)
      (fun c x => let k := killAgent c d.tgt (d.u16 16) true true
        endCmd k.1 x .ok (leBytes 4 k.2.1 ++ leBytes 4 k.2.2)) ∧
    Completes s (.domainQuery r d) 0x0B05 r d (fun _ => d.zeroBut [(16, 12)] = true ∧ d.bufferOk r = true)
      (fun c x => let y := c.domain d.tgt
        endQuery c x d (Config.queryBytes 0x0B05) (openFields
          [nat1 y.tags, (y.agents.filter (fun a => a.2.bound)).length, entriesUsed c d.tgt, y.victims, y.nacks, y.starving]))) ∧
  (∀ d a u, (s.chip.agent d a).unbind = some u →
    (∀ x, u.cmd = some x → holdsNothing s.chip d a = true → (s.chip.agent d a).dead = false →
      After s (.agentUnbindEnd d a) (endCmd (s.chip.setAgent d a {}) x .ok (leBytes 4 u.flushed))) ∧
    (∀ x, u.cmd = some x → holdsNothing s.chip d a = true → (s.chip.agent d a).dead = true →
      After s (.agentUnbindEnd d a)
        (endCmd (s.chip.modAgent d a (fun y => { y with unbind := none, removed := true })) x .ok (leBytes 4 u.flushed))) ∧
    (u.cmd = none → holdsNothing s.chip d a = true → After s (.agentUnbindEnd d a)
      (Chip.modTenant (s.chip.modAgent d a (fun y => { y with unbind := none })) u.tenant
        (fun t => { t with drain := t.drain.map (fun dr => { dr with flushed := dr.flushed + u.flushed }) }))) ∧
    (∀ x, u.cmd = some x → u.deadline ≤ s.chip.ivl → After s (.agentUnbindDeadline d a)
      (endCmd (killAgent (s.chip.modAgent d a (fun y => { y with unbind := none })) d a true true).1 x .drainTimeout
        (leBytes 4 u.flushed)))) ∧
  (∀ d a, (s.chip.agent d a).bound = true → (s.chip.agent d a).dead = false →
    (∃ t, (s.chip.agent d a).downAt = some t ∧ s.chip.past t (ms s.chip.home.deadTime) = true) ∨
      (∃ e ∈ s.chip.home.trackers, ∃ t, e.2 = some t ∧ t.domain = d ∧
        t.pending.any (fun p => p.agent == a && s.chip.past p.since (ms s.chip.home.deadTime)) = true) →
    After s (.agentDeadTimeExpire d a) (killAgent s.chip d a false true).1) ∧
  (∀ d a, s.chip.home.sweeps.contains (d, a) = true →
    let c := { s.chip with home := { s.chip.home with sweeps := s.chip.home.sweeps.erase (d, a) } }
    let t := (s.chip.agent d a).tenant
    ((c.agent d a).removed = true → After s (.agentSweepEnd d a) (resetDone (c.setAgent d a {}) t)) ∧
    ((c.agent d a).removed = false → After s (.agentSweepEnd d a)
      (resetDone (c.modAgent d a (fun y => { y with dead := false, released := 0, poisoned := 0 })) t)))

/-! ### Pooling -/

/-- R169 to R172, R176, R178, R179, R195 to R197 and the rows of Table 12.12.
Choices of the model's own in it: notes/assumptions 100, 101, 102, 163, 172, 173, 198. -/
def Obligations.BackingAndWindowCommandsComplete : Prop :=
  ∀ (s : State) (r : Nat) (d : Desc),
  (∀ f, Completes s (.backingAdd r d f) 0x0210 r d (fun c => backingAddCheck c d f = none)
    (fun c x => let y := deviceOfDesc c d f
      let c := addDevice c d.tgt y
      endCmd (if d.u32 60 = 0 then c else { c with pool := { c.pool with dcTime := d.u32 60 } }) x .ok (leBytes 4 y.extents))) ∧
  Completes s (.backingRemove r d) 0x0211 r d
    (fun c => d.zeroBut [] = true ∧ (c.dev d.tgt).ext.any (fun e => e.2 == .inUse) = false)
    (fun c x => endCmd (removeDevice c d.tgt) x .ok) ∧
  Completes s (.spareSet r d) 0x0212 r d
    (fun c => d.zeroBut [(16, 9)] = true ∧ d.byte 24 ≤ 1 ∧ d.u32 16 + d.u32 20 ≤ (c.dev d.tgt).extents)
    (fun c x => let was : ExtState := if d.byte 24 == 1 then .free else .spare
      let y := c.dev d.tgt
      let hit := (List.range (d.u32 20)).filter (fun i => y.ext.look (d.u32 16 + i) == was &&
        (!y.adopt || y.zeroed.contains (d.u32 16 + i)))
      endCmd (hit.foldl (fun c i => setExt c d.tgt (d.u32 16 + i) (if d.byte 24 == 1 then .spare else .free)) c) x .ok
        (leBytes 4 hit.length)) ∧
  (∀ e, Completes s (.windowCreate r d) 0x0218 r d (fun c => windowCreateMake c d = .ok e ∧ admitFail c e 0 = none)
    (fun _ x => startAdd (adoptStart e d.tgt) x d.tgt 0 (d.u24 24) 0 true)) ∧
  Completes s (.windowDestroy r d) 0x0219 r d (fun c => d.zeroBut [] = true ∧ jobOnWindow c d.tgt = false)
    (fun c x => endCmd (destroyWindow c d.tgt) x .ok) ∧
  (∀ e, Completes s (.windowGrow r d) 0x021A r d (fun c => windowGrowMake c d = .ok e ∧ admitFail c e 0 = none)
    (fun c x => startAdd e x d.tgt ((e.window d.tgt).extents - d.u24 16) (d.u24 16) (c.window d.tgt).span false)) ∧
  Completes s (.windowShrink r d) 0x021B r d (fun c => windowShrinkCheck c d = none) (fun c x => windowShrinkGo c x d) ∧
  Completes s (.windowSet r d) 0x021C r d
    (fun c => windowSetCheck c d = none ∧ admitFail c (c.modWindow d.tgt (fun w => windowSetNew w d)) 0 = none)
    (fun c x => endCmd (c.modWindow d.tgt (fun w => windowSetNew w d)) x .ok) ∧
  Completes s (.windowQuery r d) 0x021D r d (fun _ => d.zeroBut [(16, 12)] = true ∧ d.bufferOk r = true)
    (fun c x => let w := c.window d.tgt
      endQuery c x d (Config.queryBytes 0x021D)
        (openFields ([w.shown] ++ (w.members.filter (fun m => m.2.present)).flatMap (fun m =>
          [m.1, m.2.dev, m.2.ext, m.2.state.code, pagesSet m.2]) ++
         [w.verify.getD 0, w.dsReads, w.poisons, w.altHits, w.late, w.misses, w.mismatch, w.discards, w.recons, w.repairs]))) ∧
  (∀ u m, Completes s (.memberFail r d) 0x0220 r d
    (fun c => namedUnit (c.window d.tgt) d = some (u, m) ∧ d.zeroBut [(16, 5)] = true)
    (fun c x => endCmd (loseDevice c ((c.window d.tgt).member u m).dev true) x .ok)) ∧
  (∀ u m b e, let lost := fun (c : Chip) => namedUnit (c.window d.tgt) d = some (u, m) ∧
      d.zeroBut [(16, 5), (22, 6)] = true ∧ ((c.window d.tgt).member u m).state = .lost ∧
      memberHasJob c d.tgt u m = false
    Completes s (.memberReplace r d) 0x0221 r d
      (fun c => lost c ∧ d.u32 24 = 0xFFFFFFFF ∧
        chooseExtent c (c.window d.tgt) (othersOf (c.window d.tgt) u m) .spare = some (b, e))
      (fun c x => endCmd (moveMember c d.tgt u m b e) x .ok (leBytes 2 b ++ leBytes 4 e)) ∧
    Completes s (.memberReplace r d) 0x0221 r d
      (fun c => lost c ∧ d.u16 22 = b ∧ d.u32 24 = e ∧ e ≠ 0xFFFFFFFF ∧ b = ((c.window d.tgt).member u m).dev ∧
        e = ((c.window d.tgt).member u m).ext ∧ (c.dev b).lost = false)
      (fun c x => endCmd (reviewWindow (c.modWindow d.tgt (fun w => w.setMember u m
        (returned w.mode ((c.window d.tgt).member u m)))) d.tgt) x .ok (leBytes 2 b ++ leBytes 4 e)) ∧
    Completes s (.memberReplace r d) 0x0221 r d
      (fun c => lost c ∧ d.u16 22 = b ∧ d.u32 24 = e ∧ e ≠ 0xFFFFFFFF ∧
        ¬ (b = ((c.window d.tgt).member u m).dev ∧ e = ((c.window d.tgt).member u m).ext) ∧
        mayJoin c (c.window d.tgt).strict (othersOf (c.window d.tgt) u m) b = true ∧ e < (c.dev b).extents ∧
        extState c b e = .spare ∧ latencyOk c (c.window d.tgt) b = true)
      (fun c x => endCmd (moveMember c d.tgt u m b e) x .ok (leBytes 2 b ++ leBytes 4 e)))

/-- R176, R178, R179.
Choices of the model's own in it: notes/assumptions 103. -/
def Obligations.DynamicCapacityRowsComplete : Prop :=
  ∀ (s : State) (e : DcWait) (rest : List DcWait), s.chip.pool.dc = e :: rest →
  let c := s.chip
  (e.add = true →
    (∀ p n, p ∈ e.ports →
      let take : Tbl WExtent → Nat → Tbl WExtent := fun t i =>
        t.upd (e.first + i) (fun x => if x.present then { x with accepted := addOnce x.accepted p } else x)
      let c1 := c.modWindow e.window (fun w => { w with ext := (List.range (min n e.count)).foldl take w.ext })
      let e' := { e with ports := e.ports.erase p, accepted := max e.accepted (min n e.count) }
      After s (.dcResponse p e.window n) (if e'.ports.isEmpty then closeAdd { c1 with pool := { c1.pool with dc := rest } } e'
        else { c1 with pool := { c1.pool with dc := e' :: rest } })) ∧
    (c.past e.since (ms c.pool.dcTime) = true →
      let k := if (c.window e.window).mode = .stripe then 8 else 1
      let used : Nat → Bool := fun u => (List.range k).any (fun i => !(((c.window e.window).ext.look (u + i)).accepted).isEmpty)
      let c1 := { c with pool := { c.pool with dc := rest } }
      let c2 := (freeUnits c1 e.window (unitsFrom (c.window e.window) e.first) (fun u => if used u then .scrub else .free)).modWindow
        e.window (fun w => { w with span := e.span })
      let c3 := if e.create then dropWindowIo (c2.setWindow e.window {}) e.window else c2
      After s (.dcResponseTimeExpire e.window) (endCmd (raise c3 124 (srcInfo 13 e.window)) e.cmd .busy))) ∧
  (e.add = false →
    (∀ p i, e.first ≤ i → i < e.first + e.count →
      let x := (c.window e.window).ext.look i
      let x' := { x with released := x.released ++ [p] }
      x.accepted.contains p = true → x.released.contains p = false →
      let c1 := c.modWindow e.window (fun w => { w with ext := w.ext.put i x' })
      (extReleased x' = false → After s (.releaseCapacityResponse p e.window i) c1) ∧
      (extReleased x' = true → e.done + 1 = e.count →
        let c2 := freeReleased c1 e.window e.first e.count
        After s (.releaseCapacityResponse p e.window i) (endCmd (setDc c2 (fun y => !y.add && y.window == e.window &&
          decide (y.first ≤ i) && decide (i < y.first + y.count)) (fun _ => none)) e.cmd .ok (leBytes 4 (e.done + 1))))) ∧
    (e.deadline ≤ c.ivl →
      let c1 := { c with pool := { c.pool with dc := rest } }
      (e.force = false → After s (.shrinkDrainDeadline e.window) (endCmd c1 e.cmd .drainTimeout (leBytes 4 e.done))) ∧
      (e.force = true →
        let w := c.window e.window
        let idx := (List.range e.count).map (e.first + ·)
        let ps := idx.foldl (fun l i => ((w.ext.look i).accepted.filter (fun p =>
          !(w.ext.look i).released.contains p)).foldl addOnce l) []
        let c2 := c1.emits ((dcEnabled c1 ps).map (fun p => Msg.forcedRemoval p e.window e.first e.count))
        let left := (unitsOf w).filter (fun u => decide (e.first ≤ u) && decide (u < e.first + e.count))
        After s (.shrinkDrainDeadline e.window) (endCmd (freeUnits c2 e.window left (fun _ => .scrub)) e.cmd .ok
          (leBytes 4 e.count)))))

/-- R184, R186, R187, R189, R191, R192, R194 to R196.
Choices of the model's own in it: notes/assumptions 104, 105, 190, 195. -/
def Obligations.BackingAccessRowsComplete : Prop :=
  ∀ (s : State), let c := s.chip
  (∀ x : SliceMsg, let h := x.slice c
    c.home.inq.look h = [] → c.home.entered.look h ≠ c.ivl + 1 →
    let e := { c with home := { c.home with inq := (c.home.inq.put h [x]).put h [], entered := c.home.entered.put h (c.ivl + 1) } }
    (∀ n k r, x = .data n k r → After s (.backingReadResult n k r) (enterReadResult e n k r)) ∧
    (∀ n k ok, x = .done n k ok → After s (.backingWriteComplete n k ok) (enterWriteDone e n k ok))) ∧
  (∀ n r, c.pool.reads.look n = some r → r.asked = false → (c.window r.window).mode ≠ .plain → r.dstop = false →
    c.past r.since (ns (c.window r.window).trigger) = true → After s (.dsTriggerExpire n) (doubleStop c n r)) ∧
  (∀ (c : Chip) n m, c.pool.ops = [] → c.pool.txs = [] →
    (∀ q, c.pool.reads.look n = none → enterReadResult c n m q = lateResult c n) ∧
    (∀ r, c.pool.reads.look n = some r →
      let first := m == r.member && !r.asked && !r.bad.contains m
      let alt := (c.window r.window).mode == .mirror && r.dstop && m == r.alt && !r.bad.contains m
      (first = false → alt = false → ∀ q, enterReadResult c n m q = lateResult c n) ∧
      ((first || alt) = true → (∀ d, enterReadResult c n m (.good d) = readGood c n r d (!first)) ∧
        (∀ q, q = .poison ∨ q = .error → enterReadResult c n m q =
          sourceFailed (deviceFails c (memberDev (c.window r.window) r.ext n m)) n { r with bad := addOnce r.bad m })))) ∧
  (∀ n, After s (.backingTimeoutExpire n) (readTimeout (opTimeout (txTimeout (writeTimeout c n) n) n) n) ∧
    (c.pool.writes = [] → c.pool.txs = [] → c.pool.ops = [] → After s (.backingTimeoutExpire n) (readTimeout c n))) ∧
  (∀ (c : Chip) n r, c.pool.reads.look n = some r → (c.window r.window).mode = .plain → r.asked = false → r.timed = false →
    r.bad.contains r.member = false → let b := memberDev (c.window r.window) r.ext n r.member
    c.past r.since (us (c.dev b).timeout) = true → ∀ e,
    deviceFails (raise c 119 (srcInfo 14 b)) b = e → (e.window r.window).mode = .plain →
    readTimeout c n = readPoison (setRead e n (some { r with timed := true })) n { r with timed := true }) ∧
  (∀ (c : Chip) n m ok, c.pool.ops = [] → c.pool.txs = [] →
    (∀ e, c.pool.writes.find? (isWrite n m true) = some e →
      enterWriteDone c n m ok = writeEnded (setWrite c (isWrite n m true) (fun _ => none)) e ok) ∧
    (∀ e, c.pool.writes.find? (isWrite n m true) = none → c.pool.writes.find? (isWrite n m false) = some e →
      enterWriteDone c n m ok = writeEnded (setWrite c (isWrite n m false) (fun _ => none)) e ok)) ∧
  (∀ (c : Chip) (e : BackWrite), let w := c.window e.window
    let off := memberOff w e.ext e.line
    let logged := logPage c e.window (unitOf w e.ext) e.member (off / 64)
    let counted := if e.timed then logged else deviceFails logged (placeOf (w.member (unitOf w e.ext) e.member) off).1
    writeEnded c e true = (if e.late then c else closeWrite c e) ∧
    (w.mode = .mirror → writeEnded c e false = if e.late then counted else closeWrite counted e)) ∧
  (∀ n m e, c.pool.ops = [] → c.pool.txs = [] → c.pool.writes.find? (isWrite n m false) = some e →
    let w := c.window e.window
    w.mode ≠ .plain → c.past e.since (ns w.trigger) = true →
      After s (.backingWriteLate n m)
        (closeWrite (setWrite (logPage c e.window (unitOf w e.ext) m (memberOff w e.ext n / 64)) (isWrite n m false)
          (fun e => some { e with late := true, cmp := none })) e)) ∧
  (∀ b t, (c.dev b).downAt = some t → (c.dev b).present = true → (c.dev b).lost = false →
    c.past t (ms (c.dev b).lossTime) = true → After s (.memberLossTimeExpire b) (loseDevice c b)) ∧
  (∀ b, let fix : Member → Member := fun m =>
      if m.present && m.dev == b && m.state == .slow && c.past m.dsLast (sec 1) then { m with state := .online } else m
    After s (.memberSlowRecovery b) ((windowsOn c b).foldl (fun c id =>
      c.modWindow id (fun w => { w with members := w.members.map (fun m => (m.1, fix m.2)) })) c)) ∧
  (∀ id u m, m < 10 → let w := c.window id
    let x := w.member u m
    let delay := (c.dev x.dev).spareDelay
    w.present = true → x.present = true → x.state = .lost → delay ≠ 0 → c.past x.lostAt (ms delay) = true → w.mode ≠ .plain →
    (∀ b e, chooseExtent c w (othersOf w u m) .spare = some (b, e) →
      After s (.autoSpareDelayExpire id (u * 10 + m)) (moveMember c id u m b e)) ∧
    (chooseExtent c w (othersOf w u m) .spare = none → x.noSpare = false →
      After s (.autoSpareDelayExpire id (u * 10 + m))
        (raise (c.setWindow id (w.setMember u m { x with noSpare := true })) 122 (srcInfo 13 id)))) ∧
  (∀ o rest, c.pool.ops = o :: rest → o.taken = false → After s (.leaderRequest o.line o.recon)
    (opGo { c with pool := { c.pool with ops := { o with taken := true, order := c.pool.orders } :: rest, orders := c.pool.orders + 1 } } o))

/-! ### HBM -/

/-- R215 to R217, R219, R225, R226, R229.
Choices of the model's own in it: notes/assumptions 92, 93, 94, 95, 163, 174, 176, 199, 200. -/
def Obligations.HbmRowsComplete : Prop :=
  ∀ (s : State), let c := s.chip
  (∀ r : CodewordRead, c.rst.running = true →
    (64 ≤ r.pc ∨ (c.pcOf r.pc).failed = true ∨ onChannel r = false → After s (.hbmCodewordRead r) c) ∧
    (r.pc < 64 → (c.pcOf r.pc).failed = false → onChannel r = true →
      let c0 := if r.parity then raise c 137 (pcInfo r.pc) else c
      let armed := spendArmed c0 [128, 129, 130]
      (hbmDecode (readWord c0 r) = .clean → (r.errors = [] ∨ ∀ sl st i, r.region ≠ .lineCache sl st i) → After s (.hbmCodewordRead r) c0) ∧
      (∀ sl st i, hbmDecode (readWord c0 r) = .clean → r.errors ≠ [] → r.region = .lineCache sl st i →
        After s (.hbmCodewordRead r) (setWay c0 (wayKey sl st i) (wayOfWord (c0.way (wayKey sl st i)) (readWord c0 r)))) ∧
      (∀ n word, hbmDecode (readWord c0 r) = .fixed n word →
        let c1 := countEvent (raise (rewrite armed r word) 128 (pcInfo r.pc)) { code := 0x060, quad := r.pc / 16, inst := r.pc } n
        let x := { c1.pcOf r.pc with ceCount := (c1.pcOf r.pc).ceCount + 1 }
        let ts := (x.ce.look r.block).filter (fun t => !c1.past t (sec 86400)) ++ [c1.ivl]
        let c2 := c1.setPc r.pc { x with ce := x.ce.put r.block ts }
        After s (.hbmCodewordRead r) (if c2.hbm.retireCe ≤ ts.length then retireBlock c2 r.pc r.block else c2)) ∧
      (hbmDecode (readWord c0 r) = .detected →
        let c1 := uncorrected armed r
        let x := c1.pcOf r.pc
        let ts := x.ueTimes.filter (fun t => !c1.past t (sec 1)) ++ [c1.ivl]
        let c2 := c1.setPc r.pc { x with ueCount := min 255 (x.ueCount + 1), ueTimes := ts }
        After s (.hbmCodewordRead r) (if 16 ≤ ts.length then failPc c2 r.pc else retireBlock c2 r.pc r.block)))) ∧
  (∀ r : CodewordRead, c.rst.running = true → c.hbm.scrubEn = true → (c.rung 8).current = 0 → scrubDue c ≤ c.ivl →
    let n := (c.hbm.cursor + 1) % hbmLines
    let c' := { c with hbm := { c.hbm with cursor := n, scrubAt := if n = 0 then c.ivl else c.hbm.scrubAt } }
    After s (.patrolScrub r) (codeword c' { r with pc := c.hbm.cursor / pcLines, block := c.hbm.cursor % pcLines / 64 })) ∧
  (∀ k b, (c.pcOf k).copying.contains b = true →
    let x := c.pcOf k
    let used : Nat → Bool := fun i => c.bb.retired.any (fun e => e.2 == i + 1)
    let spare := ((List.range (c.bb.retired.length + 1)).find? (fun i => !used i)).getD 0
    let y := { x with copying := x.copying.erase b, mapped := addOnce x.mapped b, retired := x.retired + 1 }
    let c1 := { c.setPc k y with bb := { c.bb with retired := c.bb.retired.put (k * 2 ^ 20 + b) (spare + 1) } }
    let c2 := raise c1 133 (pcInfo k)
    After s (.retirementCopyEnd k b) (if 1024 ≤ x.retired + 1 then failPc c2 k else c2)) ∧
  (∀ i, i < 32 → c.rst.running = true → c.past (c.hbm.loops.look i).last (ms 1) = true →
    let l := c.hbm.loops.look i
    let dt := c.ivl - l.last
    let more := max l.hitsLo l.hitsHi
    let t := if (more - min l.hitsLo l.hitsHi) * 100 ≤ more then l.thresh
      else if l.hitsHi < l.hitsLo then l.thresh - 1 else l.thresh + 1
    let atMin := if l.thresh = l.min then l.atMin + dt else l.atMin
    let atMax := if l.thresh = l.max then l.atMax + dt else l.atMax
    let thresh := max l.min (min l.max t)
    let l' : Placement := { l with atMin := atMin, atMax := atMax, thresh := thresh, hitsLo := 0, hitsHi := 0, last := c.ivl }
    After s (.placementLoopUpdate i) { c with hbm := { c.hbm with loops := c.hbm.loops.put i l' } }) ∧
  (∀ b e, (c.dev b).purging.contains e = true → After s (.purgeEnd b e)
    (scrubDone (c.modDev b (fun d => { d with purging := d.purging.erase e })) b e)) ∧
  (∀ r d, Completes s (.hbmReserve r d) 0x0B10 r d
      (fun c => d.zeroBut [(16, 10)] = true ∧ admitFail c (hbmReserveDo c d) 0 = none)
      (fun c x => endCmd (hbmReserveDo c d) x .ok (leBytes 2 (d.u16 24))) ∧
    Completes s (.lcConfig r d) 0x0B11 r d (fun c => lcConfigCheck c d = none ∧ admitFail c (lcConfigDo c d) 0 = none)
      (fun c x =>
        let l := (lcConfigDo c d).hbm.loops.look (if d.tgt = 0xFFFF then 0 else d.tgt)
        endCmd (lcConfigDo c d) x .ok (leBytes 1 l.min ++ leBytes 1 l.max)) ∧
    Completes s (.hbmQuery r d) 0x0B12 r d (fun _ => d.zeroBut [(16, 12)] = true ∧ d.bufferOk r = true)
      (fun c x =>
        let p := c.pcOf d.tgt
        let l := c.hbm.loops.look (d.tgt - 2 ^ 31)
        endQuery c x d (Config.queryBytes 0x0B12) (openFields (if d.tgt < 64 then [p.ceCount, p.ueCount, p.retired, c.hbm.poolFree]
          else [l.thresh, l.atMin, l.atMax, l.hits, l.missed]))))

/-! ### Stolevo Links -/

/-- R232, R237, R241, R242, R244, R246, R247, R251 to R253, R260, Table 8.7.
Choices of the model's own in it: notes/assumptions 140, 141, 143, 161, 179, 180, 181. -/
def Obligations.StolevoFlitRowsComplete : Prop :=
  ∀ (s : State) (l : Nat), linkExists s.chip l = true →
  let c := s.chip
  let x := c.link l
  (∀ f, (f.lanes.length ≠ rxWidth x ∨ f.lanes = [] → After s (.stvFlitReceive l f) c) ∧
    (f.lanes.length = rxWidth x → f.lanes ≠ [] → let seen := checkFlit (fromLanes f.lanes)
      (seen = .uncorrectable → After s (.stvFlitReceive l f) (flitDiscarded c l 1 f.carries)) ∧
      (∀ n, seen = .crcError n → After s (.stvFlitReceive l f) (flitDiscarded (bumpCnt c l 0 n) l 2 f.carries)) ∧
      (∀ n h p, seen = .good n h p → let c1 := (bumpCnt c l 0 n).modLink l (fun x => { x with goodAt := c.ivl })
        (h.typ = 1 → After s (.stvFlitReceive l f) (bumpCnt c1 l 7 1)) ∧
        (h.typ ≠ 1 → clearPayload (c1.link l) h p = none → After s (.stvFlitReceive l f) (authFail c1 l)) ∧
        (∀ q, h.typ ≠ 1 → clearPayload (c1.link l) h p = some q → After s (.stvFlitReceive l f) (actOnFlit c1 l h q f))))) ∧
  (∀ (c : Chip) h q f, let y := c.link l
    let taken := takeAck c l h.ack (BitVec.ofNat 16 h.snack)
    (5 ≤ h.typ → h.typ ≤ 7 → actOnFlit c l h q f = raise c 154 (linkInfo l)) ∧
    (h.typ = 4 → h.cls = 15 → actOnFlit c l h q f = takeTrain c l (parseTrain q)) ∧
    (h.typ = 0 → h.cls = 15 → y.state = .active → actOnFlit c l h q f = taken.modLink l (fun z => seenTo z h.seq)) ∧
    (8 ≤ h.typ → h.cls ≤ 9 → y.state = .active → actOnFlit c l h q f =
      let c2 := taken.modLink l (fun z => { z with rxSet := nat1 h.keySet })
      takeSeq (lastCells (if h.poison then poisonPkts c2 f.carries else c2) f.ends) l { head := h, payload := q, carries := f.carries })) ∧
  (∀ (c : Chip) (h : StvHeld), 2048 ≤ (h.head.seq + 65536 - (c.link l).expected) % 65536 →
    takeSeq c l h = (bumpCnt c l 5 1).modLink l (fun z => { z with repeatAck := true })) ∧
  (x.state = .active →
    let c0 := holdMarked c l
    let x := c0.link l
    let locked := x.ideReq && !x.ideOn
    let again := x.replay.find? (fun e => e.nacked && !e.bad)
    let idle := sendFlit c0 l { typ := 0, cls := 15, seq := x.nextSeq } [] false
    (1023 ≤ x.sinceFiller → After s (.stvFlitTransmit l)
      (emitFlit (c0.setLink l { x with sinceFiller := 0 }) l (groupLanes x.group) { typ := 1 } [] false)) ∧
    (x.sinceFiller < 1023 →
      (∀ e, locked = false → again = some e → After s (.stvFlitTransmit l) (sendAgain c0 l e)) ∧
      (locked = true ∨ again = none →
        (x.unseq ≠ [] → After s (.stvFlitTransmit l) (sendUnseq c0 l)) ∧
        (x.unseq = [] →
          (locked = true ∨ 2048 ≤ x.replay.length → After s (.stvFlitTransmit l) idle) ∧
          (locked = false → x.replay.length < 2048 →
            (∀ q t, x.sendSc0 = q :: t → mayEncrypt x q = true → After s (.stvFlitTransmit l) (sendPacketFlit c0 l true q)) ∧
            ((∀ q, x.sendSc0.head? = some q → mayEncrypt x q = false) →
              (controlDue c0 x = true → After s (.stvFlitTransmit l) (sendControl c0 l)) ∧
              (controlDue c0 x = false → x.sendSc0 ≠ [] → After s (.stvFlitTransmit l) idle) ∧
              (controlDue c0 x = false → x.sendSc0 = [] →
                (∀ q t, x.sendData = q :: t → mayEncrypt x q = true → After s (.stvFlitTransmit l) (sendPacketFlit c0 l false q)) ∧
                ((∀ q, x.sendData.head? = some q → mayEncrypt x q = false) → After s (.stvFlitTransmit l) idle)))))))) ∧
  (x.state = .align ∨ (x.state = .config ∧ x.markers < 64) → After s (.stvFlitTransmit l)
    (Chip.emit (c.modLink l (fun x => { x with markers := x.markers + 1 })) (.marker l markerLanes))) ∧
  (x.state = .config → 64 ≤ x.markers → x.phase = 0 → x.ownDone = false → x.sinceFiller < 1023 → After s (.stvFlitTransmit l)
    (Chip.emit (c.setLink l { x with sinceFiller := x.sinceFiller + 1 })
      (.train l (onEveryGroup { typ := 4, cls := 15 } (packTrain (ownTrain c l)))))) ∧
  (∀ e t, x.state = .active → x.replay = e :: t →
    (c.past (max x.ackAt e.since) (us x.ackTime) = true → After s (.ackTimeoutExpire l)
      (raise (bumpCnt (c.setLink l { x with replay := { e with nacked := true } :: t, ackAt := c.ivl }) l 4 1) 156 (linkInfo l))) ∧
    (c.past e.since (us x.replayAge) = true →
      After s (.replayAgeExpire l) (retrainLink (raise c 147 (linkInfo l)) l))) ∧
  (x.state = .phy ∨ x.state = .align ∨ x.state = .config → c.past x.trainAt (ms x.trainTime) = true →
    After s (.trainTimeoutExpire l) (raise (linkHeld c l) 149 (linkInfo l))) ∧
  (x.state = .active → c.past x.goodAt (us x.idleDown) = true →
    After s (.idleDownExpire l) (raise (linkHeld c l) 144 (linkInfo l))) ∧
  (x.state = .downHeld → x.authDown = false → c.past x.stateAt (ms x.retryIvl) = true →
    After s (.retryIntervalExpire l) (startPhy c l)) ∧
  (∀ lanes : BitVec 16, x.state = .phy → c.test.portsOut.contains (portXbar (linkPort c l)) = false →
    let up := (List.range 16).filter (fun i => lanes.getLsbD i && laneFree c (stvLane c l i))
    let rt := stvRate x.rate
    let lock : Lane → Lane := fun y =>
      { y with signal := true, cdrLock := true, eqDone := true, bad := false, rate := rt, saved := addOnce y.saved rt }
    let c1 := up.foldl (fun c i => c.modLane (stvLane c l i) lock) c
    let whole := (List.range 4).any (fun g => (List.range 4).all (fun i => up.contains (4 * g + i)))
    After s (.stvLanesLocked l lanes) (if whole then sendMarker (reach c1 l .align) l else c1)) ∧
  (∀ marks : List LaneMark, x.state = .align →
    let ms : List SeenLane := (marks.filter (fun m =>
      decide (m.lane < 16) && laneFree c (stvLane c l m.lane) && !(c.lane (stvLane c l m.lane)).bad)).map
        (fun m => (m.lane, readMarker m.nibbles))
    let ok := (ms.filter (goodLane ms)).filterMap (fun m => m.2.map (fun r => (m.1, r.1, r.2)))
    let c0 := if ok.length < ms.length then raise c 182 (srcInfo 1 (linkPort c l)) else c
    let c1 := ok.foldl (fun c m => c.modLane (stvLane c l m.1) (fun y => { y with inverted := m.2.1, logical := m.2.2 })) c0
    let rx : BitVec 16 := BitVec.ofNat 16 (ok.foldl (fun n m => n + 2 ^ m.2.2) 0)
    After s (.markersDeskewed l marks) (if (List.range 7).any (fun g => groupIn g rx) then
      (reach c1 l .config).modLink l (fun x => { trainFresh x with rxLanes := rx, markers := x.markers })
      else c1.modLink l (fun x => { x with rxLanes := rx }))) ∧
  (∀ g lanes n h p, g < 4 → lanes.length = 4 → checkFlit (fromLanes lanes) = .good n h p → h.typ = 4 → h.cls = 15 →
    x.state = .active ∨ (x.state = .config ∧ groupIn (3 + g) x.rxLanes = true) →
    After s (.trainFlit l { group := g, lanes := lanes })
      (takeTrain ((bumpCnt c l 0 n).modLink l (fun x => { x with goodAt := c.ivl })) l (parseTrain p))) ∧
  (∀ (c : Chip) (t : TrainSeq), let y := c.link l
    (y.state = .active → takeTrain c l t = retrainLink c l) ∧
    (y.state = .config → y.phase = 0 → t.phase = 0 → y.lastProp ≠ some t →
      takeTrain c l t = c.setLink l { y with lastProp := some t, peerResume := t.resume, peerExpected := t.rxExpected }))

/-- R256, R257, R261, R468, R540 and the rows of Table 12.12.
Choices of the model's own in it: notes/assumptions 142, 161, 163, 181. -/
def Obligations.StolevoCommandsComplete : Prop :=
  ∀ (s : State) (r : Nat) (d : Desc), let l := d.tgt
  Completes s (.stvLinkConfig r d) 0x0140 r d
    (fun c => stvLinkConfigCheck d = none ∧ admitFail c (flowsRetimed (stvLinkConfigDo c d)) 0 = none)
    (fun c x => let e := flowsRetimed (stvLinkConfigDo c d)
      endCmd (if d.mask 0 then rateBoundsGo e l else e) x .ok) ∧
  Completes s (.stvLinkRetrain r d) 0x0141 r d (fun c => d.zeroBut [] = true ∧ (c.link l).state = .active)
    (fun c x => (retrainLink c l).modLink l (fun y => { y with retrain := some x })) ∧
  Completes s (.stvLinkRemove r d) 0x0142 r d
    (fun c => d.zeroBut [] = true ∧ (c.link l).state ≠ .removed ∧ linkHasFlow c l = false)
    (fun c x =>
      let c1 := (reach (leaveActive c l) l .removed).modLink l (fun y =>
        { trainFresh y with fresh := true, rate := false })
      let k := removeTraffic (linkTimeLost c1 l) l
      endCmd (offerAll k.1 (portXbar (linkPort k.1 l))) x .ok (leBytes 4 k.2.1 ++ leBytes 4 k.2.2)) ∧
  Completes s (.stvLinkRestore r d) 0x0143 r d (fun c => d.zeroBut [] = true ∧ (c.link l).state = .removed)
    (fun c x => let c1 := (List.range 16).foldl (fun c i => laneTestCut c (stvLane c l i)) c
      let c2 := c1.modLink l (fun y => { y with fresh := true })
      endCmd (if (c2.link l).authDown then reach c2 l .downHeld else startPhy c2 l) x .ok) ∧
  Completes s (.stvLinkQuery r d) 0x0144 r d (fun _ => d.zeroBut [(16, 12)] = true ∧ d.bufferOk r = true)
    (fun c x => let y := c.link l
      endQuery c x d (Config.queryBytes 0x0144)
        (openFields ([y.state.code, groupLanes y.group, nat1 y.rate, nat1 y.leader, y.peerSerial, y.peerEpoch, y.delay] ++
         (List.range 10).map (fun n => y.cnt.look n)))) ∧
  (∀ (p : Path) k, pathOpen s.chip p = true → linkExists s.chip k = true →
    After s (.stvCtlRetrain p k) (retrainLink s.chip k) ∧
    After s (.clrCnt p k) (s.chip.modLink k (fun x => { x with cnt := if x.cntAt = s.chip.ivl + 1 then x.cntCyc else [] })))

/-! ### Ports -/

/-- R266 to R270, R277, R282, R373 and the rows of Table 12.12.
Choices of the model's own in it: notes/assumptions 82, 106, 107, 112, 163, 177, 191. -/
def Obligations.PortLinkRowsComplete : Prop :=
  ∀ (s : State), let c := s.chip
  (∀ p f, p < 128 → mayTrain c p = true →
    (partnerFits c p f = true → After s (.cxlLinkUp p f) (portRises c p f)) ∧
    (partnerFits c p f = false → (c.port p).floor < f.width → After s (.cxlLinkUp p f)
      (if dlUp (c.port p) then linkLost c p else portFalls c p .down))) ∧
  (∀ p, c.rst.running = true → p < 128 →
    (dlUp (c.port p) = false → After s (.cxlLinkDown p) c) ∧
    (dlUp (c.port p) = true → (c.port p).upstream = true → After s (.cxlLinkDown p) (hostReset c p .down 64)) ∧
    (dlUp (c.port p) = true → (c.port p).upstream = false →
      let waits := (vppbsOn c p).filter (fun e => (c.vppb e.1 e.2).unbind == some 0)
      let c1 := detectAgain (waits.foldl (fun c e => endUnbind c e.1 e.2 0 .ok) (portFalls c p .down)) p
      (slotDark c p = true ∨ waits ≠ [] → After s (.cxlLinkDown p) c1) ∧
      (slotDark c p = false → waits = [] → After s (.cxlLinkDown p)
        (raise ((vppbsOn c p).foldl (fun c e => surpriseDown c e.1 e.2 p) c1) 160 (srcInfo 1 p))))) ∧
  (∀ p, c.rst.running = true → (c.port p).upstream = true → linkUp (c.port p) = true →
    After s (.hotReset p) (hostReset c p .training 64)) ∧
  (∀ p w, c.rst.running = true → (c.port p).state = .l0 ∨ (c.port p).state = .l0p → (c.port p).flit256 = true →
    let c1 := if (c.port p).l0pOut.isSome then c.setPort p { c.port p with l0pOut := none, l0pHold := some c.ivl } else c
    ((c.port p).l0pOut.isSome = true → (c.port p).role = 2 → After s (.l0pRequest p w) (c.emit (.l0pAnswer p false))) ∧
    ((c.port p).l0pOut = none ∨ (c.port p).role ≠ 2 →
      (l0pRefused c1 p w = true → After s (.l0pRequest p w) (c1.emit (.l0pAnswer p false))) ∧
      (l0pRefused c1 p w = false → After s (.l0pRequest p w) ((setActive c1 p w).emit (.l0pAnswer p true))))) ∧
  (∀ p w, (c.port p).l0pOut = some w → (c.port p).state = .l0 ∨ (c.port p).state = .l0p →
    let c1 := c.setPort p { c.port p with l0pOut := none }
    After s (.l0pResponse p true) (l0pLeave (setActive c1 p w) p) ∧ After s (.l0pResponse p false) c1) ∧
  (∀ p, c.rst.running = true → p < 128 → (c.port p).role = 2 → (c.port p).present = false → (slotOf c p).isSome = false →
    let st := if (c.port p).state = .down then .training else (c.port p).state
    After s (.receiverDetect p)
      (raise (slotSeen (c.setPort p { c.port p with present := true, seen := false, state := st }) p 0) 168 (srcInfo 1 p))) ∧
  (∀ p (path : Path), pathOpen c path = true → p < 128 → (c.port p).role ≠ 0 → After s (.portCtlRetrain path p) (retrainPort c p)) ∧
  (∀ r d, Completes s (.portConfig r d) 0x0100 r d
      (fun c => portConfigCheck d = none ∧ admitFail c (portConfigDo c d) 0 = none)
      (fun c x => portConfigGo c (portConfigDo c d) x d) ∧
    Completes s (.portQuery r d) 0x0101 r d (fun _ => d.zeroBut [(16, 12)] = true ∧ d.bufferOk r = true)
      (fun c x => let y := l0pCounted c (c.port d.tgt)
        endQuery c x d (Config.queryBytes 0x0101) (openFields [portStatus c d.tgt, y.ident, y.serial, y.lds, y.errors, y.l0pTime])) ∧
    Completes s (.portRetrain r d) 0x0102 r d
      (fun c => d.zeroBut [] = true ∧ (c.port d.tgt).state ≠ .inReset ∧ (c.port d.tgt).state ≠ .disabled)
      (fun c x => let e := retrainPort c d.tgt
        if (e.port d.tgt).state = .down then endCmd e x .ok (leBytes 1 0)
        else e.modPort d.tgt (fun y => { y with retrain := y.retrain ++ [x] })))

/-- R271 to R273, R278, R279, R281 to R283.
Choices of the model's own in it: notes/assumptions 108, 109, 110, 163, 177, 206, 208. -/
def Obligations.VirtualSwitchAndPerstRowsComplete : Prop :=
  ∀ (s : State), let c := s.chip
  (∀ r d, Completes s (.perstMap r d) 0x0108 r d
      (fun c => perstMapCheck c d = none ∧ admitFail c (perstMapDo c d) 0 = none)
      (fun c x => perstMapGo c (perstMapDo c d) x d) ∧
    Completes s (.vcsCreate r d) 0x0110 r d
      (fun c => vcsCreateCheck c d = none ∧ admitFail c (vcsCreateDo c d) 0 = none)
      (fun c x => endCmd (c.setVcs d.tgt { present := true, up := d.byte 16 }) x .ok) ∧
    Completes s (.vcsDestroy r d) 0x0111 r d (fun c => vcsDestroyCheck c d = none ∧ admitFail c (c.setVcs d.tgt {}) 0 = none)
      (fun c x => endCmd (c.setVcs d.tgt {}) x .ok) ∧
    Completes s (.vppbBind r d) 0x0112 r d (fun c => vppbBindCheck c d = none ∧ admitFail c (vppbBindDo c d) 0 = none)
      (fun c x => let e := c.setVppb d.tgt (d.byte 16) { bound := bindOf (d.byte 17) (bindLd d) }
        endCmd (hotAdd e d.tgt (d.byte 16) (d.byte 17)) x .ok (leBytes 1 (d.byte 16))) ∧
    Completes s (.vppbUnbind r d) 0x0113 r d (fun c => vppbUnbindCheck c d = none ∧ admitFail c c 0 = none)
      (fun c x => beginUnbind c d.tgt (d.byte 16) (d.byte 17) (some x) none) ∧
    Completes s (.vcsQuery r d) 0x0114 r d (fun _ => d.zeroBut [(16, 12)] = true ∧ d.bufferOk r = true)
      (fun c x => let v := c.vcsOf d.tgt
        endQuery c x d (Config.queryBytes 0x0114) (openFields (v.up :: (List.range 16).map (fun i => (tenantAt c v.up i).getD 0) ++
          v.vppbs.flatMap (fun b => boundValues b.1 b.2 ++ [nat1 b.2.off, nat1 b.2.unbind.isSome]))))) ∧
  (∀ v b, (c.vppb v b).unbind = some 1 → c.past (c.vppb v b).since (ms (c.vcsOf v).timeout) = true →
    After s (.unbindTimeoutExpire v b) (endUnbind (surpriseOut c v b) v b 2 .drainTimeout)) ∧
  (∀ v b p, c.rst.running = true → (c.vppb v b).bound = .port p → (c.vppb v b).off = false → (c.vppb v b).unbind = none →
    let c1 := ((c.setVppb v b { c.vppb v b with off := true }).emit (.hotPlug v b 7)).emit (.hotPlug v b 3)
    After s (.powerControllerOff v b)
      (if dlUp (c1.port p) ∨ (c1.port p).state = .training then portFalls c1 p .disabled else c1)) ∧
  (∀ i low, i < 64 → ((c.pIn i).raw ≠ low → After s (.perstInNEdge i low) (c.setPIn i { c.pIn i with raw := low, since := c.ivl })) ∧
    ((c.pIn i).raw = low → After s (.perstInNEdge i low) c)) ∧
  (∀ i, i < 64 → let e := groupApply c; let x := e.pIn i
    e.rst.running = true → e.past x.since (us e.ports.inFilter) = true → x.valid = true → x.raw = true → x.level = false →
      e.ports.linksDown = false →
      After s (.perstInAssert i) (portEvent8007 (raise (hostReset (e.setPIn i { x with level := true, seen := true }) x.port .inReset i)
        169 (srcInfo 1 x.port)) x.port 4)) ∧
  (∀ i, i < 64 → c.rst.running = true → c.past (c.pIn i).since (us c.ports.inFilter) = true → let x := c.pIn i
    (x.raw = false → x.level = true →
      After s (.perstInRelease i) (portEvent8007 (releaseOuts (leaveReset (c.setPIn i { x with level := false }) x.port) i) x.port 5))) ∧
  (∀ j t, (c.pOut j).since = some t → (c.pOut j).minDone = false → c.past t (us c.ports.outMin) = true → let x := c.pOut j
    let held := decide (x.input < 64) && (c.pIn x.input).level
    After s (.perstOutMinExpire j) (c.setPOut j (outLevel { x with minDone := true, since := if held then some t else none })))

/-! ### FM API -/

/-- R275, R276, R279, R366, Table 9.3.
Choices of the model's own in it: notes/assumptions 9, 111, 208. -/
def Obligations.FmApiSwitchRowsComplete : Prop :=
  ∀ (s : State) (q : FmReq), let c := s.chip
  c.rst.running = true → c.rings.fwReady = true → q.tenant = 0 →
  After s (.identify q) (fmReply c q [0x1FB3, 0x9512, c.regs.serial.toNat]) ∧
  After s (.backgroundOperationStatus q) (fmReply c q [0]) ∧
  After s (.getResponseMessageLimit q) (fmReply c q [c.ports.fmLimit]) ∧
  (∀ n, After s (.setResponseMessageLimit q n) (fmReply { c with ports := { c.ports with fmLimit := n } } q [n])) ∧
  After s (.identifySwitchDevice q)
    (fmReply c q [c.ports.mgrPort, (usedPorts c).length, (c.ports.vcs.filter (·.2.present)).length, boundVppbs c]) ∧
  (∀ p, p < 128 → (c.port p).role ≠ 0 → let y := c.port p
    After s (.getPhysicalPortState q p)
      (fmReply c q [p, y.role, y.cfgWidth, y.width, y.rateMax, y.rate, nat1 y.present, nat1 y.cxl, y.lds, portStatus c p]) ∧
    (heldByOther c [{ kind := .port, index := p }] 0 = false →
      (y.state ≠ .inReset → y.state ≠ .disabled → admitFail c c 0 = none →
        After s (.physicalPortControl q p .retrain) (let e := retrainPort c p
          if (e.port p).state = .down then fmEnd e q.tag .ok else e.modPort p (fun y => { y with fmWait := y.fmWait ++ [q.tag] }))) ∧
      (∀ b, let e := flowsRetimed (c.setPort p { y with disable := b })
        admitFail c e 0 = none →
        After s (.physicalPortControl q p (if b then .disable else .enable)) (fmEnd (portCtlGo e p y) q.tag .ok))) ∧
    (∀ reg v, let c1 := fun (b : Bool) => c.emit (.toPartner p 0x5103 (leBytes 4 reg ++ leBytes 1 (nat1 b) ++ leBytes 4 v.toNat))
      After s (.sendPpbCxlIoConfigurationRequest q p reg true v) (fmReply (c1 true) q []) ∧
      After s (.sendPpbCxlIoConfigurationRequest q p reg false v) (fmReply (c1 false).usedFree q [c.freeNat % 2 ^ 32]))) ∧
  (∀ v, (c.vcsOf v).present = true →
    After s (.getVirtualCxlSwitchInfo q v)
      (fmReply c q ((c.vcsOf v).up :: (c.vcsOf v).vppbs.flatMap (fun b => boundValues b.1 b.2))) ∧
    (heldByOther c [{ kind := .vcs, index := v }] 0 = false →
      (∀ b p ld, bindCheck c v b p ld = none → let e := c.setVppb v b { bound := bindOf p ld }
        admitFail c e 0 = none → After s (.bindVppb q v b p ld) (fmEnd (hotAdd e v b p) q.tag .ok)) ∧
      (∀ b o, unbindCheck c v b o = none → admitFail c c 0 = none →
        After s (.unbindVppb q v b o) (beginUnbind c v b o none (some q.tag)))) ∧
    (∀ b err, b ≤ 47 → After s (.generateAerEvent q v b err) (fmEnd (c.emit (.aer v b err)) q.tag .ok))) ∧
  (∀ n, After s (.fmApiUnsupported q n) (c.emit (.fmAnswer q.tag .unsupported [])))

/-- R177, R274 to R276, Table 9.3.
Choices of the model's own in it: notes/assumptions 111. -/
def Obligations.FmApiDeviceRowsComplete : Prop :=
  ∀ (s : State) (q : FmReq), let c := s.chip
  c.rst.running = true → c.rings.fwReady = true →
  (q.tenant = 0 →
    (∀ p body, mldUp c p = true → let sent := fun (cmd : Nat) (b : List Byte) => fmReply (c.emit (.toPartner p cmd b)) q []
      After s (.tunnelManagementCommand q p body) (sent 0x5300 body) ∧ After s (.getLdInfo q p) (sent 0x5400 []) ∧
      After s (.getLdAllocations q p body) (sent 0x5401 body) ∧
      (∀ ls : List Nat, (∀ l ∈ ls, backs c p (some l) = false ∧
          (vppbsOn c p).any (fun e => (c.vppb e.1 e.2).bound == .ld p l) = false) →
        After s (.setLdAllocations q p ls body) (sent 0x5402 body)) ∧
      After s (.getQosControl q p) (sent 0x5403 []) ∧ After s (.setQosControl q p body) (sent 0x5404 body) ∧
      After s (.getQosStatus q p) (sent 0x5405 []) ∧ After s (.getQosAllocatedBw q p body) (sent 0x5406 body) ∧
      After s (.setQosAllocatedBw q p body) (sent 0x5407 body) ∧ After s (.getQosBwLimit q p body) (sent 0x5408 body) ∧
      After s (.setQosBwLimit q p body) (sent 0x5409 body) ∧
      (∀ ld reg v a, ld < (c.port p).lds →
        After s (.sendLdCxlIoConfigurationRequest q p ld reg true v)
          (sent 0x5301 (leBytes 2 ld ++ leBytes 4 reg ++ leBytes 1 1 ++ leBytes 4 v.toNat)) ∧
        After s (.sendLdCxlIoMemoryRequest q p ld true a body)
          (sent 0x5302 (leBytes 2 ld ++ leBytes 1 1 ++ leBytes 8 a.toNat ++ body)))) ∧
    After s (.getMultiHeadedInfo q)
      (fmReply c q [(heads c).length, c.ten.tenants.foldl (fun n t => n + t.2.binds.length) 0]) ∧
    (∀ first n, first + n ≤ (heads c).length → After s (.getHeadInfo q first n)
      (fmReply c q ((((heads c).drop first).take n).flatMap (fun p => let y := c.port p
        [p, y.cfgWidth, y.width, y.rateMax, y.rate])))) ∧
    After s (.getDcdInfo q) (fmReply c q [(heads c).length, 8, 2 ^ 28]) ∧
    (∀ p, p < 128 → (c.port p).upstream = true →
      After s (.getHostDcRegionConfiguration q p) (fmReply c q (8 :: 2 ^ 28 :: (shownAt c p).flatMap (fun e =>
        let w := c.window e.2
        [e.1, w.region, w.dpaOff, w.extents]))) ∧
      (∀ ld, (tenantAt c p ld).isSome = true → After s (.getDcRegionExtentLists q p ld)
        (fmReply c q ((shownAt c p).flatMap (fun e =>
          let w := c.window e.2
          if e.1 = ld then (w.ext.filter (fun x => extentOpen w x.1 p)).flatMap (fun x => [w.region, w.dpaOff + x.1, x.2.pool])
          else [])))))) ∧
  (q.tenant ≠ 0 → ∀ p n a v b body ls ld act,
    ∀ i ∈ [Instr.identify q, .backgroundOperationStatus q, .getResponseMessageLimit q, .setResponseMessageLimit q n,
      .identifySwitchDevice q, .getPhysicalPortState q p, .physicalPortControl q p act,
      .sendPpbCxlIoConfigurationRequest q p n b v, .getVirtualCxlSwitchInfo q n, .bindVppb q n a p ld, .unbindVppb q n a p,
      .generateAerEvent q n a v, .tunnelManagementCommand q p body, .sendLdCxlIoConfigurationRequest q p a n b v,
      .sendLdCxlIoMemoryRequest q p a b (v.setWidth 64) body, .getLdInfo q p, .getLdAllocations q p body,
      .setLdAllocations q p ls body, .getQosControl q p, .setQosControl q p body, .getQosStatus q p,
      .getQosAllocatedBw q p body, .setQosAllocatedBw q p body, .getQosBwLimit q p body, .setQosBwLimit q p body,
      .getMultiHeadedInfo q, .getHeadInfo q p n, .getDcdInfo q, .getHostDcRegionConfiguration q p,
      .getDcRegionExtentLists q p n, .fmApiUnsupported q n],
      After s i (c.emit (.fmAnswer q.tag .invalidInput [])))

/-! ### Lanes -/

/-- R294, R301, R303 to R305. The nominal count is 6,553.6 edges, so the deviation is told in tenths of an edge.
Choices of the model's own in it: notes/assumptions 55, 56, 58. -/
def Obligations.LaneHealthRowsComplete : Prop :=
  ∀ (s : State), let c := s.chip
  (∀ k edges, c.rst.running = true → k < 8 → let x := c.course k
    let off : Nat := (((10 * edges : Nat) : Int) - 65536).natAbs
    (off * 1000 ≤ 65536 →
      let ok := x.refOk || decide (16 ≤ x.goodCounts + 1)
      let runs := ok && decide ((c.rung k).current < 3)
      After s (.refclkCount k edges) (c.setCourse k { x with
        badCounts := 0, goodCounts := x.goodCounts + 1, refOk := ok, pllH := runs, pllL := runs && !x.stolevo })) ∧
    (65536 < off * 1000 →
      let c1 := c.setCourse k { x with badCounts := x.badCounts + 1, goodCounts := 0 }
      After s (.refclkCount k edges) (if 2 ≤ x.badCounts + 1 then refclkLost c1 k else c1)) ∧
    After s (.refclkEdgeLoss k) (refclkLost c k)) ∧
  (∀ n, c.rst.running = true → n < 512 →
    (carried c n = true →
      After s (.laneLos n) (dropLane (raise (c.modLane n (fun x => { x with signal := false, losSeen := true })) 176 (srcInfo 3 n)) n) ∧
      After s (.laneCdrUnlock n)
        (dropLane (raise (c.modLane n (fun x => { x with cdrLock := false, unlockSeen := true })) 177 (srcInfo 3 n)) n) ∧
      (∀ m, let c1 := c.modLane n (fun x => { x with err := min (x.err + m) 0xFFFFFFFF })
        (m ≤ (c1.course (n / 64)).errLimit → After s (.laneErrLimit n m) c1) ∧
        ((c1.course (n / 64)).errLimit < m → After s (.laneErrLimit n m)
          (dropLane (raise (c1.modLane n (fun x => { x with limitSeen := true })) 178 (srcInfo 3 n)) n)))) ∧
    (let e := raise (c.modLane n (fun x => { x with eqDone := false })) 181 (srcInfo 3 n)
     After s (.eqFail n) (if (laneLink c n).isSome ∨ carried c n then dropLane e n else e))) ∧
  (∀ n (path : Path), pathOpen c path = true → n < 512 →
    After s (.clrQuar path n) (c.modLane n (fun x => { x with quar := false, badAt := none })))

/-- R302, R306 to R308, R310 to R312, R546.
Choices of the model's own in it: notes/assumptions 32, 42, 57, 163, 201, 204. -/
def Obligations.LaneTestRowsComplete : Prop :=
  ∀ (s : State), let c := s.chip
  (∀ r d, Completes s (.laneConfig r d) 0x0120 r d (fun c => laneConfigCheck d = none ∧ admitFail c (laneConfigDo c d) 0 = none)
      (fun c x => let e := laneConfigDo c d
        endCmd (if d.tgt < 512 then excluded c e d.tgt else e) x .ok) ∧
    Completes s (.laneQuery r d) 0x0121 r d (fun _ => d.zeroBut [(16, 12)] = true ∧ d.bufferOk r = true)
      (fun c x => let y := c.lane d.tgt
        endQuery c x d (Config.queryBytes 0x0121) (openFields (laneStatus y :: y.err :: y.saved ++ y.lastMargin))) ∧
    Completes s (.laneMargin r d) 0x0123 r d (fun c => let y := c.lane d.tgt
        d.zeroBut [(16, 1)] = true ∧ d.byte 16 ≤ (if (c.course (d.tgt / 64)).stolevo then 2 else 0) ∧
        y.margin = none ∧ y.marginPartner = false ∧ y.inUse = true)
      (fun c x => c.setLane d.tgt { c.lane d.tgt with margin := some x }) ∧
    Completes s (.laneEqClear r d) 0x0124 r d (fun _ => d.zeroBut [] = true)
      (fun c x => let ns := if d.tgt < 512 then [d.tgt] else (List.range 64).map (64 * (d.tgt - 2 ^ 31) + ·)
        endCmd (ns.foldl (fun c n => c.modLane n (fun y => { y with saved := [] })) c) x .ok)) ∧
  (∀ r d, let v := d.u16 16
    d.zeroBut [(16, 2), (20, 1), (24, 8)] = true → v / 16 % 4 = 0 → v / 256 % 2 = 0 → v / 2 ^ 13 % 4 = 0 → v % 16 ≠ 0 →
    field v 6 2 ≠ 3 → patternOk (v % 16) (d.byte 20) = true → d.u64 24 ≠ 0 →
    Completes s (.laneTest r d) 0x0122 r d
      (fun c => outOfTraffic c d.tgt = true ∧ (c.lane d.tgt).test = none ∧
        (if (c.course (d.tgt / 64)).stolevo then d.byte 20 = 5 ∨ d.byte 20 = 6 else d.byte 20 ≤ 5))
      (fun c x => c.modLane d.tgt (fun y => { prbsSet c { y with rate := d.byte 20, chkSync := false } (v + 0x30) with
        prbsErr := 0, prbsBits := 0, test := some x, testEnd := c.ivl + us (d.u64 24) }))) ∧
  (∀ n y bits errors losses, (c.lane n).test = some y → (c.lane n).testEnd ≤ c.ivl →
    let own := (c.lane n).chkSync
    let z := prbsNow c (c.lane n)
    let b := if own then z.prbsBits else min bits (2 ^ 64 - 1)
    let e := if own then z.prbsErr else min errors (2 ^ 64 - 1)
    After s (.laneTestEnd n bits errors losses)
      (endCmd (c.setLane n { z with test := none, genEn := false, chkEn := false, chkSync := false, loopback := 0, injRate := 0,
                                    prbsBits := b, prbsErr := e })
        y .ok (leBytes 8 b ++ leBytes 4 e ++ leBytes 3 (if own then 0 else losses)))) ∧
  (∀ n l r u d, l ≤ 16 → r ≤ 16 → u ≤ 64 → d ≤ 64 →
    let c1 := c.setLane n { c.lane n with margin := none, marginPartner := false, lastMargin := [l, r, u, d] }
    (∀ x, (c.lane n).margin = some x → After s (.laneMarginEnd n l r u d)
      (endCmd c1 x .ok (leBytes 1 l ++ leBytes 1 r ++ leBytes 1 u ++ leBytes 1 d))) ∧
    ((c.lane n).margin = none → (c.lane n).marginPartner = true → After s (.laneMarginEnd n l r u d) c1)) ∧
  (∀ n, n < 512 → (c.course (n / 64)).stolevo = false → (c.lane n).inUse = true → (c.lane n).margin = none →
    After s (.marginRequest n) (c.setLane n { c.lane n with marginPartner := true })) ∧
  (∀ n (path : Path), pathOpen c path = true → n < 512 → let x := c.lane n
    After s (.eqClear path n) (c.modLane n (fun x => { x with saved := [] })) ∧
    After s (.prbsClr path n) (c.modLane n (fun x =>
      { prbsNow c x with prbsErr := if x.injAt = c.ivl + 1 then x.injCyc else 0, prbsBits := 0 })) ∧
    After s (.injectOne path n)
      (c.modLane n (fun x => if x.chkSync ∧ x.prbsSync ≤ c.ivl then
        { x with prbsErr := min (x.prbsErr + 1) (2 ^ 64 - 1), injCyc := (if x.injAt = c.ivl + 1 then x.injCyc else 0) + 1,
                 injAt := c.ivl + 1 } else x)) ∧
    (∀ v : BitVec 32, outOfTraffic c n = true → patternOk (v.toNat % 16) x.rate = true → field v.toNat 6 2 ≠ 3 →
      After s (.lanePrbsWrite path n v) (c.setLane n (prbsSet c x (v.toNat % 16 + 16 * nat1 (bitOf v.toNat 4) + 32 * nat1 (bitOf v.toNat 5) +
        64 * field v.toNat 6 2 + 512 * field v.toNat 9 4 + 2 ^ 15 * nat1 (bitOf v.toNat 15))))) ∧
    (∀ v : BitVec 32, outOfTraffic c n = false → patternOk (v.toNat % 16) x.rate = true → field v.toNat 6 2 ≠ 3 →
      field v.toNat 6 2 ≠ 0 →
      After s (.lanePrbsWrite path n v) (c.setLane n (prbsSet c x (v.toNat % 16 + 16 * min (nat1 (bitOf v.toNat 4)) (nat1 x.genEn) +
        32 * min (nat1 (bitOf v.toNat 5)) (nat1 x.chkEn) + 64 * x.loopback + 512 * field v.toNat 9 4 +
        2 ^ 15 * nat1 (bitOf v.toNat 15))))))

/-! ### Tenants -/

/-- R316, R317, R321 to R324, R330, R504.
Choices of the model's own in it: notes/assumptions 46, 126, 127, 163. -/
def Obligations.TenantTableRowsComplete : Prop :=
  ∀ (s : State) r d, let t := d.tgt
  Completes s (.tenantCreate r d) 0x0200 r d
    (fun c => let y := tenantParams c {} d
      let e := setTenantShaper (clearTenantCounters (c.setTenant t { y with tki := freshTki c }) t) t (tenantShaper {} d)
      t ≠ 0 ∧ tenantFieldsOk c d = true ∧ (c.tenant t).state = .none ∧ tenantEndOk c t y (tenantShaper {} d) = true ∧
      admitFail c e 0 = none)
    (fun c x => let y := tenantParams c {} d
      let e := setTenantShaper (clearTenantCounters (c.setTenant t { y with tki := freshTki c }) t) t (tenantShaper {} d)
      endCmd (tenantTo e t .disabled 0) x .ok (leBytes 1 (freshTki c))) ∧
  Completes s (.tenantSet r d) 0x0202 r d
    (fun c => tenantSetCheck c d = none ∧ admitFail c (tenantSetDo c d) 0 = none) (fun c x => endCmd (tenantSetDo c d) x .ok) ∧
  Completes s (.tenantBind r d) 0x0203 r d
    (fun c => tenantBindCheck c d = none ∧ admitFail c (tenantBindDo c d) 0 = none)
    (fun c x => endCmd (bindPlug (tenantBindDo c d) (d.byte 16) (d.byte 17) 0) x .ok) ∧
  Completes s (.tenantUnbind r d) 0x0204 r d
    (fun c => tenantUnbindCheck c d = none ∧ admitFail c (removeBinding c t (d.byte 16) (d.byte 17)) 0 = none)
    (fun c x => endCmd (removeBinding c t (d.byte 16) (d.byte 17)) x .ok) ∧
  Completes s (.tenantDestroy r d) 0x0201 r d
    (fun c => t ≠ 0 ∧ d.zeroBut [] = true ∧ (c.tenant t).state = .disabled ∧ tenantBusy c t = false ∧
      (c.tenant t).resetting = false ∧ jobNames c t = false)
    (fun c x =>
      let c1 := (windowsOf c t).foldl destroyWindow c
      let c2 := (c.tenant t).binds.foldl (fun c b => removeBinding c t b.1 b.2) c1
      let c3 := (tenantAgents c2 t).foldl (fun c a => (killAgent c a.1 a.2 true false).1) c2
      let c4 := ((flowsOf c).filter (fun f => f.2.tenant == t)).foldl (fun c f => (standingPermits c f.2 false).setFlow f.1 {}) c3
      let c5 := flowsRetimed { c4 with sched := { c4.sched with tShapers := c4.sched.tShapers.put t {} } }
      let c6 := tenantTo (resetRing (discardRing c5 (2 * t) 0) t) t .none 0
      endCmd (c6.setTenant t {}) x .ok (leBytes 4 (windowsOf c t).length)) ∧
  Completes s (.tenantQuery r d) 0x0208 r d (fun _ => d.zeroBut [(16, 12)] = true ∧ d.bufferOk r = true)
    (fun c x => let y := c.tenant t
      let sh := c.sched.tShapers.look t
      endQuery c x d (Config.queryBytes 0x0208)
        (openFields ([y.state.code, nat1 y.resetting, y.binds.length] ++ y.binds.flatMap (fun b => [b.1, b.2]) ++
         [y.sc, nat1 sh.enable, sh.rate, sh.burst, y.lcMin, y.lcMax.getD (cacheMiB c), y.ringPort, y.action, y.limit, y.evtIvl] ++
         (List.range 32).map (occupancy c t) ++ [y.ctr.getD 7 0, y.faults.length])))

/-- R324 to R328, R331.
Choices of the model's own in it: notes/assumptions 51, 128, 129, 192, 206. -/
def Obligations.TenantStateRowsComplete : Prop :=
  ∀ (s : State), let c := s.chip
  (∀ r d, let t := d.tgt
    let run := fun (c : Chip) => if (c.ring t).state = .stopped then c.modRing t (fun q => { q with state := .running }) else c
    (d.zeroBut [] = true →
      Completes s (.tenantEnable r d) 0x0205 r d (fun c => (c.tenant t).state = .disabled ∧ tenantBusy c t = false)
        (fun c x => endCmd (run (tenantTo c t .enabled 0)) x .ok) ∧
      Completes s (.tenantEnable r d) 0x0205 r d (fun c => (c.tenant t).state = .draining)
        (fun c x => endCmd (run (cancelDrain c t)) x .ok) ∧
      Completes s (.tenantEnable r d) 0x0205 r d (fun c => (c.tenant t).state = .enabled) (fun c x => endCmd c x .busy)) ∧
    (t ≠ 0 → d.zeroBut [(16, 4)] = true → d.u32 16 ≤ 10000000 →
      Completes s (.tenantDisable r d) 0x0206 r d (fun c => (c.tenant t).state = .enabled ∧ tenantBusy c t = false)
        (fun c x => startDrain c t (if d.u32 16 = 0 then 100000 else d.u32 16) 0 (some x) false) ∧
      Completes s (.tenantDisable r d) 0x0206 r d (fun c => (c.tenant t).state = .disabled ∧ tenantBusy c t = false)
        (fun c x => endCmd c x .ok (leBytes 4 0 ++ leBytes 4 0 ++ leBytes 4 0))) ∧
    (t ≠ 0 → d.zeroBut [] = true → Completes s (.tenantReset r d) 0x0207 r d (fun _ => True)
      (fun c x => resetTenant (groupApply c) t 0 (some x)))) ∧
  (∀ t d, (c.tenant t).drain = some d → (c.tenant t).state = .draining → let e := endFlushes c t
    (drained c t = true →
      let c1 := tenantTo (e.1.modTenant t (fun x => { x with drain := none })) t .disabled 1
      (∀ x, d.cmd = some x → After s (.drainComplete t) (endCmd c1 x .ok (drainResult c1 t d (d.flushed + e.2)))) ∧
      (d.cmd = none → After s (.drainComplete t) c1)) ∧
    (d.deadline ≤ c.ivl →
      let k := (tenantAgents e.1 t).foldl (fun (r : Chip × Nat) a =>
        if holdsNothing r.1 a.1 a.2 then r
        else ((killAgent r.1 a.1 a.2 false true).1, r.2 + (killAgent r.1 a.1 a.2 false true).2.1)) (e.1, 0)
      let j := abortTenantJobs k.1 t
      let c1 := raise (tenantTo (j.1.modTenant t (fun x => { x with drain := none })) t .disabled 2) 195 (srcInfo 10 t)
      let c2 := if d.shutdown then raise { c1 with rst := { c1.rst with drainOut := true } } 359 (srcInfo 10 t) else c1
      (∀ x, d.cmd = some x → After s (.tenantDrainDeadline t) (endCmd c2 x .drainTimeout (drainResult c2 t d k.2 ++ leBytes 3 j.2))) ∧
      (d.cmd = none → After s (.tenantDrainDeadline t) c2)))

/-! ### Rings -/

/-- R339 to R345, R351, R550.
Choices of the model's own in it: notes/assumptions 48, 49, 50, 52, 163, 203, 207. -/
def Obligations.RingRowsComplete : Prop :=
  ∀ (s : State), let c := s.chip
  (∀ (path : Path) t (v : BitVec 32), c.rst.running = true → t < 4096 →
    (path = .endpoint ∧ t = 0 ∧ pathOpen c .endpoint = true) ∨ (path = .ld t ∧ (c.tenant t).state ≠ .none) →
    let q := c.ring t
    let tail := v.toNat % 65536
    ((c.tenant t).resetting = true →
      After s (.doorbell path t v) (c.modTenant t (fun x => { x with dbIgnored := x.dbIgnored + 1 }))) ∧
    ((c.tenant t).resetting = false → q.state = .unset ∨ q.cmdSize ≤ tail →
      After s (.doorbell path t v) (raise (c.setRing t { q with dbErr := true }) 208 (srcInfo 11 (2 * t)))) ∧
    ((c.tenant t).resetting = false → q.state ≠ .unset → tail < q.cmdSize →
      After s (.doorbell path t v) (c.setRing t { q with cmdTail := tail })) ∧
    After s (.evtHeadWrite path t v) (c.modRing t (fun q => { q with evtHead := v.toNat % 65536 }))) ∧
  (∀ t (f : Fetch), servedRing c = some t → let c1 := takeTurn c t
    (f.ok = true → After s (.descriptorFetch t f)
      (arrive (c1.modRing t (fun q => { q with cmdHead := (q.cmdHead + 1) % q.cmdSize, reserved := q.reserved + 1 }))
        (2 * t) f.opcode f.desc)) ∧
    (f.ok = false → After s (.descriptorFetch t f)
      ((raise (c1.modRing t (fun q => { q with fetchErr := true, state := .error })) 209 (srcInfo 11 (2 * t))).later (.ringError t)))) ∧
  (∀ t a, (c.ring t).intAt = some a → (c.ring t).intWait = true → c.past a (coalesceOf c t) = true →
    After s (.evtCoalesceExpire t) (interrupt (c.setRing t { c.ring t with intWait := false, intAt := none }) t)) ∧
  (∀ (path : Path) (v : BitVec 32), pathOpen c path = true → let c1 := mgrFields c v.toNat
    let cl := field v.toNat 0 5
    let el := field v.toNat 5 5
    (c1.rings.mgrEnable = true → After s (.mgrRingEnable path v) c1) ∧
    (c1.rings.mgrEnable = false → ¬ (4 ≤ cl ∧ cl ≤ el ∧ el ≤ 16) →
      After s (.mgrRingEnable path v) { c1 with rings := { c1.rings with mgrErr := true } }) ∧
    (c1.rings.mgrEnable = false → 4 ≤ cl → cl ≤ el → el ≤ 16 →
      let c2 := resetRing c1 0
      let c3 := c2.setRing 0 { (c2.ring 0) with
        state := .running, cmdBase := c2.rings.mgrCmdBase, evtBase := c2.rings.mgrEvtBase, cmdLog2 := cl, evtLog2 := el }
      After s (.mgrRingEnable path v) { c3 with rings := { c3.rings with mgrEnable := true, mgrErr := false } }) ∧
    (let c4 : Chip := { c1 with rings := { c1.rings with mgrEnable := false } }
     After s (.mgrRingDisable path v) (if c1.rings.mgrEnable then stopRing c4 0 else c4))) ∧
  (∀ r d, let t := d.tgt
    (t ≠ 0 → ringSetupOk d = true → Completes s (.ringSetup r d) 0x0230 r d
      (fun c => (c.ring t).state ≠ .running ∧ tenantBusy c t = false)
      (fun c x => let c1 := resetRing c t
        let c2 := c1.setRing t {
          state := if (c1.tenant t).state = .enabled then .running else .stopped, cmdBase := BitVec.ofNat 64 (d.u64 16),
          evtBase := BitVec.ofNat 64 (d.u64 24), cmdLog2 := d.byte 32, evtLog2 := d.byte 33, vector := d.u16 34,
          coalesce := d.u16 36, unsol := BitVec.ofNat 16 (d.u16 38) ||| 1#16 }
        endCmd (if (c1.tenant t).resetTold then c2
          else unsolRing (c2.setTenant t { c1.tenant t with resetTold := true }) t 0x8003 (resetEvent (c1.tenant t))) x .ok)) ∧
    (t = 0 → d.zeroBut [(16, 24)] = true → Completes s (.ringSetup r d) 0x0230 r d (fun _ => True)
      (fun c x => endCmd { c with rings := { c.rings with
        mctpUnsol := some (endpointOf c x.tag, BitVec.ofNat 16 (d.u16 38) ||| 1#16) } } x .ok)) ∧
    (d.zeroBut [] = true → Completes s (.ringStop r d) 0x0231 r d (fun c => tenantBusy c t = false)
      (fun c x => endStop ((stopRing c t).modRing t (fun q => { q with stopCmd := some x })) t)) ∧
    Completes s (.ringQuery r d) 0x0232 r d (fun _ => d.zeroBut [(16, 12)] = true ∧ d.bufferOk r = true)
      (fun c x => let q := c.ring t
        endQuery c x d (Config.queryBytes 0x0232)
          (openFields [q.state.code, q.cmdHead, q.cmdTail, q.evtHead, q.evtTail, q.flight.length, q.lost, q.cmdBase.toNat, q.evtBase.toNat,
           q.cmdLog2, q.evtLog2, q.vector, q.coalesce, q.unsol.toNat])))

/-- R342, R346, R352, R353, R358 to R360, R395.
Choices of the model's own in it: notes/assumptions 47, 53, 54, 205. -/
def Obligations.CommandPathRowsComplete : Prop :=
  ∀ (s : State), let c := s.chip
  (∀ r d, Completes s (.nop r d) 0x0233 r d (fun _ => True) (fun c x => endCmd c x .ok) ∧
    (d.zeroBut [(16, 4)] = true → ∀ f rest, Completes s (.abort r d) 0x0400 r d
      (fun c => (c.ring (ringKey d.tgt)).flight.filter
          (fun g => g.started && g.cmd.tag == BitVec.ofNat 32 (d.u32 16) &&
            !sameCmd g.cmd { ring := r, tag := d.tag, opcode := 0x0400, target := d.tgt }) = f :: rest ∧
        abortable f.cmd.opcode = true)
      (fun c x => abortRunning (leaveRing c x) { f.cmd with ring := d.tgt } x.tag)) ∧
    (d.zeroBut [(16, 4)] = true → ∀ j : Job, Completes s (.jobQuery r d) 0x0401 r d
      (fun c => jobByTag c d.tgt (BitVec.ofNat 32 (d.u32 16)) = some j)
      (fun c x => endCmd c x .ok (leBytes 2 ((j.cmd.map (·.opcode)).getD 0) ++
        leBytes 1 (if j.ended then 2 else if j.engine.isSome then 1 else 0) ++ leBytes 1 (j.engine.getD 0) ++ leBytes 8 j.progress)))) ∧
  (∀ e (m : MctpMsg),
    let served := m.opcode == 0x0610 || m.opcode == 0x0611 || (m.opcode == 0x0800 && c.sec.recovery)
    let held := (c.rings.mctpOut.filter (fun x => x.1 == e)).length
    (m.wellFormed = false → After s (.mctpMessage e m) (raise c 213 (srcInfo 11 8192))) ∧
    (m.wellFormed = true → c.rst.running = false → served = false →
      After s (.mctpMessage e m) (mctpAnswer c e m.opcode m.desc .busy [1])) ∧
    (m.wellFormed = true → c.rst.running = true ∨ served = true → 8 ≤ held →
      After s (.mctpMessage e m) (mctpAnswer c e m.opcode m.desc .busy [])) ∧
    (m.wellFormed = true → c.rst.running = true ∨ served = true → held < 8 → After s (.mctpMessage e m)
      (arrive { c with rings := { c.rings with mctpOut := c.rings.mctpOut ++ [(e, m.desc.tag)] } } 8192 m.opcode m.desc))) ∧
  (c.rst.running = true → ∀ e, After s (.mctpEndpointReset e) (discardRing c 8192 0)) ∧
  (c.rst.running = true → (c.ring 8193).flight = [] → ∀ op d,
    (knownOp op = false ∨ isQuery op = true ∨ (c.rings.console = true ∧ op / 256 ≠ 8) →
      After s (.consoleCommand op d) (arrive c 8193 op d)) ∧
    (knownOp op = true → isQuery op = false → c.rings.console = false ∨ op / 256 = 8 →
      After s (.consoleCommand op d) (cmdRecord c 8193 0 { code := op, status := .notPermitted, tag := d.tag }))) ∧
  (c.rst.running = true → c.rings.mgmtReset = true ∨ c.sec.bootWait.isSome = true →
    let c1 : Chip := { c with rings := { c.rings with mgmtReset := false, fwReady := true },
                              sec := { c.sec with readyAt := some c.ivl, bootWait := none, actWait := none },
                              rst := { c.rst with cold := false } }
    let rs := restartedRings c1
    let c2 := rs.foldl (fun c r => (c.ring (ringKey r)).flight.foldl (fun c f => endRestarted c r f) c) c1
    After s .mgmtFwReady (deliverQueue (rs.foldl (fun c r => raise c 212 (srcInfo 11 r)) c2))) ∧
  (∀ t, servedRing c = some t → After s (.completionTimeout (.descriptor t)) (fetchFailed (takeTurn c t) t)) ∧
  (∀ e, After s (.completionTimeout (.mover e)) (jobFault e .sourceError c))

/-! ### Groups -/

/-- R362 to R364, R367 to R370, R373, R374, R379.
Choices of the model's own in it: notes/assumptions 40, 41, 43, 163. -/
def Obligations.GroupCommandRowsComplete : Prop :=
  ∀ (s : State),
  (∀ r d, let id := d.tgt
    let lease := if d.u32 16 = 0 then 10000 else d.u32 16
    (d.zeroBut [(16, 4)] = true → id ≠ 0 → id ≠ 0xFFFFFFFF → lease ≤ 600000 →
      Completes s (.groupOpen r d) 0x0300 r d
        (fun c => (c.group id).state = .none ∧
          (c.grp.groups.filter (fun y => y.2.state != .none)).length < 64 ∧
          (c.grp.groups.filter (fun y => y.2.state != .none && y.2.owner == r)).length < 4)
        (fun c x => let c1 := c.setGroup id { state := .opened, owner := r, expiry := c.now + ms lease }
          endCmd { c1 with grp := { c1.grp with discGroup := 0, discCause := 0, discRing := 0, discCount := 0 } } x .ok
            (leBytes 4 c.grp.discGroup ++ leBytes 1 c.grp.discCause ++ leBytes 2 c.grp.discRing ++ leBytes 1 c.grp.discCount))) ∧
    (d.zeroBut [] = true → Completes s (.groupCheck r d) 0x0301 r d
      (fun c => (c.group id).state = .opened ∧ (c.group id).owner = r) (fun c x => beginCheck c x .checking 0)) ∧
    (d.zeroBut [(16, 8)] = true → Completes s (.groupCommit r d) 0x0302 r d
      (fun c => (c.group id).state = .opened ∧ (c.group id).owner = r ∧ (d.u64 16 = 0 ∨ c.ft.mode ≠ .free) ∧
        d.u64 16 ≤ c.now + sec 60)
      (fun c x => beginCheck c x .committing (d.u64 16))) ∧
    (d.zeroBut [] = true →
      Completes s (.groupDiscard r d) 0x0303 r d
        (fun c => (c.group id).state ≠ .none ∧ ((c.group id).owner = r ∨ isManager r = true))
        (fun c x => endCmd (dropGroup c id) x .ok) ∧
      Completes s (.groupDiscard r d) 0x0303 r d
        (fun c => (c.group id).state = .none ∧ c.grp.tails.any (fun t => (match t.2.cmd with
          | some y => y.target == id
          | none => false) && (t.2.owner == r || isManager r)) = true)
        (fun c x => endCmd c x .okLateAbort)) ∧
    (d.zeroBut [(16, 4)] = true → d.u32 16 ≠ 0 → d.u32 16 ≤ 600000 → Completes s (.groupRenew r d) 0x0305 r d
      (fun c => ((c.group id).state = .opened ∨ (c.group id).state = .checking ∨ (c.group id).state = .committing) ∧
        (c.group id).owner = r)
      (fun c x => endCmd (c.setGroup id { c.group id with expiry := c.now + ms (d.u32 16) }) x .ok
        (leBytes 8 (c.now + ms (d.u32 16))))) ∧
    Completes s (.groupQuery r d) 0x0304 r d
      (fun c => d.zeroBut [(16, 12)] = true ∧ d.bufferOk r = true ∧ (c.group id).state ≠ .none ∧
        ((c.group id).owner = r ∨ isManager r = true))
      (fun c x => let g := c.group id
        endQuery c x d (Config.queryBytes 0x0304)
          (openFields ([g.state.code, g.owner, g.expiry, g.cmds, g.regs] ++ g.items.flatMap itemValues ++
           g.claims.flatMap (fun o => [o.kind.ctorIdx, o.index]) ++ [g.asked, g.applyAt])))) ∧
  (∀ id, s.chip.rst.running = true → (s.chip.group id).state ≠ .none → (s.chip.group id).expiry ≤ s.chip.now →
    After s (.groupLeaseExpire id) (discardGroup s.chip id 2))

/-- R364, R371 to R374, R376 to R378, R380.
Choices of the model's own in it: notes/assumptions 37, 38, 39, 40, 147. -/
def Obligations.GroupProgressRowsComplete : Prop :=
  ∀ (s : State), let c := s.chip
  (∀ id, c.rst.running = true → runningCheck c = some id → let g := c.group id
    let at_ := if g.asked = 0 then (c.now / 1024 + 1) * 1024 else ceilDiv g.asked 1024 * 1024
    (∀ o n f, groupFail c id = some (n, f) → After s (.groupCheckEnd id o) (reopen c id f.status (f.bytes n))) ∧
    (∀ o, groupFail c id = none → g.state = .checking → After s (.groupCheckEnd id o) (reopen c id .ok [])) ∧
    (groupFail c id = none → g.state = .committing → at_ ≤ c.now → After s (.groupCheckEnd id none) (reopen c id .staleTime [])) ∧
    (∀ b, groupFail c id = none → g.state = .committing →
      let f : Refuse := { status := .checkFailed, kind := 3, obj := b, need := 0, have_ := 0 }
      After s (.groupCheckEnd id (some b)) (reopen (raise c 226) id .checkFailed (f.bytes 0xFFFF))) ∧
    (groupFail c id = none → g.state = .committing → c.now < at_ →
      let c1 := c.setGroup id { (reservation c (endState c g.items) g) with
        state := .armed, applyAt := at_, due := at_, order := c.grp.nextOrder, expiry := max g.expiry (at_ + 1024) }
      After s (.groupCheckEnd id none) { c1 with grp := { c1.grp with nextOrder := c.grp.nextOrder + 1 } })) ∧
  (∀ id, c.rst.running = true → c.grp.cycle ≠ some c.ivl → dueGroup c = some id → After s .groupApply (applyGroup c id)) ∧
  (∀ id k g x, c.grp.tails.find? (fun t => t.2.left == 0 && (match t.2.cmd with
      | some x => x.target == id
      | none => false)) = some (k, g) → g.cmd = some x →
    After s (.groupCommitEnd id) (endCmd { c with grp := { c.grp with tails := c.grp.tails.del k } } x
      (if g.basePast then .okBasePast else .ok) (commitResult g)))

/-- R363, R366, R370. -/
def Obligations.CommitOwnershipIsExclusive : Prop :=
  ∀ (s : State), let c := s.chip
  (∀ (i : Instr) (op r : Nat) (d : Desc) (f : InFlight), i.vendor = some (op, r, d) → Passes c r op d f →
    (d.stage = false → isQuery op = false → (claimsOf c op d).any (fun o => (claimant c o).any (fun g => g != 0)) = true →
      After s i (endNow c (refOf r d f) .lockHeld [])) ∧
    (d.stage = true → (c.group d.grp).state ≠ .none → (c.group d.grp).owner ≠ r →
      After s i (endNow c (refOf r d f) .lockHeld []))) ∧
  (∀ r d, let other := fun (c : Chip) => (c.group d.tgt).state ≠ .none ∧ (c.group d.tgt).owner ≠ r
    (d.zeroBut [] = true → Completes s (.groupCheck r d) 0x0301 r d other (fun c x => endCmd c x .lockHeld [])) ∧
    (d.zeroBut [(16, 8)] = true → Completes s (.groupCommit r d) 0x0302 r d other (fun c x => endCmd c x .lockHeld [])) ∧
    (d.zeroBut [(16, 4)] = true → d.u32 16 ≠ 0 → d.u32 16 ≤ 600000 →
      Completes s (.groupRenew r d) 0x0305 r d other (fun c x => endCmd c x .lockHeld [])))

/-! ### The data mover -/

/-- R203, R204, R386 to R389, R398.
Choices of the model's own in it: notes/assumptions 18, 113, 114, 115, 153. -/
def Obligations.JobCommandRowsComplete : Prop :=
  ∀ (s : State) r d, let b := d.byte 40
  let t := ringTenant r
  d.tgt < 32 →
  (let j : Job := { kind := .copy, src := d.u64 16, dst := d.u64 24, length := d.u64 32, srcSpace := field b 0 2,
                    dstSpace := field b 2 2, pass := bitOf b 4 }
   d.zeroBut [(16, 26), (44, 4)] = true → b < 32 → spaceOk j.srcSpace j.src = true → spaceOk j.dstSpace j.dst = true →
   lengthOk j.length = true → jobRateOk d = true → (j.srcSpace = j.dstSpace → overlap j.src j.dst j.length = false) →
   Completes s (.copy r d) 0x0410 r d
     (fun c => spaceMay c t j.srcSpace j.src = true ∧ spaceMay c t j.dstSpace j.dst = true ∧
       rangeOk c j.srcSpace j.src j.length = true ∧ rangeOk c j.dstSpace j.dst j.length = true ∧
       acceptedAll c t j.srcSpace j.src j.length = true ∧ acceptedAll c t j.dstSpace j.dst j.length = true ∧
       jobTaken c r d.tgt = false ∧ backingFree c j.dstSpace j.dst j.length = true)
     (fun c x => queueJob c x d j)) ∧
  (let j : Job := { kind := .fill, dst := d.u64 16, length := d.u64 24, pattern := d.u64 32, dstSpace := field b 2 2 }
   d.zeroBut [(16, 26), (44, 4)] = true → b < 16 → field b 0 2 = 0 → spaceOk j.dstSpace j.dst = true → lengthOk j.length = true →
   jobRateOk d = true →
   Completes s (.fill r d) 0x0411 r d
     (fun c => spaceMay c t j.dstSpace j.dst = true ∧ rangeOk c j.dstSpace j.dst j.length = true ∧
       acceptedAll c t j.dstSpace j.dst j.length = true ∧ jobTaken c r d.tgt = false ∧ backingFree c j.dstSpace j.dst j.length = true)
     (fun c x => queueJob c x d j)) ∧
  (d.zeroBut [(16, 2), (20, 20), (41, 1), (44, 4)] = true → spaceOk 0 (d.u64 24) = true → lengthOk (d.u64 32) = true →
   jobRateOk d = true → dumpRangeOk d = true →
   Completes s (.dump r d) 0x0414 r d (fun c => jobTaken c r d.tgt = false)
     (fun c x => queueJob c x d { kind := .dump, source := d.byte 16, region := d.byte 17, offset := d.u32 20, dst := d.u64 24,
                                  length := d.u64 32 })) ∧
  (d.zeroBut [(16, 2), (20, 5), (26, 6), (41, 1), (44, 4)] = true → jobRateOk d = true → let id := d.u16 16
   ∀ u m b e, Completes s (.migrate r d) 0x0412 r d
     (fun c => let w := c.window id
       jobMember w d = some (u, m) ∧ jobTaken c r d.tgt = false ∧ memberHasJob c id u m = false ∧ (w.member u m).state ≠ .lost ∧
       w.state ≠ .dataLoss ∧ (w.member u m).migr = none ∧ migrateTo c w u m d = .ok (b, e, false))
     (fun c x =>
       let w := c.window id
       let c1 := (setExt c b e .inUse).setWindow id (w.setMember u m { w.member u m with migr := some { dev := b, ext := e } })
       queueJob c1 x d { kind := .migrate, window := id, extent := u, member := m, dstDev := b, dstExt := e, back := false,
                         progress := (((c1.window id).member u m).migr.getD {}).page })) ∧
  (d.zeroBut [(16, 2), (20, 5), (41, 1), (44, 4)] = true → jobRateOk d = true → let id := d.u16 16
   ∀ u m, let mine : Job → Bool := fun j => j.kind == .resync && j.auto != some .verify && j.window == id && j.extent == u &&
     j.member == m
   let base : Chip → Prop := fun c => jobMember (c.window id) d = some (u, m) ∧ jobTaken c r d.tgt = false ∧
     ((c.window id).member u m).state ≠ .lost ∧ c.mov.jobs.any (fun j => mine j && j.auto.isNone) = false
   Completes s (.resync r d) 0x0413 r d
     (fun c => base c ∧ c.mov.jobs.any (fun j => mine j && j.auto.isSome && j.engine.isSome) = false ∧
       memberHasJob c id u m = false ∧ anyPage ((c.window id).member u m) = false)
     (fun c x => endCmd c x .ok (leBytes 8 0)) ∧
   Completes s (.resync r d) 0x0413 r d
     (fun c => base c ∧ ((c.mov.jobs.any (fun j => mine j && j.auto.isSome && j.engine.isSome) = true) ∨
       (memberHasJob c id u m = false ∧ anyPage ((c.window id).member u m) = true)))
     (fun c x =>
       let jobs := (c.mov.jobs.filter (fun j => !(mine j && j.auto.isSome && j.engine.isNone))).map (fun j =>
         if mine j then { j with stopPage := true } else j)
       queueJob { c with mov := { c.mov with jobs := jobs } } x d { kind := .resync, window := id, extent := u, member := m }))

/-- R383, R391 to R394, R396, R397.
Choices of the model's own in it: notes/assumptions 113, 116, 117, 153, 196, 197, 200, 209. -/
def Obligations.MoverEngineRowsComplete : Prop :=
  ∀ (s : State), let c := s.chip
  (∀ e, c.rst.phase = 0 →
    (∀ j, engineFree c e false = true → nextQueued c = some j → After s (.jobStart e) (runJob c j e)) ∧
    (∀ j, engineFree c e true = true → nextAuto c = some j → let c1 := runJob c j e
      let waiting := c1.mov.jobs.any (fun j => j.auto.isSome && j.engine.isNone)
      After s (.autoJobStart e) { c1 with mov := { c1.mov with backlog := c1.mov.backlog && waiting } })) ∧
  (∀ e src, let c0 := jobAdvance c e
    After s (.moverWriteComplete e { lines := 0, source := src }) c0 ∧
    (∀ j, jobOf c0 e = some j → j.ended = false → j.kind = .fill ∨ j.kind = .dump → j.dstSpace = 0 → j.sent < jobLines j →
      64 * j.sent < j.progress + 65536 → lineMeets c0 j e = true →
      let i := j.sent
      let n := pieceBytes j i
      let data := if j.kind = .dump then dumpBytes c0 j (64 * i) n else leBytes n (patternLine j.pattern).toNat
      let c1 := setJob (lineUses c0 j e) j (fun x =>
        some { x with sent := i + 1, retried := false, staged := x.staged.filter (fun y => y.1 != i), done := addOnce x.done i })
      After s (.moverWriteComplete e { lines := 1, source := src }) (jobAdvance (c1.emit (.hostWrite j.ring (j.dst + 64 * i) data false)) e))) ∧
  (∀ e j, jobOf c e = some j → j.ended = false →
    After s (.jobFault e .sourceError) (failJob c j 0) ∧
    (j.kind ≠ .migrate → j.kind ≠ .resync → (j.kind = .copy → j.pass = false) → After s (.jobFault e .sourcePoison) (failJob c j 1)) ∧
    After s (.jobFault e .destination) (failJob c j 2) ∧ After s (.jobFault e .revoked) (failJob c j 3) ∧
    (j.kind = .copy → After s (.jobFault e .staging) (stagingLost (raise c 131 (srcInfo 9 e)) e)) ∧
    (j.kind ≠ .copy → After s (.jobFault e .staging) c)) ∧
  (∀ e j, jobOf c e = some j →
    (txOf c e = none → ∀ n, After s (.moverLineTransaction e n) (askLine c e)) ∧
    (∀ t, txOf c e = some t → let x := c.engine e
      (∀ n, t.line ≠ n ∨ t.done = false ∨ j.ended = true → After s (.moverLineTransaction e n) c) ∧
      (t.done = true → j.ended = false → After s (.moverLineTransaction e t.line)
        (askLine (lineCounted ((setTx c t none).setEngine e { x with shaper := shaperUse c x.shaper 64 }) j t.ok) e)))) ∧
  (∀ (c : Chip) e j, jobOf c e = some j →
    (∀ t, jobTx c j e = some t → txOf c e = none → creditCovers c (c.engine e).shaper 64 = true → askLine c e = txAsk c t) ∧
    (∀ ok, j.kind = .migrate → lineCounted c j ok = if ok then lineMoved c j else c) ∧
    (∀ ok, j.kind = .resync →
      let j' : Job := { j with lines := j.lines + 1, dirty := j.dirty || !ok }
      let c1 := setJob c j (fun _ => some j')
      lineCounted c j ok = if j.lines + 1 < 64 then c1 else if j.auto = some .verify then pageVerified c1 j' else pageWalked c1 j') ∧
    (j.ended = false → j.kind ≠ .migrate → j.kind ≠ .resync →
      let r := doneTo j.done.length (ceilDiv j.written 64) j.done
      let n := min (64 * r.1) j.length
      let c1 := countEvent c { code := 0x070, device := true, tenant := j.tenant } (n - j.written)
      let j' : Job := { j with written := n, done := r.2, ended := decide (n = j.length),
                               progress := if n = j.length then n else n / 4096 * 4096 }
      let c2 := setJob c1 j (fun _ => some j')
      jobAdvance c e = if n = j.written then c
        else if j.stopPage ∧ n ≠ j.length ∧ j.written / 4096 < n / 4096 then stopJob c2 j' else c2) ∧
    (j.ended = false → j.kind = .copy →
      stagingLost c e = if j.retried then failJob c j 4
        else setJob c j (fun y => some { y with retried := true, asked := y.sent, staged := [] }))) ∧
  (∀ e j, jobOf c e = some j → j.ended = true → let st : Status := if j.late then .okLateAbort else .ok
    (∀ k, j.schedule = some k → After s (.jobEnd e) (dumpWritten (endJob c j .ok []) k j)) ∧
    (j.schedule = none → j.bbExport = true → After s (.jobEnd e)
      (endJob c j st (leBytes 4 j.length ++ leBytes 4 j.need))) ∧
    (j.schedule = none → j.bbExport = false →
      let c1 := if j.kind = .fill ∧ j.auto.isSome then
          scrubDone (c.modDev j.dstDev (fun d => { d with filled := addOnce d.filled j.dstExt })) j.dstDev j.dstExt else c
      After s (.jobEnd e) (endJob c1 j st (jobResult j none)))) ∧
  (∀ e, e < 16 → (c.engine e).out = false →
    let c1 := raise ((txLeave c e).setEngine e { c.engine e with out := true }) 243 (srcInfo 9 e)
    (jobOf c1 e = none → After s (.moverEngineFault e) c1) ∧
    (∀ j, jobOf c1 e = some j →
      let j' : Job := { j with engine := none, written := j.progress, lines := 0, dirty := false, retried := false,
                               done := [] }
      let c2 := setJob c1 j (fun _ => some (if j.kind = .migrate ∨ j.kind = .resync then { j' with written := 0 } else j'))
      let es := freeEngines c2 j.auto.isSome
      (es = [] → After s (.moverEngineFault e) c2) ∧
      (∀ x, (es.find? (fun x => decide (e < x))).or es.head? = some x → After s (.moverEngineFault e) (runJob c2 j' x)))) ∧
  (c.mov.backlog = false → c.mov.jobs.any (fun j => j.auto.isSome && j.engine.isNone && c.past j.queuedAt (sec 10)) = true →
    After s .moverAutoBacklog (raise { c with mov := { c.mov with backlog := true } } 242))

/-! ### Faults and the black box -/

/-- R8, R400 to R402, R404, R409, R410.
Choices of the model's own in it: notes/assumptions 28, 123, 124, 144, 189, 192, 210. -/
def Obligations.CollectorRowsComplete : Prop :=
  ∀ (s : State), let c := s.chip
  (∀ n, c.rst.running = true → n < 512 → (c.source n).pending = true → let x := c.source n
    (x.logMerged ≠ 0 → x.logAt.isSome = true → holdoffOver c x.logAt = true → x.intrMerged = 0 →
      let x' : Source := { x with logAt := some c.ivl, logMerged := 0, intrMerged := 0 }
      let c1 : Chip := { c with flt := { c.flt with sources := c.flt.sources.put n x' } }
      After s (.faultHoldoffExpire n) (logRecord c1 { kind := .fault, source := n, severity := sevUsed c1 n,
                                                      reactions := maskOf c1 n, count := x.logMerged, info := x.info })) ∧
    (x.logMerged = 0 → x.intrMerged ≠ 0 → x.intrAt.isSome = true → holdoffOver c x.intrAt = true →
      let x' : Source := { x with logMerged := 0, intrAt := some c.ivl, intrMerged := 0 }
      let c1 : Chip := { c with flt := { c.flt with sources := c.flt.sources.put n x' } }
      After s (.faultHoldoffExpire n) (faultEvent c1 { source := n, count := x.intrMerged, info := x.info, time := c.ft.count }))) ∧
  (c.rst.running = true → c.flt.queue.length < 256 → c.flt.deferred ≠ [] →
    let n := if c.rings.fwReady then c.flt.deferred.length else 256 - c.flt.queue.length
    After s .faultQueueRoom ((c.flt.deferred.take n).foldl (fun c e => faultEvent c (markEvent c e.1 e.2))
      { c with flt := { c.flt with deferred := c.flt.deferred.drop n, fullTold := false } })) ∧
  (c.flt.errMin = true → c.past c.flt.errAt (us c.flt.minWidth) = true →
    After s .minWidthExpire { c with flt := { c.flt with errMin := false, errLow := c.flt.hold } }) ∧
  (∀ path : Path, pathOpen c path = true →
    (c.flt.errMin = true → After s (.release path) c) ∧
    (c.flt.errMin = false → After s (.release path) { c with flt := { c.flt with errLow := false } }) ∧
    (∀ g (v held : BitVec 32), g < 32 → After s (.faultPendClear path g { value := v, held := held })
      ((List.range 16).foldl (fun c j => if (v &&& ~~~held).getLsbD j then clearPending c (16 * g + j) else c) c))) ∧
  (∀ r d, Completes s (.faultSeverity r d) 0x0600 r d
      (fun c => faultSeverityCheck d = none ∧ admitFail c (faultSeverityDo c d) 0 = none)
      (fun c x => endCmd (faultSeverityDo c d) x .ok) ∧
    Completes s (.faultReaction r d) 0x0601 r d
      (fun c => faultReactionCheck d = none ∧ admitFail c (faultReactionDo c d) 0 = none)
      (fun c x => endCmd (faultReactionDo c d) x .ok) ∧
    Completes s (.errOutConfig r d) 0x0603 r d
      (fun c => errOutConfigCheck d = none ∧ admitFail c (errOutConfigDo c d) 0 = none)
      (fun c x => let e : Chip := { c with flt := { c.flt with minWidth := d.u32 16, hold := bitOf (d.byte 20) 0 } }
        endCmd (if bitOf (d.byte 20) 1 then releasePin e else e) x .ok) ∧
    (let n := d.u16 28
     d.zeroBut [(16, 14)] = true → d.bufferOk r = true → n ≠ 0 → d.tgt + n ≤ 512 →
      ∀ bad, Completes s (.faultQuery r d bad) 0x0602 r d (fun _ => True)
        (fun c x => let c1 := cfgParity c bad
          endQuery c1 x d (32 * n) ((List.range n).flatMap (fun i => sourceRecord c1 (d.tgt + i)))))) ∧
  (c.rst.running = true → (∀ core, After s (.mgmtEccError core true) (raise c 49) ∧ After s (.mgmtEccError core false) (raise c 50)) ∧
    (c.rings.mgmtReset = false → (∀ core, After s (.mgmtWatchdog core) (raise c 48)) ∧
      ∀ info, After s (.mgmtFwAssert info) (raise c 51 info)))

/-- R408, R413 to R416, R418 to R421.
Choices of the model's own in it: notes/assumptions 64, 125, 145, 146, 175. -/
def Obligations.BlackBoxRowsComplete : Prop :=
  ∀ (s : State), let c := s.chip
  (∀ q rest again, c.bb.queue = q :: rest → c.bb.inhibit = false → let c0 := pushLog { c with bb := { c.bb with queue := rest } } q
    let c1 := if again then raise c0 22 else c0
    (c1.bb.dropped = 0 → After s (.bbRecordWrite again) c1) ∧
    (c1.bb.dropped ≠ 0 → After s (.bbRecordWrite again)
      (logRecord { c1 with bb := { c1.bb with dropped := 0 } } { kind := .overrun, detail := [c1.bb.dropped] }))) ∧
  (∀ i, c.bb.running = some i → let x := c.bb.slots.getD i {}
    After s (.snapshotEnd true) { c with bb := { c.bb with slots := setAt c.bb.slots i { x with state := 2, bytes := snapLength x }, running := none } } ∧
    After s (.snapshotEnd false)
      (({ c with bb := { c.bb with slots := setAt c.bb.slots i { x with state := 3, bytes := snapWritten c x }, running := none } }).later (.raise 19 0))) ∧
  (∀ w, c.flt.chipWait = some w →
    (w.capture = true → c.past w.since (ms c.flt.snapTime) = true →
      After s .snapTimeoutExpire (snapCut { c with flt := { c.flt with chipWait := some { w with capture := false } } })) ∧
    (c.rst.running = true → w.capture = false ∨ c.bb.running = none →
      let ts := c.flt.chips.filter (fun t => decide (c.now < t + sec 600)) ++ [c.now]
      After s .chipReset (warmHold { c with
        flt := { c.flt with chips := ts, suppress := c.flt.suppress || decide (c.flt.chipLimit ≤ ts.length) },
        bb := { c.bb with life := { c.bb.life with chipResets := c.bb.life.chipResets + 1 } } } .chip))) ∧
  (∀ r d, let off := d.u32 28
    (d.zeroBut [(16, 16)] = true → d.bufferOk r = true → off % 8 = 0 → off < viewBytes d.tgt →
      ∀ bad, Completes s (.bbRead r d bad) 0x0610 r d (fun _ => True)
        (fun c x => let n := min (d.room r) (viewBytes d.tgt - off)
          let seen := bad.filter (fun k => decide (off < 128 * k.index + 128 ∧ 128 * k.index < off + n))
          let c1 := if d.tgt = 0 then badCopies c seen else c
          endQuery c1 x d n (regionContent c1 d.tgt off n))) ∧
    (let n := off
     (if d.tgt = 0 then 1 ≤ n ∧ n ≤ 131072 else n = 0) →
     (8192 ≤ r → Completes s (.bbExport r d) 0x0611 r d (fun _ => True)
       (fun c x => let e := statement c d.tgt n (d.le 32 32)
         endQuery e.1 x d 3517 e.2)) ∧
     (r < 8192 → d.u64 16 % 8 = 0 → 3517 ≤ d.u32 24 → Completes s (.bbExport r d) 0x0611 r d
       (fun c => c.mov.jobs.any (·.bbExport) = false)
       (fun c x => let e := statement c d.tgt n (d.le 32 32)
         let recs := (c.bb.log.take n).reverse
         let need := 3517 + (if d.tgt = 0 then 128 * recs.length else regionBytes d.tgt)
         let data := if d.tgt = 0 then recs.flatMap logBytes else regionContent e.1 d.tgt 0 (regionBytes d.tgt)
         { e.1 with mov := { e.1.mov with jobs := e.1.mov.jobs ++ [{
           kind := .dump, ring := r, number := 32 + d.tgt, auto := some .dump, cmd := some x, source := 1, region := d.tgt, dst := d.u64 16,
           length := if need ≤ d.u32 24 then need else 3517, need := need, bbExport := true,
           record := (if need ≤ d.u32 24 then data else []) ++ e.2, queuedAt := e.1.ivl }] } }))) ∧
    (d.zeroBut [(16, 1)] = true →
      (d.tgt ≠ 0xFF → d.byte 16 = 1 ∨ d.byte 16 = 2 → Completes s (.bbSnapshot r d) 0x0612 r d (fun _ => True)
        (fun c x => let y := c.bb.slots.getD d.tgt {}
          let c1 : Chip := { c with bb := { c.bb with slots := setAt c.bb.slots d.tgt { y with keep := d.byte 16 == 1 } } }
          endCmd c1 x .ok (leBytes 4 d.tgt ++ leBytes 8 (c1.bb.slots.getD d.tgt {}).seq))) ∧
      (d.tgt = 0xFF → d.byte 16 = 4 ∨ d.byte 16 = 5 → ∀ i, Completes s (.bbSnapshot r d) 0x0612 r d
        (fun c => c.bb.running = none ∧ (snapshot c 0).bb.running = some i)
        (fun c x => let c0 := snapshot c 0
          let y := c0.bb.slots.getD i {}
          let c1 : Chip := if d.byte 16 = 5 then { c0 with bb := { c0.bb with slots := setAt c0.bb.slots i { y with keep := true } } } else c0
          endCmd c1 x .ok (leBytes 4 i ++ leBytes 8 (c1.bb.slots.getD i {}).seq))))) ∧
  (∀ rail, c.rst.started = true → c.rst.lowRails = [] → let c1 := raise { c with rst := { c.rst with lowRails := [rail] } } 23
    c1.bb.holdup = false → let c2 := powerRecord (flushLog (snapCut c1)) 1 rail true
    After s (.supplyWarning rail) { c2 with bb := { c2.bb with holdup := true, inhibit := true, holdAt := c2.ivl } }) ∧
  (∀ rail, c.rst.lowRails = [rail] → c.rst.running = true → c.bb.holdup = true → let n := c.bb.life.holdupOk + 1
    After s (.supplyRestored rail) (powerRecord { c with
      rst := { c.rst with lowRails := [] },
      bb := { c.bb with holdup := false, inhibit := false, holdDone := true, life := { c.bb.life with holdupOk := n } } } 2 rail false))

/-! ### Self-test -/

/-- R427, R428, R430, R434, R435.
Choices of the model's own in it: notes/assumptions 118, 119, 120, 121, 122, 152. -/
def Obligations.SelfTestRowsComplete : Prop :=
  ∀ (s : State), let c := s.chip
  (∀ r d, (d.tgt = 0xFFFFFFFF → d.zeroBut [(16, 1)] = true → d.byte 16 = 1 →
      Completes s (.bistRun r d) 0x0900 r d (fun _ => True)
        (fun c x => endCmd { c with bb := { c.bb with fullNext := true } } x .ok)) ∧
    (d.tgt ≠ 0xFFFFFFFF → d.zeroBut [] = true → let k := d.tgt / 2 ^ 24
      let i := d.tgt % 2 ^ 16
      Completes s (.bistRun r d) 0x0900 r d (fun c => c.test.running = none ∧ testable c k i = true)
        (fun c x => isolate (openHeader c 3) { kind := k, index := i, since := c.ivl, cmd := some x })) ∧
    Completes s (.sliceTestConfig r d) 0x0901 r d
      (fun c => sliceTestConfigCheck d = none ∧ admitFail c (sliceTestConfigDo c d) 0 = none)
      (fun c x => endCmd { c with test := { c.test with kinds := d.byte 16, interval := d.u32 20, drain := d.u32 24 } } x .ok) ∧
    (d.zeroBut [(16, 12), (28, 4)] = true → d.bufferOk r = true → d.u32 28 < 65280 →
      Completes s (.bistResult r d) 0x0902 r d (fun c => 8192 ≤ r ∨ canWrite c (r / 2) = true)
        (fun c x => let rs := recordsFrom c (d.u32 28)
          let k := min rs.length (d.room r / 32)
          endCmd (c.emit (.result r (d.u64 16) (32 * k) ((rs.take k).flatMap recordBytesOf))) x .ok
            (leBytes 4 (32 * k) ++ leBytes 4 (32 * rs.length) ++ leBytes 4 k ++ leBytes 3 ((d.u32 28 + k) % 65280)))) ∧
    (d.zeroBut [(16, 1), (20, 1), (24, 8)] = true → sourceUsed d.tgt = true → d.byte 16 = 0 →
      Completes s (.errInject r d) 0x0910 r d (fun _ => True)
        (fun c x => endCmd (raise c d.tgt (BitVec.ofNat 64 (d.u64 24))) x .ok))) ∧
  (∀ k i, c.rst.running = true → c.past c.test.lastTurn (sec c.test.interval) = true → c.test.running = none →
    (((List.range 4).map (fun i => (c.test.nextKind + i) % 4)).filter (fun k => bitOf c.test.kinds k)).findSome?
      (fun k => (nextOf c k).map (fun i => (k, i))) = some (k, i) → c.test.kinds ≠ 0 →
    let c1 : Chip := { c with test := { c.test with lastTurn := c.ivl, nextKind := (k + 1) % 4,
                                                    nextIdx := setAt c.test.nextIdx k ((i + 1) % kindCount k) } }
    After s .sliceIntervalExpire (isolate (openHeader c1 2) { kind := k, index := i, since := c.ivl, cmd := none })) ∧
  (∀ t, c.test.running = some t →
    (t.drained = false → (t.kind = 3 → jobOf c t.index = none) → (t.kind = 1 → 16 ≤ t.seg → poolUsed c t.index 0 ≤ sharedTrackers c t.index) →
      let c1 := if t.kind = 3 then c.setEngine t.index { c.engine t.index with testing := true } else c
      After s .sliceIsolationDone { c1 with test := { c1.test with running := some { t with drained := true } } }) ∧
    (t.drained = false → t.kind = 0 ∨ (t.kind = 1 ∧ 16 ≤ t.seg) → c.past t.since (us c.test.drain) = true →
      After s .sliceDrainExpire
        (closeTest (raise (skipTest c t) 258 (findingInfo { block := t.kind, instId := t.index })) t 4 (t.found.length + 1))) ∧
    (∀ r : List TestResult, t.drained = true →
      let rs := (r.filter (fun x => x.outcome ≠ 0 ∧ x.outcome ≠ 4)).map (fun x =>
        ({ x with test := 4, block := t.kind, instId := t.index, segment := t.seg } : TestResult))
      let record : Chip → TestResult → Chip := fun c x => finding c (testPath t) x
      let all := t.found ++ rs
      (t.kind = 1 → t.seg < 22 → After s (.sliceTestEnd r)
        (isolate (rs.foldl record c) { t with seg := t.seg + 1, drained := false, since := c.ivl, found := all })) ∧
      (t.kind ≠ 1 ∨ 22 ≤ t.seg →
        let c1 := reinit { c with test := { c.test with running := none } } t.kind t.index
        (all = [] → After s (.sliceTestEnd r)
          (closeTest (record c1 { test := 4, block := t.kind, instId := t.index }) t 0 1)) ∧
        (all ≠ [] → After s (.sliceTestEnd r) (closeTest (rs.foldl record c1) t (worstOutcome all) all.length)))))

/-! ### Slot power -/

/-- R440 to R445, R447, R448.
Choices of the model's own in it: notes/assumptions 76, 77, 78, 82. -/
def Obligations.SlotChannelRowsComplete : Prop :=
  ∀ (s : State), let c := s.chip
  ∀ n, n < 32 → let h := c.chan n
  (c.rst.started = true → h.state = .empty → After s (.prsntNFall n) (c.setChan n { h with state := .debounce, pinLow := some c.ivl })) ∧
  (h.state = .debounce → After s (.debounceAbort n) (c.setChan n { h with state := .empty, pinLow := none })) ∧
  (h.state = .debounce → insertionDue c h = true →
    let y : Chan := { h with present := true, holdEnd := none, goneAt := none }
    let y' : Chan := if h.p.enable then y.ramped else { y with state := .off }
    After s (.insertionQualified n) (portArrives (slotEvent (slotRaise (c.setChan n y') n 280) n 0) n)) ∧
  (h.state = .off → h.present = true →
    let y : Chan := { h.gatesOff with state := .empty, present := false, pinLow := none, retries := 0,
                                      warnEnd := if h.change.isSome then c.ivl else h.warnEnd, holdEnd := h.holdEnd, goneAt := none }
    After s (.removal n) (portLeaves (endSlotOff (slotEvent (slotRaise (c.setChan n y) n 280) n 1) n) n)) ∧
  (h.live = true →
    (timerPast c h (tenthMs h.p.faultTime) = true → After s (.faultTimerExpire n) (chanFault c n 272)) ∧
    (h.gateOn = true → After s (.fastTrip n) (chanFault c n 273) ∧
      After s (.currentLimitEngage n) (c.setChan n { h with limit := true, timerAt := some (h.timerAt.getD c.ivl) })) ∧
    (expiryWon c h = false → After s (.currentLimitRelease n) (c.setChan n { h with limit := false, timerAt := none }))) ∧
  (h.state = .ramp → h.gateOn = true → expiryWon c h = false →
    After s (.powerGood n)
      (slotEvent (c.setChan n { h with state := .on, pg := true, pgAt := c.ivl, limit := false, timerAt := none }) n 2)) ∧
  (h.state = .on → After s (.powerGoodLost n) (slotRaise (c.setChan n { h with state := .ramp, pg := false }) n 282) ∧
    (h.pg = true → c.past h.pgAt (sec 60) = true → After s (.retryCountReset n) (c.setChan n { h with retries := 0 }))) ∧
  (h.state = .retryWait → c.past h.holdFrom (tenthSec h.p.holdoff) = true → After s (.retryHoldoffEnd n)
    (slotEvent (c.setChan n { h.ramped with retries := min 255 (h.retries + 1) }) n 5)) ∧
  (h.gateOn = true → (n < 4 → After s (.gateStuck n) (chanFault c n 274)) ∧
    (4 ≤ n → After s (.gateStuck n) (chanBroken (c.setChan n { h with faultSeen := true }) n 274))) ∧
  (n < 4 → h.gateOn = false →
    (h.state = .broken → After s (.offVoltage n) (c.setChan n { h with offHigh := true })) ∧
    (h.state ≠ .broken → After s (.offVoltage n) (chanBroken (c.setChan n { h with offHigh := true, offVSeen := true }) n 275)))

/-- R449 to R453.
Choices of the model's own in it: notes/assumptions 79, 80, 81, 154, 163. -/
def Obligations.SlotCommandRowsComplete : Prop :=
  ∀ (s : State), let c := s.chip
  (∀ n, n < 4 → let h := c.chan n
    (h.badA = false → h.p.vFeedUv ≠ 0 → h.feedB = false →
      (h.badB = false → After s (.feedBad n 0)
        (slotRaise (changeover (c.setChan n { h with badA := true, switchSeen := true }) n true) n 276)) ∧
      (h.badB = true → After s (.feedBad n 0)
        (slotRaise (c.setChan n { h with badA := true }) n 277))) ∧
    (h.badB = true → let c1 := c.setChan n { h with badB := false, goodB := c.ivl }
      After s (.feedGood n 1) (if h.badA = true then changeover c1 n true else c1)) ∧
    (h.p.preferB = true → h.forced = none → h.p.feedReturn ≠ 0 → h.badB = false → h.feedB = false → h.change = none →
      c.past h.goodB (tenthSec h.p.feedReturn) = true → After s (.feedReturnExpire n) (changeover c n true)) ∧
    (∀ t, h.change = some t → h.live = true → c.past t (us h.p.deadTime) = true → After s (.deadTimeEnd n)
      (c.setChan n { h with change := none, gateOn := !h.offHigh, warnEnd := c.ivl }))) ∧
  (∀ n, n < 32 → let h := c.chan n
    (h.inputLow = false → After s (.inputLow n true) (slotRaise (warnOn (c.setChan n { h with inputLow := true }) n) n 278)) ∧
    (h.inputLow = true → After s (.inputLow n false) (c.setChan n { h with inputLow := false, warnEnd := c.ivl })) ∧
    (h.warn = true → h.warned = false → c.past h.warnEnd (ms 1) = true → After s (.spWarnRelease n) (c.setChan n { h with warn := false })) ∧
    (∀ t, h.leadAt = some t → h.state = .on → c.past t (ms h.p.warnLead) = true →
      After s (.warnLeadEnd n) (endSlotOff (slotOffNow c n) n)) ∧
    (∀ m : SlotReading, m.ended = false →
      let i := Int.tdiv (100 * m.shunt) h.p.shunt
      let w := Int.tdiv (i * m.output) 1000
      let l := ((i, w) :: h.samples).take 20
      After s (.slotSample n m) (c.setChan n { h with
        senseTold := false, samples := l, current := mean (l.map (·.1)), power := mean (l.map (·.2)), energy := h.energy + 50 * w,
        vOut := m.output, vIn := m.input, vA := if n < 4 then m.feedA else 0, vB := if n < 4 then m.feedB else 0,
        offHigh := h.offHigh && decide (h.p.offThresh < m.output) })) ∧
    (∀ m : SlotReading, m.ended = true → h.senseTold = false → After s (.slotSample n m)
      (slotRaise (c.setChan n { h with senseTold := true, energy := h.energy + 50 * (h.samples.head?.getD (0, 0)).2 }) n 283))) ∧
  (∀ r d, Completes s (.slotConfig r d) 0x0710 r d
      (fun c => slotConfigCheck c d = none ∧ admitFail c (slotConfigDo c d) 0 = none)
      (fun c x => endCmd (slotTimers (slotConfigDo c d) d.tgt) x .ok) ∧
    (d.zeroBut [] = true → Completes s (.slotOn r d) 0x0711 r d (fun c => (c.chan d.tgt).state = .off)
      (fun c x => let h := c.chan d.tgt
        let h' := ({ h with p := { h.p with enable := true }, retries := 0 } : Chan).ramped
        endCmd (c.setChan d.tgt h') x .ok (leBytes 1 h'.state.code))) ∧
    (d.zeroBut [(16, 1)] = true → d.byte 16 = 1 →
      Completes s (.slotOff r d) 0x0712 r d (fun c => (c.chan d.tgt).state = .off)
        (fun c x => let h := c.chan d.tgt
          endCmd (c.setChan d.tgt { h with p := { h.p with enable := false } }) x .ok) ∧
      Completes s (.slotOff r d) 0x0712 r d (fun c => (c.chan d.tgt).state = .on ∧ (c.chan d.tgt).p.warnLead = 0)
        (fun c x => let h := c.chan d.tgt
          endCmd (slotOffNow (warnOn (c.setChan d.tgt { h with p := { h.p with enable := false } }) d.tgt) d.tgt) x .ok)) ∧
    Completes s (.slotQuery r d) 0x0713 r d (fun _ => d.zeroBut [(16, 12)] = true ∧ d.bufferOk r = true)
      (fun c x => let h := c.chan d.tgt
        endQuery c x d (Config.queryBytes 0x0713) (openFields (slotStatus c d.tgt :: slotParamList d.tgt h.p ++
          [asNat h.current, h.vOut, h.vIn, asNat h.power, asNat (h.energy / 1000000), h.vA, h.vB, holdoffLeft c h, h.retries]))) ∧
    (d.zeroBut [(16, 1)] = true → d.tgt < 4 →
      (d.byte 16 = 0 → Completes s (.feedSelect r d) 0x0714 r d (fun _ => True)
        (fun c x => let c1 := c.setChan d.tgt (feedsSet { c.chan d.tgt with forced := none })
          endCmd c1 x .ok (leBytes 1 (nat1 (c1.chan d.tgt).feedB)))) ∧
      (d.byte 16 = 2 → Completes s (.feedSelect r d) 0x0714 r d (fun c => (c.chan d.tgt).badB = false)
        (fun c x => let c1 := changeover (c.setChan d.tgt { c.chan d.tgt with forced := some true }) d.tgt true
          endCmd c1 x .ok (leBytes 1 (nat1 (c1.chan d.tgt).feedB))))))

/-! ### Rungs and temperature -/

/-- R456, R457, R460, R463 to R468.
Choices of the model's own in it: notes/assumptions 83, 84, 163, 211. -/
def Obligations.RungRowsComplete : Prop :=
  ∀ (s : State), let c := s.chip
  (c.rst.running = true →
    (∀ k, k < 8 → (c.rung k).current + 1 ≤ courseLimit c k → c.past (c.rung k).since (descentDelay c (c.rung k).current) = true →
      After s (.rungDescent k) (rungTo c k ((c.rung k).current + 1))) ∧
    (∀ k, k < 8 → (c.rung k).current ≠ 0 → After s (.courseWake k) (rungTo c k 0)) ∧
    (∀ k, k < 8 → (c.rung k).current = 0 → After s (.courseWake k) (c.setRung k { c.rung k with since := c.ivl })) ∧
    ((c.rung 8).current = 0 → deviceIdle c = true → c.past (c.rung 8).since (ms 1) = true → After s .deviceSlackEntry (rungTo c 8 3)) ∧
    ((c.rung 8).current ≠ 0 → After s .deviceWake (rungTo c 8 0)) ∧
    (∀ a, c.pow.iLimit < a → c.pow.curStep = false →
      After s (.coreCurrentLimit a) (raise { c with pow := { c.pow with curStep := true } } 308)) ∧
    After s .coreCurrentRelease { c with pow := { c.pow with curStep := false } }) ∧
  (c.rst.running = true → c.rings.fwReady = true → let p := c.pow
    (∀ m : AvsReading, c.past p.avsAt (us p.avsIvl) = true →
      let c1 : Chip := { c with pow := { p with
        avsAt := c.ivl, avsLo := p.avsLo + (if p.target = p.vmin then c.ivl - p.avsAt else 0),
        avsHi := p.avsHi + (if p.target = p.vmax then c.ivl - p.avsAt else 0) } }
      (m.answered = false → After s (.avsInterval m) (avsSilent c1 m.emergency)) ∧
      (m.answered = true → let c2 := avsAnswers c1 m.volts
        let v := if m.below then (if p.target < p.vmax then min p.vmax (p.target + 5) else p.target)
          else if m.above ∨ p.vmax < p.target then max p.vmin (p.target - 5) else p.target
        let c3 := avsMove c2 v
        After s (.avsInterval m) { c3 with pow := { c3.pow with override := c3.pow.override && (m.emergency || decide (p.vmax < v)) } })) ∧
    (∀ m : AvsReading, m.answered = true → m.emergency = true → let c1 := avsAnswers c m.volts
      let c2 := avsMove c1 (max c1.pow.target (min 800 (c1.pow.target + 10)))
      let c3 : Chip := { c2 with pow := { c2.pow with override := true, raisedAt := c2.ivl } }
      (p.override = true → c1.past c1.pow.raisedAt (us 10) = false → After s (.avsEmergency m) c1) ∧
      (p.override = true → c1.past c1.pow.raisedAt (us 10) = true → After s (.avsEmergency m) c3) ∧
      (p.override = false → After s (.avsEmergency m) (raise c3 307))) ∧
    (∀ q bytes, q < 128 → let y := c.port q
      let x := p.width.look q
      y.state = .l0 ∨ y.state = .l0p → y.l0pEn = true → y.flit256 = true → c.past x.last (us p.lwIvl) = true → y.l0pOut = none →
      y.l0pHold = none → 4 < y.active + 1 → y.width < y.active → overWidth y bytes p.lwIvl y.active 3 4 = true →
      let c1 : Chip := { c with pow := { p with width := p.width.put q (x.after c.ivl 0 (y.active == y.l0pMin) (y.active == y.width)) } }
      thermalStep2 c1 = false → After s (.lwInterval q bytes) (askWidth c1 q y.width)) ∧
    (∀ l bytes, linkExists c l = true → let x := c.link l
      let t := p.rate.look l
      x.state = .active → c.past t.last (ms p.rateIvl) = true → x.rate = false → x.rateMax = true →
      4 * (256 * 1000000 * p.rateIvl) < 10 * bytes →
      let c1 : Chip := { c with pow := { p with rate := p.rate.put l (t.after c.ivl 0 true false) } }
      portHasFlow c1 (linkPort c1 l) = false → x.therm64 = false →
      After s (.rateInterval l bytes) (retrainLink (c1.setLink l { x with loop64 := false }) l))) ∧
  (∀ r d, Completes s (.rungSet r d) 0x0700 r d (fun c => rungSetCheck d = none ∧ admitFail c (rungSetDo c d) 0 = none)
      (fun c x => let e := c.setRung d.tgt { c.rung d.tgt with deepest := d.byte 16 }
        endCmd (if (e.rung d.tgt).deepest < (e.rung d.tgt).current then wake e d.tgt else e) x .ok) ∧
    Completes s (.loopBounds r d) 0x0701 r d (fun c => loopBoundsCheck d = none ∧ admitFail c (loopBoundsDo c d) 0 = none)
      (fun c x => let e := loopBoundsDo c d
        let p := e.pow
        let v := if p.target < p.vmin then p.vmin else if p.vmax < p.target ∧ !p.override then p.vmax else p.target
        endCmd (if d.tgt = 0 ∧ e.rings.fwReady then avsMove e v else e) x .ok) ∧
    Completes s (.powerQuery r d) 0x0702 r d (fun _ => d.zeroBut [(16, 12)] = true ∧ d.bufferOk r = true)
      (fun c x => let p := c.pow
        endQuery c.usedFree x d (Config.queryBytes 0x0702)
          (openFields <| (List.range 9).flatMap (rungFigures c) ++ [p.target, p.avsLo, p.avsHi] ++
           (List.range 128).map (fun q => (c.port q).active) ++ loopFigures p.width 128 ++
           (List.range 16).map (fun l => nat1 (c.link l).rate) ++ loopFigures p.rate 16 ++
           (List.range 22).map (fun i => asNat (((p.sensors.look i).value).getD 0)) ++ [thermStep c, p.read, c.freeNat])))

/-- R469 to R471.
Choices of the model's own in it: notes/assumptions 85, 86. -/
def Obligations.ThermalRowsComplete : Prop :=
  ∀ (s : State), let c := s.chip
  (∀ m : ThermalReading, c.rst.running = true → c.past c.pow.sampleAt (us 100) = true →
    let c1 : Chip := { c with pow := { c.pow with sampleAt := c.ivl } }
    let c2 := (List.range 20).foldl (fun c i => sampleSensor c i (m.die.getD i none)) c1
    let c3 := (List.range 2).foldl (fun c k => sampleSensor c (20 + k) (m.hbm.getD k none)) c2
    let fin := fun (c : Chip) => let e := (List.range 2).foldl hbmHot (stepEntered c)
      stepsGo (thermalStep2 s.chip) { e with pow := { e.pow with quadStep := (List.range 4).any (quadBlind e) } }
    (highestTj c3 = none → c3.rst.running = true → After s (.thermalSample m) (fin c3)) ∧
    (∀ t, highestTj c3 = some t → (tjSampled c3 t).rst.running = true → After s (.thermalSample m) (fin (tjSampled c3 t)))) ∧
  (c.rst.running = true → ∀ t, c.pow.belowAt.getD 0 none = some t → c.pow.tStep = 1 → c.past t (ms 10) = true →
    After s .thermalStepExit (stepsGo (thermalStep2 c) { c with pow := { c.pow with tStep := 0 } })) ∧
  (c.rst.running = true → ∀ t, c.pow.tripAt = some t → c.past t (us 100) = true → let c1 := warmHold c .thermal
    After s .thermalTrip (errOut (raise { c1 with pow := { c1.pow with tripSeen := true } } 305))) ∧
  (∀ t, c.pow.coolAt = some t → c.rst.held.contains .thermal = true → c.past t (sec 1) = true →
    After s .thermalTripRelease
      { c with rst := { c.rst with held := c.rst.held.filter (· ≠ .thermal) }, pow := { c.pow with tripAt := none } })

/-! ### Counters -/

/-- R473, R476, R479, R481 to R483.
Choices of the model's own in it: notes/assumptions 87, 88, 163, 212. -/
def Obligations.CounterRowsComplete : Prop :=
  ∀ (s : State), let c := s.chip
  (∀ r d, Completes s (.ctrConfig r d) 0x0500 r d
      (fun c => ctrConfigCheck c d = none ∧ admitFail c (ctrConfigDo c d) 0 = none)
      (fun c x => endCmd (c.setCounter d.tgt (counterSet (c.counter d.tgt) d)) x .ok) ∧
    (let k := d.byte 28
     let first := d.u16 30
     let n := d.u16 32
     d.zeroBut [(16, 18)] = true → d.bufferOk r = true → k < 4 → d.byte 29 < 2 → first + n ≤ setItems k →
      Completes s (.ctrRead r d) 0x0501 r d (fun _ => True)
        (fun c x => let vs := setValues c k first n
          endQuery (if d.byte 29 = 1 then clearOvf c k first n else c) x d (8 * vs.length) (openFields (vs.map (·.1))))) ∧
    Completes s (.dumpSchedule r d) 0x0502 r d
      (fun c => dumpScheduleCheck c d = none ∧ admitFail c (dumpScheduleDo c r d) 0 = none)
      (fun c x => let e := dumpScheduleDo c r d
        let y := e.schedule d.tgt
        endCmd e x (if y.active ∧ y.base < y.due then .okBasePast else .ok)) ∧
    (let n := d.u32 16
     d.zeroBut [(16, 4)] = true → n ≤ 1000000 → Completes s (.bwWindow r d) 0x0503 r d (fun _ => True)
      (fun c x => let b := c.ctr.bw.look d.tgt
        let b' := { b with len := n, inNow := 0, outNow := 0, done := if n = 0 then 0 else c.now / us n,
                           on := decide (n ≠ 0) && decide (c.now % us (max n 1) = 0) }
        endCmd { c with ctr := { c.ctr with bw := c.ctr.bw.put d.tgt b' } } x .ok))) ∧
  (c.rst.running = true → ∀ p, p < 128 → let b := c.ctr.bw.look p
    let cur := c.now / us (max b.len 1)
    b.len ≠ 0 → b.done < cur → b.on = true → After s (.bwWindowEnd p)
      { c with ctr := { c.ctr with bw := c.ctr.bw.put p { b with
        inLast := BitVec.ofNat 64 b.inNow, outLast := BitVec.ofNat 64 b.outNow, index := BitVec.ofNat 32 (cur - 1),
        inNow := 0, outNow := 0, done := cur, on := true } } }) ∧
  (c.rst.running = true → c.rst.phase = 0 → ∀ k, k < 64 → let y := c.schedule k
    y.active = true → y.due ≤ c.now →
    (y.busy = true → After s (.dumpInstant k)
      (raise (c.setSchedule k { y with missed := y.missed + 1, missSeen := true, due := y.due + us y.period }) 321)) ∧
    (y.busy = false → y.clear = false → let y' : Schedule := { y with seq := y.seq + 1 }
      let c1 : Chip := { c with mov := { c.mov with jobs := c.mov.jobs ++ [snapshotJob c k y'] } }
      After s (.dumpInstant k) (c1.setSchedule k { y' with missed := 0, busy := true, due := y.due + us y.period })))

/-! ### Security -/

/-- R487 to R490, R493 to R496, R499, R506.
Choices of the model's own in it: notes/assumptions 66, 89. -/
def Obligations.ImageRowsComplete : Prop :=
  ∀ (s : State) r d, let c := s.chip
  (let u : Update := { typ := d.byte 28, total := d.u32 24, offset := d.u32 24 }
   r ≠ 8192 → d.indirect = false → d.zeroBut [(16, 13)] = true → 1 ≤ u.typ → u.typ ≤ 3 → u.total ≤ placeBytes u.typ →
   ∀ set, Completes s (.fwUpdate r d) 0x0800 r d (fun c => c.sec.update = none ∧ updateSet c = some set)
     (fun c x => startUpdate c { u with set := set, cmd := some x })) ∧
  (∀ u : Update, let n := min (d.blockLen - 24) (d.u32 20 - d.u32 16)
   d.indirect = true → 24 ≤ d.blockLen → (List.range 15).all (fun i => d.byte (25 + i) == 0) = true → 1 ≤ d.byte 24 → d.byte 24 ≤ 3 →
   d.u32 20 ≤ placeBytes (d.byte 24) → d.u32 20 ≠ 0 → u.mctp = true → u.cmd = none → u.typ = d.byte 24 → u.total = d.u32 20 →
   u.offset = d.u32 16 → d.u32 16 + n < u.total →
   Completes s (.fwUpdate 8192 d) 0x0800 8192 d (fun c => c.sec.update = some u)
     (fun c x => endCmd { c with sec := { c.sec with update := some { u with offset := d.u32 16 + n } } } x .ok
       (leBytes 1 u.set ++ leBytes 1 0))) ∧
  (∀ u x img, c.sec.update = some u → u.cmd = some x → let e : Chip := { c with sec := { c.sec with update := none } }
    (verifyImage e u.typ img = none → let k := imagePlace u.set u.typ
      After s (.fwImageWritten img)
        (endCmd { e with sec := { e.sec with images := e.sec.images.put k (some img), invalid := e.sec.invalid.filter (· ≠ k) } } x .ok
          (leBytes 1 u.set ++ leBytes 1 1))) ∧
    (∀ st, verifyImage e u.typ img = some st → After s (.fwImageWritten img) (endCmd e x st))) ∧
  (d.zeroBut [(16, 1)] = true → d.byte 16 < 2 →
   Completes s (.fwActivate r d) 0x0801 r d
     (fun c => c.sec.update = none ∧ c.sec.trial = false ∧ setStatus c d.tgt = none)
     (fun c x => let e := endCmd { c with sec := { c.sec with pend := some d.tgt, tries := 3 } } x .ok
       let e1 := loadManagement e ((imageAt e d.tgt 2).getD {})
       if d.byte 16 = 0 then e else { e1 with sec := { e1.sec with trial := true, actWait := some e1.ivl, sessions := [] } })) ∧
  (∀ t set, c.sec.readyAt = some t → c.sec.pend = some set → c.sec.trial = true → c.rings.fwReady = true → c.past t (sec 10) = true →
    After s .trialConfirm { c with sec := { c.sec with active := set, pend := none, tries := 0, trial := false } }) ∧
  (∀ t, c.rings.fwReady = false → c.past t (sec 2) = true →
    (c.sec.actWait = some t → let e := loadManagement c ((c.sec.images.look (imagePlace c.sec.active 2)).getD {})
      After s .activateFwReadyTimeout (raise { e with sec := { e.sec with actWait := none, trial := false } } 338)) ∧
    (c.sec.bootWait = some t → c.rst.running = true → let e := fabricReset c
      After s .bootFwReadyTimeout
        (raise { e with sec := { e.sec with forceSet := some (1 - c.sec.bootSet) },
                        rst := { e.rst with cold := c.rst.cold, nextCause := c.rst.cause } } 337))) ∧
  (∀ a : AuthBlock, d.indirect = true → d.direct 16 % 8 = 0 → d.blockLen = 3392 ∨ d.blockLen = 5376 → a.edOk = true → a.mldsaOk = true →
   Completes s (.keyRevoke r d a) 0x0802 r d
     (fun c => authHeadOk c d = true ∧ authSlot c d a < 4 ∧ authSlot c d a ≠ d.tgt ∧ c.sec.revoked.contains (authSlot c d a) = false ∧
       [1, 2, 3].any (fun t => (runningImage c t).keySlot == d.tgt) = false ∧
       (List.range 4).all (fun i => i == d.tgt || c.sec.revoked.contains i) = false ∧ c.sec.trial = false ∧ c.sec.update = none ∧
       ∀ t, t ∈ [1, 2, 3] → ∀ m, imageAt c (otherSet c) t = some m → m.keySlot ≠ d.tgt)
     (fun c x => endCmd (raise { c with sec := { c.sec with revoked := addOnce c.sec.revoked d.tgt } } 340 (srcInfo 0 0 d.tgt)) x .ok)) ∧
  (d.zeroBut [(16, 1)] = true → d.byte 16 < 2 →
   Completes s (.rollbackAdvance r d) 0x0803 r d
     (fun c => c.sec.trial = false ∧ c.sec.ctrs.getD (d.tgt - 1) 0 < (runningImage c d.tgt).svn ∧
       ∀ m, imageAt c (otherSet c) d.tgt = some m → (runningImage c d.tgt).svn ≤ m.svn)
     (fun c x => let v := (runningImage c d.tgt).svn
       endCmd (raise { c with sec := { c.sec with ctrs := setAt c.sec.ctrs (d.tgt - 1) v } } 341 (srcInfo 0 0 d.tgt)) x .ok (leBytes 4 v))) ∧
  (d.zeroBut [(16, 12)] = true → d.bufferOk r = true → d.tgt ≠ 0 → d.tgt < 4 →
   Completes s (.certGet r d) 0x0820 r d (fun c => (c.sec.chains.look d.tgt).isEmpty = false)
     (fun c x => endQuery c x d (c.sec.chains.look d.tgt).length (c.sec.chains.look d.tgt))) ∧
  (d.zeroBut [(16, 12), (28, 32)] = true → d.bufferOk r = true →
   Completes s (.measureGet r d) 0x0821 r d (fun c => c.sec.identity = true)
     (fun c x => endQuery c.usedFree x d (Config.queryBytes 0x0821) (leBytes (Config.queryBytes 0x0821) c.freeNat))) ∧
  (∀ t : DebugToken, c.rst.started = true → c.sec.debug = false → t.serialOk = true → t.nonce = c.sec.debugNonce → t.slot < 4 →
    c.sec.revoked.contains t.slot = false → t.sigOk = true →
    After s (.debugToken t) (raise { c with sec := { c.sec with debug := true, identity := false } } 344))

/-- R499 to R503.
Choices of the model's own in it: notes/assumptions 31, 60, 90, 91. -/
def Obligations.SessionRowsComplete : Prop :=
  ∀ (s : State) m, let c := s.chip
  (mboxUp c m = true →
    (let e : Chip := { c with sec := { c.sec with version := addOnce c.sec.version m,
                                                  negotiated := c.sec.negotiated.filter (· ≠ m) } }
     After s (.getVersion m) (e.emit (.spdm m "VERSION" [0x12, 0x13]))) ∧
    (c.sec.version.contains m = true → After s (.getCapabilities m) (c.emit (.spdm m "CAPABILITIES" [])) ∧
      (let e : Chip := { c with sec := { c.sec with negotiated := addOnce c.sec.negotiated m } }
       After s (.negotiateAlgorithms m true) (e.emit (.spdm m "ALGORITHMS" [])))) ∧
    (∀ code, After s (.spdmUnsupportedRequest m code) (c.emit (.spdm m "ERROR UnsupportedRequest" [code]))) ∧
    (c.sec.negotiated.contains m = true →
      After s (.getDigests m) (c.usedFree.emit (.spdm m "DIGESTS" ((List.range 4).filter (chainPresent c) ++ [c.freeNat]))) ∧
      (∀ slot off len, chainPresent c slot = true → let b := c.sec.chains.look slot
        (slot = 0 → After s (.getCertificate m slot off len) (c.usedFree.emit (.spdm m "CERTIFICATE" [c.freeNat]))) ∧
        (slot ≠ 0 → off < b.length → After s (.getCertificate m slot off len)
          (c.emit (.spdm m "CERTIFICATE" (((b.drop off).take len).map (·.toNat)))))) ∧
      (∀ i signed, (signed = true → c.sec.identity = true) → i ≠ 0 → i < 8 ∨ i = 255 →
        After s (.getMeasurements m i signed) (c.usedFree.emit (.spdm m "MEASUREMENTS" [i, c.freeNat]))) ∧
      (∀ slot, c.sec.identity = true → chainPresent c slot = true →
        After s (.challenge m slot) (c.usedFree.emit (.spdm m "CHALLENGE_AUTH" [slot, c.freeNat])) ∧
        (sessionsOn c m < (if 100 ≤ m then 4 else 1) → let e := c.usedFree
          let y : Session := { mbox := m, id := c.sec.nextSess }
          let e1 : Chip := { e with sec := { e.sec with sessions := e.sec.sessions ++ [y], nextSess := e.sec.nextSess + 1 } }
          After s (.keyExchange m slot) (e1.emit (.spdm m "KEY_EXCHANGE_RSP" [c.sec.nextSess, c.freeNat]))))) ∧
    (∀ i y, sessionOf c m i = some y →
      (y.open_ = false → After s (.finish m i true)
        ((setSession c y (some { y with open_ := true })).emit (.spdm m "FINISH_RSP" []))) ∧
      (y.open_ = true →
        After s (.heartbeat m i) (c.emit (.spdm m "HEARTBEAT_ACK" [])) ∧
        After s (.keyUpdate m i) ((setSession c y (some { y with keyGen := y.keyGen + 1 })).emit (.spdm m "KEY_UPDATE_ACK" [])) ∧
        After s (.endSession m i) ((setSession c y none).emit (.spdm m "END_SESSION_ACK" [])) ∧
        (∀ slot chain, slot ≠ 0 → slot < 4 → chain.isEmpty = false →
          let e : Chip := { c with sec := { c.sec with chains := c.sec.chains.put slot chain } }
          After s (.setCertificate m i slot true chain) (e.emit (.spdm m "SET_CERTIFICATE_RSP" [])))))) ∧
  (∀ i (k : IdeKm), (keySession c i k).isSome = true →
    (k.port < 128 →
      (portSetUsed (c.port k.port) k.keySet = false → After s (.keyProg i k)
        ((c.modPort k.port (fun y => y.withKey (keyNo k.keySet k.tx) k.key)).emit (.ideKm k.port "KP_ACK"))) ∧
      ((c.port k.port).haveKeys.contains (keyNo k.keySet k.tx) = true → After s (.kSetGo i k)
        ((c.modPort k.port (fun y => y.goKey (keyNo k.keySet k.tx))).emit (.ideKm k.port "K_GOSTOP_ACK")))) ∧
    (128 ≤ k.port → let l := k.port - 128
      let x := c.link l
      (linkSetUsed x k.keySet = false → After s (.keyProg i k)
        ((c.modLink l (fun x => x.withKey k.keySet k.tx k.key)).emit (.ideKm k.port "KP_ACK"))) ∧
      ((if k.tx then x.haveTx else x.haveRx).contains k.keySet = true → After s (.kSetGo i k)
        ((c.setLink l { x with goArmed := if k.tx then some k.keySet else x.goArmed,
                               ideOn := x.ideOn || (x.haveTx.contains k.keySet && x.haveRx.contains k.keySet &&
                                 x.state == .active && chosenIde x.chosen) }).emit (.ideKm k.port "K_GOSTOP_ACK"))))) ∧
  (∀ r d, 
    (d.indirect = true → d.direct 16 % 8 < 2 →
      Completes s (.ideKeyProg r d) 0x0810 r d
        (fun c => keyReady c d.tgt = true ∧ portSetUsed (c.port d.tgt) (d.direct 16 % 8) = false)
        (fun c x => (c.modPort d.tgt (fun y => { y with goCmd := some x, progSet := d.direct 16 % 8 })).emit (.ideKm d.tgt "KEY_PROG"))) ∧
    (d.zeroBut [(16, 1)] = true → d.byte 16 < 2 → Completes s (.ideKeyGo r d) 0x0811 r d
      (fun c => keyReady c d.tgt = true ∧ (c.port d.tgt).haveKeys.contains (2 * d.byte 16) = true ∧
        (c.port d.tgt).haveKeys.contains (2 * d.byte 16 + 1) = true)
      (fun c x => (c.setPort d.tgt { c.port d.tgt with goCmd := some x, progSet := d.byte 16 }).emit (.ideKm d.tgt "K_SET_GO")))) ∧
  (∀ p x, let y := c.port p
    y.goCmd = some x →
    (x.opcode = 0x0810 → let e := c.usedFree
      let z := (y.withKey (2 * y.progSet) (BitVec.ofNat 256 c.freeNat)).withKey (2 * y.progSet + 1) (BitVec.ofNat 256 e.freeNat)
      After s (.spdmResponse p { chainOk := true, ackOk := true }) (endKeyCmd (e.usedFree.setPort p z) p .ok)) ∧
    (x.opcode = 0x0811 →
      After s (.spdmResponse p { chainOk := true, ackOk := true })
        (endKeyCmd (c.setPort p ((y.goKey (2 * y.progSet)).goKey (2 * y.progSet + 1))) p .ok)))

/-! ### Supplies and reset -/

/-- R489, R491, R511, R514 to R516.
Choices of the model's own in it: notes/assumptions 63, 67, 69, 71, 74, 75, 176, 202, 204. -/
def Obligations.SupplyRowsComplete : Prop :=
  ∀ (s : State), let c := s.chip
  After s .rstNAssert (coldReset c 1) ∧
  (∀ rail, After s (.standbyRailLow rail) (coldReset c 0)) ∧
  (∀ k, let e := coldReset c k
    e.rst.running = false ∧ e.rst.started = false ∧ e.rst.nextCause = k ∧ e.rst.badRails = c.rst.badRails ∧ e.rings = {} ∧ e.ten = {} ∧
    e.ft = {} ∧ e.flt = {} ∧ e.bb.queue = [] ∧ e.bb.running = none ∧ e.bb.life = { (countHoldup c).bb.life with powerOn := powerOnSecs (countHoldup c) } ∧ e.sec.active = c.sec.active ∧
    e.sec.pend = c.sec.pend ∧ e.sec.images = c.sec.images ∧ e.sec.revoked = c.sec.revoked ∧ e.sec.ctrs = c.sec.ctrs ∧
    e.sec.chains = c.sec.chains ∧ e.sec.sessions = [] ∧ e.sec.debug = false ∧ e.pool.memberList = c.pool.memberList) ∧
  (c.rst.started = true → After s .warmNQualified (raise (warmHold c .pin) 357)) ∧
  (c.rst.started = true → c.rst.running = true ∨ c.rst.held.isEmpty = false → ∀ rail,
    let e := warmHold c .rail
    let e1 : Chip := { e with rst := { e.rst with badRails := addOnce e.rst.badRails rail } }
    After s (.railUv rail) (raise e1 352) ∧ After s (.railOv rail) (raise e1 353)) ∧
  After s .railsGood { c with rst := { c.rst with badRails := [], held := c.rst.held.filter (· ≠ .rail) } } ∧
  (∀ b : StartFacts, startReady c = true → b.bootRecordOk = true →
    let straps := if c.rst.started = false ∧ c.sec.recovery = false then b.straps else c.rst.straps
    let e := bootImages { c with rst := { c.rst with straps := straps },
                                 regs := { c.regs with serial := b.serial, engSample := b.engSample } } b
    c.rst.started = true ∨ c.sec.recovery = true ∨ b.straps.toNat / 256 ≠ 2 →
    (c.sec.forceSet = none → c.sec.pend = none → setStatus e 0 = none ∨ setStatus e 1 = none → setStatus e c.sec.active = none →
      After s (.start b) (startFabric (makeIdentity (openStart (bootSet e c.sec.active false false)) b) b (fullPath c) false)) ∧
    ((setStatus e 0).isSome = true → (setStatus e 1).isSome = true → c.sec.recovery = false →
      let e1 := raise e 336
      After s (.start b) (raise { e1 with sec := { e1.sec with recovery := true } } 339)))

/-- R207, R417, R518, R519.
Choices of the model's own in it: notes/assumptions 65, 72, 73. -/
def Obligations.ShutdownRowsComplete : Prop :=
  ∀ (s : State), let c := s.chip
  (∀ path (v : BitVec 32), pathOpen c path = true → let n := v.toNat
    let dr := field n 2 14
    let e : Chip := { c with rst := { c.rst with sdMode := bitOf n 1,
                                                 sdDrain := if 1 ≤ dr ∧ dr ≤ 10000 then dr else c.rst.sdDrain } }
    (bitOf n 0 = true → c.rst.phase = 0 → (∀ g, g ∈ c.grp.groups → g.2.state = .none) → c.sec.update = none →
      After s (.shutdownGo path v) (beginShutdown e)) ∧
    (bitOf n 0 = false → After s (.shutdownGo path v) e) ∧
    (bitOf n 0 = true → c.rst.phase ≠ 0 → After s (.shutdownGo path v) { c with rst := { c.rst with refused := true } })) ∧
  (c.rst.running = true → ∀ f : PhaseFacts, let go := fun n => { c with rst := { c.rst with phase := n } }
    (c.rst.phase = 1 → drainedAll c = true → After s (.shutdownPhaseEnd f) (flushDirty (go 2) (fun _ => true)).1) ∧
    (c.rst.phase = 2 → writtenAll c = true →
      After s (.shutdownPhaseEnd f)
        (linksGoDown { c with pool := { c.pool with memberList := loggedMembers c }, rst := { c.rst with phase := 3 } })) ∧
    (c.rst.phase = 3 → After s (.shutdownPhaseEnd f) (openHeader (go 4) 0)) ∧
    (c.rst.phase = 4 → let t := shutdownTests c f
      let e := flushLog (logRecord t { kind := .stop, detail := [1] })
      let e1 : Chip := { e with bb := { e.bb with orderly := some true, wordBoot := e.bb.life.boots } }
      (e1.rst.sdMode = true → After s (.shutdownPhaseEnd f) (warmHold e1 .orderly)) ∧
      (e1.rst.sdMode = false → let e2 := fabricReset (snapCut e1)
        After s (.shutdownPhaseEnd f) { e2 with rst := { e2.rst with halted := true, phase := 5 } })))

/-! ### Rules of one sentence -/

/-- R102. -/
def Obligations.LossCountsFollowDecision : Prop :=
  (∀ (x : Nat) (loss : Tbl Nat) (cs : List (Nat × Nat × Nat)) (g : Nat × Nat × Nat),
    let key := fun (y : Nat × Nat × Nat) => if x ≤ 37 then y.1 * 8 + y.2.1 else y.1
    loss.wf = true → (cs.map key).Nodup → g ∈ cs →
    let t := lossAfter x loss cs g
    t.look (key g) = 0 ∧
    (∀ y, y ∈ cs → y ≠ g → t.look (key y) = if x ≤ 37 ∧ y.2.1 = 7 then loss.look (key y) else min 16 (loss.look (key y) + 1)) ∧
    (∀ k, (∀ y, y ∈ cs → key y ≠ k) → t.look k = loss.look k) ∧
    ((∀ k, loss.look k ≤ 16) → ∀ k, t.look k ≤ 16)) ∧
  (∀ (s : State) (x : Nat) (w : List Nat) g q, x ≤ 37 → let c := parkHeads s.chip
    let cs := candsOf c x
    let a := arbNext s.chip x
    let slot := s.chip.nextNow / 64
    (s.chip.arb x).carry = none →
    winner c x a (slotOwner a x (slot % 512)) (openAllowed c x slot) cs = some g →
    laneHead c (((g.1 * 38 + x) * 8 + g.2.1) * 10 + g.2.2) = some q →
    ∃ e, After s (.arbiterDecision x w) e ∧ (e.arb x).loss = lossAfter x (s.chip.arb x).loss cs g) ∧
  (∀ (s : State) (x : Nat) (w : List Nat) g, 38 ≤ x → x ≤ 101 → let c := s.chip
    let cs := (w.filter (· ≤ 21)).eraseDups.map (fun i => (i, 8, 0))
    let a := arbNext c x
    let slot := c.nextNow / 64
    winner c x a (slotOwner a x (slot % 512)) (openAllowed c x slot) cs = some g →
    ∃ e, After s (.arbiterDecision x w) e ∧ (e.arb x).loss = lossAfter x (c.arb x).loss cs g)

/-- R447. -/
def Obligations.StuckGateBreaksOrFaultsChannel : Prop :=
  ∀ (s : State) (n : Nat), n < 32 → let c := s.chip
    let h := c.chan n
    h.gateOn = true → ∃ e, After s (.gateStuck n) e ∧
      (c.rst.running = true → (e.source 274).pending = true) ∧
      (c.rst.running = false → ∃ i, (274, i) ∈ e.flt.inReset) ∧
      (4 ≤ n → (e.chan n).state = .broken) ∧
      (n < 4 → (e.chan n).state =
        if h.p.retry = true ∧ (h.p.retryLimit = 0 ∨ h.retries < h.p.retryLimit) then .retryWait else .latched)

/-- R549. -/
def Obligations.ManagementPathControlOnlyThroughEndpoint : Prop :=
  ∀ (s : State) (v : BitVec 64), let c := s.chip
    let w : RegAccess := { offset := 0x20014, value := v }
    (pathOpen c .endpoint = true →
      After s (.registerWrite .endpoint w) { c with rings := { c.rings with console := bitOf (v.toNat % 2 ^ 32) 0 } }) ∧
    After s (.registerWrite .firmware w) c ∧
    (∀ e, After s (.registerWrite .firmware { w with offset := 0x20010 }) e →
      After s (.registerWrite .firmware { w with offset := 0x20010, wide := true }) e) ∧
    (∀ t (a : RegAccess), a.bar2 = false → After s (.registerWrite (.ld t) a) c) ∧
    (∀ a : RegAccess, After s (.registerWrite .console a) c ∧ After s (.registerWrite .mctp a) c)

end Statements
end

