-- ==== Sys2Proof/Laws/Tables.lean ====
section
/-!
SUPPORT. The sparse tables: reading after writing, and the canonical form, which every write keeps.
-/
namespace Sys2Proof

variable {α : Type}

/-- Reading at the key just inserted. -/
@[simp] theorem Tbl.lookD_ins (d v : α) (t : Tbl α) (k : Nat) : Tbl.lookD d (Tbl.ins t k v) k = v := by
  induction t with
  | nil => simp [Tbl.ins, Tbl.lookD]
  | cons e t ih =>
    obtain ⟨j, w⟩ := e
    unfold Tbl.ins
    split
    · simp [Tbl.lookD]
    · split
      · simp [Tbl.lookD]
      · rename_i h; simp [Tbl.lookD, h, ih]

/-- Inserting leaves every other key alone. -/
theorem Tbl.lookD_ins_ne (d v : α) (t : Tbl α) {k m : Nat} (h : m ≠ k) :
    Tbl.lookD d (Tbl.ins t k v) m = Tbl.lookD d t m := by
  induction t with
  | nil => simp [Tbl.ins, Tbl.lookD, Ne.symm h]
  | cons e t ih =>
    obtain ⟨j, w⟩ := e
    unfold Tbl.ins
    split
    · simp [Tbl.lookD, Ne.symm h]
    · split
      · subst_vars; simp [Tbl.lookD, Ne.symm h]
      · simp [Tbl.lookD, ih]

/-- Removing leaves every other key alone. -/
theorem Tbl.lookD_del_ne (d : α) (t : Tbl α) {k m : Nat} (h : m ≠ k) :
    Tbl.lookD d (Tbl.del t k) m = Tbl.lookD d t m := by
  induction t with
  | nil => rfl
  | cons e t ih =>
    obtain ⟨j, w⟩ := e
    unfold Tbl.del
    split
    · subst_vars; simp [Tbl.lookD, Ne.symm h]
    · simp [Tbl.lookD, ih]

variable [DecidableEq α]

/-- A key below every listed one reads as the default. -/
theorem Tbl.lookD_low (d : α) (t : Tbl α) {lo k : Nat} (h : Tbl.okFrom d lo t = true) (hk : k < lo) : Tbl.lookD d t k = d := by
  induction t generalizing lo with
  | nil => rfl
  | cons e t ih =>
    obtain ⟨j, w⟩ := e
    simp [Tbl.okFrom] at h
    have : j ≠ k := by omega
    simp [Tbl.lookD, this]
    exact ih h.2 (by omega)

/-- In canonical form a removed key reads as the default. -/
theorem Tbl.lookD_del (d : α) (t : Tbl α) {lo k : Nat} (h : Tbl.okFrom d lo t = true) : Tbl.lookD d (Tbl.del t k) k = d := by
  induction t generalizing lo with
  | nil => rfl
  | cons e t ih =>
    obtain ⟨j, w⟩ := e
    simp [Tbl.okFrom] at h
    unfold Tbl.del
    split
    · subst_vars; exact Tbl.lookD_low d t h.2 (by omega)
    · rename_i hj; simp [Tbl.lookD, hj]; exact ih h.2

/-- The canonical form with a lower bound. -/
theorem Tbl.okFrom_mono (d : α) (t : Tbl α) {lo lo' : Nat} (h : Tbl.okFrom d lo t = true) (hl : lo' ≤ lo) :
    Tbl.okFrom d lo' t = true := by
  cases t with
  | nil => rfl
  | cons e t => obtain ⟨j, w⟩ := e; simp [Tbl.okFrom] at h ⊢; exact ⟨⟨by omega, h.1.2⟩, h.2⟩

/-- Inserting keeps the canonical form. -/
theorem Tbl.okFrom_ins (d v : α) (t : Tbl α) {lo k : Nat} (h : Tbl.okFrom d lo t = true) (hv : v ≠ d) (hk : lo ≤ k) :
    Tbl.okFrom d lo (Tbl.ins t k v) = true := by
  induction t generalizing lo with
  | nil => simp [Tbl.ins, Tbl.okFrom, hv, hk]
  | cons e t ih =>
    obtain ⟨j, w⟩ := e
    simp [Tbl.okFrom] at h
    unfold Tbl.ins
    split
    · rename_i hlt; simp [Tbl.okFrom, hv, hk, h.1.2, h.2]; omega
    · split
      · subst_vars; simp [Tbl.okFrom, hv, hk, h.2]
      · simp [Tbl.okFrom, h.1]; exact ih h.2 (by omega)

/-- Removing keeps the canonical form. -/
theorem Tbl.okFrom_del (d : α) (t : Tbl α) {lo k : Nat} (h : Tbl.okFrom d lo t = true) :
    Tbl.okFrom d lo (Tbl.del t k) = true := by
  induction t generalizing lo with
  | nil => rfl
  | cons e t ih =>
    obtain ⟨j, w⟩ := e
    have h' := h
    simp [Tbl.okFrom] at h
    unfold Tbl.del
    split
    · exact Tbl.okFrom_mono d t h.2 (by omega)
    · simp [Tbl.okFrom, h.1]; exact ih h.2

/-- A write reads back. -/
theorem Tbl.lookD_putD (d v : α) (t : Tbl α) {lo k : Nat} (h : Tbl.okFrom d lo t = true) :
    Tbl.lookD d (Tbl.putD d t k v) k = v := by
  unfold Tbl.putD; split
  · rename_i e; rw [e]; exact Tbl.lookD_del d t h
  · exact Tbl.lookD_ins d v t k

/-- A write leaves every other key alone. -/
theorem Tbl.lookD_putD_ne (d e v : α) (t : Tbl α) {k m : Nat} (h : m ≠ k) :
    Tbl.lookD e (Tbl.putD d t k v) m = Tbl.lookD e t m := by
  unfold Tbl.putD; split
  · exact Tbl.lookD_del_ne e t h
  · exact Tbl.lookD_ins_ne e v t h

/-- Every write keeps the canonical form. -/
theorem Tbl.okFrom_putD (d v : α) (t : Tbl α) {k : Nat} (h : Tbl.okFrom d 0 t = true) :
    Tbl.okFrom d 0 (Tbl.putD d t k v) = true := by
  unfold Tbl.putD; split
  · exact Tbl.okFrom_del d t h
  · exact Tbl.okFrom_ins d v t h (by assumption) (Nat.zero_le k)

/-- Every write keeps the canonical form. -/
theorem Tbl.wf_put [Inhabited α] (t : Tbl α) (k : Nat) (v : α) (h : t.wf = true) : (t.put k v).wf = true :=
  Tbl.okFrom_putD default v t h

/-- A write reads back. -/
theorem Tbl.look_put [Inhabited α] (t : Tbl α) (k : Nat) (v : α) (h : t.wf = true) : (t.put k v).look k = v :=
  Tbl.lookD_putD default v t h

/-- A write of what no unlisted key reads as reads back. -/
theorem Tbl.look_put_new [Inhabited α] (t : Tbl α) (k : Nat) (v : α) (h : v ≠ default) : (t.put k v).look k = v := by
  unfold Tbl.put Tbl.look Tbl.putD; simp [h]

omit [DecidableEq α] in
/-- Of two writes at one key the later counts. -/
theorem Tbl.ins_ins (t : Tbl α) (k : Nat) (v w : α) : Tbl.ins (Tbl.ins t k v) k w = Tbl.ins t k w := by
  induction t with
  | nil => simp [Tbl.ins]
  | cons e t ih =>
    obtain ⟨j, x⟩ := e
    by_cases h1 : k < j
    · simp [Tbl.ins, h1]
    · by_cases h2 : j = k
      · subst h2; simp [Tbl.ins]
      · simp [Tbl.ins, h1, h2, ih]

/-- Of two writes at one key the later counts. -/
theorem Tbl.put_put_new [Inhabited α] (t : Tbl α) (k : Nat) (v w : α) (hv : v ≠ default) (hw : w ≠ default) :
    (t.put k v).put k w = t.put k w := by
  unfold Tbl.put Tbl.putD; simp [hv, hw, Tbl.ins_ins]

/-- A write leaves every other key alone. -/
theorem Tbl.look_put_ne [Inhabited α] (t : Tbl α) {k m : Nat} (v : α) (h : m ≠ k) : (t.put k v).look m = t.look m :=
  Tbl.lookD_putD_ne default default v t h

end Sys2Proof
end

