-- ==== Sys2Proof/Laws/State.lean ====
section
/-!
SUPPORT. One lemma for each field under each update of the chip, and what a table gives back after a write, so that no proof unfolds
a record update.
-/
namespace Sys2Proof.Machine

variable (c : Chip) (k : Nat)

@[simp] theorem emit_ft (m : Msg) : (c.emit m).ft = c.ft := rfl
@[simp] theorem emit_sw (m : Msg) : (c.emit m).sw = c.sw := rfl
@[simp] theorem emit_sched (m : Msg) : (c.emit m).sched = c.sched := rfl
@[simp] theorem emit_home (m : Msg) : (c.emit m).home = c.home := rfl
@[simp] theorem emit_pool (m : Msg) : (c.emit m).pool = c.pool := rfl
@[simp] theorem emit_hbm (m : Msg) : (c.emit m).hbm = c.hbm := rfl
@[simp] theorem emit_stv (m : Msg) : (c.emit m).stv = c.stv := rfl
@[simp] theorem emit_ports (m : Msg) : (c.emit m).ports = c.ports := rfl
@[simp] theorem emit_lanes (m : Msg) : (c.emit m).lanes = c.lanes := rfl
@[simp] theorem emit_ten (m : Msg) : (c.emit m).ten = c.ten := rfl
@[simp] theorem emit_rings (m : Msg) : (c.emit m).rings = c.rings := rfl
@[simp] theorem emit_grp (m : Msg) : (c.emit m).grp = c.grp := rfl
@[simp] theorem emit_mov (m : Msg) : (c.emit m).mov = c.mov := rfl
@[simp] theorem emit_flt (m : Msg) : (c.emit m).flt = c.flt := rfl
@[simp] theorem emit_bb (m : Msg) : (c.emit m).bb = c.bb := rfl
@[simp] theorem emit_test (m : Msg) : (c.emit m).test = c.test := rfl
@[simp] theorem emit_slot (m : Msg) : (c.emit m).slot = c.slot := rfl
@[simp] theorem emit_pow (m : Msg) : (c.emit m).pow = c.pow := rfl
@[simp] theorem emit_ctr (m : Msg) : (c.emit m).ctr = c.ctr := rfl
@[simp] theorem emit_sec (m : Msg) : (c.emit m).sec = c.sec := rfl
@[simp] theorem emit_rst (m : Msg) : (c.emit m).rst = c.rst := rfl
@[simp] theorem emit_regs (m : Msg) : (c.emit m).regs = c.regs := rfl
@[simp] theorem emit_freeCtr (m : Msg) : (c.emit m).freeCtr = c.freeCtr := rfl

@[simp] theorem emits_ft (m : List Msg) : (c.emits m).ft = c.ft := rfl
@[simp] theorem emits_sw (m : List Msg) : (c.emits m).sw = c.sw := rfl
@[simp] theorem emits_sched (m : List Msg) : (c.emits m).sched = c.sched := rfl
@[simp] theorem emits_home (m : List Msg) : (c.emits m).home = c.home := rfl
@[simp] theorem emits_pool (m : List Msg) : (c.emits m).pool = c.pool := rfl
@[simp] theorem emits_hbm (m : List Msg) : (c.emits m).hbm = c.hbm := rfl
@[simp] theorem emits_stv (m : List Msg) : (c.emits m).stv = c.stv := rfl
@[simp] theorem emits_ports (m : List Msg) : (c.emits m).ports = c.ports := rfl
@[simp] theorem emits_lanes (m : List Msg) : (c.emits m).lanes = c.lanes := rfl
@[simp] theorem emits_ten (m : List Msg) : (c.emits m).ten = c.ten := rfl
@[simp] theorem emits_rings (m : List Msg) : (c.emits m).rings = c.rings := rfl
@[simp] theorem emits_grp (m : List Msg) : (c.emits m).grp = c.grp := rfl
@[simp] theorem emits_mov (m : List Msg) : (c.emits m).mov = c.mov := rfl
@[simp] theorem emits_flt (m : List Msg) : (c.emits m).flt = c.flt := rfl
@[simp] theorem emits_bb (m : List Msg) : (c.emits m).bb = c.bb := rfl
@[simp] theorem emits_test (m : List Msg) : (c.emits m).test = c.test := rfl
@[simp] theorem emits_slot (m : List Msg) : (c.emits m).slot = c.slot := rfl
@[simp] theorem emits_pow (m : List Msg) : (c.emits m).pow = c.pow := rfl
@[simp] theorem emits_ctr (m : List Msg) : (c.emits m).ctr = c.ctr := rfl
@[simp] theorem emits_sec (m : List Msg) : (c.emits m).sec = c.sec := rfl
@[simp] theorem emits_rst (m : List Msg) : (c.emits m).rst = c.rst := rfl
@[simp] theorem emits_regs (m : List Msg) : (c.emits m).regs = c.regs := rfl
@[simp] theorem emits_freeCtr (m : List Msg) : (c.emits m).freeCtr = c.freeCtr := rfl

@[simp] theorem usedFree_ft : (c.usedFree).ft = c.ft := rfl
@[simp] theorem usedFree_sw : (c.usedFree).sw = c.sw := rfl
@[simp] theorem usedFree_sched : (c.usedFree).sched = c.sched := rfl
@[simp] theorem usedFree_home : (c.usedFree).home = c.home := rfl
@[simp] theorem usedFree_pool : (c.usedFree).pool = c.pool := rfl
@[simp] theorem usedFree_hbm : (c.usedFree).hbm = c.hbm := rfl
@[simp] theorem usedFree_stv : (c.usedFree).stv = c.stv := rfl
@[simp] theorem usedFree_ports : (c.usedFree).ports = c.ports := rfl
@[simp] theorem usedFree_lanes : (c.usedFree).lanes = c.lanes := rfl
@[simp] theorem usedFree_ten : (c.usedFree).ten = c.ten := rfl
@[simp] theorem usedFree_rings : (c.usedFree).rings = c.rings := rfl
@[simp] theorem usedFree_grp : (c.usedFree).grp = c.grp := rfl
@[simp] theorem usedFree_mov : (c.usedFree).mov = c.mov := rfl
@[simp] theorem usedFree_flt : (c.usedFree).flt = c.flt := rfl
@[simp] theorem usedFree_bb : (c.usedFree).bb = c.bb := rfl
@[simp] theorem usedFree_test : (c.usedFree).test = c.test := rfl
@[simp] theorem usedFree_slot : (c.usedFree).slot = c.slot := rfl
@[simp] theorem usedFree_pow : (c.usedFree).pow = c.pow := rfl
@[simp] theorem usedFree_ctr : (c.usedFree).ctr = c.ctr := rfl
@[simp] theorem usedFree_sec : (c.usedFree).sec = c.sec := rfl
@[simp] theorem usedFree_rst : (c.usedFree).rst = c.rst := rfl
@[simp] theorem usedFree_regs : (c.usedFree).regs = c.regs := rfl
@[simp] theorem usedFree_sent : (c.usedFree).sent = c.sent := rfl

@[simp] theorem later_ft (m : Todo) : (c.later m).ft = c.ft := rfl
@[simp] theorem later_sw (m : Todo) : (c.later m).sw = c.sw := rfl
@[simp] theorem later_sched (m : Todo) : (c.later m).sched = c.sched := rfl
@[simp] theorem later_home (m : Todo) : (c.later m).home = c.home := rfl
@[simp] theorem later_pool (m : Todo) : (c.later m).pool = c.pool := rfl
@[simp] theorem later_hbm (m : Todo) : (c.later m).hbm = c.hbm := rfl
@[simp] theorem later_stv (m : Todo) : (c.later m).stv = c.stv := rfl
@[simp] theorem later_ports (m : Todo) : (c.later m).ports = c.ports := rfl
@[simp] theorem later_lanes (m : Todo) : (c.later m).lanes = c.lanes := rfl
@[simp] theorem later_ten (m : Todo) : (c.later m).ten = c.ten := rfl
@[simp] theorem later_rings (m : Todo) : (c.later m).rings = c.rings := rfl
@[simp] theorem later_grp (m : Todo) : (c.later m).grp = c.grp := rfl
@[simp] theorem later_mov (m : Todo) : (c.later m).mov = c.mov := rfl
@[simp] theorem later_bb (m : Todo) : (c.later m).bb = c.bb := rfl
@[simp] theorem later_test (m : Todo) : (c.later m).test = c.test := rfl
@[simp] theorem later_slot (m : Todo) : (c.later m).slot = c.slot := rfl
@[simp] theorem later_pow (m : Todo) : (c.later m).pow = c.pow := rfl
@[simp] theorem later_ctr (m : Todo) : (c.later m).ctr = c.ctr := rfl
@[simp] theorem later_sec (m : Todo) : (c.later m).sec = c.sec := rfl
@[simp] theorem later_rst (m : Todo) : (c.later m).rst = c.rst := rfl
@[simp] theorem later_regs (m : Todo) : (c.later m).regs = c.regs := rfl
@[simp] theorem later_sent (m : Todo) : (c.later m).sent = c.sent := rfl
@[simp] theorem later_freeCtr (m : Todo) : (c.later m).freeCtr = c.freeCtr := rfl

@[simp] theorem setPort_ft (v : Port) : (c.setPort k v).ft = c.ft := rfl
@[simp] theorem setPort_sw (v : Port) : (c.setPort k v).sw = c.sw := rfl
@[simp] theorem setPort_sched (v : Port) : (c.setPort k v).sched = c.sched := rfl
@[simp] theorem setPort_home (v : Port) : (c.setPort k v).home = c.home := rfl
@[simp] theorem setPort_pool (v : Port) : (c.setPort k v).pool = c.pool := rfl
@[simp] theorem setPort_hbm (v : Port) : (c.setPort k v).hbm = c.hbm := rfl
@[simp] theorem setPort_stv (v : Port) : (c.setPort k v).stv = c.stv := rfl
@[simp] theorem setPort_lanes (v : Port) : (c.setPort k v).lanes = c.lanes := rfl
@[simp] theorem setPort_ten (v : Port) : (c.setPort k v).ten = c.ten := rfl
@[simp] theorem setPort_rings (v : Port) : (c.setPort k v).rings = c.rings := rfl
@[simp] theorem setPort_grp (v : Port) : (c.setPort k v).grp = c.grp := rfl
@[simp] theorem setPort_mov (v : Port) : (c.setPort k v).mov = c.mov := rfl
@[simp] theorem setPort_flt (v : Port) : (c.setPort k v).flt = c.flt := rfl
@[simp] theorem setPort_bb (v : Port) : (c.setPort k v).bb = c.bb := rfl
@[simp] theorem setPort_test (v : Port) : (c.setPort k v).test = c.test := rfl
@[simp] theorem setPort_slot (v : Port) : (c.setPort k v).slot = c.slot := rfl
@[simp] theorem setPort_pow (v : Port) : (c.setPort k v).pow = c.pow := rfl
@[simp] theorem setPort_ctr (v : Port) : (c.setPort k v).ctr = c.ctr := rfl
@[simp] theorem setPort_sec (v : Port) : (c.setPort k v).sec = c.sec := rfl
@[simp] theorem setPort_rst (v : Port) : (c.setPort k v).rst = c.rst := rfl
@[simp] theorem setPort_regs (v : Port) : (c.setPort k v).regs = c.regs := rfl
@[simp] theorem setPort_sent (v : Port) : (c.setPort k v).sent = c.sent := rfl
@[simp] theorem setPort_freeCtr (v : Port) : (c.setPort k v).freeCtr = c.freeCtr := rfl
theorem port_setPort (v : Port) (h : v ≠ default) : (c.setPort k v).port k = v := Tbl.look_put_new _ _ _ h
@[simp] theorem port_setPort_ne (v : Port) {m : Nat} (h : m ≠ k) : (c.setPort k v).port m = c.port m := Tbl.look_put_ne _ _ h

@[simp] theorem setVcs_ft (v : Vcs) : (c.setVcs k v).ft = c.ft := rfl
@[simp] theorem setVcs_sw (v : Vcs) : (c.setVcs k v).sw = c.sw := rfl
@[simp] theorem setVcs_sched (v : Vcs) : (c.setVcs k v).sched = c.sched := rfl
@[simp] theorem setVcs_home (v : Vcs) : (c.setVcs k v).home = c.home := rfl
@[simp] theorem setVcs_pool (v : Vcs) : (c.setVcs k v).pool = c.pool := rfl
@[simp] theorem setVcs_hbm (v : Vcs) : (c.setVcs k v).hbm = c.hbm := rfl
@[simp] theorem setVcs_stv (v : Vcs) : (c.setVcs k v).stv = c.stv := rfl
@[simp] theorem setVcs_lanes (v : Vcs) : (c.setVcs k v).lanes = c.lanes := rfl
@[simp] theorem setVcs_ten (v : Vcs) : (c.setVcs k v).ten = c.ten := rfl
@[simp] theorem setVcs_rings (v : Vcs) : (c.setVcs k v).rings = c.rings := rfl
@[simp] theorem setVcs_grp (v : Vcs) : (c.setVcs k v).grp = c.grp := rfl
@[simp] theorem setVcs_mov (v : Vcs) : (c.setVcs k v).mov = c.mov := rfl
@[simp] theorem setVcs_flt (v : Vcs) : (c.setVcs k v).flt = c.flt := rfl
@[simp] theorem setVcs_bb (v : Vcs) : (c.setVcs k v).bb = c.bb := rfl
@[simp] theorem setVcs_test (v : Vcs) : (c.setVcs k v).test = c.test := rfl
@[simp] theorem setVcs_slot (v : Vcs) : (c.setVcs k v).slot = c.slot := rfl
@[simp] theorem setVcs_pow (v : Vcs) : (c.setVcs k v).pow = c.pow := rfl
@[simp] theorem setVcs_ctr (v : Vcs) : (c.setVcs k v).ctr = c.ctr := rfl
@[simp] theorem setVcs_sec (v : Vcs) : (c.setVcs k v).sec = c.sec := rfl
@[simp] theorem setVcs_rst (v : Vcs) : (c.setVcs k v).rst = c.rst := rfl
@[simp] theorem setVcs_regs (v : Vcs) : (c.setVcs k v).regs = c.regs := rfl
@[simp] theorem setVcs_sent (v : Vcs) : (c.setVcs k v).sent = c.sent := rfl
@[simp] theorem setVcs_freeCtr (v : Vcs) : (c.setVcs k v).freeCtr = c.freeCtr := rfl
theorem vcsOf_setVcs (v : Vcs) (h : v ≠ default) : (c.setVcs k v).vcsOf k = v := Tbl.look_put_new _ _ _ h
@[simp] theorem vcsOf_setVcs_ne (v : Vcs) {m : Nat} (h : m ≠ k) : (c.setVcs k v).vcsOf m = c.vcsOf m := Tbl.look_put_ne _ _ h

@[simp] theorem setPIn_ft (v : PerstIn) : (c.setPIn k v).ft = c.ft := rfl
@[simp] theorem setPIn_sw (v : PerstIn) : (c.setPIn k v).sw = c.sw := rfl
@[simp] theorem setPIn_sched (v : PerstIn) : (c.setPIn k v).sched = c.sched := rfl
@[simp] theorem setPIn_home (v : PerstIn) : (c.setPIn k v).home = c.home := rfl
@[simp] theorem setPIn_pool (v : PerstIn) : (c.setPIn k v).pool = c.pool := rfl
@[simp] theorem setPIn_hbm (v : PerstIn) : (c.setPIn k v).hbm = c.hbm := rfl
@[simp] theorem setPIn_stv (v : PerstIn) : (c.setPIn k v).stv = c.stv := rfl
@[simp] theorem setPIn_lanes (v : PerstIn) : (c.setPIn k v).lanes = c.lanes := rfl
@[simp] theorem setPIn_ten (v : PerstIn) : (c.setPIn k v).ten = c.ten := rfl
@[simp] theorem setPIn_rings (v : PerstIn) : (c.setPIn k v).rings = c.rings := rfl
@[simp] theorem setPIn_grp (v : PerstIn) : (c.setPIn k v).grp = c.grp := rfl
@[simp] theorem setPIn_mov (v : PerstIn) : (c.setPIn k v).mov = c.mov := rfl
@[simp] theorem setPIn_flt (v : PerstIn) : (c.setPIn k v).flt = c.flt := rfl
@[simp] theorem setPIn_bb (v : PerstIn) : (c.setPIn k v).bb = c.bb := rfl
@[simp] theorem setPIn_test (v : PerstIn) : (c.setPIn k v).test = c.test := rfl
@[simp] theorem setPIn_slot (v : PerstIn) : (c.setPIn k v).slot = c.slot := rfl
@[simp] theorem setPIn_pow (v : PerstIn) : (c.setPIn k v).pow = c.pow := rfl
@[simp] theorem setPIn_ctr (v : PerstIn) : (c.setPIn k v).ctr = c.ctr := rfl
@[simp] theorem setPIn_sec (v : PerstIn) : (c.setPIn k v).sec = c.sec := rfl
@[simp] theorem setPIn_rst (v : PerstIn) : (c.setPIn k v).rst = c.rst := rfl
@[simp] theorem setPIn_regs (v : PerstIn) : (c.setPIn k v).regs = c.regs := rfl
@[simp] theorem setPIn_sent (v : PerstIn) : (c.setPIn k v).sent = c.sent := rfl
@[simp] theorem setPIn_freeCtr (v : PerstIn) : (c.setPIn k v).freeCtr = c.freeCtr := rfl
theorem pIn_setPIn (v : PerstIn) (h : v ≠ default) : (c.setPIn k v).pIn k = v := Tbl.look_put_new _ _ _ h
@[simp] theorem pIn_setPIn_ne (v : PerstIn) {m : Nat} (h : m ≠ k) : (c.setPIn k v).pIn m = c.pIn m := Tbl.look_put_ne _ _ h

@[simp] theorem setPOut_ft (v : PerstOut) : (c.setPOut k v).ft = c.ft := rfl
@[simp] theorem setPOut_sw (v : PerstOut) : (c.setPOut k v).sw = c.sw := rfl
@[simp] theorem setPOut_sched (v : PerstOut) : (c.setPOut k v).sched = c.sched := rfl
@[simp] theorem setPOut_home (v : PerstOut) : (c.setPOut k v).home = c.home := rfl
@[simp] theorem setPOut_pool (v : PerstOut) : (c.setPOut k v).pool = c.pool := rfl
@[simp] theorem setPOut_hbm (v : PerstOut) : (c.setPOut k v).hbm = c.hbm := rfl
@[simp] theorem setPOut_stv (v : PerstOut) : (c.setPOut k v).stv = c.stv := rfl
@[simp] theorem setPOut_lanes (v : PerstOut) : (c.setPOut k v).lanes = c.lanes := rfl
@[simp] theorem setPOut_ten (v : PerstOut) : (c.setPOut k v).ten = c.ten := rfl
@[simp] theorem setPOut_rings (v : PerstOut) : (c.setPOut k v).rings = c.rings := rfl
@[simp] theorem setPOut_grp (v : PerstOut) : (c.setPOut k v).grp = c.grp := rfl
@[simp] theorem setPOut_mov (v : PerstOut) : (c.setPOut k v).mov = c.mov := rfl
@[simp] theorem setPOut_flt (v : PerstOut) : (c.setPOut k v).flt = c.flt := rfl
@[simp] theorem setPOut_bb (v : PerstOut) : (c.setPOut k v).bb = c.bb := rfl
@[simp] theorem setPOut_test (v : PerstOut) : (c.setPOut k v).test = c.test := rfl
@[simp] theorem setPOut_slot (v : PerstOut) : (c.setPOut k v).slot = c.slot := rfl
@[simp] theorem setPOut_pow (v : PerstOut) : (c.setPOut k v).pow = c.pow := rfl
@[simp] theorem setPOut_ctr (v : PerstOut) : (c.setPOut k v).ctr = c.ctr := rfl
@[simp] theorem setPOut_sec (v : PerstOut) : (c.setPOut k v).sec = c.sec := rfl
@[simp] theorem setPOut_rst (v : PerstOut) : (c.setPOut k v).rst = c.rst := rfl
@[simp] theorem setPOut_regs (v : PerstOut) : (c.setPOut k v).regs = c.regs := rfl
@[simp] theorem setPOut_sent (v : PerstOut) : (c.setPOut k v).sent = c.sent := rfl
@[simp] theorem setPOut_freeCtr (v : PerstOut) : (c.setPOut k v).freeCtr = c.freeCtr := rfl
theorem pOut_setPOut (v : PerstOut) (h : v ≠ default) : (c.setPOut k v).pOut k = v := Tbl.look_put_new _ _ _ h
@[simp] theorem pOut_setPOut_ne (v : PerstOut) {m : Nat} (h : m ≠ k) : (c.setPOut k v).pOut m = c.pOut m := Tbl.look_put_ne _ _ h

@[simp] theorem setLane_ft (v : Lane) : (c.setLane k v).ft = c.ft := rfl
@[simp] theorem setLane_sw (v : Lane) : (c.setLane k v).sw = c.sw := rfl
@[simp] theorem setLane_sched (v : Lane) : (c.setLane k v).sched = c.sched := rfl
@[simp] theorem setLane_home (v : Lane) : (c.setLane k v).home = c.home := rfl
@[simp] theorem setLane_pool (v : Lane) : (c.setLane k v).pool = c.pool := rfl
@[simp] theorem setLane_hbm (v : Lane) : (c.setLane k v).hbm = c.hbm := rfl
@[simp] theorem setLane_stv (v : Lane) : (c.setLane k v).stv = c.stv := rfl
@[simp] theorem setLane_ports (v : Lane) : (c.setLane k v).ports = c.ports := rfl
@[simp] theorem setLane_ten (v : Lane) : (c.setLane k v).ten = c.ten := rfl
@[simp] theorem setLane_rings (v : Lane) : (c.setLane k v).rings = c.rings := rfl
@[simp] theorem setLane_grp (v : Lane) : (c.setLane k v).grp = c.grp := rfl
@[simp] theorem setLane_mov (v : Lane) : (c.setLane k v).mov = c.mov := rfl
@[simp] theorem setLane_flt (v : Lane) : (c.setLane k v).flt = c.flt := rfl
@[simp] theorem setLane_bb (v : Lane) : (c.setLane k v).bb = c.bb := rfl
@[simp] theorem setLane_test (v : Lane) : (c.setLane k v).test = c.test := rfl
@[simp] theorem setLane_slot (v : Lane) : (c.setLane k v).slot = c.slot := rfl
@[simp] theorem setLane_pow (v : Lane) : (c.setLane k v).pow = c.pow := rfl
@[simp] theorem setLane_ctr (v : Lane) : (c.setLane k v).ctr = c.ctr := rfl
@[simp] theorem setLane_sec (v : Lane) : (c.setLane k v).sec = c.sec := rfl
@[simp] theorem setLane_rst (v : Lane) : (c.setLane k v).rst = c.rst := rfl
@[simp] theorem setLane_regs (v : Lane) : (c.setLane k v).regs = c.regs := rfl
@[simp] theorem setLane_sent (v : Lane) : (c.setLane k v).sent = c.sent := rfl
@[simp] theorem setLane_freeCtr (v : Lane) : (c.setLane k v).freeCtr = c.freeCtr := rfl
theorem lane_setLane (v : Lane) (h : v ≠ default) : (c.setLane k v).lane k = v := Tbl.look_put_new _ _ _ h
@[simp] theorem lane_setLane_ne (v : Lane) {m : Nat} (h : m ≠ k) : (c.setLane k v).lane m = c.lane m := Tbl.look_put_ne _ _ h

@[simp] theorem setCourse_ft (v : Course) : (c.setCourse k v).ft = c.ft := rfl
@[simp] theorem setCourse_sw (v : Course) : (c.setCourse k v).sw = c.sw := rfl
@[simp] theorem setCourse_sched (v : Course) : (c.setCourse k v).sched = c.sched := rfl
@[simp] theorem setCourse_home (v : Course) : (c.setCourse k v).home = c.home := rfl
@[simp] theorem setCourse_pool (v : Course) : (c.setCourse k v).pool = c.pool := rfl
@[simp] theorem setCourse_hbm (v : Course) : (c.setCourse k v).hbm = c.hbm := rfl
@[simp] theorem setCourse_stv (v : Course) : (c.setCourse k v).stv = c.stv := rfl
@[simp] theorem setCourse_ports (v : Course) : (c.setCourse k v).ports = c.ports := rfl
@[simp] theorem setCourse_ten (v : Course) : (c.setCourse k v).ten = c.ten := rfl
@[simp] theorem setCourse_rings (v : Course) : (c.setCourse k v).rings = c.rings := rfl
@[simp] theorem setCourse_grp (v : Course) : (c.setCourse k v).grp = c.grp := rfl
@[simp] theorem setCourse_mov (v : Course) : (c.setCourse k v).mov = c.mov := rfl
@[simp] theorem setCourse_flt (v : Course) : (c.setCourse k v).flt = c.flt := rfl
@[simp] theorem setCourse_bb (v : Course) : (c.setCourse k v).bb = c.bb := rfl
@[simp] theorem setCourse_test (v : Course) : (c.setCourse k v).test = c.test := rfl
@[simp] theorem setCourse_slot (v : Course) : (c.setCourse k v).slot = c.slot := rfl
@[simp] theorem setCourse_pow (v : Course) : (c.setCourse k v).pow = c.pow := rfl
@[simp] theorem setCourse_ctr (v : Course) : (c.setCourse k v).ctr = c.ctr := rfl
@[simp] theorem setCourse_sec (v : Course) : (c.setCourse k v).sec = c.sec := rfl
@[simp] theorem setCourse_rst (v : Course) : (c.setCourse k v).rst = c.rst := rfl
@[simp] theorem setCourse_regs (v : Course) : (c.setCourse k v).regs = c.regs := rfl
@[simp] theorem setCourse_sent (v : Course) : (c.setCourse k v).sent = c.sent := rfl
@[simp] theorem setCourse_freeCtr (v : Course) : (c.setCourse k v).freeCtr = c.freeCtr := rfl
theorem course_setCourse (v : Course) (h : v ≠ default) : (c.setCourse k v).course k = v := Tbl.look_put_new _ _ _ h
@[simp] theorem course_setCourse_ne (v : Course) {m : Nat} (h : m ≠ k) : (c.setCourse k v).course m = c.course m := Tbl.look_put_ne _ _ h

@[simp] theorem setLink_ft (v : StvLink) : (c.setLink k v).ft = c.ft := rfl
@[simp] theorem setLink_sw (v : StvLink) : (c.setLink k v).sw = c.sw := rfl
@[simp] theorem setLink_sched (v : StvLink) : (c.setLink k v).sched = c.sched := rfl
@[simp] theorem setLink_home (v : StvLink) : (c.setLink k v).home = c.home := rfl
@[simp] theorem setLink_pool (v : StvLink) : (c.setLink k v).pool = c.pool := rfl
@[simp] theorem setLink_hbm (v : StvLink) : (c.setLink k v).hbm = c.hbm := rfl
@[simp] theorem setLink_ports (v : StvLink) : (c.setLink k v).ports = c.ports := rfl
@[simp] theorem setLink_lanes (v : StvLink) : (c.setLink k v).lanes = c.lanes := rfl
@[simp] theorem setLink_ten (v : StvLink) : (c.setLink k v).ten = c.ten := rfl
@[simp] theorem setLink_rings (v : StvLink) : (c.setLink k v).rings = c.rings := rfl
@[simp] theorem setLink_grp (v : StvLink) : (c.setLink k v).grp = c.grp := rfl
@[simp] theorem setLink_mov (v : StvLink) : (c.setLink k v).mov = c.mov := rfl
@[simp] theorem setLink_flt (v : StvLink) : (c.setLink k v).flt = c.flt := rfl
@[simp] theorem setLink_bb (v : StvLink) : (c.setLink k v).bb = c.bb := rfl
@[simp] theorem setLink_test (v : StvLink) : (c.setLink k v).test = c.test := rfl
@[simp] theorem setLink_slot (v : StvLink) : (c.setLink k v).slot = c.slot := rfl
@[simp] theorem setLink_pow (v : StvLink) : (c.setLink k v).pow = c.pow := rfl
@[simp] theorem setLink_ctr (v : StvLink) : (c.setLink k v).ctr = c.ctr := rfl
@[simp] theorem setLink_sec (v : StvLink) : (c.setLink k v).sec = c.sec := rfl
@[simp] theorem setLink_rst (v : StvLink) : (c.setLink k v).rst = c.rst := rfl
@[simp] theorem setLink_regs (v : StvLink) : (c.setLink k v).regs = c.regs := rfl
@[simp] theorem setLink_sent (v : StvLink) : (c.setLink k v).sent = c.sent := rfl
@[simp] theorem setLink_freeCtr (v : StvLink) : (c.setLink k v).freeCtr = c.freeCtr := rfl
theorem link_setLink (v : StvLink) (h : v ≠ default) : (c.setLink k v).link k = v := Tbl.look_put_new _ _ _ h
@[simp] theorem link_setLink_ne (v : StvLink) {m : Nat} (h : m ≠ k) : (c.setLink k v).link m = c.link m := Tbl.look_put_ne _ _ h

@[simp] theorem setTenant_ft (v : Tenant) : (c.setTenant k v).ft = c.ft := rfl
@[simp] theorem setTenant_sw (v : Tenant) : (c.setTenant k v).sw = c.sw := rfl
@[simp] theorem setTenant_sched (v : Tenant) : (c.setTenant k v).sched = c.sched := rfl
@[simp] theorem setTenant_home (v : Tenant) : (c.setTenant k v).home = c.home := rfl
@[simp] theorem setTenant_pool (v : Tenant) : (c.setTenant k v).pool = c.pool := rfl
@[simp] theorem setTenant_hbm (v : Tenant) : (c.setTenant k v).hbm = c.hbm := rfl
@[simp] theorem setTenant_stv (v : Tenant) : (c.setTenant k v).stv = c.stv := rfl
@[simp] theorem setTenant_ports (v : Tenant) : (c.setTenant k v).ports = c.ports := rfl
@[simp] theorem setTenant_lanes (v : Tenant) : (c.setTenant k v).lanes = c.lanes := rfl
@[simp] theorem setTenant_rings (v : Tenant) : (c.setTenant k v).rings = c.rings := rfl
@[simp] theorem setTenant_grp (v : Tenant) : (c.setTenant k v).grp = c.grp := rfl
@[simp] theorem setTenant_mov (v : Tenant) : (c.setTenant k v).mov = c.mov := rfl
@[simp] theorem setTenant_flt (v : Tenant) : (c.setTenant k v).flt = c.flt := rfl
@[simp] theorem setTenant_bb (v : Tenant) : (c.setTenant k v).bb = c.bb := rfl
@[simp] theorem setTenant_test (v : Tenant) : (c.setTenant k v).test = c.test := rfl
@[simp] theorem setTenant_slot (v : Tenant) : (c.setTenant k v).slot = c.slot := rfl
@[simp] theorem setTenant_pow (v : Tenant) : (c.setTenant k v).pow = c.pow := rfl
@[simp] theorem setTenant_ctr (v : Tenant) : (c.setTenant k v).ctr = c.ctr := rfl
@[simp] theorem setTenant_sec (v : Tenant) : (c.setTenant k v).sec = c.sec := rfl
@[simp] theorem setTenant_rst (v : Tenant) : (c.setTenant k v).rst = c.rst := rfl
@[simp] theorem setTenant_regs (v : Tenant) : (c.setTenant k v).regs = c.regs := rfl
@[simp] theorem setTenant_sent (v : Tenant) : (c.setTenant k v).sent = c.sent := rfl
@[simp] theorem setTenant_freeCtr (v : Tenant) : (c.setTenant k v).freeCtr = c.freeCtr := rfl

@[simp] theorem setRing_ft (v : Ring) : (c.setRing k v).ft = c.ft := rfl
@[simp] theorem setRing_sw (v : Ring) : (c.setRing k v).sw = c.sw := rfl
@[simp] theorem setRing_sched (v : Ring) : (c.setRing k v).sched = c.sched := rfl
@[simp] theorem setRing_home (v : Ring) : (c.setRing k v).home = c.home := rfl
@[simp] theorem setRing_pool (v : Ring) : (c.setRing k v).pool = c.pool := rfl
@[simp] theorem setRing_hbm (v : Ring) : (c.setRing k v).hbm = c.hbm := rfl
@[simp] theorem setRing_stv (v : Ring) : (c.setRing k v).stv = c.stv := rfl
@[simp] theorem setRing_ports (v : Ring) : (c.setRing k v).ports = c.ports := rfl
@[simp] theorem setRing_lanes (v : Ring) : (c.setRing k v).lanes = c.lanes := rfl
@[simp] theorem setRing_ten (v : Ring) : (c.setRing k v).ten = c.ten := rfl
@[simp] theorem setRing_grp (v : Ring) : (c.setRing k v).grp = c.grp := rfl
@[simp] theorem setRing_mov (v : Ring) : (c.setRing k v).mov = c.mov := rfl
@[simp] theorem setRing_flt (v : Ring) : (c.setRing k v).flt = c.flt := rfl
@[simp] theorem setRing_bb (v : Ring) : (c.setRing k v).bb = c.bb := rfl
@[simp] theorem setRing_test (v : Ring) : (c.setRing k v).test = c.test := rfl
@[simp] theorem setRing_slot (v : Ring) : (c.setRing k v).slot = c.slot := rfl
@[simp] theorem setRing_pow (v : Ring) : (c.setRing k v).pow = c.pow := rfl
@[simp] theorem setRing_ctr (v : Ring) : (c.setRing k v).ctr = c.ctr := rfl
@[simp] theorem setRing_sec (v : Ring) : (c.setRing k v).sec = c.sec := rfl
@[simp] theorem setRing_rst (v : Ring) : (c.setRing k v).rst = c.rst := rfl
@[simp] theorem setRing_regs (v : Ring) : (c.setRing k v).regs = c.regs := rfl
@[simp] theorem setRing_sent (v : Ring) : (c.setRing k v).sent = c.sent := rfl
@[simp] theorem setRing_freeCtr (v : Ring) : (c.setRing k v).freeCtr = c.freeCtr := rfl
theorem ring_setRing (v : Ring) (h : v ≠ default) : (c.setRing k v).ring k = v := Tbl.look_put_new _ _ _ h
@[simp] theorem ring_setRing_ne (v : Ring) {m : Nat} (h : m ≠ k) : (c.setRing k v).ring m = c.ring m := Tbl.look_put_ne _ _ h

@[simp] theorem setGroup_ft (v : Group) : (c.setGroup k v).ft = c.ft := rfl
@[simp] theorem setGroup_sw (v : Group) : (c.setGroup k v).sw = c.sw := rfl
@[simp] theorem setGroup_sched (v : Group) : (c.setGroup k v).sched = c.sched := rfl
@[simp] theorem setGroup_home (v : Group) : (c.setGroup k v).home = c.home := rfl
@[simp] theorem setGroup_pool (v : Group) : (c.setGroup k v).pool = c.pool := rfl
@[simp] theorem setGroup_hbm (v : Group) : (c.setGroup k v).hbm = c.hbm := rfl
@[simp] theorem setGroup_stv (v : Group) : (c.setGroup k v).stv = c.stv := rfl
@[simp] theorem setGroup_ports (v : Group) : (c.setGroup k v).ports = c.ports := rfl
@[simp] theorem setGroup_lanes (v : Group) : (c.setGroup k v).lanes = c.lanes := rfl
@[simp] theorem setGroup_ten (v : Group) : (c.setGroup k v).ten = c.ten := rfl
@[simp] theorem setGroup_rings (v : Group) : (c.setGroup k v).rings = c.rings := rfl
@[simp] theorem setGroup_mov (v : Group) : (c.setGroup k v).mov = c.mov := rfl
@[simp] theorem setGroup_flt (v : Group) : (c.setGroup k v).flt = c.flt := rfl
@[simp] theorem setGroup_bb (v : Group) : (c.setGroup k v).bb = c.bb := rfl
@[simp] theorem setGroup_test (v : Group) : (c.setGroup k v).test = c.test := rfl
@[simp] theorem setGroup_slot (v : Group) : (c.setGroup k v).slot = c.slot := rfl
@[simp] theorem setGroup_pow (v : Group) : (c.setGroup k v).pow = c.pow := rfl
@[simp] theorem setGroup_ctr (v : Group) : (c.setGroup k v).ctr = c.ctr := rfl
@[simp] theorem setGroup_sec (v : Group) : (c.setGroup k v).sec = c.sec := rfl
@[simp] theorem setGroup_rst (v : Group) : (c.setGroup k v).rst = c.rst := rfl
@[simp] theorem setGroup_regs (v : Group) : (c.setGroup k v).regs = c.regs := rfl
@[simp] theorem setGroup_sent (v : Group) : (c.setGroup k v).sent = c.sent := rfl
@[simp] theorem setGroup_freeCtr (v : Group) : (c.setGroup k v).freeCtr = c.freeCtr := rfl
theorem group_setGroup (v : Group) (h : v ≠ default) : (c.setGroup k v).group k = v := Tbl.look_put_new _ _ _ h
@[simp] theorem group_setGroup_ne (v : Group) {m : Nat} (h : m ≠ k) : (c.setGroup k v).group m = c.group m := Tbl.look_put_ne _ _ h

@[simp] theorem setWindow_ft (v : Window) : (c.setWindow k v).ft = c.ft := rfl
@[simp] theorem setWindow_sw (v : Window) : (c.setWindow k v).sw = c.sw := rfl
@[simp] theorem setWindow_sched (v : Window) : (c.setWindow k v).sched = c.sched := rfl
@[simp] theorem setWindow_home (v : Window) : (c.setWindow k v).home = c.home := rfl
@[simp] theorem setWindow_hbm (v : Window) : (c.setWindow k v).hbm = c.hbm := rfl
@[simp] theorem setWindow_stv (v : Window) : (c.setWindow k v).stv = c.stv := rfl
@[simp] theorem setWindow_ports (v : Window) : (c.setWindow k v).ports = c.ports := rfl
@[simp] theorem setWindow_lanes (v : Window) : (c.setWindow k v).lanes = c.lanes := rfl
@[simp] theorem setWindow_ten (v : Window) : (c.setWindow k v).ten = c.ten := rfl
@[simp] theorem setWindow_rings (v : Window) : (c.setWindow k v).rings = c.rings := rfl
@[simp] theorem setWindow_grp (v : Window) : (c.setWindow k v).grp = c.grp := rfl
@[simp] theorem setWindow_mov (v : Window) : (c.setWindow k v).mov = c.mov := rfl
@[simp] theorem setWindow_flt (v : Window) : (c.setWindow k v).flt = c.flt := rfl
@[simp] theorem setWindow_bb (v : Window) : (c.setWindow k v).bb = c.bb := rfl
@[simp] theorem setWindow_test (v : Window) : (c.setWindow k v).test = c.test := rfl
@[simp] theorem setWindow_slot (v : Window) : (c.setWindow k v).slot = c.slot := rfl
@[simp] theorem setWindow_pow (v : Window) : (c.setWindow k v).pow = c.pow := rfl
@[simp] theorem setWindow_ctr (v : Window) : (c.setWindow k v).ctr = c.ctr := rfl
@[simp] theorem setWindow_sec (v : Window) : (c.setWindow k v).sec = c.sec := rfl
@[simp] theorem setWindow_rst (v : Window) : (c.setWindow k v).rst = c.rst := rfl
@[simp] theorem setWindow_regs (v : Window) : (c.setWindow k v).regs = c.regs := rfl
@[simp] theorem setWindow_sent (v : Window) : (c.setWindow k v).sent = c.sent := rfl
@[simp] theorem setWindow_freeCtr (v : Window) : (c.setWindow k v).freeCtr = c.freeCtr := rfl
theorem window_setWindow (v : Window) (h : v ≠ default) : (c.setWindow k v).window k = v := Tbl.look_put_new _ _ _ h
@[simp] theorem window_setWindow_ne (v : Window) {m : Nat} (h : m ≠ k) : (c.setWindow k v).window m = c.window m := Tbl.look_put_ne _ _ h

@[simp] theorem setDev_ft (v : Device) : (c.setDev k v).ft = c.ft := rfl
@[simp] theorem setDev_sw (v : Device) : (c.setDev k v).sw = c.sw := rfl
@[simp] theorem setDev_sched (v : Device) : (c.setDev k v).sched = c.sched := rfl
@[simp] theorem setDev_home (v : Device) : (c.setDev k v).home = c.home := rfl
@[simp] theorem setDev_hbm (v : Device) : (c.setDev k v).hbm = c.hbm := rfl
@[simp] theorem setDev_stv (v : Device) : (c.setDev k v).stv = c.stv := rfl
@[simp] theorem setDev_ports (v : Device) : (c.setDev k v).ports = c.ports := rfl
@[simp] theorem setDev_lanes (v : Device) : (c.setDev k v).lanes = c.lanes := rfl
@[simp] theorem setDev_ten (v : Device) : (c.setDev k v).ten = c.ten := rfl
@[simp] theorem setDev_rings (v : Device) : (c.setDev k v).rings = c.rings := rfl
@[simp] theorem setDev_grp (v : Device) : (c.setDev k v).grp = c.grp := rfl
@[simp] theorem setDev_mov (v : Device) : (c.setDev k v).mov = c.mov := rfl
@[simp] theorem setDev_flt (v : Device) : (c.setDev k v).flt = c.flt := rfl
@[simp] theorem setDev_bb (v : Device) : (c.setDev k v).bb = c.bb := rfl
@[simp] theorem setDev_test (v : Device) : (c.setDev k v).test = c.test := rfl
@[simp] theorem setDev_slot (v : Device) : (c.setDev k v).slot = c.slot := rfl
@[simp] theorem setDev_pow (v : Device) : (c.setDev k v).pow = c.pow := rfl
@[simp] theorem setDev_ctr (v : Device) : (c.setDev k v).ctr = c.ctr := rfl
@[simp] theorem setDev_sec (v : Device) : (c.setDev k v).sec = c.sec := rfl
@[simp] theorem setDev_rst (v : Device) : (c.setDev k v).rst = c.rst := rfl
@[simp] theorem setDev_regs (v : Device) : (c.setDev k v).regs = c.regs := rfl
@[simp] theorem setDev_sent (v : Device) : (c.setDev k v).sent = c.sent := rfl
@[simp] theorem setDev_freeCtr (v : Device) : (c.setDev k v).freeCtr = c.freeCtr := rfl
theorem dev_setDev (v : Device) (h : v ≠ default) : (c.setDev k v).dev k = v := Tbl.look_put_new _ _ _ h
@[simp] theorem dev_setDev_ne (v : Device) {m : Nat} (h : m ≠ k) : (c.setDev k v).dev m = c.dev m := Tbl.look_put_ne _ _ h

@[simp] theorem setDomain_ft (v : Domain) : (c.setDomain k v).ft = c.ft := rfl
@[simp] theorem setDomain_sw (v : Domain) : (c.setDomain k v).sw = c.sw := rfl
@[simp] theorem setDomain_sched (v : Domain) : (c.setDomain k v).sched = c.sched := rfl
@[simp] theorem setDomain_pool (v : Domain) : (c.setDomain k v).pool = c.pool := rfl
@[simp] theorem setDomain_hbm (v : Domain) : (c.setDomain k v).hbm = c.hbm := rfl
@[simp] theorem setDomain_stv (v : Domain) : (c.setDomain k v).stv = c.stv := rfl
@[simp] theorem setDomain_ports (v : Domain) : (c.setDomain k v).ports = c.ports := rfl
@[simp] theorem setDomain_lanes (v : Domain) : (c.setDomain k v).lanes = c.lanes := rfl
@[simp] theorem setDomain_ten (v : Domain) : (c.setDomain k v).ten = c.ten := rfl
@[simp] theorem setDomain_rings (v : Domain) : (c.setDomain k v).rings = c.rings := rfl
@[simp] theorem setDomain_grp (v : Domain) : (c.setDomain k v).grp = c.grp := rfl
@[simp] theorem setDomain_mov (v : Domain) : (c.setDomain k v).mov = c.mov := rfl
@[simp] theorem setDomain_flt (v : Domain) : (c.setDomain k v).flt = c.flt := rfl
@[simp] theorem setDomain_bb (v : Domain) : (c.setDomain k v).bb = c.bb := rfl
@[simp] theorem setDomain_test (v : Domain) : (c.setDomain k v).test = c.test := rfl
@[simp] theorem setDomain_slot (v : Domain) : (c.setDomain k v).slot = c.slot := rfl
@[simp] theorem setDomain_pow (v : Domain) : (c.setDomain k v).pow = c.pow := rfl
@[simp] theorem setDomain_ctr (v : Domain) : (c.setDomain k v).ctr = c.ctr := rfl
@[simp] theorem setDomain_sec (v : Domain) : (c.setDomain k v).sec = c.sec := rfl
@[simp] theorem setDomain_rst (v : Domain) : (c.setDomain k v).rst = c.rst := rfl
@[simp] theorem setDomain_regs (v : Domain) : (c.setDomain k v).regs = c.regs := rfl
@[simp] theorem setDomain_sent (v : Domain) : (c.setDomain k v).sent = c.sent := rfl
@[simp] theorem setDomain_freeCtr (v : Domain) : (c.setDomain k v).freeCtr = c.freeCtr := rfl
theorem domain_setDomain (v : Domain) (h : v ≠ default) : (c.setDomain k v).domain k = v := Tbl.look_put_new _ _ _ h
@[simp] theorem domain_setDomain_ne (v : Domain) {m : Nat} (h : m ≠ k) : (c.setDomain k v).domain m = c.domain m := Tbl.look_put_ne _ _ h

@[simp] theorem setLine_ft (v : LineRec) : (c.setLine k v).ft = c.ft := rfl
@[simp] theorem setLine_sw (v : LineRec) : (c.setLine k v).sw = c.sw := rfl
@[simp] theorem setLine_sched (v : LineRec) : (c.setLine k v).sched = c.sched := rfl
@[simp] theorem setLine_pool (v : LineRec) : (c.setLine k v).pool = c.pool := rfl
@[simp] theorem setLine_hbm (v : LineRec) : (c.setLine k v).hbm = c.hbm := rfl
@[simp] theorem setLine_stv (v : LineRec) : (c.setLine k v).stv = c.stv := rfl
@[simp] theorem setLine_ports (v : LineRec) : (c.setLine k v).ports = c.ports := rfl
@[simp] theorem setLine_lanes (v : LineRec) : (c.setLine k v).lanes = c.lanes := rfl
@[simp] theorem setLine_ten (v : LineRec) : (c.setLine k v).ten = c.ten := rfl
@[simp] theorem setLine_rings (v : LineRec) : (c.setLine k v).rings = c.rings := rfl
@[simp] theorem setLine_grp (v : LineRec) : (c.setLine k v).grp = c.grp := rfl
@[simp] theorem setLine_mov (v : LineRec) : (c.setLine k v).mov = c.mov := rfl
@[simp] theorem setLine_flt (v : LineRec) : (c.setLine k v).flt = c.flt := rfl
@[simp] theorem setLine_bb (v : LineRec) : (c.setLine k v).bb = c.bb := rfl
@[simp] theorem setLine_test (v : LineRec) : (c.setLine k v).test = c.test := rfl
@[simp] theorem setLine_slot (v : LineRec) : (c.setLine k v).slot = c.slot := rfl
@[simp] theorem setLine_pow (v : LineRec) : (c.setLine k v).pow = c.pow := rfl
@[simp] theorem setLine_ctr (v : LineRec) : (c.setLine k v).ctr = c.ctr := rfl
@[simp] theorem setLine_sec (v : LineRec) : (c.setLine k v).sec = c.sec := rfl
@[simp] theorem setLine_rst (v : LineRec) : (c.setLine k v).rst = c.rst := rfl
@[simp] theorem setLine_regs (v : LineRec) : (c.setLine k v).regs = c.regs := rfl
@[simp] theorem setLine_sent (v : LineRec) : (c.setLine k v).sent = c.sent := rfl
@[simp] theorem setLine_freeCtr (v : LineRec) : (c.setLine k v).freeCtr = c.freeCtr := rfl
theorem line_setLine (v : LineRec) (h : v ≠ default) : (c.setLine k v).line k = v := Tbl.look_put_new _ _ _ h
@[simp] theorem line_setLine_ne (v : LineRec) {m : Nat} (h : m ≠ k) : (c.setLine k v).line m = c.line m := Tbl.look_put_ne _ _ h

@[simp] theorem setTracker_ft (v : Option Tracker) : (c.setTracker k v).ft = c.ft := rfl
@[simp] theorem setTracker_sw (v : Option Tracker) : (c.setTracker k v).sw = c.sw := rfl
@[simp] theorem setTracker_sched (v : Option Tracker) : (c.setTracker k v).sched = c.sched := rfl
@[simp] theorem setTracker_pool (v : Option Tracker) : (c.setTracker k v).pool = c.pool := rfl
@[simp] theorem setTracker_hbm (v : Option Tracker) : (c.setTracker k v).hbm = c.hbm := rfl
@[simp] theorem setTracker_stv (v : Option Tracker) : (c.setTracker k v).stv = c.stv := rfl
@[simp] theorem setTracker_ports (v : Option Tracker) : (c.setTracker k v).ports = c.ports := rfl
@[simp] theorem setTracker_lanes (v : Option Tracker) : (c.setTracker k v).lanes = c.lanes := rfl
@[simp] theorem setTracker_ten (v : Option Tracker) : (c.setTracker k v).ten = c.ten := rfl
@[simp] theorem setTracker_rings (v : Option Tracker) : (c.setTracker k v).rings = c.rings := rfl
@[simp] theorem setTracker_grp (v : Option Tracker) : (c.setTracker k v).grp = c.grp := rfl
@[simp] theorem setTracker_mov (v : Option Tracker) : (c.setTracker k v).mov = c.mov := rfl
@[simp] theorem setTracker_flt (v : Option Tracker) : (c.setTracker k v).flt = c.flt := rfl
@[simp] theorem setTracker_bb (v : Option Tracker) : (c.setTracker k v).bb = c.bb := rfl
@[simp] theorem setTracker_test (v : Option Tracker) : (c.setTracker k v).test = c.test := rfl
@[simp] theorem setTracker_slot (v : Option Tracker) : (c.setTracker k v).slot = c.slot := rfl
@[simp] theorem setTracker_pow (v : Option Tracker) : (c.setTracker k v).pow = c.pow := rfl
@[simp] theorem setTracker_ctr (v : Option Tracker) : (c.setTracker k v).ctr = c.ctr := rfl
@[simp] theorem setTracker_sec (v : Option Tracker) : (c.setTracker k v).sec = c.sec := rfl
@[simp] theorem setTracker_rst (v : Option Tracker) : (c.setTracker k v).rst = c.rst := rfl
@[simp] theorem setTracker_regs (v : Option Tracker) : (c.setTracker k v).regs = c.regs := rfl
@[simp] theorem setTracker_sent (v : Option Tracker) : (c.setTracker k v).sent = c.sent := rfl
@[simp] theorem setTracker_freeCtr (v : Option Tracker) : (c.setTracker k v).freeCtr = c.freeCtr := rfl
@[simp] theorem tracker_setTracker_ne (v : Option Tracker) {m : Nat} (h : m ≠ k) : (c.setTracker k v).tracker m = c.tracker m := Tbl.look_put_ne _ _ h

@[simp] theorem setArb_ft (v : Arbiter) : (c.setArb k v).ft = c.ft := rfl
@[simp] theorem setArb_sw (v : Arbiter) : (c.setArb k v).sw = c.sw := rfl
@[simp] theorem setArb_home (v : Arbiter) : (c.setArb k v).home = c.home := rfl
@[simp] theorem setArb_pool (v : Arbiter) : (c.setArb k v).pool = c.pool := rfl
@[simp] theorem setArb_hbm (v : Arbiter) : (c.setArb k v).hbm = c.hbm := rfl
@[simp] theorem setArb_stv (v : Arbiter) : (c.setArb k v).stv = c.stv := rfl
@[simp] theorem setArb_ports (v : Arbiter) : (c.setArb k v).ports = c.ports := rfl
@[simp] theorem setArb_lanes (v : Arbiter) : (c.setArb k v).lanes = c.lanes := rfl
@[simp] theorem setArb_ten (v : Arbiter) : (c.setArb k v).ten = c.ten := rfl
@[simp] theorem setArb_rings (v : Arbiter) : (c.setArb k v).rings = c.rings := rfl
@[simp] theorem setArb_grp (v : Arbiter) : (c.setArb k v).grp = c.grp := rfl
@[simp] theorem setArb_mov (v : Arbiter) : (c.setArb k v).mov = c.mov := rfl
@[simp] theorem setArb_flt (v : Arbiter) : (c.setArb k v).flt = c.flt := rfl
@[simp] theorem setArb_bb (v : Arbiter) : (c.setArb k v).bb = c.bb := rfl
@[simp] theorem setArb_test (v : Arbiter) : (c.setArb k v).test = c.test := rfl
@[simp] theorem setArb_slot (v : Arbiter) : (c.setArb k v).slot = c.slot := rfl
@[simp] theorem setArb_pow (v : Arbiter) : (c.setArb k v).pow = c.pow := rfl
@[simp] theorem setArb_ctr (v : Arbiter) : (c.setArb k v).ctr = c.ctr := rfl
@[simp] theorem setArb_sec (v : Arbiter) : (c.setArb k v).sec = c.sec := rfl
@[simp] theorem setArb_rst (v : Arbiter) : (c.setArb k v).rst = c.rst := rfl
@[simp] theorem setArb_regs (v : Arbiter) : (c.setArb k v).regs = c.regs := rfl
@[simp] theorem setArb_sent (v : Arbiter) : (c.setArb k v).sent = c.sent := rfl
@[simp] theorem setArb_freeCtr (v : Arbiter) : (c.setArb k v).freeCtr = c.freeCtr := rfl
theorem arb_setArb (v : Arbiter) (h : v ≠ default) : (c.setArb k v).arb k = v := Tbl.look_put_new _ _ _ h
@[simp] theorem arb_setArb_ne (v : Arbiter) {m : Nat} (h : m ≠ k) : (c.setArb k v).arb m = c.arb m := Tbl.look_put_ne _ _ h

@[simp] theorem setGate_ft (v : Gate) : (c.setGate k v).ft = c.ft := rfl
@[simp] theorem setGate_sw (v : Gate) : (c.setGate k v).sw = c.sw := rfl
@[simp] theorem setGate_home (v : Gate) : (c.setGate k v).home = c.home := rfl
@[simp] theorem setGate_pool (v : Gate) : (c.setGate k v).pool = c.pool := rfl
@[simp] theorem setGate_hbm (v : Gate) : (c.setGate k v).hbm = c.hbm := rfl
@[simp] theorem setGate_stv (v : Gate) : (c.setGate k v).stv = c.stv := rfl
@[simp] theorem setGate_ports (v : Gate) : (c.setGate k v).ports = c.ports := rfl
@[simp] theorem setGate_lanes (v : Gate) : (c.setGate k v).lanes = c.lanes := rfl
@[simp] theorem setGate_ten (v : Gate) : (c.setGate k v).ten = c.ten := rfl
@[simp] theorem setGate_rings (v : Gate) : (c.setGate k v).rings = c.rings := rfl
@[simp] theorem setGate_grp (v : Gate) : (c.setGate k v).grp = c.grp := rfl
@[simp] theorem setGate_mov (v : Gate) : (c.setGate k v).mov = c.mov := rfl
@[simp] theorem setGate_flt (v : Gate) : (c.setGate k v).flt = c.flt := rfl
@[simp] theorem setGate_bb (v : Gate) : (c.setGate k v).bb = c.bb := rfl
@[simp] theorem setGate_test (v : Gate) : (c.setGate k v).test = c.test := rfl
@[simp] theorem setGate_slot (v : Gate) : (c.setGate k v).slot = c.slot := rfl
@[simp] theorem setGate_pow (v : Gate) : (c.setGate k v).pow = c.pow := rfl
@[simp] theorem setGate_ctr (v : Gate) : (c.setGate k v).ctr = c.ctr := rfl
@[simp] theorem setGate_sec (v : Gate) : (c.setGate k v).sec = c.sec := rfl
@[simp] theorem setGate_rst (v : Gate) : (c.setGate k v).rst = c.rst := rfl
@[simp] theorem setGate_regs (v : Gate) : (c.setGate k v).regs = c.regs := rfl
@[simp] theorem setGate_sent (v : Gate) : (c.setGate k v).sent = c.sent := rfl
@[simp] theorem setGate_freeCtr (v : Gate) : (c.setGate k v).freeCtr = c.freeCtr := rfl
theorem gate_setGate (v : Gate) (h : v ≠ default) : (c.setGate k v).gate k = v := Tbl.look_put_new _ _ _ h
@[simp] theorem gate_setGate_ne (v : Gate) {m : Nat} (h : m ≠ k) : (c.setGate k v).gate m = c.gate m := Tbl.look_put_ne _ _ h

@[simp] theorem setFlow_ft (v : Flow) : (c.setFlow k v).ft = c.ft := rfl
@[simp] theorem setFlow_sw (v : Flow) : (c.setFlow k v).sw = c.sw := rfl
@[simp] theorem setFlow_home (v : Flow) : (c.setFlow k v).home = c.home := rfl
@[simp] theorem setFlow_pool (v : Flow) : (c.setFlow k v).pool = c.pool := rfl
@[simp] theorem setFlow_hbm (v : Flow) : (c.setFlow k v).hbm = c.hbm := rfl
@[simp] theorem setFlow_stv (v : Flow) : (c.setFlow k v).stv = c.stv := rfl
@[simp] theorem setFlow_ports (v : Flow) : (c.setFlow k v).ports = c.ports := rfl
@[simp] theorem setFlow_lanes (v : Flow) : (c.setFlow k v).lanes = c.lanes := rfl
@[simp] theorem setFlow_ten (v : Flow) : (c.setFlow k v).ten = c.ten := rfl
@[simp] theorem setFlow_rings (v : Flow) : (c.setFlow k v).rings = c.rings := rfl
@[simp] theorem setFlow_grp (v : Flow) : (c.setFlow k v).grp = c.grp := rfl
@[simp] theorem setFlow_mov (v : Flow) : (c.setFlow k v).mov = c.mov := rfl
@[simp] theorem setFlow_flt (v : Flow) : (c.setFlow k v).flt = c.flt := rfl
@[simp] theorem setFlow_bb (v : Flow) : (c.setFlow k v).bb = c.bb := rfl
@[simp] theorem setFlow_test (v : Flow) : (c.setFlow k v).test = c.test := rfl
@[simp] theorem setFlow_slot (v : Flow) : (c.setFlow k v).slot = c.slot := rfl
@[simp] theorem setFlow_pow (v : Flow) : (c.setFlow k v).pow = c.pow := rfl
@[simp] theorem setFlow_ctr (v : Flow) : (c.setFlow k v).ctr = c.ctr := rfl
@[simp] theorem setFlow_sec (v : Flow) : (c.setFlow k v).sec = c.sec := rfl
@[simp] theorem setFlow_rst (v : Flow) : (c.setFlow k v).rst = c.rst := rfl
@[simp] theorem setFlow_regs (v : Flow) : (c.setFlow k v).regs = c.regs := rfl
@[simp] theorem setFlow_sent (v : Flow) : (c.setFlow k v).sent = c.sent := rfl
@[simp] theorem setFlow_freeCtr (v : Flow) : (c.setFlow k v).freeCtr = c.freeCtr := rfl
theorem flow_setFlow (v : Flow) (h : v ≠ default) : (c.setFlow k v).flow k = v := Tbl.look_put_new _ _ _ h
@[simp] theorem flow_setFlow_ne (v : Flow) {m : Nat} (h : m ≠ k) : (c.setFlow k v).flow m = c.flow m := Tbl.look_put_ne _ _ h

@[simp] theorem setChan_ft (v : Chan) : (c.setChan k v).ft = c.ft := rfl
@[simp] theorem setChan_sw (v : Chan) : (c.setChan k v).sw = c.sw := rfl
@[simp] theorem setChan_sched (v : Chan) : (c.setChan k v).sched = c.sched := rfl
@[simp] theorem setChan_home (v : Chan) : (c.setChan k v).home = c.home := rfl
@[simp] theorem setChan_pool (v : Chan) : (c.setChan k v).pool = c.pool := rfl
@[simp] theorem setChan_hbm (v : Chan) : (c.setChan k v).hbm = c.hbm := rfl
@[simp] theorem setChan_stv (v : Chan) : (c.setChan k v).stv = c.stv := rfl
@[simp] theorem setChan_ports (v : Chan) : (c.setChan k v).ports = c.ports := rfl
@[simp] theorem setChan_lanes (v : Chan) : (c.setChan k v).lanes = c.lanes := rfl
@[simp] theorem setChan_ten (v : Chan) : (c.setChan k v).ten = c.ten := rfl
@[simp] theorem setChan_rings (v : Chan) : (c.setChan k v).rings = c.rings := rfl
@[simp] theorem setChan_grp (v : Chan) : (c.setChan k v).grp = c.grp := rfl
@[simp] theorem setChan_mov (v : Chan) : (c.setChan k v).mov = c.mov := rfl
@[simp] theorem setChan_flt (v : Chan) : (c.setChan k v).flt = c.flt := rfl
@[simp] theorem setChan_bb (v : Chan) : (c.setChan k v).bb = c.bb := rfl
@[simp] theorem setChan_test (v : Chan) : (c.setChan k v).test = c.test := rfl
@[simp] theorem setChan_pow (v : Chan) : (c.setChan k v).pow = c.pow := rfl
@[simp] theorem setChan_ctr (v : Chan) : (c.setChan k v).ctr = c.ctr := rfl
@[simp] theorem setChan_sec (v : Chan) : (c.setChan k v).sec = c.sec := rfl
@[simp] theorem setChan_rst (v : Chan) : (c.setChan k v).rst = c.rst := rfl
@[simp] theorem setChan_regs (v : Chan) : (c.setChan k v).regs = c.regs := rfl
@[simp] theorem setChan_sent (v : Chan) : (c.setChan k v).sent = c.sent := rfl
@[simp] theorem setChan_freeCtr (v : Chan) : (c.setChan k v).freeCtr = c.freeCtr := rfl
theorem chan_setChan (v : Chan) (h : v ≠ default) : (c.setChan k v).chan k = v := Tbl.look_put_new _ _ _ h
@[simp] theorem chan_setChan_ne (v : Chan) {m : Nat} (h : m ≠ k) : (c.setChan k v).chan m = c.chan m := Tbl.look_put_ne _ _ h

@[simp] theorem setRung_ft (v : Rung) : (c.setRung k v).ft = c.ft := rfl
@[simp] theorem setRung_sw (v : Rung) : (c.setRung k v).sw = c.sw := rfl
@[simp] theorem setRung_sched (v : Rung) : (c.setRung k v).sched = c.sched := rfl
@[simp] theorem setRung_home (v : Rung) : (c.setRung k v).home = c.home := rfl
@[simp] theorem setRung_pool (v : Rung) : (c.setRung k v).pool = c.pool := rfl
@[simp] theorem setRung_hbm (v : Rung) : (c.setRung k v).hbm = c.hbm := rfl
@[simp] theorem setRung_stv (v : Rung) : (c.setRung k v).stv = c.stv := rfl
@[simp] theorem setRung_ports (v : Rung) : (c.setRung k v).ports = c.ports := rfl
@[simp] theorem setRung_lanes (v : Rung) : (c.setRung k v).lanes = c.lanes := rfl
@[simp] theorem setRung_ten (v : Rung) : (c.setRung k v).ten = c.ten := rfl
@[simp] theorem setRung_rings (v : Rung) : (c.setRung k v).rings = c.rings := rfl
@[simp] theorem setRung_grp (v : Rung) : (c.setRung k v).grp = c.grp := rfl
@[simp] theorem setRung_mov (v : Rung) : (c.setRung k v).mov = c.mov := rfl
@[simp] theorem setRung_flt (v : Rung) : (c.setRung k v).flt = c.flt := rfl
@[simp] theorem setRung_bb (v : Rung) : (c.setRung k v).bb = c.bb := rfl
@[simp] theorem setRung_test (v : Rung) : (c.setRung k v).test = c.test := rfl
@[simp] theorem setRung_slot (v : Rung) : (c.setRung k v).slot = c.slot := rfl
@[simp] theorem setRung_ctr (v : Rung) : (c.setRung k v).ctr = c.ctr := rfl
@[simp] theorem setRung_sec (v : Rung) : (c.setRung k v).sec = c.sec := rfl
@[simp] theorem setRung_rst (v : Rung) : (c.setRung k v).rst = c.rst := rfl
@[simp] theorem setRung_regs (v : Rung) : (c.setRung k v).regs = c.regs := rfl
@[simp] theorem setRung_sent (v : Rung) : (c.setRung k v).sent = c.sent := rfl
@[simp] theorem setRung_freeCtr (v : Rung) : (c.setRung k v).freeCtr = c.freeCtr := rfl

@[simp] theorem setCounter_ft (v : Counter) : (c.setCounter k v).ft = c.ft := rfl
@[simp] theorem setCounter_sw (v : Counter) : (c.setCounter k v).sw = c.sw := rfl
@[simp] theorem setCounter_sched (v : Counter) : (c.setCounter k v).sched = c.sched := rfl
@[simp] theorem setCounter_home (v : Counter) : (c.setCounter k v).home = c.home := rfl
@[simp] theorem setCounter_pool (v : Counter) : (c.setCounter k v).pool = c.pool := rfl
@[simp] theorem setCounter_hbm (v : Counter) : (c.setCounter k v).hbm = c.hbm := rfl
@[simp] theorem setCounter_stv (v : Counter) : (c.setCounter k v).stv = c.stv := rfl
@[simp] theorem setCounter_ports (v : Counter) : (c.setCounter k v).ports = c.ports := rfl
@[simp] theorem setCounter_lanes (v : Counter) : (c.setCounter k v).lanes = c.lanes := rfl
@[simp] theorem setCounter_ten (v : Counter) : (c.setCounter k v).ten = c.ten := rfl
@[simp] theorem setCounter_rings (v : Counter) : (c.setCounter k v).rings = c.rings := rfl
@[simp] theorem setCounter_grp (v : Counter) : (c.setCounter k v).grp = c.grp := rfl
@[simp] theorem setCounter_mov (v : Counter) : (c.setCounter k v).mov = c.mov := rfl
@[simp] theorem setCounter_flt (v : Counter) : (c.setCounter k v).flt = c.flt := rfl
@[simp] theorem setCounter_bb (v : Counter) : (c.setCounter k v).bb = c.bb := rfl
@[simp] theorem setCounter_test (v : Counter) : (c.setCounter k v).test = c.test := rfl
@[simp] theorem setCounter_slot (v : Counter) : (c.setCounter k v).slot = c.slot := rfl
@[simp] theorem setCounter_pow (v : Counter) : (c.setCounter k v).pow = c.pow := rfl
@[simp] theorem setCounter_sec (v : Counter) : (c.setCounter k v).sec = c.sec := rfl
@[simp] theorem setCounter_rst (v : Counter) : (c.setCounter k v).rst = c.rst := rfl
@[simp] theorem setCounter_regs (v : Counter) : (c.setCounter k v).regs = c.regs := rfl
@[simp] theorem setCounter_sent (v : Counter) : (c.setCounter k v).sent = c.sent := rfl
@[simp] theorem setCounter_freeCtr (v : Counter) : (c.setCounter k v).freeCtr = c.freeCtr := rfl
theorem counter_setCounter (v : Counter) (h : v ≠ default) : (c.setCounter k v).counter k = v := Tbl.look_put_new _ _ _ h
@[simp] theorem counter_setCounter_ne (v : Counter) {m : Nat} (h : m ≠ k) : (c.setCounter k v).counter m = c.counter m := Tbl.look_put_ne _ _ h

@[simp] theorem setSchedule_ft (v : Schedule) : (c.setSchedule k v).ft = c.ft := rfl
@[simp] theorem setSchedule_sw (v : Schedule) : (c.setSchedule k v).sw = c.sw := rfl
@[simp] theorem setSchedule_sched (v : Schedule) : (c.setSchedule k v).sched = c.sched := rfl
@[simp] theorem setSchedule_home (v : Schedule) : (c.setSchedule k v).home = c.home := rfl
@[simp] theorem setSchedule_pool (v : Schedule) : (c.setSchedule k v).pool = c.pool := rfl
@[simp] theorem setSchedule_hbm (v : Schedule) : (c.setSchedule k v).hbm = c.hbm := rfl
@[simp] theorem setSchedule_stv (v : Schedule) : (c.setSchedule k v).stv = c.stv := rfl
@[simp] theorem setSchedule_ports (v : Schedule) : (c.setSchedule k v).ports = c.ports := rfl
@[simp] theorem setSchedule_lanes (v : Schedule) : (c.setSchedule k v).lanes = c.lanes := rfl
@[simp] theorem setSchedule_ten (v : Schedule) : (c.setSchedule k v).ten = c.ten := rfl
@[simp] theorem setSchedule_rings (v : Schedule) : (c.setSchedule k v).rings = c.rings := rfl
@[simp] theorem setSchedule_grp (v : Schedule) : (c.setSchedule k v).grp = c.grp := rfl
@[simp] theorem setSchedule_mov (v : Schedule) : (c.setSchedule k v).mov = c.mov := rfl
@[simp] theorem setSchedule_flt (v : Schedule) : (c.setSchedule k v).flt = c.flt := rfl
@[simp] theorem setSchedule_bb (v : Schedule) : (c.setSchedule k v).bb = c.bb := rfl
@[simp] theorem setSchedule_test (v : Schedule) : (c.setSchedule k v).test = c.test := rfl
@[simp] theorem setSchedule_slot (v : Schedule) : (c.setSchedule k v).slot = c.slot := rfl
@[simp] theorem setSchedule_pow (v : Schedule) : (c.setSchedule k v).pow = c.pow := rfl
@[simp] theorem setSchedule_sec (v : Schedule) : (c.setSchedule k v).sec = c.sec := rfl
@[simp] theorem setSchedule_rst (v : Schedule) : (c.setSchedule k v).rst = c.rst := rfl
@[simp] theorem setSchedule_regs (v : Schedule) : (c.setSchedule k v).regs = c.regs := rfl
@[simp] theorem setSchedule_sent (v : Schedule) : (c.setSchedule k v).sent = c.sent := rfl
@[simp] theorem setSchedule_freeCtr (v : Schedule) : (c.setSchedule k v).freeCtr = c.freeCtr := rfl
theorem schedule_setSchedule (v : Schedule) (h : v ≠ default) : (c.setSchedule k v).schedule k = v := Tbl.look_put_new _ _ _ h
@[simp] theorem schedule_setSchedule_ne (v : Schedule) {m : Nat} (h : m ≠ k) : (c.setSchedule k v).schedule m = c.schedule m := Tbl.look_put_ne _ _ h

@[simp] theorem setEngine_ft (v : Engine) : (c.setEngine k v).ft = c.ft := rfl
@[simp] theorem setEngine_sw (v : Engine) : (c.setEngine k v).sw = c.sw := rfl
@[simp] theorem setEngine_sched (v : Engine) : (c.setEngine k v).sched = c.sched := rfl
@[simp] theorem setEngine_home (v : Engine) : (c.setEngine k v).home = c.home := rfl
@[simp] theorem setEngine_pool (v : Engine) : (c.setEngine k v).pool = c.pool := rfl
@[simp] theorem setEngine_hbm (v : Engine) : (c.setEngine k v).hbm = c.hbm := rfl
@[simp] theorem setEngine_stv (v : Engine) : (c.setEngine k v).stv = c.stv := rfl
@[simp] theorem setEngine_ports (v : Engine) : (c.setEngine k v).ports = c.ports := rfl
@[simp] theorem setEngine_lanes (v : Engine) : (c.setEngine k v).lanes = c.lanes := rfl
@[simp] theorem setEngine_ten (v : Engine) : (c.setEngine k v).ten = c.ten := rfl
@[simp] theorem setEngine_rings (v : Engine) : (c.setEngine k v).rings = c.rings := rfl
@[simp] theorem setEngine_grp (v : Engine) : (c.setEngine k v).grp = c.grp := rfl
@[simp] theorem setEngine_flt (v : Engine) : (c.setEngine k v).flt = c.flt := rfl
@[simp] theorem setEngine_bb (v : Engine) : (c.setEngine k v).bb = c.bb := rfl
@[simp] theorem setEngine_test (v : Engine) : (c.setEngine k v).test = c.test := rfl
@[simp] theorem setEngine_slot (v : Engine) : (c.setEngine k v).slot = c.slot := rfl
@[simp] theorem setEngine_pow (v : Engine) : (c.setEngine k v).pow = c.pow := rfl
@[simp] theorem setEngine_ctr (v : Engine) : (c.setEngine k v).ctr = c.ctr := rfl
@[simp] theorem setEngine_sec (v : Engine) : (c.setEngine k v).sec = c.sec := rfl
@[simp] theorem setEngine_rst (v : Engine) : (c.setEngine k v).rst = c.rst := rfl
@[simp] theorem setEngine_regs (v : Engine) : (c.setEngine k v).regs = c.regs := rfl
@[simp] theorem setEngine_sent (v : Engine) : (c.setEngine k v).sent = c.sent := rfl
@[simp] theorem setEngine_freeCtr (v : Engine) : (c.setEngine k v).freeCtr = c.freeCtr := rfl
theorem engine_setEngine (v : Engine) (h : v ≠ default) : (c.setEngine k v).engine k = v := Tbl.look_put_new _ _ _ h
@[simp] theorem engine_setEngine_ne (v : Engine) {m : Nat} (h : m ≠ k) : (c.setEngine k v).engine m = c.engine m := Tbl.look_put_ne _ _ h

@[simp] theorem setPc_ft (v : PseudoChannel) : (c.setPc k v).ft = c.ft := rfl
@[simp] theorem setPc_sw (v : PseudoChannel) : (c.setPc k v).sw = c.sw := rfl
@[simp] theorem setPc_sched (v : PseudoChannel) : (c.setPc k v).sched = c.sched := rfl
@[simp] theorem setPc_home (v : PseudoChannel) : (c.setPc k v).home = c.home := rfl
@[simp] theorem setPc_pool (v : PseudoChannel) : (c.setPc k v).pool = c.pool := rfl
@[simp] theorem setPc_stv (v : PseudoChannel) : (c.setPc k v).stv = c.stv := rfl
@[simp] theorem setPc_ports (v : PseudoChannel) : (c.setPc k v).ports = c.ports := rfl
@[simp] theorem setPc_lanes (v : PseudoChannel) : (c.setPc k v).lanes = c.lanes := rfl
@[simp] theorem setPc_ten (v : PseudoChannel) : (c.setPc k v).ten = c.ten := rfl
@[simp] theorem setPc_rings (v : PseudoChannel) : (c.setPc k v).rings = c.rings := rfl
@[simp] theorem setPc_grp (v : PseudoChannel) : (c.setPc k v).grp = c.grp := rfl
@[simp] theorem setPc_mov (v : PseudoChannel) : (c.setPc k v).mov = c.mov := rfl
@[simp] theorem setPc_flt (v : PseudoChannel) : (c.setPc k v).flt = c.flt := rfl
@[simp] theorem setPc_bb (v : PseudoChannel) : (c.setPc k v).bb = c.bb := rfl
@[simp] theorem setPc_test (v : PseudoChannel) : (c.setPc k v).test = c.test := rfl
@[simp] theorem setPc_slot (v : PseudoChannel) : (c.setPc k v).slot = c.slot := rfl
@[simp] theorem setPc_pow (v : PseudoChannel) : (c.setPc k v).pow = c.pow := rfl
@[simp] theorem setPc_ctr (v : PseudoChannel) : (c.setPc k v).ctr = c.ctr := rfl
@[simp] theorem setPc_sec (v : PseudoChannel) : (c.setPc k v).sec = c.sec := rfl
@[simp] theorem setPc_rst (v : PseudoChannel) : (c.setPc k v).rst = c.rst := rfl
@[simp] theorem setPc_regs (v : PseudoChannel) : (c.setPc k v).regs = c.regs := rfl
@[simp] theorem setPc_sent (v : PseudoChannel) : (c.setPc k v).sent = c.sent := rfl
@[simp] theorem setPc_freeCtr (v : PseudoChannel) : (c.setPc k v).freeCtr = c.freeCtr := rfl
theorem pcOf_setPc (v : PseudoChannel) (h : v ≠ default) : (c.setPc k v).pcOf k = v := Tbl.look_put_new _ _ _ h
@[simp] theorem pcOf_setPc_ne (v : PseudoChannel) {m : Nat} (h : m ≠ k) : (c.setPc k v).pcOf m = c.pcOf m := Tbl.look_put_ne _ _ h

@[simp] theorem tenant_setTenant_ne (v : Tenant) {m : Nat} (h : m ≠ k) : (c.setTenant k v).tenant m = c.tenant m :=
  Tbl.lookD_putD_ne _ _ _ _ h
@[simp] theorem rung_setRung_ne (v : Rung) {m : Nat} (h : m ≠ k) : (c.setRung k v).rung m = c.rung m := Tbl.lookD_putD_ne _ _ _ _ h

end Sys2Proof.Machine
end

