-- ==== Sys2Proof/Laws/Collector.lean ====
section
/-!
SUPPORT. The fault collector: which operations of a raise leave the sources alone, and what a raise does to its source.
-/
namespace Sys2Proof.Machine

@[simp] theorem later_sources (c : Chip) (t : Todo) : (c.later t).flt.sources = c.flt.sources := rfl
@[simp] theorem irqPin_sources (c : Chip) : (irqPin c).flt.sources = c.flt.sources := rfl
@[simp] theorem errOut_sources (c : Chip) : (errOut c).flt.sources = c.flt.sources := rfl

@[simp] theorem logRecord_sources (c : Chip) (r : LogRec) : (logRecord c r).flt.sources = c.flt.sources := by
  unfold logRecord; simp only []; repeat' split <;> try rfl

@[simp] theorem snapshot_sources (c : Chip) (n : Nat) : (snapshot c n).flt.sources = c.flt.sources := by
  unfold snapshot; repeat' split <;> try rfl

@[simp] theorem trap_sources (c : Chip) : (trap c).flt.sources = c.flt.sources := by
  unfold trap; split <;> rfl

@[simp] theorem chipReact_sources (c : Chip) (n : Nat) (a b : Bool) : (chipReact c n a b).flt.sources = c.flt.sources := by
  unfold chipReact; split
  · dsimp only; repeat' first | rfl | split
    all_goals simp
  · split <;> rfl

@[simp] theorem tenantFault_sources (c : Chip) (t : Nat) : (tenantFault c t).flt.sources = c.flt.sources := by
  unfold tenantFault; dsimp only; repeat' first | rfl | split

@[simp] theorem holdInterrupt_sources (c : Chip) (p n v r : Nat) : (holdInterrupt c p n v r).flt.sources = c.flt.sources := by
  unfold holdInterrupt; dsimp only; split <;> rfl

@[simp] theorem interrupt_sources (c : Chip) (t : Nat) : (interrupt c t).flt.sources = c.flt.sources := by
  unfold interrupt; dsimp only; repeat' first | rfl | exact holdInterrupt_sources _ _ _ _ _ | split

@[simp] theorem writeRecord_sources (c : Chip) (t : Nat) (e : EventRec) : (writeRecord c t e).flt.sources = c.flt.sources := by
  unfold writeRecord; dsimp only; repeat' first | rfl | exact interrupt_sources _ _ | split

@[simp] theorem writeUnsol_sources (c : Chip) (t k : Nat) (l : List Byte) : (writeUnsol c t k l).flt.sources = c.flt.sources := by
  unfold writeUnsol; simp [Chip.modRing]

@[simp] theorem loseEvent_sources (c : Chip) (t k : Nat) : (loseEvent c t k).flt.sources = c.flt.sources := by
  unfold loseEvent; dsimp only; split <;> rfl

@[simp] theorem flushLost_sources (c : Chip) (t : Nat) : (flushLost c t).flt.sources = c.flt.sources := by
  unfold flushLost; simp [apply_ite Chip.flt, apply_ite Collector.sources]

@[simp] theorem unsolRing_sources (c : Chip) (t k : Nat) (l : List Byte) : (unsolRing c t k l).flt.sources = c.flt.sources := by
  unfold unsolRing; simp only [apply_ite Chip.flt, apply_ite Collector.sources, loseEvent_sources, writeUnsol_sources,
    flushLost_sources, ite_self]

@[simp] theorem unsolMgr_sources (c : Chip) (k : Nat) (l : List Byte) : (unsolMgr c k l).flt.sources = c.flt.sources := by
  unfold unsolMgr unsolMctp; repeat' first | exact unsolRing_sources _ _ _ _ | split

@[simp] theorem faultEvent_sources (c : Chip) (e : FaultEvent) : (faultEvent c e).flt.sources = c.flt.sources := by
  unfold faultEvent; dsimp only; repeat' first | rfl | exact unsolMgr_sources _ _ _ | split

/-- The sources after a raise while the fabric die runs: one entry has been written. -/
theorem raiseRunning_sources (c : Chip) (src : Nat) (info : DWord) :
    (raiseRunning c src info).flt.sources = c.flt.sources.put src (raiseSource c (c.source src) info (maskOf c src)
      (bitOf (maskOf c src) 0 && holdoffOver c (c.source src).logAt)
      (bitOf (maskOf c src) 1 && holdoffOver c (c.source src).intrAt)) := by
  unfold raiseRunning
  simp only [apply_ite Chip.flt, apply_ite Collector.sources, logRecord_sources, faultEvent_sources, trap_sources,
    errOut_sources, snapshot_sources, later_sources, chipReact_sources, tenantFault_sources, irqPin_sources, ite_self]

/-- A raise while the fabric die runs writes its own source and no other. -/
theorem raise_source (c : Chip) (src n : Nat) (info : DWord) (h : c.rst.running = true) :
    (raise c src info).source n = if n = src then raiseSource c (c.source src) info (maskOf c src)
      (bitOf (maskOf c src) 0 && holdoffOver c (c.source src).logAt)
      (bitOf (maskOf c src) 1 && holdoffOver c (c.source src).intrAt) else c.source n := by
  unfold raise
  rw [if_pos h]
  unfold Chip.source
  rw [raiseRunning_sources]
  split
  · subst_vars
    refine Tbl.look_put_new _ _ _ ?_
    intro e
    have := congrArg Source.pending e
    simp [raiseSource] at this
    cases this
  · exact Tbl.look_put_ne _ _ (by assumption)

/-! A raise leaves Fabric Time alone. -/

@[simp] theorem logRecord_ft (c : Chip) (r : LogRec) : (logRecord c r).ft = c.ft := by
  unfold logRecord; dsimp only; repeat' first | rfl | split

@[simp] theorem snapshot_ft (c : Chip) (n : Nat) : (snapshot c n).ft = c.ft := by
  unfold snapshot; repeat' first | rfl | split

@[simp] theorem trap_ft (c : Chip) : (trap c).ft = c.ft := by unfold trap; split <;> rfl

@[simp] theorem chipReact_ft (c : Chip) (n : Nat) (a b : Bool) : (chipReact c n a b).ft = c.ft := by
  unfold chipReact; dsimp only; repeat' first | rfl | exact trap_ft _ | split

@[simp] theorem tenantFault_ft (c : Chip) (t : Nat) : (tenantFault c t).ft = c.ft := by
  unfold tenantFault; dsimp only; repeat' first | rfl | split

@[simp] theorem holdInterrupt_ft (c : Chip) (p n v r : Nat) : (holdInterrupt c p n v r).ft = c.ft := by
  unfold holdInterrupt; dsimp only; split <;> rfl

@[simp] theorem interrupt_ft (c : Chip) (t : Nat) : (interrupt c t).ft = c.ft := by
  unfold interrupt; dsimp only; repeat' first | rfl | exact holdInterrupt_ft _ _ _ _ _ | split

@[simp] theorem writeRecord_ft (c : Chip) (t : Nat) (e : EventRec) : (writeRecord c t e).ft = c.ft := by
  unfold writeRecord; dsimp only; repeat' first | rfl | exact interrupt_ft _ _ | split

@[simp] theorem writeUnsol_ft (c : Chip) (t k : Nat) (l : List Byte) : (writeUnsol c t k l).ft = c.ft := by
  unfold writeUnsol; simp [Chip.modRing, Chip.setRing]

@[simp] theorem loseEvent_ft (c : Chip) (t k : Nat) : (loseEvent c t k).ft = c.ft := by
  unfold loseEvent; dsimp only; split <;> rfl

@[simp] theorem flushLost_ft (c : Chip) (t : Nat) : (flushLost c t).ft = c.ft := by
  unfold flushLost; simp [apply_ite Chip.ft, Chip.setRing]

@[simp] theorem unsolRing_ft (c : Chip) (t k : Nat) (l : List Byte) : (unsolRing c t k l).ft = c.ft := by
  unfold unsolRing; simp only [apply_ite Chip.ft, loseEvent_ft, writeUnsol_ft, flushLost_ft, ite_self]

@[simp] theorem unsolMgr_ft (c : Chip) (k : Nat) (l : List Byte) : (unsolMgr c k l).ft = c.ft := by
  unfold unsolMgr unsolMctp; repeat' first | exact unsolRing_ft _ _ _ _ | split

@[simp] theorem faultEvent_ft (c : Chip) (e : FaultEvent) : (faultEvent c e).ft = c.ft := by
  unfold faultEvent; dsimp only; repeat' first | rfl | exact unsolMgr_ft _ _ _ | split

@[simp] theorem irqPin_ft (c : Chip) : (irqPin c).ft = c.ft := rfl
@[simp] theorem errOut_ft (c : Chip) : (errOut c).ft = c.ft := rfl

/-- A raise leaves Fabric Time alone. -/
@[simp] theorem raise_ft (c : Chip) (n : Nat) (v : DWord) : (raise c n v).ft = c.ft := by
  unfold raise raiseRunning raiseHeld
  simp only [apply_ite Chip.ft, logRecord_ft, faultEvent_ft, trap_ft, errOut_ft, snapshot_ft, later_ft, chipReact_ft,
    tenantFault_ft, irqPin_ft, ite_self]

end Sys2Proof.Machine
end

