-- ==== Sys2Proof/Laws/Raise.lean ====
section
/-!
SUPPORT. The frame of a raise: it touches the collector, the black box, tenants' fault counts, rings, what is sent and the counter of
free values, and nothing else of the chip.
-/
namespace Sys2Proof.Machine

/-- The part of the chip that no raise touches; the rest is blanked. -/
def Chip.unraised (c : Chip) : Chip := { c with flt := {}, bb := {}, ten := {}, rings := {}, sent := [], freeCtr := 0 }

theorem later_unraised (c : Chip) (t : Todo) : (c.later t).unraised = c.unraised := rfl
theorem emit_unraised (c : Chip) (m : Msg) : (c.emit m).unraised = c.unraised := rfl
theorem setRing_unraised (c : Chip) (k : Nat) (r : Ring) : (c.setRing k r).unraised = c.unraised := rfl
theorem setFlt_unraised (c : Chip) (x : Collector) : Chip.unraised { c with flt := x } = c.unraised := rfl
theorem irqPin_unraised (c : Chip) : (irqPin c).unraised = c.unraised := rfl
theorem errOut_unraised (c : Chip) : (errOut c).unraised = c.unraised := rfl

theorem logRecord_unraised (c : Chip) (r : LogRec) : (logRecord c r).unraised = c.unraised := by
  unfold logRecord; dsimp only; repeat' first | rfl | split

theorem snapshot_unraised (c : Chip) (n : Nat) : (snapshot c n).unraised = c.unraised := by
  unfold snapshot; repeat' first | rfl | split

theorem trap_unraised (c : Chip) : (trap c).unraised = c.unraised := by unfold trap; split <;> rfl

theorem chipReact_unraised (c : Chip) (n : Nat) (a b : Bool) : (chipReact c n a b).unraised = c.unraised := by
  unfold chipReact; dsimp only; repeat' first | rfl | exact trap_unraised _ | split

theorem tenantFault_unraised (c : Chip) (t : Nat) : (tenantFault c t).unraised = c.unraised := by
  unfold tenantFault; dsimp only; repeat' first | rfl | split

theorem holdInterrupt_unraised (c : Chip) (p n v r : Nat) : (holdInterrupt c p n v r).unraised = c.unraised := by
  unfold holdInterrupt; dsimp only; split <;> rfl

theorem interrupt_unraised (c : Chip) (t : Nat) : (interrupt c t).unraised = c.unraised := by
  unfold interrupt; dsimp only; repeat' first | rfl | exact holdInterrupt_unraised _ _ _ _ _ | split

theorem writeRecord_unraised (c : Chip) (t : Nat) (e : EventRec) : (writeRecord c t e).unraised = c.unraised := by
  unfold writeRecord; dsimp only; repeat' first | rfl | exact interrupt_unraised _ _ | split

theorem writeUnsol_unraised (c : Chip) (t k : Nat) (l : List Byte) : (writeUnsol c t k l).unraised = c.unraised := by
  unfold writeUnsol; rw [writeRecord_unraised]; rfl

theorem loseEvent_unraised (c : Chip) (t k : Nat) : (loseEvent c t k).unraised = c.unraised := by
  unfold loseEvent; dsimp only; split <;> rfl

theorem flushLost_unraised (c : Chip) (t : Nat) : (flushLost c t).unraised = c.unraised := by
  unfold flushLost; simp only [apply_ite Chip.unraised, writeUnsol_unraised, setRing_unraised, ite_self]

theorem unsolRing_unraised (c : Chip) (t k : Nat) (l : List Byte) : (unsolRing c t k l).unraised = c.unraised := by
  unfold unsolRing; simp only [apply_ite Chip.unraised, loseEvent_unraised, writeUnsol_unraised, flushLost_unraised, ite_self]

theorem unsolMctp_unraised (c : Chip) (k : Nat) (l : List Byte) : (unsolMctp c k l).unraised = c.unraised := by
  unfold unsolMctp; repeat' first | rfl | split

theorem unsolMgr_unraised (c : Chip) (k : Nat) (l : List Byte) : (unsolMgr c k l).unraised = c.unraised := by
  unfold unsolMgr; rw [unsolMctp_unraised, unsolRing_unraised]

theorem faultEvent_unraised (c : Chip) (e : FaultEvent) : (faultEvent c e).unraised = c.unraised := by
  unfold faultEvent; dsimp only; repeat' first | rfl | exact unsolMgr_unraised _ _ _ | split

/-- The frame of a raise. -/
theorem raise_unraised (c : Chip) (n : Nat) (v : DWord) : (raise c n v).unraised = c.unraised := by
  unfold raise raiseRunning raiseHeld
  simp only [apply_ite Chip.unraised, logRecord_unraised, faultEvent_unraised, trap_unraised, errOut_unraised, snapshot_unraised,
    later_unraised, chipReact_unraised, tenantFault_unraised, irqPin_unraised, setFlt_unraised, ite_self]

@[simp] theorem raise_sw (c : Chip) (n : Nat) (v : DWord) : (raise c n v).sw = c.sw :=
  show (raise c n v).unraised.sw = c.unraised.sw by rw [raise_unraised]
@[simp] theorem raise_sched (c : Chip) (n : Nat) (v : DWord) : (raise c n v).sched = c.sched :=
  show (raise c n v).unraised.sched = c.unraised.sched by rw [raise_unraised]
@[simp] theorem raise_home (c : Chip) (n : Nat) (v : DWord) : (raise c n v).home = c.home :=
  show (raise c n v).unraised.home = c.unraised.home by rw [raise_unraised]
@[simp] theorem raise_pool (c : Chip) (n : Nat) (v : DWord) : (raise c n v).pool = c.pool :=
  show (raise c n v).unraised.pool = c.unraised.pool by rw [raise_unraised]
@[simp] theorem raise_hbm (c : Chip) (n : Nat) (v : DWord) : (raise c n v).hbm = c.hbm :=
  show (raise c n v).unraised.hbm = c.unraised.hbm by rw [raise_unraised]
@[simp] theorem raise_stv (c : Chip) (n : Nat) (v : DWord) : (raise c n v).stv = c.stv :=
  show (raise c n v).unraised.stv = c.unraised.stv by rw [raise_unraised]
@[simp] theorem raise_ports (c : Chip) (n : Nat) (v : DWord) : (raise c n v).ports = c.ports :=
  show (raise c n v).unraised.ports = c.unraised.ports by rw [raise_unraised]
@[simp] theorem raise_lanes (c : Chip) (n : Nat) (v : DWord) : (raise c n v).lanes = c.lanes :=
  show (raise c n v).unraised.lanes = c.unraised.lanes by rw [raise_unraised]
@[simp] theorem raise_grp (c : Chip) (n : Nat) (v : DWord) : (raise c n v).grp = c.grp :=
  show (raise c n v).unraised.grp = c.unraised.grp by rw [raise_unraised]
@[simp] theorem raise_mov (c : Chip) (n : Nat) (v : DWord) : (raise c n v).mov = c.mov :=
  show (raise c n v).unraised.mov = c.unraised.mov by rw [raise_unraised]
@[simp] theorem raise_test (c : Chip) (n : Nat) (v : DWord) : (raise c n v).test = c.test :=
  show (raise c n v).unraised.test = c.unraised.test by rw [raise_unraised]
@[simp] theorem raise_slot (c : Chip) (n : Nat) (v : DWord) : (raise c n v).slot = c.slot :=
  show (raise c n v).unraised.slot = c.unraised.slot by rw [raise_unraised]
@[simp] theorem raise_pow (c : Chip) (n : Nat) (v : DWord) : (raise c n v).pow = c.pow :=
  show (raise c n v).unraised.pow = c.unraised.pow by rw [raise_unraised]
@[simp] theorem raise_ctr (c : Chip) (n : Nat) (v : DWord) : (raise c n v).ctr = c.ctr :=
  show (raise c n v).unraised.ctr = c.unraised.ctr by rw [raise_unraised]
@[simp] theorem raise_sec (c : Chip) (n : Nat) (v : DWord) : (raise c n v).sec = c.sec :=
  show (raise c n v).unraised.sec = c.unraised.sec by rw [raise_unraised]
@[simp] theorem raise_rst (c : Chip) (n : Nat) (v : DWord) : (raise c n v).rst = c.rst :=
  show (raise c n v).unraised.rst = c.unraised.rst by rw [raise_unraised]
@[simp] theorem raise_regs (c : Chip) (n : Nat) (v : DWord) : (raise c n v).regs = c.regs :=
  show (raise c n v).unraised.regs = c.unraised.regs by rw [raise_unraised]

/-- Several raises of one source leave the scheduler alone. -/
theorem raises_sched (l : List α) (n : Nat) (c : Chip) : (l.foldl (fun c _ => raise c n) c).sched = c.sched := by
  induction l generalizing c with
  | nil => rfl
  | cons a t ih => rw [List.foldl_cons, ih, raise_sched]

end Sys2Proof.Machine
end

