-- ==== Sys2Proof/Laws/Counting.lean ====
section
/-!
SUPPORT. Counter events: nothing happens while no counter is enabled, and the scheduler is never touched; loss counts are one table write a candidate.
-/
namespace Sys2Proof.Machine

/-- No enabled counter, no effect. -/
theorem countEvent_off (c : Chip) (e : Happening) (n : Nat) (h : c.ctr.ctrs.all (fun k => !k.2.enable) = true) : countEvent c e n = c := by
  have : c.ctr.ctrs.filter (fun k => counts k.1 k.2 e) = [] := by
    rw [List.filter_eq_nil_iff]; intro k hk
    have := List.all_eq_true.mp h k hk
    simp [counts] at this ⊢; simp [this]
  unfold countEvent; simp [this]

/-- The same for a list of happenings. -/
theorem countEvents_off (l : List Happening) (c : Chip) (h : c.ctr.ctrs.all (fun k => !k.2.enable) = true) : l.foldl (fun c e => countEvent c e) c = c := by
  induction l with
  | nil => rfl
  | cons e l ih => simp only [List.foldl_cons, countEvent_off c e 1 h, ih]

/-- Counting leaves the scheduler alone. -/
theorem countEvent_sched (c : Chip) (e : Happening) (n : Nat) : (countEvent c e n).sched = c.sched := by
  unfold countEvent; dsimp only; rw [raises_sched]; split <;> rfl

/-- An arbiter reads back as written. -/
theorem arb_back (c : Chip) (x : Nat) (a : Arbiter) (h : a ≠ default) : (c.setArb x a).arb x = a := Tbl.look_put_new _ _ _ h

end Sys2Proof.Machine
end

