-- ==== Sys2Proof/Laws/Entry.lean ====
section
/-!
SUPPORT. The entry point of a home slice (R159): what it takes of its input queues.
-/
namespace Sys2Proof.Machine

/-- The first that satisfies `p`, and the rest in order. -/
theorem takeFirst_some {α : Type} {p : α → Bool} {l r : List α} {x : α} (h : takeFirst p l = some (x, r)) :
    p x = true ∧ ∃ a b, l = a ++ x :: b ∧ r = a ++ b ∧ ∀ y ∈ a, p y = false := by
  induction l generalizing r with
  | nil => simp [takeFirst] at h
  | cons w t ih =>
    unfold takeFirst at h
    split at h
    · rename_i hp; obtain ⟨rfl, rfl⟩ : w = x ∧ t = r := by simpa using h
      exact ⟨hp, [], t, rfl, rfl, by simp⟩
    · rename_i hp
      cases ht : takeFirst p t with
      | none => rw [ht] at h; simp at h
      | some y =>
        rw [ht] at h; simp only [Option.map_some, Option.some.injEq, Prod.mk.injEq] at h
        obtain ⟨rfl, rfl⟩ := h
        obtain ⟨h1, a, b, h2, h3, h4⟩ := ih ht
        refine ⟨h1, w :: a, b, by rw [h2]; rfl, by rw [h3]; rfl, ?_⟩
        intro z hz
        rcases List.mem_cons.mp hz with rfl | hz
        · simpa using hp
        · exact h4 z hz

/-- Where none is taken, none satisfies `p`. -/
theorem takeFirst_none {α : Type} {p : α → Bool} {l : List α} (h : takeFirst p l = none) : ∀ y ∈ l, p y = false := by
  induction l with
  | nil => simp
  | cons w t ih =>
    unfold takeFirst at h
    split at h
    · cases h
    · rename_i hp
      intro y hy
      rcases List.mem_cons.mp hy with rfl | hy
      · simpa using hp
      · exact ih (by simpa using h) y hy

theorem rank_le (x : SliceMsg) : x.rank ≤ 5 := by cases x <;> simp [SliceMsg.rank]

/-- Class REQ is the last one. -/
theorem rank_req (x : SliceMsg) : x.rank = 5 ↔ x.req?.isSome = true := by cases x <;> simp [SliceMsg.rank, SliceMsg.req?]

theorem foldl_min_le (q : List SliceMsg) (n : Nat) : q.foldl (fun n x => min n x.rank) n ≤ n := by
  induction q generalizing n with
  | nil => exact Nat.le_refl n
  | cons x t ih => exact Nat.le_trans (ih _) (Nat.min_le_left _ _)

theorem foldl_min_mem (q : List SliceMsg) (n : Nat) (x : SliceMsg) (h : x ∈ q) : q.foldl (fun n x => min n x.rank) n ≤ x.rank := by
  induction q generalizing n with
  | nil => simp at h
  | cons y t ih =>
    rcases List.mem_cons.mp h with rfl | h
    · exact Nat.le_trans (foldl_min_le t _) (Nat.min_le_right _ _)
    · exact ih _ h

theorem foldl_min_hit (q : List SliceMsg) (n : Nat) (h : q.foldl (fun n x => min n x.rank) n < n) :
    ∃ x ∈ q, x.rank = q.foldl (fun n x => min n x.rank) n := by
  induction q generalizing n with
  | nil => exact absurd h (Nat.lt_irrefl n)
  | cons y t ih =>
    simp only [List.foldl_cons] at h ⊢
    by_cases hl : t.foldl (fun n x => min n x.rank) (min n y.rank) < min n y.rank
    · obtain ⟨x, hx, he⟩ := ih _ hl; exact ⟨x, List.mem_cons_of_mem y hx, he⟩
    · have := foldl_min_le t (min n y.rank)
      exact ⟨y, List.mem_cons_self, by omega⟩

/-- No waiting message is of a lower class than the least. -/
theorem leastRank_le {q : List SliceMsg} {x : SliceMsg} (h : x ∈ q) : leastRank q ≤ x.rank := foldl_min_mem q 5 x h

theorem keyLess_iff (a b : Nat × Nat × Nat) : keyLess a b = true ↔
    a.1 < b.1 ∨ (a.1 = b.1 ∧ (a.2.1 < b.2.1 ∨ (a.2.1 = b.2.1 ∧ a.2.2 < b.2.2))) := by
  unfold keyLess; simp

theorem keyLess_trans_not {a b c : Nat × Nat × Nat} (h : keyLess b a = true) (h2 : keyLess c a = false) : keyLess c b = false := by
  rw [Bool.eq_false_iff] at h2 ⊢
  simp only [ne_eq, keyLess_iff] at *
  omega

/-- The chosen request is one of the list, and none of the list comes before it; requests of one input are the same. -/
theorem bestReq_spec (last : Nat) (q : List SliceMsg) (best : Option MemReq) (b : MemReq) (h : bestReq last best q = some b)
    (hu : ∀ m n, (some m = best ∨ ∃ x ∈ q, x.req? = some m) → (some n = best ∨ ∃ x ∈ q, x.req? = some n) → m.input = n.input → m = n) :
    (some b = best ∨ ∃ x ∈ q, x.req? = some b) ∧
    ∀ m, (some m = best ∨ ∃ x ∈ q, x.req? = some m) → keyLess (reqKey last m) (reqKey last b) = false := by
  induction q generalizing best with
  | nil =>
    simp only [bestReq] at h; subst h
    refine ⟨.inl rfl, ?_⟩
    rintro m (hm | ⟨x, hx, -⟩)
    · obtain rfl : m = b := by simpa using hm
      simp [Bool.eq_false_iff, keyLess_iff]
    · simp at hx
  | cons x t ih =>
    unfold bestReq at h
    have irr : ∀ k, keyLess k k = false := by intro k; simp [Bool.eq_false_iff, keyLess_iff]
    split at h
    · rename_i hx
      obtain ⟨h1, h2⟩ := ih _ h (fun m n hm hn => hu m n
        (hm.imp id (fun ⟨z, hz, e⟩ => ⟨z, List.mem_cons_of_mem x hz, e⟩)) (hn.imp id (fun ⟨z, hz, e⟩ => ⟨z, List.mem_cons_of_mem x hz, e⟩)))
      refine ⟨h1.imp id (fun ⟨z, hz, e⟩ => ⟨z, List.mem_cons_of_mem x hz, e⟩), ?_⟩
      rintro m (hm | ⟨z, hz, e⟩)
      · exact h2 m (.inl hm)
      · rcases List.mem_cons.mp hz with rfl | hz
        · rw [hx] at e; cases e
        · exact h2 m (.inr ⟨z, hz, e⟩)
    · rename_i k hk
      obtain ⟨h1, h2⟩ := ih (some k) h (fun m n hm hn => hu m n
        (.inr (hm.elim (fun e => ⟨x, List.mem_cons_self, by rw [hk]; exact e.symm⟩) (fun ⟨z, hz, e⟩ => ⟨z, List.mem_cons_of_mem x hz, e⟩)))
        (.inr (hn.elim (fun e => ⟨x, List.mem_cons_self, by rw [hk]; exact e.symm⟩) (fun ⟨z, hz, e⟩ => ⟨z, List.mem_cons_of_mem x hz, e⟩))))
      refine ⟨.inr (h1.elim (fun e => ⟨x, List.mem_cons_self, by rw [hk]; exact e.symm⟩) (fun ⟨z, hz, e⟩ => ⟨z, List.mem_cons_of_mem x hz, e⟩)), ?_⟩
      rintro m (hm | ⟨z, hz, e⟩)
      · cases hm
      · rcases List.mem_cons.mp hz with rfl | hz
        · exact h2 m (.inl (by rw [← e, hk]))
        · exact h2 m (.inr ⟨z, hz, e⟩)
    · rename_i k g hk
      split at h
      · rename_i hc
        obtain ⟨h1, h2⟩ := ih (some k) h (fun m n hm hn => hu m n
          (.inr (hm.elim (fun e => ⟨x, List.mem_cons_self, by rw [hk]; exact e.symm⟩) (fun ⟨z, hz, e⟩ => ⟨z, List.mem_cons_of_mem x hz, e⟩)))
          (.inr (hn.elim (fun e => ⟨x, List.mem_cons_self, by rw [hk]; exact e.symm⟩) (fun ⟨z, hz, e⟩ => ⟨z, List.mem_cons_of_mem x hz, e⟩))))
        refine ⟨.inr (h1.elim (fun e => ⟨x, List.mem_cons_self, by rw [hk]; exact e.symm⟩) (fun ⟨z, hz, e⟩ => ⟨z, List.mem_cons_of_mem x hz, e⟩)), ?_⟩
        rintro m (hm | ⟨z, hz, e⟩)
        · obtain rfl : m = g := by simpa using hm
          have := h2 k (.inl rfl)
          have h3 := (keyLess_iff _ _).mp hc.2
          simp only [Bool.eq_false_iff, ne_eq, keyLess_iff] at this ⊢
          omega
        · rcases List.mem_cons.mp hz with rfl | hz
          · exact h2 m (.inl (by rw [← e, hk]))
          · exact h2 m (.inr ⟨z, hz, e⟩)
      · rename_i hc
        obtain ⟨h1, h2⟩ := ih (some g) h (fun m n hm hn => hu m n
          (hm.imp id (fun ⟨z, hz, e⟩ => ⟨z, List.mem_cons_of_mem x hz, e⟩)) (hn.imp id (fun ⟨z, hz, e⟩ => ⟨z, List.mem_cons_of_mem x hz, e⟩)))
        refine ⟨h1.imp id (fun ⟨z, hz, e⟩ => ⟨z, List.mem_cons_of_mem x hz, e⟩), ?_⟩
        rintro m (hm | ⟨z, hz, e⟩)
        · exact h2 m (.inl hm)
        · rcases List.mem_cons.mp hz with rfl | hz
          · obtain rfl : k = m := by rw [hk] at e; simpa using e
            by_cases hi : k.input = g.input
            · obtain rfl := hu k g (.inr ⟨z, List.mem_cons_self, hk⟩) (.inl rfl) hi
              exact h2 k (.inl rfl)
            · have h3 : keyLess (reqKey last k) (reqKey last g) = false := by
                simpa [hi] using hc
              have := h2 g (.inl rfl)
              simp only [Bool.eq_false_iff, ne_eq, keyLess_iff] at this h3 ⊢
              omega
          · exact h2 m (.inr ⟨z, hz, e⟩)

theorem bestReq_some (last : Nat) (q : List SliceMsg) (best : Option MemReq)
    (h : best.isSome = true ∨ ∃ x ∈ q, x.req?.isSome = true) : (bestReq last best q).isSome = true := by
  induction q generalizing best with
  | nil => simpa [bestReq] using h
  | cons x t ih =>
    unfold bestReq
    split
    · rename_i hx
      refine ih _ (h.imp id ?_)
      rintro ⟨z, hz, e⟩
      rcases List.mem_cons.mp hz with rfl | hz
      · rw [hx] at e; cases e
      · exact ⟨z, hz, e⟩
    · exact ih _ (.inl rfl)
    · split <;> exact ih _ (.inl rfl)

/-- A REQ message that is the head of its input's queue. -/
abbrev isHead (q : List SliceMsg) (x : SliceMsg) : Bool := takeEntry.headReq q x

theorem head_req {q : List SliceMsg} {x : SliceMsg} (h : isHead q x = true) :
    ∃ m, x.req? = some m ∧ q.find? (fun y => (y.req?.map (·.input)) == some m.input) = some x := by
  unfold isHead takeEntry.headReq at h
  split at h
  · cases h
  · rename_i m hm; exact ⟨m, hm, by simpa using h⟩

/-- Heads of one input are the same. -/
theorem head_unique {q : List SliceMsg} {x y : SliceMsg} {m n : MemReq} (hx : isHead q x = true) (hy : isHead q y = true)
    (hm : x.req? = some m) (hn : y.req? = some n) (h : m.input = n.input) : m = n := by
  obtain ⟨a, ha, hfa⟩ := head_req hx
  obtain ⟨b, hb, hfb⟩ := head_req hy
  obtain rfl : a = m := by rw [ha] at hm; simpa using hm
  obtain rfl : b = n := by rw [hb] at hn; simpa using hn
  rw [h] at hfa; rw [hfa] at hfb
  obtain rfl : x = y := by simpa using hfb
  rw [ha] at hb; simpa using hb

/-- The entry point takes the message of the least class; the others stay in their order (R159). -/
theorem takeEntry_least {last : Nat} {q r : List SliceMsg} {x : SliceMsg} (h : takeEntry last q = some (x, r)) :
    (∃ a b, q = a ++ x :: b ∧ r = a ++ b) ∧ ∀ y ∈ q, x.rank ≤ y.rank := by
  unfold takeEntry at h
  dsimp only at h
  split at h
  · obtain ⟨h1, a, b, h2, h3, -⟩ := takeFirst_some h
    refine ⟨⟨a, b, h2, h3⟩, fun y hy => ?_⟩
    rw [show x.rank = leastRank q by simpa using h1]; exact leastRank_le hy
  · rename_i hk
    split at h
    · cases h
    · obtain ⟨h1, a, b, h2, h3, -⟩ := takeFirst_some h
      refine ⟨⟨a, b, h2, h3⟩, fun y hy => ?_⟩
      have := leastRank_le hy; have := rank_le x; omega

/-- Of class REQ the entry point takes a head that no other head comes before (R159). -/
theorem takeEntry_req {last : Nat} {q r : List SliceMsg} {x y : SliceMsg} {m n : MemReq} (h : takeEntry last q = some (x, r))
    (hx : x.req? = some m) (hy : y ∈ q) (hh : isHead q y = true) (hn : y.req? = some n) :
    keyLess (reqKey last n) (reqKey last m) = false := by
  have hr : x.rank = 5 := (rank_req x).2 (by simp [hx])
  unfold takeEntry at h
  dsimp only at h
  split at h
  · rename_i hk
    have := (takeFirst_some h).1
    have : x.rank = leastRank q := by simpa using this
    omega
  · split at h
    · cases h
    · rename_i b hb
      have h1 := (takeFirst_some h).1
      obtain rfl : m = b := by rw [hx] at h1; simpa using h1
      have hu : ∀ k l, (some k = none ∨ ∃ x ∈ q.filter (isHead q), x.req? = some k) →
          (some l = none ∨ ∃ x ∈ q.filter (isHead q), x.req? = some l) → k.input = l.input → k = l := by
        rintro k l (hk | ⟨u, hu, eu⟩) (hl | ⟨v, hv, ev⟩) he
        · cases hk
        · cases hk
        · cases hl
        · exact head_unique (List.mem_filter.mp hu).2 (List.mem_filter.mp hv).2 eu ev he
      exact (bestReq_spec last _ none m hb hu).2 n (.inr ⟨y, List.mem_filter.mpr ⟨hy, hh⟩, hn⟩)

/-- Where messages wait, one is taken. -/
theorem takeEntry_some (last : Nat) (q : List SliceMsg) (h : q ≠ []) : (takeEntry last q).isSome = true := by
  unfold takeEntry
  dsimp only
  split
  · rename_i hk
    obtain ⟨x, hx, he⟩ := foldl_min_hit q 5 hk
    cases ht : takeFirst (fun x => x.rank == leastRank q) q with
    | some _ => rfl
    | none => have := takeFirst_none ht x hx; simp only [beq_eq_false_iff_ne] at this; exact absurd he this
  · rename_i hk
    obtain ⟨x, t, rfl⟩ := List.exists_cons_of_ne_nil h
    have hr : x.rank = 5 := by have := leastRank_le (List.mem_cons_self (a := x) (l := t)); have := rank_le x; omega
    obtain ⟨m, hm⟩ := Option.isSome_iff_exists.mp ((rank_req x).1 hr)
    have hh : isHead (x :: t) x = true := by unfold isHead takeEntry.headReq; simp [hm]
    have hs := bestReq_some last ((x :: t).filter (isHead (x :: t))) none
      (.inr ⟨x, List.mem_filter.mpr ⟨List.mem_cons_self, hh⟩, by simp [hm]⟩)
    split
    · rename_i hn
      have : bestReq last none ((x :: t).filter (isHead (x :: t))) = none := hn
      rw [this] at hs; cases hs
    · rename_i b hb
      have hb' : bestReq last none ((x :: t).filter (isHead (x :: t))) = some b := hb
      have hu : ∀ k l, (some k = none ∨ ∃ y ∈ (x :: t).filter (isHead (x :: t)), y.req? = some k) →
          (some l = none ∨ ∃ y ∈ (x :: t).filter (isHead (x :: t)), y.req? = some l) → k.input = l.input → k = l := by
        rintro k l (hk | ⟨u, hu, eu⟩) (hl | ⟨v, hv, ev⟩) he
        · cases hk
        · cases hk
        · cases hl
        · exact head_unique (List.mem_filter.mp hu).2 (List.mem_filter.mp hv).2 eu ev he
      obtain ⟨h1 | ⟨z, hz, e⟩, -⟩ := bestReq_spec last _ none b hb' hu
      · cases h1
      · cases ht : takeFirst (fun x => x.req? == some b) (x :: t) with
        | some _ => rfl
        | none => have := takeFirst_none ht z (List.mem_filter.mp hz).1; rw [e] at this; simp at this

end Sys2Proof.Machine
end

