-- ==== Sys2Proof/Laws/Events.lean ====
section
/-!
SUPPORT. What writing one event record does to a ring that is set up and whose host can be written (R343).
-/
namespace Sys2Proof.Machine

/-- A ring write leaves the way to the host as it is. -/
theorem canWrite_setRing (c : Chip) (k : Nat) (q : Ring) (t : Nat) : canWrite (c.setRing k q) t = canWrite c t := rfl

/-- The record at EVT_TAIL; the phase turns where the index wraps. -/
theorem writeRecord_setRing (c : Chip) (k : Nat) (q : Ring) (e : EventRec) (hq : q.state ≠ .unset) (hw : canWrite c k = true) :
    writeRecord (c.setRing k q) k e = interrupt (((c.setRing k q).setRing k { q with
          evtTail := (q.evtTail + 1) % q.evtSize,
          phase := if (q.evtTail + 1) % q.evtSize = 0 then !q.phase else q.phase, lostRaised := false }).emit
        (.event (2 * k) (q.evtBase.toNat + 32 * q.evtTail) (EventRec.bytes { e with time := c.ft.count, phase := q.phase }))) k := by
  have hd : q ≠ default := by rintro rfl; exact hq rfl
  unfold writeRecord
  simp only [ring_setRing _ _ _ hd, canWrite_setRing, hw, Bool.not_true, Bool.false_eq_true, ↓reduceIte]
  rw [if_neg hq]
  rfl

end Sys2Proof.Machine
end

