-- ==== Sys2Proof/Laws/FmApi.lean ====
section
/-!
SUPPORT. FM API requests: who is served, and a change that the admission check accepts (R275).
-/
namespace Sys2Proof.Machine

/-- A request of the manager is served while firmware runs. -/
theorem fmServed_of (c : Chip) (q : FmReq) (b : Chip → Chip) (h1 : c.rst.running = true) (h2 : c.rings.fwReady = true)
    (h3 : q.tenant = 0) : fmServed c q b = b c := by
  unfold fmServed; rw [if_neg (by rw [h1, h2]; decide), if_neg (by simp [h3])]

/-- Another tenant gets Invalid Input. -/
theorem fmServed_not (c : Chip) (q : FmReq) (b : Chip → Chip) (h1 : c.rst.running = true) (h2 : c.rings.fwReady = true)
    (h3 : q.tenant ≠ 0) : fmServed c q b = c.emit (.fmAnswer q.tag .invalidInput []) := by
  unfold fmServed; rw [if_neg (by rw [h1, h2]; decide), if_pos h3]

/-- A change that no group holds up and admission accepts. -/
theorem fmChange_of (c e : Chip) (q : FmReq) (os : List Obj) (go : Chip → Chip) (h1 : heldByOther c os 0 = false)
    (h2 : admitFail c e 0 = none) : fmChange c q os none e go = go e := by
  unfold fmChange; rw [if_neg (by rw [h1]; decide)]; simp only [h2]

end Sys2Proof.Machine
end

