-- ==== Sys2Proof/Laws/Frames.lean ====
section
/-!
SUPPORT. The chip as a vendor command finds it when it begins: only its ring's list has changed.
-/
namespace Sys2Proof

open Machine

variable (c : Chip) (r : Nat) (d : Desc) (f : InFlight)

@[simp] theorem begun_ft : (begun c r d f).ft = c.ft := rfl
@[simp] theorem begun_sw : (begun c r d f).sw = c.sw := rfl
@[simp] theorem begun_sched : (begun c r d f).sched = c.sched := rfl
@[simp] theorem begun_home : (begun c r d f).home = c.home := rfl
@[simp] theorem begun_pool : (begun c r d f).pool = c.pool := rfl
@[simp] theorem begun_hbm : (begun c r d f).hbm = c.hbm := rfl
@[simp] theorem begun_stv : (begun c r d f).stv = c.stv := rfl
@[simp] theorem begun_ports : (begun c r d f).ports = c.ports := rfl
@[simp] theorem begun_lanes : (begun c r d f).lanes = c.lanes := rfl
@[simp] theorem begun_ten : (begun c r d f).ten = c.ten := rfl
@[simp] theorem begun_grp : (begun c r d f).grp = c.grp := rfl
@[simp] theorem begun_mov : (begun c r d f).mov = c.mov := rfl
@[simp] theorem begun_flt : (begun c r d f).flt = c.flt := rfl
@[simp] theorem begun_bb : (begun c r d f).bb = c.bb := rfl
@[simp] theorem begun_test : (begun c r d f).test = c.test := rfl
@[simp] theorem begun_slot : (begun c r d f).slot = c.slot := rfl
@[simp] theorem begun_pow : (begun c r d f).pow = c.pow := rfl
@[simp] theorem begun_ctr : (begun c r d f).ctr = c.ctr := rfl
@[simp] theorem begun_sec : (begun c r d f).sec = c.sec := rfl
@[simp] theorem begun_rst : (begun c r d f).rst = c.rst := rfl
@[simp] theorem begun_regs : (begun c r d f).regs = c.regs := rfl
@[simp] theorem begun_sent : (begun c r d f).sent = c.sent := rfl
@[simp] theorem begun_freeCtr : (begun c r d f).freeCtr = c.freeCtr := rfl

end Sys2Proof
end

