-- ==== Sys2Proof/Laws/Runs.lean ====
section
/-!
SUPPORT. What a step and a command's run come down to: every command's outcome is a next state, a vendor command that runs is its
body, what is left of the reactions afterwards.
-/
namespace Sys2Proof

open Machine

/-- Every command ends in a next state. -/
theorem exec_is_outcome (i : Instr) (s : State) : ∃ c, exec i s = outcome s c := by
  cases i <;> exact ⟨_, rfl⟩

/-- A command completes with `c` where its meaning makes `c`. -/
theorem after_of {i : Instr} {s : State} {b c : Chip} (h : exec i s = outcome s b) (e : b = c) : After s i c := by
  subst e; exact h

/-- The command that may start is the one that the descriptor names. -/
theorem startable_names {before l : List InFlight} {op : Nat} {d : Desc} {f : InFlight} (h : startable before l op d = some f) :
    f.cmd.tag = d.tag ∧ f.cmd.opcode = op ∧ f.cmd.target = d.tgt := by
  induction l generalizing before with
  | nil => cases h
  | cons g rest ih =>
    unfold startable at h
    split at h
    · exact ih h
    · split at h
      · cases h
      · rename_i h1
        have h2 : g.cmd.tag = d.tag ∧ g.cmd.opcode = op ∧ g.cmd.target = d.tgt := by
          refine ⟨?_, ?_, ?_⟩ <;> refine Decidable.byContradiction (fun h3 => h1 ?_)
          · exact .inl h3
          · exact .inr (.inl h3)
          · exact .inr (.inr h3)
        split at h
        · cases h
        · split at h
          · cases h
          · cases h; exact h2

/-- A vendor command that runs is its body on the chip with the command marked as started. -/
theorem runCmd_of_runs {op r : Nat} {d : Desc} {c : Chip} {f : InFlight} (body : Chip → CmdRef → Chip)
    (h : Runs c r op d f) : runCmd op body r d c = body (begun c r d f) (refOf r d f) := by
  obtain ⟨⟨h1, h2, h3, h4⟩, h5, h6⟩ := h
  have h7 : (!isQuery op && heldByOther c (claimsOf c op d) 0) = false := by
    rw [← Bool.not_eq_true']; simpa using h6
  unfold runCmd
  simp only [h1, h2, h3, h4, h5, h7, Bool.not_true, Bool.false_eq_true, ↓reduceIte]
  rfl

/-- A vendor command that steps 2 to 4 of R346 let pass. -/
theorem runCmd_of_passes {op r : Nat} {d : Desc} {c : Chip} {f : InFlight} (body : Chip → CmdRef → Chip)
    (h : Passes c r op d f) : runCmd op body r d c =
      if d.stage then stage c (refOf r d f) op d
      else if !isQuery op && heldByOther c (claimsOf c op d) 0 then endNow c (refOf r d f) .lockHeld []
      else body (begun c r d f) (refOf r d f) := by
  obtain ⟨h1, h2, h3, h4⟩ := h
  unfold runCmd
  simp only [h1, h2, h3, h4, Bool.not_true, Bool.false_eq_true, ↓reduceIte]
  rfl

/-- A vendor command completes as its body says. -/
theorem completes_of {s : State} {i : Instr} {op r : Nat} {d : Desc} {pre : Chip → Prop} {eff body : Chip → CmdRef → Chip}
    (h : exec i s = outcome s (runCmd op body r d s.chip)) (e : ∀ c x, pre c → body c x = eff c x) :
    Completes s i op r d pre eff := by
  intro f hr hp
  exact after_of h (by rw [runCmd_of_runs body hr]; exact e _ _ hp)

/-- Every row that is a vendor command goes through the runner. -/
theorem vendor_runs (i : Instr) (op r : Nat) (d : Desc) (s : State) (h : i.vendor = some (op, r, d)) :
    ∃ body, exec i s = outcome s (runCmd op body r d s.chip) := by
  cases i <;> first | (cases h; exact ⟨_, rfl⟩) | exact absurd h (by intro h; cases h)

/-- No reaction is left over. -/
theorem settle_todo (n : Nat) (c : Chip) : (settle n c).flt.todo = [] := by
  induction n generalizing c with
  | zero => rfl
  | succ n ih =>
    unfold settle
    split
    · assumption
    · exact ih _

/-- Nothing follows a command that set off no reaction. -/
theorem settle_quiet (n : Nat) (c : Chip) (h : c.flt.todo = []) : settle n c = c := by
  cases n with
  | zero => unfold settle; rw [← h]
  | succ n => unfold settle; split <;> simp_all

/-- The pins follow the collector. -/
theorem pins_follow (c : Chip) : PinsFollow (pins c) := by
  constructor
  · intro h
    by_cases hr : c.rst.running <;> simp_all [pins, irqPin, irqDue]
  · intro h
    by_cases hr : c.rst.running <;> simp_all [pins, irqPin]

/-- The pins leave the reactions alone. -/
theorem pins_todo (c : Chip) : (pins c).flt.todo = c.flt.todo := by
  unfold pins; split <;> rfl

/-- What follows a command leaves no reaction over. -/
theorem conclude_todo (a b : Chip) : (conclude a b).flt.todo = [] := by
  have h : ∀ c : Chip, (syncAuto c).flt = c.flt := by intro c; unfold syncAuto; rfl
  unfold conclude
  rw [pins_todo]
  generalize (if b.pool = a.pool then b else remotesBack a b) = e
  split
  · exact settle_todo _ _
  · rw [h]; exact settle_todo _ _

/-- After a command the pins follow the collector. -/
theorem conclude_follow (a b : Chip) : PinsFollow (conclude a b) := pins_follow _

/-- After a command that set off no reaction and left the pooling state alone, only the pins follow. -/
theorem conclude_quiet (a b : Chip) (h : b.flt.todo = []) (hp : b.pool = a.pool) : conclude a b = pins b := by
  unfold conclude
  rw [if_pos hp]
  simp only [settle_quiet _ _ h]
  rw [if_pos hp]

end Sys2Proof
end

