-- ==== Sys2Proof/Laws/Groups.lean ====
section
/-!
SUPPORT. Commit groups: whom the ownership check lets pass (R363), and claims that hold commands up (R366).
-/
namespace Sys2Proof.Machine

/-- The owner, or the manager where a command lets it, finds its group in a state that the command takes. -/
theorem refusal_own {c : Chip} {x : CmdRef} {m : Bool} {l : List GState} (h1 : l.contains (c.group x.target).state = true)
    (h2 : (c.group x.target).state ≠ .none) (h3 : (c.group x.target).owner = x.ring ∨ (m = true ∧ isManager x.ring = true)) :
    groupRefusal c x m l = none := by
  unfold groupRefusal; dsimp only
  rw [if_neg h2, if_neg (by rintro ⟨h4, h5⟩; rcases h3 with h3 | ⟨h3, h6⟩
                            · exact h4 h3
                            · rw [h3, h6] at h5; simp at h5), h1]; rfl

/-- Another ring finds LOCK_HELD. -/
theorem refusal_other {c : Chip} {x : CmdRef} {l : List GState} (h2 : (c.group x.target).state ≠ .none)
    (h3 : (c.group x.target).owner ≠ x.ring) : groupRefusal c x false l = some .lockHeld := by
  unfold groupRefusal; dsimp only; rw [if_neg h2, if_pos ⟨h3, by simp⟩]

/-- The object and ring of a command that runs. -/
theorem runs_names {r op : Nat} {d : Desc} {c : Chip} {f : InFlight} (h : Runs c r op d f) :
    (refOf r d f).target = d.tgt ∧ (refOf r d f).ring = r := ⟨(startable_names h.1.2.1).2.2, rfl⟩

/-- A claim of a group holds up a command outside groups. -/
theorem held_of_claim {c : Chip} {os : List Obj} (h : os.any (fun o => (claimant c o).any (fun g => g != 0)) = true) :
    heldByOther c os 0 = true := by
  unfold heldByOther
  rw [List.any_eq_true] at h ⊢
  obtain ⟨o, h1, h2⟩ := h
  refine ⟨o, h1, ?_⟩
  cases h3 : claimant c o with
  | none => rw [h3] at h2; cases h2
  | some g => rw [h3] at h2; exact h2

end Sys2Proof.Machine
end

