-- ==== Sys2Proof/Laws/Home.lean ====
section
/-!
SUPPORT. What a request does at its home slice: on a private line, on a coherent line whose entry fits; trackers read back.
-/
namespace Sys2Proof

open Machine

/-- The tracker just set is found. -/
@[simp] theorem tracker_setTracker (c : Chip) (n : Nat) (t : Tracker) : (c.setTracker n (some t)).tracker n = some t :=
  Tbl.look_put_new c.home.trackers n (some t) (by simp)

/-- The later tracker counts. -/
@[simp] theorem setTracker_setTracker (c : Chip) (n : Nat) (t u : Tracker) :
    (c.setTracker n (some t)).setTracker n (some u) = c.setTracker n (some u) := by
  have h := Tbl.put_put_new c.home.trackers n (some t) (some u) (by simp) (by simp)
  unfold Chip.setTracker; simp only [h]

/-- A request on a private line (R135). -/
theorem startReq_private (k : Nat) (c : Chip) (m : MemReq) (i : Bool) (pool k' : Nat) (h : lineDomain c m.line = none)
    (hs : m.stamp = some k') : startReq (k + 1) c m i pool = if i then sendDone c m else
      beginData (c.setTracker m.line
        (some { purpose := .read m i, pool := pool, stamp := k', domain := 256, sc := m.sc, want := m.want })) m.line m.fab := by
  unfold startReq; simp only [h, hs, Option.getD_some]

/-- A request on a coherent line whose entry fits: granted at once where its plan has no snoop, else its snoops are sent (R148). -/
theorem startReq_fits (k : Nat) (c c' : Chip) (m : MemReq) (i : Bool) (pool d k' : Nat) (p : Plan) (w : Meta)
    (h : lineDomain c m.line = some d) (hs : m.stamp = some k')
    (hw : wantOf (stateOf c d m.line) (holders c d m.line) (agentOf c d m) m i = w)
    (hp : readPlan (stateOf c d m.line) (holders c d m.line) (agentOf c d m) w = p)
    (hf : (p.fan && decide (16 ≤ fanUsed c (lineSlice m.line))) = false)
    (hc : fit c d m.line (stateOf c d m.line) (holders c d m.line) (agentOf c d m) w = .ok c') :
    startReq (k + 1) c m i pool =
      let t : Tracker := { purpose := .read m i, pool := pool, stamp := k', domain := d, sc := m.sc, want := w }
      if p.dsts.isEmpty then
        let s := stateAfter (stateOf c d m.line) (holders c d m.line) [] []
          (stateOf c d m.line == .unknown || (stateOf c d m.line == .wide && w == .any)) (agentOf c d m)
        let g := grant (markAsked c' d m.line) d m.line s (agentOf c d m) w
        if i then sendDone g m else beginData (g.setTracker m.line (some { t with before := s })) m.line m.fab
      else
        let u := snoopTo (markAsked c' d m.line) d m.line m.sc p.op p.dsts
        let g := u.1.setTracker m.line (some { t with phase := .snpPend, pending := u.2, fanout := p.fan })
        if i then g else beginData g m.line m.fab := by
  unfold startReq
  simp only [h, hs, hw, hp, hc]
  rw [hf]
  rfl

/-- A request in time that finds no open transaction and a shared tracker free starts (R160). -/
theorem enterReq_starts (c : Chip) (m : MemReq) (i : Bool) (e : Chip) (he : touchLine (countReq c m 0) m.line m.ecc = e)
    (hl : isLate e (stamped e m) = false) (h1 : (e.tracker m.line).isSome = false)
    (h2 : poolUsed e (lineSlice m.line) 0 < sharedTrackers e (lineSlice m.line)) :
    enterReq c m i = startReq 8 e (stamped e m) i 0 := by
  unfold enterReq; simp only [he, hl, h1]; rw [if_neg (by decide), if_neg (by decide), if_pos h2]

/-- A write that finds no open transaction starts. -/
theorem enterWrite_starts (c : Chip) (m : MemReq) (ptl : Bool) (e : Chip) (he : touchLine (countReq c m 1) m.line m.ecc = e)
    (h1 : e.tracker m.line = none) : enterWrite c m ptl = startWrite 8 e (stamped e m) ptl (writePool e (lineSlice m.line)) := by
  unfold enterWrite; simp only [he, h1]

/-- A write of a private line. -/
theorem startWrite_private (k : Nat) (c : Chip) (m : MemReq) (ptl : Bool) (pool : Option Nat) (h : lineDomain c m.line = none) :
    startWrite (k + 1) c m ptl pool =
      if mustRead c m.line ptl && pool.isNone then nackWrite c m else writeNow c m ptl (pool.getD 3) 256 := by
  unfold startWrite; simp only [h]

/-- A write of the line's one owner (Table 5.7); it needs no tracker of a pool (R160). -/
theorem startWrite_owner (k : Nat) (c : Chip) (m : MemReq) (ptl : Bool) (pool : Option Nat) (d a : Nat)
    (h : lineDomain c m.line = some d) (ha : agentOf c d m = some a) (hs : stateOf c d m.line = .any) (hh : holders c d m.line = [a]) :
    startWrite (k + 1) c m ptl pool = writeNow (match m.want with
      | .any => c
      | .shared => putRec c d m.line .sh [a]
      | .invalid => putRec c d m.line .inv []) m ptl 3 d := by
  have hw : writerHolds c d m.line (some a) m.want = true := by unfold writerHolds; simp [hs, hh]
  unfold startWrite
  simp only [h, ha, hw, if_true, Option.getD_some]
  rw [hs]
  unfold holderWrote
  cases m.want <;> simp [hs, hh]

end Sys2Proof
end

