-- ==== Sys2Proof/Laws/Registers.lean ====
section
/-!
SUPPORT. Register writes: an aligned full access of a path that reaches the BAR is one word write, or two (R539, R540).
-/
namespace Sys2Proof.Machine

/-- Where hardware sets no W1C bit in the cycle, a write is taken as it is (R8). -/
@[simp] theorem clearsLess_zero (m v : Nat) : clearsLess m v 0 = v := by unfold clearsLess; simp

/-- A write of one word of BAR0 where hardware sets no W1C bit in the cycle. -/
theorem writeWord_plain (c : Chip) (p : Path) (off v : Nat) : writeWord c p false off v 0 = writeReg c p off v := by
  unfold writeWord; simp

/-- A full aligned 32-bit access is one register write. -/
theorem access_is_write (c : Chip) (path : Path) (off : Nat) (v : Word) (h : barOpen c path false = true)
    (hp : path = .endpoint ∨ path = .firmware) (h1 : off < 2 ^ 21) (h2 : off % 4 = 0) :
    writeAccess c path { offset := off, value := v.setWidth 64 } = writeReg c path off v.toNat := by
  unfold writeAccess
  have hb : ¬ ((!barOpen c path false) = true ∨ barSize path false ≤ off) := by
    rw [h]; rcases hp with e | e <;> subst e <;> simp only [barSize] <;> simp <;> omega
  have hv : (v.setWidth 64).toNat % 2 ^ 32 = v.toNat := by simp; exact v.isLt
  dsimp only
  rw [if_neg hb, if_neg (by simp [h2]), hv]
  simp only [Bool.false_eq_true, ↓reduceIte]
  exact writeWord_plain _ _ _ _

theorem write_narrow (c : Chip) (p : Path) (off : Nat) (v : BitVec 64) (h : barOpen c p false = true) (h1 : off < barSize p false)
    (h2 : off % 4 = 0) : registerWrite p { offset := off, value := v } c = writeReg c p off (v.toNat % 2 ^ 32) := by
  unfold registerWrite writeAccess
  rw [if_neg (by rw [show barOpen c p _ = true from h]; simp; exact h1), if_neg (by simp; exact h2)]; exact writeWord_plain _ _ _ _

theorem write_wide (c : Chip) (p : Path) (off : Nat) (v : BitVec 64) (h : barOpen c p false = true) (h1 : off < barSize p false)
    (h2 : off % 8 = 0) : registerWrite p { offset := off, value := v, wide := true } c =
      writeReg (writeReg c p off (v.toNat % 2 ^ 32)) p (off + 4) (v.toNat / 2 ^ 32) := by
  unfold registerWrite writeAccess
  rw [if_neg (by rw [show barOpen c p _ = true from h]; simp; exact h1), if_neg (by simp; exact h2)]
  simp only [↓reduceIte]
  exact (writeWord_plain _ _ _ _).trans (congrArg (fun c => writeReg c p (off + 4) (v.toNat / 2 ^ 32)) (writeWord_plain _ _ _ _))

end Sys2Proof.Machine
end

