-- ==== Sys2Proof/Laws/Resets.lean ====
section
/-!
SUPPORT. Resets: the count of a hold-up touches the black box alone.
-/
namespace Sys2Proof.Machine

/-- The frame of the hold-up count. -/
theorem countHoldup_frame (c : Chip) : ∃ b, countHoldup c = { c with bb := b } := by
  unfold countHoldup; split <;> exact ⟨_, rfl⟩

end Sys2Proof.Machine
end

