-- ==== Sys2Proof/Laws/Slots.lean ====
section
/-!
SUPPORT. Slot-power channels: what the shared operations of a fault and of a damaged transistor leave behind (R445, R447, R448, R450).
-/
namespace Sys2Proof.Machine

/-- An event to the manager is outside what a raise leaves alone. -/
theorem slotEvent_unraised (c : Chip) (n k : Nat) : (slotEvent c n k).unraised = c.unraised := by
  unfold slotEvent; split
  · exact unsolMgr_unraised _ _ _
  · rfl

/-- A slot event leaves the channels. -/
theorem slotEvent_chan (c : Chip) (n k m : Nat) : (slotEvent c n k).chan m = c.chan m := by
  unfold Chip.chan; show (slotEvent c n k).unraised.slot.chans.look m = _; rw [slotEvent_unraised]; rfl

/-- A slot event leaves the reset state. -/
theorem slotEvent_rst (c : Chip) (n k : Nat) : (slotEvent c n k).rst = c.rst := by
  show (slotEvent c n k).unraised.rst = _; rw [slotEvent_unraised]; rfl

/-- A slot event leaves the sources. -/
theorem slotEvent_source (c : Chip) (n k m : Nat) : (slotEvent c n k).source m = c.source m := by
  unfold Chip.source slotEvent; split
  · rw [unsolMgr_sources]
  · rfl

/-- A raise leaves the channels. -/
theorem slotRaise_chan (c : Chip) (n k m : Nat) : (slotRaise c n k).chan m = c.chan m := by unfold slotRaise Chip.chan; rw [raise_slot]

/-- The warning leaves the reset state. -/
theorem warnOn_rst (c : Chip) (n : Nat) : (warnOn c n).rst = c.rst := by
  unfold warnOn; dsimp only; split
  · rfl
  · rw [slotEvent_rst]; rfl

/-- The warning of a channel. -/
theorem warnOn_chan (c : Chip) (n : Nat) : (warnOn c n).chan n = { c.chan n with warn := true, warnEnd := c.ivl } := by
  have e : ({ c.chan n with warn := true, warnEnd := c.ivl } : Chan) ≠ default := by
    intro e; have := congrArg Chan.warn e; cases this
  unfold warnOn; dsimp only; split
  · exact chan_setChan _ _ _ e
  · rw [slotEvent_chan]; exact chan_setChan _ _ _ e

/-- A raise of source 274 while the die runs. -/
theorem slotRaise_pending (c : Chip) (n : Nat) (h : c.rst.running = true) : ((slotRaise c n 274).source 274).pending = true := by
  unfold slotRaise; rw [raise_source _ _ _ _ h, if_pos rfl]; rfl

/-- A raise keeps what is pending. -/
theorem slotRaise_keeps (c : Chip) (n m : Nat) (h : c.rst.running = true) (hp : (c.source m).pending = true) (k : Nat) :
    ((slotRaise c n k).source m).pending = true := by
  unfold slotRaise; rw [raise_source _ _ _ _ h]; split
  · rfl
  · exact hp

/-- A log record leaves the raises that wait. -/
theorem logRecord_inReset (c : Chip) (r : LogRec) : (logRecord c r).flt.inReset = c.flt.inReset := by
  unfold logRecord; dsimp only; repeat' first | rfl | split

/-- A raise while the die is held waits (R511). -/
theorem slotRaise_inReset (c : Chip) (n k : Nat) (h : c.rst.running = false) :
    (slotRaise c n k).flt.inReset = c.flt.inReset ++ [(k, srcInfo 12 n)] := by
  unfold slotRaise raise raiseHeld; rw [if_neg (by rw [h]; decide), logRecord_inReset]

/-- While the die is held no event is sent. -/
theorem slotEvent_held (c : Chip) (n k : Nat) (h : c.rst.running = false) : slotEvent c n k = c := by
  unfold slotEvent; rw [if_neg (by rw [h]; decide)]

/-- A channel write leaves the sources. -/
theorem setChan_source (c : Chip) (n m : Nat) (h : Chan) : (c.setChan n h).source m = c.source m := rfl

/-- A raise leaves the reset state. -/
theorem slotRaise_rst (c : Chip) (n k : Nat) : (slotRaise c n k).rst = c.rst := raise_rst _ _ _

theorem faultRaised (c : Chip) (n : Nat) : let d := slotEvent (slotRaise (warnOn c n) n 274) n 4
    d.rst = c.rst ∧ (c.rst.running = true → (d.source 274).pending = true) ∧
    (c.rst.running = false → (274, srcInfo 12 n) ∈ d.flt.inReset) ∧
    d.chan n = { c.chan n with warn := true, warnEnd := c.ivl } := by
  have hr : (slotRaise (warnOn c n) n 274).rst = c.rst := by rw [slotRaise_rst, warnOn_rst]
  refine ⟨by rw [slotEvent_rst, hr], ?_, ?_, by rw [slotEvent_chan, slotRaise_chan, warnOn_chan]⟩
  · intro h; rw [slotEvent_source]; exact slotRaise_pending _ _ (by rw [warnOn_rst]; exact h)
  · intro h; rw [slotEvent_held _ _ _ (by rw [hr]; exact h), slotRaise_inReset _ _ _ (by rw [warnOn_rst]; exact h)]; simp

/-- A channel in another state than EMPTY is not the default. -/
theorem chan_new {st : ChanState} (h : st ≠ .empty) (x : Chan) (hx : x.state = st) : x ≠ default := by
  intro e; rw [e] at hx; exact h hx.symm

/-- After a fault: the source, and LATCHED or RETRY_WAIT (R445). -/
theorem chanFault_post (c : Chip) (n : Nat) : let h := c.chan n
    let e := chanFault c n 274
    (c.rst.running = true → (e.source 274).pending = true) ∧
    (c.rst.running = false → ∃ i, (274, i) ∈ e.flt.inReset) ∧
    (e.chan n).state = if h.p.retry = true ∧ (h.p.retryLimit = 0 ∨ h.retries < h.p.retryLimit) then .retryWait else .latched := by
  intro h e
  obtain ⟨hd, hp, hi, hc⟩ := faultRaised c n
  simp only [e, h]
  unfold chanFault; dsimp only
  generalize slotEvent (slotRaise (warnOn c n) n 274) n 4 = d at hd hp hi hc ⊢
  by_cases hr : (c.chan n).p.retry = true
  · rw [if_neg (by rw [hr]; decide)]
    by_cases hl : (c.chan n).p.retryLimit = 0 ∨ (c.chan n).retries < (c.chan n).p.retryLimit
    · rw [if_pos hl, if_pos ⟨hr, hl⟩]
      refine ⟨fun q => ?_, fun q => ⟨srcInfo 12 n, ?_⟩, ?_⟩
      · rw [setChan_source]; exact hp q
      · rw [setChan_flt]; exact hi q
      · rw [chan_setChan _ _ _ (chan_new (st := .retryWait) (by decide) _ rfl)]
    · rw [if_neg hl, if_neg (fun q => hl q.2)]
      refine ⟨fun q => ?_, fun q => ⟨srcInfo 12 n, ?_⟩, ?_⟩
      · rw [slotEvent_source]
        exact slotRaise_keeps _ _ _ (by rw [setChan_rst, hd]; exact q) (by rw [setChan_source]; exact hp q) _
      · have q1 := q; rw [← hd] at q1
        rw [slotEvent_held _ _ _ (by rw [slotRaise_rst, setChan_rst]; exact q1), slotRaise_inReset _ _ _ (by rw [setChan_rst]; exact q1)]
        rw [setChan_flt]; exact List.mem_append_left _ (hi q)
      · rw [slotEvent_chan, slotRaise_chan, chan_setChan _ _ _ (chan_new (st := .latched) (by decide) _ rfl)]
  · rw [if_pos (by simpa using hr), if_neg (fun q => hr q.1)]
    refine ⟨fun q => ?_, fun q => ⟨srcInfo 12 n, ?_⟩, ?_⟩
    · rw [slotEvent_source, setChan_source]; exact hp q
    · rw [slotEvent_held _ _ _ (by rw [setChan_rst, hd]; exact q), setChan_flt]; exact hi q
    · rw [slotEvent_chan, chan_setChan _ _ _ (chan_new (st := .latched) (by decide) _ rfl)]

/-- After a damage: the source, and BROKEN. -/
theorem chanBroken_post (c : Chip) (n : Nat) : let e := chanBroken c n 274
    (c.rst.running = true → (e.source 274).pending = true) ∧
    (c.rst.running = false → ∃ i, (274, i) ∈ e.flt.inReset) ∧ (e.chan n).state = .broken := by
  intro e
  simp only [e]; unfold chanBroken; dsimp only
  have hd : (if (c.chan n).live = true then warnOn c n else c).rst = c.rst := by
    split
    · exact warnOn_rst _ _
    · rfl
  generalize (if (c.chan n).live = true then warnOn c n else c) = d at hd ⊢
  unfold Chip.modChan
  refine ⟨fun q => ?_, fun q => ⟨srcInfo 12 n, ?_⟩, ?_⟩
  · rw [slotEvent_source]; exact slotRaise_pending _ _ (by rw [setChan_rst, hd]; exact q)
  · rw [← hd] at q
    rw [slotEvent_held _ _ _ (by rw [slotRaise_rst, setChan_rst]; exact q), slotRaise_inReset _ _ _ (by rw [setChan_rst]; exact q)]; simp
  · rw [slotEvent_chan, slotRaise_chan, chan_setChan _ _ _ (chan_new (st := .broken) (by decide) _ rfl)]

/-- Two writes of one channel. -/
theorem setChan_setChan (c : Chip) (n : Nat) (v w : Chan) (hv : v ≠ default) (hw : w ≠ default) :
    (c.setChan n v).setChan n w = c.setChan n w := by
  unfold Chip.setChan; dsimp only; rw [Tbl.put_put_new _ _ _ _ hv hw]

end Sys2Proof.Machine
end

