-- ==== Sys2Proof/Machine/Package.lean ====
section
/-!
DEFINITION. Package, balls and electrical characteristics (22_package_electrical.md): which signal each of the 6,241 balls carries
(R523–R527), the reset state of the sideband pins (R527), the thresholds of the rail monitors (R531) and the wear figure (R537).
Nothing here is state: the functions say where the pins and rails of State reach the board.
-/
namespace Sys2Proof.Machine

/-! ### Names of balls (R523) -/

/-- The 19 row letters of R10. -/
def rowLetters : List String := ["A", "B", "C", "D", "E", "F", "G", "H", "J", "K", "L", "M", "N", "P", "T", "U", "V", "W", "Y"]

/-- The name of row `i`, 1 to 79 (R523). -/
def rowName (i : Nat) : String :=
  let letter : Nat → String := fun k => rowLetters.getD (k - 1) ""
  if i ≤ 19 then letter i else letter ((i - 1) / 19) ++ letter ((i - 1) % 19 + 1)

/-- The name of a ball. -/
def ballName (row col : Nat) : String := rowName row ++ toString col

/-! ### What a ball carries -/

/-- A signal or supply. A differential pair has a true and a complement ball; `pin` is a signal of Tables 22.5 and 22.6 with its index;
`rail` a supply ball. -/
inductive Ball where
  | tx (lane : Nat) (pos : Bool)
  | rx (lane : Nat) (pos : Bool)
  | refclk (course : Nat) (pos : Bool)
  | pin (name : String) (index : Nat)
  | rail (name : String) (index : Nat)
  | vss
  | rsvd
  deriving DecidableEq, Repr, Inhabited

/-- Band `e`, depth `d` 0–11, position `u` 0–66 (R525): the row index and the column. -/
def bandPlace (e d u : Nat) : Nat × Nat :=
  if e = 0 then (d + 1, u + 1) else if e = 1 then (u + 1, 79 - d) else if e = 2 then (79 - d, 79 - u) else (79 - u, d + 1)

/-- What lies at a depth and position of band `e` (R525, Table 22.4). -/
def bandBall (e d u : Nat) : Ball :=
  if u = 65 then .rail "VDDH_C" (2 * e)
  else if u = 66 then .rail "VDDH_C" (2 * e + 1)
  else if u = 32 then
    (if d = 0 then .refclk (2 * e) true else if d = 1 then .refclk (2 * e) false
     else if d = 3 then .refclk (2 * e + 1) true else if d = 4 then .refclk (2 * e + 1) false else .vss)
  else
    let n := 64 * (2 * e + u / 33) + 2 * (u % 33)
    if d = 0 then .tx n true else if d = 1 then .tx n false
    else if d = 3 then .tx (n + 1) true else if d = 4 then .tx (n + 1) false
    else if d = 6 then .rx n true else if d = 7 then .rx n false
    else if d = 9 then .rx (n + 1) true else if d = 10 then .rx (n + 1) false
    else .vss

/-- Band, depth and position of a ball of the outer ring (R524, R525). -/
def bandOf (row col : Nat) : Option (Nat × Nat × Nat) :=
  if row ≤ 12 ∧ col ≤ 67 then some (0, row - 1, col - 1)
  else if 68 ≤ col ∧ row ≤ 67 then some (1, 79 - col, row - 1)
  else if 68 ≤ row ∧ 13 ≤ col then some (2, 79 - row, 79 - col)
  else if 13 ≤ row ∧ col ≤ 12 then some (3, col - 1, 79 - row)
  else none

/-- Where lane `n`'s pairs lie (R525): the band, the position and the depths of TX_P and RX_P. -/
def laneAt (n : Nat) : Nat × Nat × Nat × Nat :=
  let c := n / 64
  let k := n % 64
  (c / 2, 33 * (c % 2) + k / 2, if k % 2 = 0 then 0 else 3, if k % 2 = 0 then 6 else 9)

/-- A bus in ascending index. -/
def bus (name : String) (n : Nat) : List Ball := (List.range n).map (Ball.pin name)

/-- Signals of one ball each. -/
def singles (names : List String) : List Ball := names.map (fun s => .pin s 0)

/-- Supply balls. -/
def supply (name : String) (i n : Nat) : List Ball := List.replicate n (.rail name i)

/-- The housekeeping block's balls in fill order (Table 22.5). -/
def housekeepingFill : List Ball :=
  singles ["RST_N", "WARM_N"] ++ bus "STRAP_CMODE" 8 ++ bus "STRAP_BOOT" 2 ++ singles ["I3C_SCL", "I3C_SDA", "QSPI_CLK", "QSPI_CS_N"] ++
  bus "QSPI_IO" 4 ++ singles ["JTAG_TCK", "JTAG_TMS", "JTAG_TDI", "JTAG_TDO", "JTAG_TRST_N", "ERR_OUT_N", "IRQ_OUT_N", "FT_OSC", "HK_HOLD"] ++
  bus "PRSNT_N" 32 ++ bus "SP_WARN_N" 32 ++ bus "GATE_A" 4 ++ bus "GATE_B" 4 ++ (List.range 28).map (fun i => .pin "GATE" (i + 4)) ++
  bus "SRC" 32 ++ bus "ISNS_P" 32 ++ bus "ISNS_N" 32 ++ bus "FEEDA_SNS" 4 ++ bus "FEEDB_SNS" 4 ++ supply "VSTBY_3V3" 0 8 ++
  supply "VSTBY_0V8" 0 8 ++ List.replicate 26 .vss

/-- The sideband block's balls in fill order (Table 22.6). -/
def sidebandFill : List Ball :=
  bus "PERST_IN_N" 64 ++ bus "PERST_OUT_N" 64 ++
  singles ["FT_SYNC_IN_P", "FT_SYNC_IN_N", "FT_SYNC_OUT_P", "FT_SYNC_OUT_N", "UART_TX", "UART_RX", "AVS_CLK", "AVS_MDATA", "AVS_SDATA"] ++
  supply "VDDIO_1V8" 0 8 ++ List.replicate 20 .vss

/-- Item `k`, counted from 0, of a list of items with their numbers of balls. -/
def fillAt : List (Ball × Nat) → Nat → Ball
  | [], _ => .vss
  | (b, n) :: l, k => if k < n then b else fillAt l (k - n)

/-- The items of the power field (Table 22.7). -/
def powerFill : List (Ball × Nat) :=
  [(.rail "VDDA_C" 0, 112), (.rail "VDDA_C" 1, 112), (.rail "VDDA_C" 2, 112), (.rail "VDDA_C" 3, 112), (.rail "VDD_CORE" 0, 885),
   (.rail "VDD_HBM" 0, 48), (.rail "VDDQ_HBM" 0, 64), (.rail "VPP_HBM" 0, 8), (.rsvd, 79), (.rail "VDDA_C" 4, 112),
   (.rail "VDDA_C" 5, 112), (.rail "VDDA_C" 6, 112), (.rail "VDDA_C" 7, 112)]

/-- A ball of the power field (R526): every fourth row from 24 on is VSS, the others are filled in order. -/
def powerBall (row col : Nat) : Ball :=
  let i := row - 21
  if i % 4 = 3 then .vss else fillAt powerFill (55 * (i - i / 4) + (col - 13))

/-- What the ball in a row and column, each 1 to 79, carries (R524, R526). -/
def ballAt (row col : Nat) : Ball :=
  match bandOf row col with
  | some (e, d, u) => bandBall e d u
  | none =>
    if row ≤ 17 then housekeepingFill.getD (55 * (row - 13) + (col - 13)) .vss
    else if row ≤ 20 then sidebandFill.getD (55 * (row - 18) + (col - 13)) .vss
    else powerBall row col

/-! ### Pins in reset (R527) -/

/-- What a pin does from the moment its rail is in range until firmware acts on it (the Reset column of Tables 22.5 and 22.6). -/
inductive PinReset where
  | hiZ | low | high | released | charging | input
  deriving DecidableEq, Repr, Inhabited

/-- The reset state of a signal of Tables 22.5 and 22.6. -/
def pinReset (name : String) : PinReset :=
  if ["I3C_SCL", "I3C_SDA", "QSPI_IO", "JTAG_TDO", "FT_SYNC_OUT_P", "FT_SYNC_OUT_N"].contains name then .hiZ
  else if ["QSPI_CLK", "GATE_A", "GATE_B", "GATE", "PERST_OUT_N", "AVS_CLK"].contains name then .low
  else if ["QSPI_CS_N", "UART_TX", "AVS_MDATA"].contains name then .high
  else if ["ERR_OUT_N", "IRQ_OUT_N", "SP_WARN_N"].contains name then .released
  else if name == "HK_HOLD" then .charging
  else .input

/-! ### Rail monitors (R508, R531) -/

/-- A rail's nominal voltage in mV (Table 21.1); VDD_CORE's is the AVS target. -/
def railNominal (name : String) (target : Nat) : Nat :=
  if name == "VSTBY_3V3" then 3300 else if name == "VSTBY_0V8" then 800 else if name == "VPP_HBM" ∨ name == "VDDIO_1V8" then 1800
  else if name == "VDDA_C" then 750 else if name == "VDDH_C" then 1200 else if name == "VDD_HBM" then 1100
  else if name == "VDDQ_HBM" then 400 else target

/-- Percent below nominal of the warning and fail thresholds (Table 22.9); no warning on a standby rail. -/
def railBelow (name : String) : Option Nat × Nat :=
  if name == "VSTBY_3V3" ∨ name == "VSTBY_0V8" then (none, 8)
  else if name == "VPP_HBM" ∨ name == "VDDIO_1V8" then (some 6, 8) else (some 4, 6)

/-- What a monitor finds. -/
inductive RailVerdict where
  | good | warning | fail | over
  deriving DecidableEq, Repr, Inhabited

/-- The verdict of a rail's monitor on a level of `mv` mV that has lasted 2 µs (R531, Table 22.9). -/
def railVerdict (name : String) (mv target : Nat) : RailVerdict :=
  let n := railNominal name target
  let b := railBelow name
  let high : Bool := if name == "VDD_CORE" then decide (880 < mv) else decide (108 * n < 100 * mv)
  let warn : Bool := match b.1 with
    | some w => decide (100 * mv < (100 - w) * n)
    | none => false
  if high then .over else if 100 * mv < (100 - b.2) * n then .fail else if warn then .warning else .good

/-! ### Service life (R537) -/

/-- Hours of life that one hour at a junction temperature of 95 + 5·k °C consumes (R537): one at 95 °C or below. -/
def lifeHours (k : Nat) : Nat := 2 ^ k

end Sys2Proof.Machine
end

