-- ==== Sys2Proof/Tests/Slice0.lean ====
section
/-!
SUPPORT. Tests: ill-formed commands, single steps, and for every statement with hypotheses a state and operands that meet them.
-/
namespace Sys2Proof.Tests

open Sys2Proof Sys2Proof.Machine

set_option Elab.async false

/-! ### Small states -/

/-- A descriptor with parameter bytes from byte 16 on. -/
def desc (target : Nat) (params : List Byte) : Desc :=
  { flags := 2, plen := (params.length + 7) / 8, tag := 7, target := BitVec.ofNat 32 target, params := params }

/-- The command of a descriptor as ring 0 has fetched it. -/
def entry (op : Nat) (d : Desc) : InFlight := { cmd := { tag := d.tag, opcode := op, target := d.tgt, respond := d.respond } }

/-- A running switch whose ring 0 has fetched one command. -/
def deliver (c : Chip) (op : Nat) (d : Desc) : Chip :=
  { c with rst := { c.rst with running := true },
           rings := { c.rings with fwReady := true,
                                   rings := c.rings.rings.put 0 { state := .running, cmdLog2 := 4, evtLog2 := 4,
                                                                  reserved := 1, flight := [entry op d] } } }

/-- The command runs: what `Runs` asks, decided. -/
def readyB (c : Chip) (op : Nat) (d : Desc) : Bool :=
  let e := deliver c op d
  fwServes e 0 op && decide (startable [] (e.ring (ringKey 0)).flight op d = some (entry op d)) && !pathWaits e 0 (entry op d) &&
  (preStatus e 0 op d).isNone && !d.stage && (isQuery op || !heldByOther e (claimsOf e op d) 0)

/-- The command runs. -/
abbrev Ready (c : Chip) (op : Nat) (d : Desc) : Prop := readyB c op d = true

/-- A command that is ready runs. -/
theorem ready_runs (c : Chip) (op : Nat) (d : Desc) (h : Ready c op d) : Runs (deliver c op d) 0 op d (entry op d) := by
  unfold Ready readyB at h
  simp only [Bool.and_eq_true, decide_eq_true_eq, Bool.not_eq_true', Option.isNone_iff_eq_none] at h
  obtain ⟨⟨⟨⟨⟨h1, h2⟩, h3⟩, h4⟩, h5⟩, h6⟩ := h
  exact ⟨⟨h1, h2, h3, h4⟩, h5, h6⟩

/-- The chip as the command begins. -/
def start0 (c : Chip) (op : Nat) (d : Desc) : Chip := begun (deliver c op d) 0 d (entry op d)

/-- A running switch. -/
def live (c : Chip) : Chip := { c with rst := { c.rst with running := true } }

/-- The result buffer of a query: 64 bytes at 0x1000. -/
def dQuery (target : Nat) : Desc := desc target (leBytes 8 4096 ++ leBytes 4 64)

/-- A device whose course 0 is a Stolevo course with link 0 ACTIVE. -/
def linkChip (x : StvLink) : Chip :=
  live { lanes := { courses := [(0, { stolevo := true })] }, stv := { links := [(0, { x with state := .active })] } }


/-! ### The whole machine -/

theorem witness_StepRunsFrontCommand : ({ pending := [.ftOscRestored] } : State).pending = .ftOscRestored :: [] := by decide


theorem witness_IdleStepAdvancesFabricTime :
    ((live {}).rst.running = true ∧ (live {}).ctr.ctrs.all (fun k => !k.2.enable) = true ∧ (live {}).flt.todo = [] ∧
      (live {}).home.inq = []) ∧
    ({} : Chip).rst.running = false ∧ ({} : Chip).rst.started = false ∧
    (warmHold (live { rst := { started := true } }) .pin).rst.running = false ∧
    (warmHold (live { rst := { started := true } }) .pin).rst.started = true := by decide

theorem witness_EveryStepAnswersNextState : State.reset.pending.tail = [] := by decide

theorem witness_ResetStateIsSafe : State.reset.pending = [] := by decide

theorem witness_EveryStepKeepsSafety : Safe State.reset ∧ ∃ t, step State.reset = .next t := by
  refine ⟨?_, _, rfl⟩
  unfold Safe QueueOk PinsFollow; decide

theorem witness_ColdResetStateValues : (State.reset.chip.tenant 0).state = .enabled := by decide

/-- A flow query of a flow that does not exist; a port shaper while group 5 claims its egress. -/
theorem witness_VendorCommandChecksInOrder :
    (let d := desc 3 []; let c := deliver {} 0x0242 d
     fwServes c 0 0x0242 = true ∧ startable [] (c.ring 0).flight 0x0242 d = some (entry 0x0242 d) ∧
     pathWaits c 0 (entry 0x0242 d) = false ∧ preStatus c 0 0x0242 d = some .noSuchTarget) ∧
    (let d := desc 8 []
     let c := (deliver {} 0x0104 d).setGroup 5 { state := .opened, claims := [{ kind := .egress, index := 1 }] }
     fwServes c 0 0x0104 = true ∧ startable [] (c.ring 0).flight 0x0104 d = some (entry 0x0104 d) ∧
     pathWaits c 0 (entry 0x0104 d) = false ∧ preStatus c 0 0x0104 d = none ∧ d.stage = false ∧ isQuery 0x0104 = false ∧
     heldByOther c (claimsOf c 0x0104 d) 0 = true) := by decide

/-- A port shaper staged into group 5. -/
def dStaged : Desc := { desc 8 [] with flags := 3, group := 5 }
def groupChip (g : Group) : Chip := (deliver {} 0x0104 dStaged).setGroup 5 g

theorem witness_StagingCopiesDescriptorIntoGroup :
    (let c := groupChip {}; (Passes c 0 0x0104 dStaged (entry 0x0104 dStaged) ∧ dStaged.stage = true) ∧ (c.group 5).state = .none) ∧
    (let c := groupChip { state := .opened, owner := 2 }
     Passes c 0 0x0104 dStaged (entry 0x0104 dStaged) ∧ (c.group 5).state ≠ .none ∧ (c.group 5).owner ≠ 0) ∧
    (let c := groupChip { state := .armed }
     Passes c 0 0x0104 dStaged (entry 0x0104 dStaged) ∧ (c.group 5).owner = 0 ∧ (c.group 5).state ≠ .opened) ∧
    (let c := groupChip { state := .opened, bytes := 262145 }
     Passes c 0 0x0104 dStaged (entry 0x0104 dStaged) ∧
     (decide (1024 ≤ (c.group 5).cmds) || decide (256 * 1024 < (c.group 5).bytes + copiedBytes dStaged)) = true) ∧
    (let c := (groupChip { state := .opened }).setGroup 9 { state := .opened, claims := [{ kind := .egress, index := 1 }] }
     Passes c 0 0x0104 dStaged (entry 0x0104 dStaged) ∧ heldByOther c (claimsOf c 0x0104 dStaged) 5 = true) ∧
    (let c := groupChip { state := .opened, bytes := 262144 }
     Passes c 0 0x0104 dStaged (entry 0x0104 dStaged) ∧
     (decide (1024 ≤ (c.group 5).cmds) || decide (256 * 1024 < (c.group 5).bytes + copiedBytes dStaged)) = false ∧
     heldByOther c (claimsOf c 0x0104 dStaged) 5 = false) := by
  unfold Passes; decide

theorem witness_VendorCommandWaitsItsTurn :
    fwServes {} 0 0x0233 = false ∧ startable [] (({} : Chip).ring 0).flight 0x0233 (desc 0 []) = none ∧
    (let d := desc 8 []
     let f : InFlight := { entry 0x0104 d with arrival := 2, objs := [{ kind := .egress, index := 1 }] }
     let c := ((deliver {} 0x0104 d).setRing 0 { state := .running, flight := [f] }).setRing 8193 { flight := [{ f with arrival := 1 }] }
     startable [] (c.ring 0).flight 0x0104 d = some f ∧ pathWaits c 0 f = true) := by decide

theorem witness_QuietCommandLeavesOnlyPins : ({} : Chip).flt.todo = [] ∧ ({} : Chip).pool = ({} : Chip).pool := by decide

theorem witness_RaiseSetsPendingAndRecord :
    (live {}).rst.running = true ∧ ((live {}).source 32).pending = false ∧
    ((live { flt := { sources := [(32, { pending := true, count := 65535 })] } }).source 32).pending = true ∧
    (live {}).flt.sources.wf = true ∧ (33 : Nat) ≠ 32 := by decide

/-- A command of ring 0 without RESPOND, and one with it whose host can be written. -/
theorem witness_EventRecordWrittenAtTail :
    (let x : CmdRef := { tag := 7, opcode := 0x0233 }
     let c : Chip := { rings := { rings := [(0, { state := .running, flight := [{ cmd := x }] })] } }
     (c.ring 0).flight.find? (fun y => sameCmd y.cmd x) = some { cmd := x } ∧ (c.ring 0).stopCmd = none ∧ x.respond = false) ∧
    (let x : CmdRef := { tag := 7, opcode := 0x0233, respond := true }
     let c : Chip := { rings := { rings := [(0, { state := .running, evtLog2 := 4, evtTail := 15, flight := [{ cmd := x }] })] },
                       ports := { ports := [(0, { state := .l0 })] }, sw := { host := [(0, { busMaster := [49] })] } }
     (c.ring 0).flight.find? (fun y => sameCmd y.cmd x) = some { cmd := x } ∧ (c.ring 0).stopCmd = none ∧
     (c.ring 0).state ≠ .unset ∧ canWrite c 0 = true ∧ ((c.ring 0).evtTail + 1) % (c.ring 0).evtSize = 0) := by decide

/-! ### Fabric Time -/

def dTime : Desc := desc 0 (leBytes 8 5000)
def dTimeCfg : Desc := desc 0 (leBytes 2 2 ++ leBytes 2 0 ++ leBytes 4 20)

theorem witness_FabricTimeCommandsComplete :
    (Ready {} 0x0A00 dTime ∧ dTime.zeroBut [(16, 8)] = true ∧ (start0 {} 0x0A00 dTime).ft.mode = .free ∧
      (start0 {} 0x0A00 dTime).now ≤ dTime.u64 16) ∧
    (Ready {} 0x0A01 dTimeCfg ∧ timeConfigCheck (start0 {} 0x0A01 dTimeCfg) dTimeCfg = none) ∧
    (Ready {} 0x0A02 (dQuery 0) ∧ (dQuery 0).bufferOk 0 = true ∧ (dQuery 0).zeroBut [(16, 12)] = true) ∧
    (let p : FtPending := { value := 9000, load := 1024 }
     let c : Chip := { ft := { count := 1024, pendSet := [p] } }
     c.ft.pendSet = [p] ∧ p.load ≤ c.now) ∧
    (let c : Chip := { ft := { count := 1024, pendStep := some (5, 1024), mode := .acquire } }
     c.ft.pendStep = some (5, 1024) ∧ 1024 ≤ c.now ∧ c.ft.mode = .acquire) := by
  decide +kernel

/-- The pulses of a frame whose bits are those of `v`. -/
def pulsesOf (v : BitVec 64) : List Nat := (List.range 64).map (fun i => if v.getLsbD i then 32768 else 16384)

/-- A frame with NEXT 3, CLASS 1 and the device's own CRC-8. -/
def frameWord : BitVec 64 :=
  let v : BitVec 64 := 0x10000000003
  v + BitVec.ofNat 64 (crc8 v * 2 ^ 56)

theorem witness_FabricTimeSourcesComplete :
    (let c : Chip := { ft := { usable := true, source := .sync, expect := some 3 } }
     c.ft.expect = some 3 ∧ (45056 ≤ 49152 ∧ 49152 ≤ 53248) ∧ c.ft.usable = true ∧ c.ft.syncUse = true ∧ c.ft.source = .sync) ∧
    (let f : SyncFrame := { pulses := pulsesOf frameWord }
     frameBits f = some frameWord ∧ crc8 frameWord = frameWord.toNat / 2 ^ 56 ∧ ({} : Chip).ft.expect = none) ∧
    (let c : Chip := { ft := { expect := some 9 } }
     c.ft.expect ≠ some (frameWord.toNat % 2 ^ 40) ∧ c.ft.lastFrame ≠ some (frameWord.toNat % 2 ^ 40)) ∧
    frameBits {} = none ∧
    (let c : Chip := { ft := { ivl := 50331648, syncCand := some {} } }
     c.past c.ft.lastMarker (3 * 2 ^ 24) = true ∧ c.ft.syncCand = some {}) ∧
    ({} : Chip).ft.lastOut ≠ some (({} : Chip).now / 2 ^ 24) ∧
    (let c : Chip := { ft := { mode := .holdover, ivl := 160000000000 } }
     c.ft.mode = .holdover ∧ c.past c.ft.holdSince (sec c.ft.holdLimit) = true) ∧
    (let c : Chip := { ft := { oscOk := true } }
     c.ft.oscOk = true ∧ c.ft.mode ≠ .holdover ∧ c.ft.mode ≠ .set) ∧
    (let c : Chip := { ft := { oscOk := false, mode := .set } }
     c.ft.oscOk = false ∧ c.ft.mode = .set) := by decide +kernel

theorem witness_TimeExchangeRowsComplete :
    (linkExists (linkChip {}) 0 = true ∧ ((linkChip {}).link 0).state = .active) ∧
    (linkChip {}).ft.lastXchg.look 0 ≠ some ((linkChip {}).now / 2 ^ 20) ∧
    (let c := linkChip { inbox := [.timeReq 3 100, .announce 1 62 true 5] }
     (c.link 0).inbox.contains (.timeReq 3 100) = true ∧ (c.link 0).inbox.contains (.announce 1 62 true 5) = true ∧ 62 < 63 ∧
     timeTrusted (c.link 0) = true) ∧
    (let c : Chip := { linkChip { inbox := [.timeRsp 3 7 9] } with
       ft := { exch := [(0, { active := true, exchId := 3, t1 := 100 })], ivl := 256000 } }
     (c.link 0).inbox.contains (.timeRsp (c.ft.exch.look 0).exchId 7 9) = true ∧
     (c.ft.exch.look 0).active = true ∧ c.past (c.ft.exch.look 0).since (us 16) = true) := by decide +kernel

/-! ### Switching -/

/-- Device 5 lies behind link 0 (path index 0); this device's management complex is ID 9. -/
def farChip (c : Chip) : Chip :=
  { linkChip {} with sw := { c.sw with fabric := [(5, 0x1001#64), (9, 0x0B#64)] }, ft := c.ft }

theorem witness_FlitAndBufferRowsComplete :
    (let c : Chip := live { ports := { ports := [(0, { role := 1, state := .l0 }), (4, { role := 1, state := .l0, ideReq := true })] } }
     let m : Traffic := .mem 0 false
     linkUp (c.port 0) = true ∧ (({ crcOk := false } : CxlFlit).crcOk = false) ∧ (({} : CxlFlit).macOk ≠ some false) ∧
     lookable c { traffic := .toPort 4 } = true ∧ ideHeld c { traffic := .toPort 4 } = false ∧ (c.port 0).role = 1 ∧
     lookable c { traffic := m } = true ∧ ideHeld c { traffic := m } = false ∧ (match lookup c { traffic := m } with
       | .done _ => true
       | .go _ | .copies _ => false) = true ∧
     lookable c { traffic := m, port := 4, input := 1 } = true ∧ ideHeld c { traffic := m, port := 4, input := 1 } = true ∧
     (c.sw.replay.look 0).any (fun e => e.bad && decide (0 ≤ e.seq)) = false ∧ c.rst.running = true) ∧
    (let c : Chip := { ports := { ports := [(0, { role := 1, state := .l0, ideOn := true })] } }
     linkUp (c.port 0) = true ∧ ((lastCells (c.modPort 0 (fun y => { y with retries := 0 })) []).port 0).ideOn = true) ∧
    (let c : Chip := live { ports := { ports := [(0, { role := 1, state := .l0 })],
                                       vcs := [(0, { present := true, up := 0, vppbs := [(16, { bound := .port 8 }), (17, { bound := .port 12 })] })] } }
     lookable c { traffic := .ioMsg 3 } = true ∧ ideHeld c { traffic := .ioMsg 3 } = false ∧ (match lookup c { traffic := .ioMsg 3 } with
       | .copies qs => qs.length
       | .go _ | .done _ => 0) = 2) ∧
    (let c : Chip := { sw := { replay := [(0, [{ seq := 3, bad := true }])] } }
     (c.sw.replay.look 0).any (fun e => e.bad && decide (2 ≤ e.seq)) = true) ∧
    (let q : QPkt := { spilled := 1 }
     let c : Chip := { sw := { voq := [(laneKey 0 0 5 .req, [q])] } }
     (c.sw.voq.look (laneKey 0 0 5 .req)).findIdx? (fun q => 0 < q.spilled) = some 0 ∧
     admitPlace c q.input q.sc q.cls.code ≠ none) ∧
    (let q : QPkt := { pid := 8, input := 37, output := 37, cells := 2, places := [.shared, .shared] }
     let c : Chip := { sched := { arbs := [(37, { carry := some { lane := laneOf q, pid := 8 } })] },
                       sw := { voq := [(laneOf q, [q])] } }
     (c.arb 37).carry = some { lane := laneOf q, pid := 8 } ∧ c.sw.voq.look (laneOf q) = q :: [] ∧
     stagingRoom c q 1 = true ∧ crossbarFree c q.input 37 = true ∧ q.places = .shared :: [.shared] ∧
     q.egress.portNo = none ∧ q.slice = none ∧ outPacket c 37 = some q) ∧
    (let q : QPkt := { pid := 8, output := 32, egress := .quad 0, slice := some 3, places := [.shared] }
     let c : Chip := { sched := { arbs := [(32, { carry := some { lane := laneOf q, pid := 8 } })] },
                       sw := { voq := [(laneOf q, [q])] } }
     stagingRoom c q 1 = true ∧ crossbarFree c q.input 32 = true ∧ q.egress.portNo = none ∧ q.slice = some 3) ∧
    (let q : QPkt := { pid := 8, output := 2, egress := .port 8, places := [.shared] }
     let c : Chip := { sched := { arbs := [(2, { carry := some { lane := laneOf q, pid := 8 } })] },
                       sw := { voq := [(laneOf q, [q])] } }
     stagingRoom c q 1 = true ∧ crossbarFree c q.input 2 = true ∧ q.egress.portNo = some 8) ∧
    (let c : Chip := { sw := { credits := [(0, { since := some 0 })] }, ft := { ivl := 16000000 } }
     (creditOf c 0 0).since = some 0 ∧ (creditOf c 0 0).raised = false ∧ c.past 0 (us c.sw.timers.creditStall) = true) ∧
    (let c : Chip := { sw := { stomped := [(0, [{ pid := 8 }])] }, ft := { ivl := 160000 } }
     (c.sw.stomped.look 0).find? (fun s => s.pid == 8) = some { pid := 8 } ∧ c.past 0 (us c.sw.timers.stompHold) = true) := by
  decide +kernel

theorem witness_PermitAndGuardRowsComplete :
    (let c := farChip {}
     let m : PermitMsg := { src := 5, dst := 9, count := 4 }
     let m2 : PermitMsg := { src := 5, dst := 7, count := 4 }
     let at' : Chip → CtrlMsg → Chip := fun c x => c.modLink 0 (fun l => { l with inbox := [x] })
     hasArrived (at' c (.permit .req m)) 0 (.permit .req m) = true ∧ hasArrived (at' c (.permit .grant m)) 0 (.permit .grant m) = true ∧
     hasArrived (at' c (.permit .ret m)) 0 (.permit .ret m) = true ∧
     hasArrived (at' c (.permit .grant { m2 with sc0 := true })) 0 (.permit .grant { m2 with sc0 := true }) = true ∧
     ownId (takeMsg (at' c (.permit .req m)) 0 (.permit .req m)) = 9 ∧ routeLink (takeMsg (at' c (.permit .req m)) 0 (.permit .req m)) 5 0 = some 0 ∧
     m2.dst ≠ ownId c ∧ m2.src ≠ ownId c) ∧
    (let k := balKey 5 0 0
     let c := farChip { sw := { balances := [(k, { permits := 3, retryAt := some 0, reqAt := some 0 })] }, ft := { ivl := 1600000 } }
     (c.sw.balances.look k).retryAt = some 0 ∧ (c.sw.balances.look k).reqAt = some 0 ∧ (c.sw.balances.look k).permits ≠ 0 ∧
     c.past 0 (us 1) = true ∧ c.past 0 (us 100) = true ∧ c.past 0 (us c.sw.timers.permitIdle) = true) ∧
    (let c := farChip { sw := { guardStore := [{ dst := 5, dstId := 5, tag := 1 }] }, ft := { ivl := 16000 } }
     c.sw.guardStore.findIdx? (fun g => g.dst == 5 && g.tag == 1) = some 0 ∧ c.past 0 (ns c.sw.timers.pathGuard) = true ∧
     nextPath (feOf c 5) 0 = none ∧ nextPath (feOf c 5) 1 = some 0 ∧ c.sw.srcHeld = [] ∧
     c.sw.guardStore.find? (fun g => g.dst == 5 && g.tag == 2) = none) ∧
    16384 ≤ ((List.replicate 16384 ((5, 0, 0) : Nat × Nat × Nat)).filter (fun h => h.1 == 5)).length ∧
    (let c := farChip { sw := { probes := [{ id := 5, path := 1 }] }, ft := { ivl := 1600000 } }
     c.sw.probes.findIdx? (fun p => p.id == 5 && p.path == 1) = some 0 ∧ c.past 0 (us 100) = true ∧
     c.sw.probes.any (fun p => p.id == 5 && p.path == 1) = true) ∧
    (let c : Chip := { sw := { quarantine := [(5, 3, 0)], executed := [(5, [4])] } }
     let listed : Nat → Nat × Nat × Nat → Bool := fun t q => q.1 == 5 && q.2.1 == t
     (windowTo c 5 0).sw.quarantine.any (listed 3) = true ∧ (windowTo c 5 0).sw.quarantine.any (listed 4) = false ∧
     (4 + 65536 - (windowTo c 5 0).sw.base.look 5) % 65536 < 32768 ∧
     ¬ (40000 + 65536 - (windowTo c 5 0).sw.base.look 5) % 65536 < 32768 ∧
     ((windowTo c 5 0).sw.executed.look 5).contains 4 = true ∧ ((windowTo c 5 0).sw.executed.look 5).contains 6 = false ∧
     ((windowTo c 5 0).sw.applied.look 5).contains 4 = false) ∧
    (let d := desc 5 (leBytes 8 0)
     (Ready {} 0x0160 d ∧ fabricIdSetCheck (start0 {} 0x0160 d) d = none ∧
      admitFail (start0 {} 0x0160 d) (flowsRetimed (fabricIdSetDo (start0 {} 0x0160 d) d)) 0 = none)) ∧
    (let d := desc 5 []
     Ready {} 0x0161 d ∧ d.zeroBut [] = true) := by
  decide +kernel

/-! ### Arbitration and scheduling -/

/-- An arbiter that carries the packet of lane `k`. -/
def carrying (k : Carry) : Arbiter := { carry := some k }

/-- GATE_LIST_SET of port 4: base 0, cycle 64 ns, one entry of one slot; and of no entry. -/
def dGate : Desc := desc 4 (leBytes 8 0 ++ leBytes 8 1024 ++ leBytes 2 1 ++ leBytes 6 0 ++ leBytes 4 0x1FF)
def dNoGate : Desc := desc 4 (leBytes 8 0 ++ leBytes 8 0 ++ leBytes 2 0)
def gateChip : Chip := { ft := { mode := .locked }, ports := { ports := [(4, { role := 1 })] } }
/-- SC0_FLOW_ADD on flow 3 of tenant 7 towards quadrant 0 (fabric ID 2), bound and share 1,000 ns. -/
def dFlow : Desc := desc 3 (leBytes 2 7 ++ leBytes 1 0 ++ leBytes 1 0 ++ leBytes 2 2 ++ leBytes 1 0 ++ leBytes 1 1 ++ leBytes 4 1000 ++ leBytes 4 1000)
def flowChip (fs : Tbl Flow) : Chip :=
  { sched := { flows := fs, tShapers := [(7, { enable := true, rate := 1, burst := 256 })],
               arbs := [(32, { enable := true })] },
    sw := { fabric := [(2, 0x07#64)] }, ports := { ports := [(0, { role := 1, rateMax := 5 })] } }

theorem witness_ArbitrationRowsComplete :
    (({} : Chip).arb 5).carry = none ∧
    (let c : Chip := { sched := { arbs := [(38, { enable := true })] } }
     slotOwner (arbNext c 38) 38 0 ≠ .open_ ∧ c.nextNow / 64 = 0 ∧
     (winner c 38 (arbNext c 38) (slotOwner (arbNext c 38) 38 0) (openAllowed c 38 0) [(16, 8, 0)]).isSome = true ∧
     winner c 38 (arbNext c 38) (slotOwner (arbNext c 38) 38 0) (openAllowed c 38 0) [] = none) ∧
    (let c : Chip := { sched := { arbs := [(38, { enable := false })] } }
     slotOwner (arbNext c 38) 38 0 = .open_ ∧
     (winner c 38 (arbNext c 38) (slotOwner (arbNext c 38) 38 0) (openAllowed c 38 0) [(16, 8, 0)]).isSome = true) ∧
    (let q : QPkt := { pid := 9, sc := 0, output := 1, input := 37, egress := .mgmt, places := [.sc0] }
     let k : Carry := { lane := laneKey 0 1 5 .req, pid := 8, sc := 5 }
     let c : Chip := { ft := { newSlot := true }, sched := { arbs := [(1, { enable := true, carry := some k })] },
                       sw := { voq := [(laneOf q, [q])] } }
     (c.arb 1).carry = some k ∧ c.ft.newSlot = true ∧ slotOwner (c.arb 1) 1 (slotAt c.now) = .sc 0 ∧ k.sc ≠ 0 ∧
     (candsOf c 1).any (fun y => y.2.1 == 0) = true) ∧
    (let l : GateList := { base := 0, cycle := 1024, start := 0, entries := [(255, 16)] }
     let c : Chip := { sched := { gates := [(4, { pending := some l, oper := some l })] } }
     (c.gate 4).pending = some l ∧ (c.gate 4).oper = some l ∧ l.start ≤ c.now) ∧
    (let q : QPkt := { pid := 9, sc := 5, egress := .port 4, moved := 1 }
     let c : Chip := { ports := { ports := [(4, { role := 1, state := .l0 })] }, sw := { staging := [(37, [q])] } }
     portLink (markOverrun c 4) 4 = none ∧ ((markOverrun c 4).port 4).state = .l0 ∧
     pickClass (markOverrun c 4) 4 = some 5 ∧ stagedHead (markOverrun c 4) 4 5 = some q) ∧
    (let q : QPkt := { pid := 9, sc := 0, egress := .link 0 4, moved := 1 }
     let c := { linkChip {} with sw := { staging := [(0, [q])] } }
     portLink (markOverrun c 0) 0 = some 0 ∧ ((markOverrun c 0).link 0).sendSc0.isEmpty = true ∧
     stagedHead (markOverrun c 0) 0 0 = some q ∧ q.cells ≤ q.moved ∧ mayStart (markOverrun c 0) 0 0 q = true) ∧
    (pathOpen (live {}) .firmware = true ∧ claimedElsewhere (live {}) { kind := .arbiter, index := 1 } = false ∧
     claimedElsewhere ((live {}).setGroup 5 { state := .opened, claims := [{ kind := .arbiter, index := 1 }] })
       { kind := .arbiter, index := 1 } = true) := by
  decide +kernel

theorem witness_SchedulingCommandsComplete :
    (let c := start0 gateChip 0x0150 dGate
     Ready gateChip 0x0150 dGate ∧ gateListSetCheck c dGate = none ∧ glCount dGate ≠ 0 ∧
     admitFail c (c.setGate dGate.tgt { c.gate dGate.tgt with pending := some (gateListOf c dGate).1, basePast := (gateListOf c dGate).2 }) 0
       = none) ∧
    (let c := start0 gateChip 0x0150 dNoGate
     Ready gateChip 0x0150 dNoGate ∧ gateListSetCheck c dNoGate = none ∧ glCount dNoGate = 0 ∧
     admitFail c (c.setGate dNoGate.tgt { c.gate dNoGate.tgt with oper := none, pending := none, entry := 0 }) 0 = none) ∧
    (Ready gateChip 0x0151 (dQuery 4) ∧ (dQuery 4).bufferOk 0 = true ∧ (dQuery 4).zeroBut [(16, 12)] = true) ∧
    (let d := desc 8 []
     Ready {} 0x0104 d ∧ portShaperSetCheck d = none ∧ admitFail (start0 {} 0x0104 d) (portShaperSetDo (start0 {} 0x0104 d) d) 0 = none) ∧
    (let c := start0 (flowChip []) 0x0240 dFlow
     Ready (flowChip []) 0x0240 dFlow ∧ sc0FlowAddCheck c dFlow = none ∧ admitFail c (sc0FlowAddDo c dFlow) 0 = none) ∧
    (let d := desc 3 []
     let c := start0 (flowChip [(3, flowFrom dFlow)]) 0x0241 d
     Ready (flowChip [(3, flowFrom dFlow)]) 0x0241 d ∧ d.zeroBut [] = true ∧ sc0FlowRemoveEnd c (sc0FlowRemoveDo c d) d = none ∧
     admitFail c (sc0FlowRemoveDo c d) 0 = none ∧ Ready (flowChip [(3, flowFrom dFlow)]) 0x0242 d) := by
  decide +kernel

/-! ### Registers -/

/-- A running switch whose manager port's link is up. -/
def openChip (c : Chip) : Chip := live { c with ports := { c.ports with ports := c.ports.ports.put c.ports.mgrPort { role := 1, state := .l0 } } }

theorem witness_RegisterAccessRowsComplete :
    pathOpen (openChip {}) .endpoint = true ∧ pathOpen (live {}) .firmware = true ∧
    (regAt 8 = some (.serial false) ∧ (Reg.serial false).isLo = true ∧ Reg.serial false ≠ .ftNow false ∧
      regExists (openChip {}) (.serial false) = true) ∧
    (∃ off, off < 2 ^ 16 ∧ regAt off = some (.ftNow false)) ∧ (Reg.ftNow false).isLo = true ∧
    barOpen (openChip {}) .endpoint false = true ∧ barOpen (openChip {}) .endpoint true = true ∧
    (regAt 0x50 = some .scratch ∧ regExists (openChip {}) .scratch = true ∧ Reg.scratch.arbiter = none ∧ rwcMask .scratch = 0) ∧
    regAt 0x1FFFFC = none ∧ pageImplemented 0x20 = false ∧
    ((({ ten := { tenants := [(7, { state := .enabled })] } } : Chip).tenant 7).state ≠ .none) ∧
    (regAt 0x40000 = some (.portCtl 0) ∧ regExists (live {}) (.portCtl 0) = false) ∧
    (regAt (0x11000 + 4 * 32) = some (.faultCnt 32) ∧ regExists (openChip {}) (.faultCnt 32) = true ∧
      (Reg.faultCnt 32).arbiter = none ∧ rwcMask (.faultCnt 32) = 0) := by
  refine ⟨by decide +kernel, by decide +kernel, by decide +kernel, ⟨0x4000, ?_⟩, ?_⟩ <;> decide +kernel

theorem witness_RwcWriteHandledAsWhole :
    (let c := openChip {}
     barOpen c .endpoint false = true ∧ regAt 0x40000 = some (.portCtl 0) ∧ rwcMask (.portCtl 0) ≠ 0 ∧
     regExists c (.portCtl 0) = true ∧ (Reg.portCtl 0).arbiter = none ∧ claimedElsewhere c (rwcObj (.portCtl 0)) = false ∧
     regGroup c = none) ∧
    (let c := (openChip {}).setGroup 5 { state := .opened, claims := [{ kind := .port, index := 0 }] }
     claimedElsewhere c (rwcObj (.portCtl 0)) = true) ∧
    (let c := openChip { grp := { regGroup := 5, groups := [(5, { state := .opened })] } }
     claimedElsewhere c (rwcObj (.portCtl 0)) = false ∧ regGroup c = some 5 ∧ (c.group 5).regs < 4096) := by decide +kernel

/-! ### Coherence -/

/-- Window 0, at pool extent 0, in the given domain; domain 0 has agent 3, of tenant 1, at fabric ID 7. -/
def homeChip (dom : Nat) (lines : Tbl LineRec) (trackers : Tbl (Option Tracker)) : Chip :=
  live { pool := { poolMap := [(0, 1)], windows := [(0, { present := true, tenant := 1, mode := .mirror, domain := dom })] },
         home := { domains := [(0, { present := true, entries := 128, agents := [(3, { bound := true, fab := 7, tenant := 1 })] })],
                   lines := lines, trackers := trackers } }

/-- Line 0 is agent 3's. -/
def owned : Tbl LineRec := [(0, { state := .any, agents := [3], ways := [0] })]

/-- The fit is at hand. -/
def fits (f : Fit) : Bool := match f with
  | .ok _ => true
  | .victim _ _ _ | .full => false

theorem witness_CoherentRequestsEnter :
    (let x : SliceMsg := .rd { more := true }
     let y : SliceMsg := .rd {}
     x.more = true ∧ y.more = false ∧ ({} : Chip).home.entered.look (y.slice {}) ≠ ({} : Chip).ivl + 1) ∧
    (let q : List SliceMsg := [.rd { id := 1 }, .rd { id := 2, input := 3 }, .wr {}]
     (takeEntry 1 q).map (·.1) = some (.wr {}) ∧ (takeEntry 1 (q.take 2)).map (·.1) = some (.rd { id := 2, input := 3 }) ∧
     (q.take 2).find? (fun z => (z.req?.map (·.input)) == some 0) = some (.rd { id := 1 })) ∧
    (let m : MemReq := { fab := 7 }
     let st := fun (c : Chip) => ({ m with stamp := some c.ivl } : MemReq)
     (let e := touchLine (countReq (homeChip 256 [] []) m 0) 0
      isLate e (st e) = false ∧ e.tracker 0 = none ∧ poolUsed e 0 0 < sharedTrackers e 0 ∧ lineDomain e 0 = none) ∧
     (let m := { m with stamp := some 0 }
      let e := touchLine (countReq { homeChip 256 [] [] with ft := { ivl := 16000000 } } m 0) 0
      isLate e m = true) ∧
     (let e := touchLine (countReq (homeChip 0 [] [(0, some {})]) m 0) 0
      e.tracker 0 = some {} ∧ m.nacks < 4 ∧ starveUsed e 0 < 32) ∧
     (let u : Tracker := { starving := List.replicate 32 ({}, false) }
      32 ≤ starveUsed (homeChip 0 [] [(0, some u)]) 0) ∧
     (let e := touchLine (countReq (homeChip 0 [] []) m 0) 0
      let w := wantOf (stateOf e 0 0) (holders e 0 0) (agentOf e 0 m) m false
      let p := readPlan (stateOf e 0 0) (holders e 0 0) (agentOf e 0 m) w
      e.tracker 0 = none ∧ poolUsed e 0 0 < sharedTrackers e 0 ∧ lineDomain e 0 = some 0 ∧
      (p.fan && decide (16 ≤ fanUsed e 0)) = false ∧ p.dsts.isEmpty = true ∧
      fits (fit e 0 0 (stateOf e 0 0) (holders e 0 0) (agentOf e 0 m) w) = true) ∧
     (let u : MemReq := { fab := 9, cached := false }
      let e := touchLine (countReq (homeChip 0 owned []) u 0) 0
      let w := wantOf (stateOf e 0 0) (holders e 0 0) (agentOf e 0 u) u false
      let p := readPlan (stateOf e 0 0) (holders e 0 0) (agentOf e 0 u) w
      e.tracker 0 = none ∧ poolUsed e 0 0 < sharedTrackers e 0 ∧ lineDomain e 0 = some 0 ∧
      (p.fan && decide (16 ≤ fanUsed e 0)) = false ∧ p.dsts.isEmpty = false ∧
      fits (fit e 0 0 (stateOf e 0 0) (holders e 0 0) (agentOf e 0 u) w) = true) ∧
     (let c := countReq (homeChip 0 owned []) m 0
      c.tracker 0 = none ∧ poolUsed c 0 0 < sharedTrackers c 0 ∧ lineDomain c 0 = some 0 ∧
      agentOf (touchLine c 0) 0 m = some 3 ∧ ((touchLine c 0).line 0).agents.contains 3 = true) ∧
     (let e := touchLine (countReq (homeChip 256 [] []) m 1) 0
      e.tracker 0 = none ∧ lineDomain e 0 = none ∧ writePool e 0 = some 1) ∧
     (let t : Nat → Tracker := fun p => { pool := p }
      let tr : Tbl (Option Tracker) := (List.range 480).map (fun i => (32 + 32 * i, some (t (if i < 32 then 1 else 0))))
      (tr.filter (fun x => (x.2.map (·.pool)) == some 1)).length = 32 ∧ (tr.filter (fun x => (x.2.map (·.pool)) == some 0)).length = 448) ∧
     (let e := touchLine (countReq (homeChip 0 owned []) m 1) 0
      e.tracker 0 = none ∧ lineDomain e 0 = some 0 ∧ agentOf e 0 m = some 3 ∧ stateOf e 0 0 = .any ∧ holders e 0 0 = [3]) ∧
     (let t : Tracker := { domain := 0, pending := [{ agent := 3 }] }
      let e := touchLine (countReq (homeChip 0 owned [(0, some t)]) m 1) 0
      e.tracker 0 = some t ∧ t.domain < 256 ∧ agentOf e 0 m = some 3 ∧ t.pending.any (fun p => p.agent == 3) = true) ∧
     (let t : Tracker := { domain := 0 }
      let e := touchLine (countReq (homeChip 0 [] [(0, some t)]) m 1) 0
      e.tracker 0 = some t ∧ agentOf e 0 m = some 3 ∧ t.pending.any (fun p => p.agent == 3) = false ∧
      writerHolds e 0 0 (some 3) m.want = false)) := by decide +kernel

theorem witness_CoherentTransactionRowsComplete :
    (let t : Tracker := { phase := .snpPend, pending := [{ agent := 3, sent := true }, { agent := 4 }, { agent := 5, sent := true, again := true }] }
     let c := homeChip 0 owned [(0, some t)]
     c.tracker 0 = some t ∧ t.pending.find? (fun p => p.agent == 3 && p.sent) = some { agent := 3, sent := true } ∧
     t.pending.find? (fun p => p.agent == 4 && p.sent) = none ∧
     t.pending.find? (fun p => p.agent == 4 && !p.sent) = some { agent := 4 } ∧
     (({ agent := 3 } : SnoopRsp).kind = .rspI) ∧
     (let m : SnoopRsp := { agent := 5, kind := .rspS }
      t.pending.find? (fun p => p.agent == 5 && p.sent) = some { agent := 5, sent := true, again := true } ∧
      ((m.kind != .rspI && SnoopOp.inv == .inv) || (m.kind == .rspE && SnoopOp.inv == .data)) = true) ∧
     (({} : SnoopRsp).more = false ∧ c.home.inq.look 0 = [] ∧ c.home.entered.look 0 ≠ c.ivl + 1)) ∧
    (let c := homeChip 0 owned [(0, some { purpose := .read { port := 5 } false })]
     requestOpen c 5 0 = true ∧ requestOpen c 6 0 = false) ∧
    (let w : NackWait := { port := 5 }
     let c := { homeChip 0 [] [] with ft := { ivl := 16000 } }
     ({ w.req with nacks := 2 } : MemReq).nacks ≠ 3 ∧ w.req.evict = false ∧
     lineDomain (countEvent c (lineEvent c 0 0x032 0)) 0 = some 0 ∧
     lineDomain (countEvent (homeChip 256 [] []) (lineEvent (homeChip 256 [] []) 0 0x032 0)) 0 = none ∧
     takeFirst (fun w => w.port == 5 && w.req.line == 0 && c.past w.since (ns c.home.backoff)) [w] = some (w, [])) ∧
    (let t : Tracker := { purpose := .read {} false, domain := 256, data := some (0, false) }
     let c := homeChip 256 [] [(0, some t)]
     c.tracker 0 = some t ∧ wantsData t = true ∧ t.phase = .rdPend ∧ t.answered = false ∧ t.patch = [] ∧ c.pool.reads.look 0 = none ∧
     (findWay c 0).2 = none) ∧
    (let c : Chip := { homeChip 0 [] [] with
       sw := { fabric := [(7, 0x13#64)] }, ports := { ports := [(1, { state := .l0 })] } }
     reachable c 7 = true ∧ feLocal (feOf c 7) = true) ∧
    (let t : Tracker := { purpose := .read { stamp := some 0 } false, pending := [{ agent := 3 }] }
     let c := { homeChip 0 [] [(0, some t)] with ft := { ivl := 1600000 } }
     t.pending.find? (fun p => p.agent == 3 && !p.raised && c.past p.since (us c.home.snpTime)) = some { agent := 3 } ∧
     t.answered = false ∧ t.starving = [] ∧ t.waiting = [] ∧ isLate c { stamp := some 0 } = true ∧ isLate c {} = false ∧
     c.home.nacked = [] ∧ c.pool.writes = [] ∧ c.pool.ops = [] ∧ c.pool.held = []) := by decide +kernel

theorem witness_AgentAndDomainRowsComplete :
    (let c : Chip := { hbm := { dirSize := 1 } }
     (let d := desc 1 (leBytes 4 0 ++ leBytes 4 256 ++ leBytes 4 65535 ++ leBytes 4 4294967295 ++ leBytes 4 4294967295)
      Ready c 0x0B00 d ∧ d.zeroBut [(16, 1), (20, 4), (24, 2), (28, 4), (32, 4)] = true ∧ d.byte 16 < 32 ∧ d.u32 20 ≠ 0 ∧
      d.u32 20 % (if bitOf (d.byte 16) 0 then 256 else 128) = 0 ∧ ((start0 c 0x0B00 d).domain 1).present = false ∧
      d.u16 24 = 65535 ∧ d.u32 28 = 4294967295 ∧ d.u32 32 = 4294967295 ∧
      dirBytes ((start0 c 0x0B00 d).setDomain 1 { present := true, entries := 256 }) ≤ (start0 c 0x0B00 d).hbm.dirSize * 2 ^ 28)) ∧
    (let c : Chip := { homeChip 256 [] [] with ten := { tenants := [(1, { state := .disabled })] },
                                               sw := { fabric := [(8, 0x03#64)] }, ports := { ports := [(0, { role := 1 })] } }
     (let d := desc 0 (leBytes 2 3)
      Ready c 0x0B04 d ∧ d.zeroBut [(16, 2)] = true ∧ ((start0 c 0x0B04 d).agent 0 3).bound = true) ∧
     (let d := desc 0 (leBytes 4 3 ++ leBytes 4 0)
      Ready c 0x0B03 d ∧ d.zeroBut [(16, 2), (20, 4)] = true ∧ ((start0 c 0x0B03 d).agent 0 3).bound = true ∧
      ((start0 c 0x0B03 d).agent 0 3).unbind = none) ∧
     (let d := desc 0 (leBytes 2 4 ++ leBytes 2 8 ++ leBytes 4 1)
      Ready c 0x0B02 d ∧ agentBindCheck (start0 c 0x0B02 d) d = none) ∧
     (Ready c 0x0B05 (dQuery 0) ∧ (dQuery 0).zeroBut [(16, 12)] = true ∧ (dQuery 0).bufferOk 0 = true)) ∧
    (let c : Chip := { home := { domains := [(2, { present := true, entries := 128 })] } }
     let d := desc 2 []
     Ready c 0x0B01 d ∧ d.zeroBut [] = true ∧ ((start0 c 0x0B01 d).domain 2).agents.any (fun a => a.2.bound) = false ∧
     (start0 c 0x0B01 d).pool.windows.any (fun w => w.2.present && w.2.domain == 2) = false) ∧
    (let a : Agent := { bound := true, unbind := some { cmd := some {} }, downAt := some 0 }
     let c : Chip := { home := { domains := [(0, { present := true, agents := [(3, a)] })], sweeps := [(0, 3)] },
                       ft := { ivl := 1600000000 } }
     c.agent 0 3 = a ∧ holdsNothing c 0 3 = true ∧ c.past 0 (ms c.home.deadTime) = true ∧ c.home.sweeps.contains (0, 3) = true) := by
  decide +kernel

/-! ### Pooling -/

/-- A backing device of 8 extents. -/
def bdev (n serial : Nat) : Nat × Device := (n, { present := true, loc := n, extents := 8, serial := serial })

/-- A mirrored window of tenant 1 at index 0, one pool extent, on devices 1 and 2; device 3 holds a spare extent. -/
def poolChip (a : Member) (mode : WinMode) : Chip :=
  { pool := { devs := [bdev 1 11, bdev 2 12, (3, { (bdev 3 13).2 with ext := [(5, .spare)] })], poolMap := [(0, 1)],
              windows := [(0, { present := true, tenant := 1, mode := mode, extents := 1, domain := 256, ext := [(0, { present := true })],
                                members := [(0, a), (1, { present := true, dev := 2 })] })] },
    ten := { tenants := [(1, { state := .enabled })] } }

/-- The end state is there and the admission check lets it pass. -/
def admits (c : Chip) : Except Status Chip → Bool
  | .ok e => (admitFail c e 0).isNone
  | .error _ => false

theorem witness_BackingAndWindowCommandsComplete :
    (let c : Chip := { ports := { ports := [(4, { role := 2, state := .l0 })] } }
     let d := desc 5 (leBytes 4 4 ++ leBytes 8 0 ++ leBytes 4 0 ++ leBytes 4 500)
     Ready c 0x0210 d ∧ backingAddCheck (start0 c 0x0210 d) d { capacity := 2 ^ 31, serial := 9 } = none) ∧
    (let c := poolChip { present := true, dev := 1, state := .lost } .mirror
     (Ready c 0x0211 (desc 3 []) ∧ (desc 3 []).zeroBut [] = true ∧
      ((start0 c 0x0211 (desc 3 [])).dev 3).ext.any (fun e => e.2 == .inUse) = false) ∧
     (let d := desc 3 (leBytes 4 0 ++ leBytes 4 2 ++ leBytes 1 1)
      Ready c 0x0212 d ∧ d.zeroBut [(16, 9)] = true ∧ d.byte 24 ≤ 1 ∧ d.u32 16 + d.u32 20 ≤ ((start0 c 0x0212 d).dev 3).extents) ∧
     (let d := desc 4 (leBytes 2 1 ++ leBytes 2 0 ++ leBytes 4 0 ++ leBytes 4 1 ++ leBytes 4 (256 + 255 * 65536) ++ leBytes 8 0)
      Ready c 0x0218 d ∧ admits (start0 c 0x0218 d) (windowCreateMake (start0 c 0x0218 d) d) = true) ∧
     (Ready c 0x0219 (desc 0 []) ∧ jobOnWindow (start0 c 0x0219 (desc 0 [])) 0 = false) ∧
     (let d := desc 0 (leBytes 4 0 ++ leBytes 4 1)
      Ready c 0x021B d ∧ windowShrinkCheck (start0 c 0x021B d) d = none) ∧
     (let d := desc 0 (leBytes 4 1 ++ leBytes 4 3000)
      Ready c 0x021C d ∧ windowSetCheck (start0 c 0x021C d) d = none ∧
      admitFail (start0 c 0x021C d) ((start0 c 0x021C d).modWindow 0 (fun w => windowSetNew w d)) 0 = none) ∧
     (let d := desc 0 (leBytes 4 1)
      Ready c 0x021A d ∧ admits (start0 c 0x021A d) (windowGrowMake (start0 c 0x021A d) d) = true)) := by
  decide +kernel

theorem witness_BackingAndWindowCommandsComplete_members :
    (let c := poolChip { present := true, dev := 1, state := .lost } .mirror
     (Ready c 0x021D (dQuery 0) ∧ (dQuery 0).zeroBut [(16, 12)] = true ∧ (dQuery 0).bufferOk 0 = true) ∧
     (let d := desc 0 (leBytes 4 0)
      Ready c 0x0220 d ∧ namedUnit ((start0 c 0x0220 d).window 0) d = some (0, 0) ∧ d.zeroBut [(16, 5)] = true) ∧
     (let d := desc 0 (leBytes 8 0 ++ leBytes 4 0xFFFFFFFF)
      let e := start0 c 0x0221 d
      Ready c 0x0221 d ∧ namedUnit (e.window 0) d = some (0, 0) ∧ d.zeroBut [(16, 5), (22, 6)] = true ∧
      ((e.window 0).member 0 0).state = .lost ∧ chooseExtent e (e.window 0) (othersOf (e.window 0) 0 0) .spare = some (3, 5)) ∧
     (let d := desc 0 (leBytes 6 0 ++ leBytes 2 1 ++ leBytes 4 0)
      let e := start0 c 0x0221 d
      Ready c 0x0221 d ∧ namedUnit (e.window 0) d = some (0, 0) ∧ d.u16 22 = 1 ∧ d.u32 24 = 0 ∧
      ((e.window 0).member 0 0).dev = 1 ∧ ((e.window 0).member 0 0).ext = 0 ∧ (e.dev 1).lost = false) ∧
     (let d := desc 0 (leBytes 6 0 ++ leBytes 2 3 ++ leBytes 4 5)
      let e := start0 c 0x0221 d
      Ready c 0x0221 d ∧ namedUnit (e.window 0) d = some (0, 0) ∧ d.u16 22 = 3 ∧ d.u32 24 = 5 ∧
      mayJoin e false (othersOf (e.window 0) 0 0) 3 = true ∧ extState e 3 5 = .spare ∧ latencyOk e (e.window 0) 3 = true)) := by
  decide +kernel

theorem witness_DynamicCapacityRowsComplete :
    (let e : DcWait := { ports := [4], count := 1 }
     let c : Chip := { pool := { dc := [e] }, ft := { ivl := 16000000000 } }
     c.pool.dc = e :: [] ∧ e.add = true ∧ 4 ∈ e.ports ∧ c.past e.since (ms c.pool.dcTime) = true) ∧
    (let e : DcWait := { add := false, count := 1 }
     let x : WExtent := { present := true, accepted := [4] }
     let c : Chip := { pool := { dc := [e], windows := [(0, { present := true, ext := [(0, x)] })] } }
     c.pool.dc = e :: [] ∧ e.add = false ∧ (c.window 0).ext.look 0 = x ∧ x.accepted.contains 4 = true ∧
     x.released.contains 4 = false ∧ extReleased { x with released := [4] } = true ∧ e.done + 1 = e.count ∧
     extReleased { x with accepted := [4, 5], released := [4] } = false ∧ e.deadline ≤ c.ivl ∧ e.force = false ∧
     ({ e with force := true } : DcWait).force = true) := by decide +kernel

theorem witness_BackingAccessRowsComplete :
    (let c : Chip := {}
     let x : SliceMsg := .data 0 0 .poison
     c.home.inq.look (x.slice c) = [] ∧ c.home.entered.look (x.slice c) ≠ c.ivl + 1) ∧
    (let c0 := poolChip { present := true, dev := 1 } .mirror
     let c := { c0 with pool := { c0.pool with reads := [(0, some { alt := 1 })] }, ft := { ivl := 1600000000 } }
     c.pool.reads.look 0 = some { alt := 1 } ∧ (c.window 0).mode ≠ .plain ∧ c.past 0 (ns (c.window 0).trigger) = true ∧
     c.pool.ops = [] ∧ c.pool.txs = [] ∧ c.pool.reads.look 1 = none ∧ c.pool.writes = []) ∧
    (let c0 := poolChip { present := true, dev := 1 } .plain
     let c := { c0 with pool := { c0.pool with reads := [(0, some {})] }, ft := { ivl := 1600000000 } }
     c.pool.reads.look 0 = some {} ∧ (c.window 0).mode = .plain ∧
     c.past 0 (us (c.dev (memberDev (c.window 0) 0 0 0)).timeout) = true ∧
     ((deviceFails (raise c 119 (srcInfo 14 1)) 1).window 0).mode = .plain) ∧
    (let c0 := poolChip { present := true, dev := 1 } .mirror
     let c := { c0 with pool := { c0.pool with writes := [{}] }, ft := { ivl := 1600000000 } }
     c.pool.writes.find? (isWrite 0 0 false) = some {} ∧ c.pool.writes.find? (isWrite 0 0 true) = none ∧ c.pool.ops = [] ∧
     c.pool.txs = [] ∧ (c.window 0).mode = .mirror ∧ c.past 0 (ns (c.window 0).trigger) = true) ∧
    (let c0 := poolChip { present := true, dev := 1 } .mirror
     let c := { c0 with pool := { c0.pool with writes := [{ late := true }] } }
     c.pool.writes.find? (isWrite 0 0 true) = some { late := true }) ∧
    (let x : Device := { (bdev 1 11).2 with downAt := some 0 }
     let c : Chip := { pool := { devs := [(1, x)] }, ft := { ivl := 1600000000 } }
     (c.dev 1).downAt = some 0 ∧ x.present = true ∧ x.lost = false ∧ c.past 0 (ms (c.dev 1).lossTime) = true) ∧
    (let c := { poolChip { present := true, dev := 1, state := .slow } .mirror with ft := { ivl := 16000000000 } }
     windowsOn c 1 = [0] ∧ c.past ((c.window 0).member 0 0).dsLast (sec 1) = true) ∧
    (let c := { poolChip { present := true, dev := 1, state := .lost } .mirror with ft := { ivl := 16000000000 * 30 } }
     (c.window 0).present = true ∧ ((c.window 0).member 0 0).state = .lost ∧ (c.dev 1).spareDelay ≠ 0 ∧
     c.past 0 (ms (c.dev 1).spareDelay) = true ∧ chooseExtent c (c.window 0) (othersOf (c.window 0) 0 0) .spare = some (3, 5) ∧
     (let e := { c with pool := { c.pool with devs := [bdev 1 11, bdev 2 12] } }
      chooseExtent e (e.window 0) (othersOf (e.window 0) 0 0) .spare = none)) ∧
    (let c : Chip := { pool := { ops := [{}] } }
     c.pool.ops = {} :: [] ∧ ({} : StripeOp).taken = false) := by decide +kernel

/-! ### HBM -/

theorem witness_HbmRowsComplete :
    (let c := live { hbm := { pcs := [(1, { copying := [7] })] }, ft := { ivl := 16000000 },
                     pool := { devs := [(1, { present := true, extents := 8, ext := [(3, .scrub)], purging := [3] })] } }
     let r : CodewordRead := { pc := 1, region := .management }
     c.rst.running = true ∧ (c.pcOf 1).failed = false ∧ onChannel r = true ∧
     scrubDue c ≤ c.ivl ∧ c.hbm.scrubEn = true ∧ (c.rung 8).current = 0 ∧
     (c.pcOf 1).copying.contains 7 = true ∧ c.past (c.hbm.loops.look 31).last (ms 1) = true ∧
     (c.dev 1).purging.contains 3 = true) ∧
    (let d := desc 21 (leBytes 8 (2 ^ 63 + 1) ++ leBytes 2 0)
     Ready {} 0x0B10 d ∧ d.zeroBut [(16, 10)] = true ∧
     admitFail (start0 {} 0x0B10 d) (hbmReserveDo (start0 {} 0x0B10 d) d) 0 = none) ∧
    (let d := desc 31 (leBytes 4 3 ++ leBytes 1 1 ++ leBytes 1 5)
     Ready {} 0x0B11 d ∧ lcConfigCheck (start0 {} 0x0B11 d) d = none ∧
     admitFail (start0 {} 0x0B11 d) (lcConfigDo (start0 {} 0x0B11 d) d) 0 = none) ∧
    (Ready {} 0x0B12 (dQuery 63) ∧ (dQuery 63).zeroBut [(16, 12)] = true ∧ (dQuery 63).bufferOk 0 = true) := by
  decide +kernel

theorem witness_HbmRowsComplete_decoder :
    (let c : Chip := {}
     let r : CodewordRead := { pc := 1, region := .management }
     hbmDecode (readWord c r) = .clean ∧
     (match hbmDecode (readWord c { r with errors := [(3, 5)] }) with
      | .fixed n _ => n == 1
      | _ => false) = true ∧
     hbmDecode (readWord c { r with errors := [(69, 1), (70, 2), (71, 3)] }) = .detected) := by decide +kernel

/-! ### Stolevo Links -/

/-- Link 0 of a device whose course 0 is a Stolevo course. -/
def oneLink (x : StvLink) (t : Nat) : Chip :=
  live { lanes := { courses := [(0, { stolevo := true, refOk := true })] }, stv := { links := [(0, x)] }, ft := { ivl := t } }

theorem witness_StolevoFlitRowsComplete :
    (let c := oneLink { state := .active, idleDown := 10 } 160000000000
     linkExists c 0 = true ∧ (c.link 0).state = .active ∧ c.past 0 (us (c.link 0).idleDown) = true ∧ rxWidth (c.link 0) = 16 ∧
     (let x := (holdMarked c 0).link 0
      (x.ideReq && !x.ideOn) = false ∧ x.sinceFiller < 1023 ∧ x.replay = [] ∧ x.unseq = [] ∧ x.sendSc0 = [] ∧
      x.sendData = [] ∧ controlDue (holdMarked c 0) x = false)) ∧
    (let c := oneLink { state := .active, replay := [{ nacked := true }], unseq := [(0, 1, 0)], sinceFiller := 1023 } 160000000000
     let x := (holdMarked c 0).link 0
     linkExists c 0 = true ∧ (c.link 0).state = .active ∧ x.replay.find? (fun e => e.nacked && !e.bad) = some { nacked := true } ∧
     x.unseq ≠ [] ∧ 1023 ≤ x.sinceFiller ∧ c.past 0 (us (c.link 0).ackTime) = true ∧
     c.past 0 (us (c.link 0).replayAge) = true) ∧
    (let c := oneLink { state := .active, sendSc0 := [{}], sendData := [{}], permits := [{ kind := .req, m := {} }] } 1600
     let x := (holdMarked c 0).link 0
     mayEncrypt x {} = true ∧ x.sendSc0.head? = some {} ∧ controlDue (holdMarked c 0) x = true) ∧
    (let c := oneLink { state := .phy } 160000000000
     linkExists c 0 = true ∧ (c.link 0).state = .phy ∧ c.past 0 (ms (c.link 0).trainTime) = true ∧
     c.test.portsOut.contains (portXbar (linkPort c 0)) = false) ∧
    (let c := oneLink { state := .downHeld } 160000000000
     (c.link 0).state = .downHeld ∧ (c.link 0).authDown = false ∧ c.past 0 (ms (c.link 0).retryIvl) = true) ∧
    (let c := oneLink { state := .config, markers := 64, rxLanes := 0xF } 0
     (c.link 0).state = .config ∧ 64 ≤ (c.link 0).markers ∧ (c.link 0).phase = 0 ∧ (c.link 0).ownDone = false ∧
     groupIn (3 + 0) (c.link 0).rxLanes = true ∧ ({} : TrainSeq).phase = 0 ∧ (c.link 0).lastProp ≠ some {}) := by decide +kernel

theorem witness_StolevoFlitRowsComplete_train : let lanes := toLanes 4 (wireBytes { typ := 4, cls := 15 } (packTrain {}) false)
    lanes.length = 4 ∧ checkFlit (fromLanes lanes) = .good 0 { typ := 4, cls := 15 } (padTo 240 (packTrain {})) := by decide +kernel

theorem witness_StolevoFlitRowsComplete_flit :
    (let h : FlitHead := { typ := 11, cls := 9, seq := 3000 }
     let lanes := toLanes 16 (wireBytes h [1, 2, 3] false)
     lanes.length = 16 ∧ checkFlit (fromLanes lanes) = .good 0 h (padTo 240 [1, 2, 3]) ∧
     clearPayload {} h [] = some [] ∧ clearPayload { ideOn := true } h [] = none ∧
     2048 ≤ (h.seq + 65536 - (({} : Chip).link 0).expected) % 65536) ∧
    checkFlit (fromLanes (toLanes 16 (wireBytes {} [] true))) = .crcError 0 := by decide +kernel

theorem witness_StolevoCommandsComplete :
    (let c := oneLink { state := .active } 0
     let d := desc 0 (leBytes 4 2 ++ leBytes 4 0 ++ leBytes 4 20)
     (Ready c 0x0140 d ∧ stvLinkConfigCheck d = none ∧
      admitFail (start0 c 0x0140 d) (flowsRetimed (stvLinkConfigDo (start0 c 0x0140 d) d)) 0 = none) ∧
     (Ready c 0x0141 (desc 0 []) ∧ ((start0 c 0x0141 (desc 0 [])).link 0).state = .active) ∧
     (Ready c 0x0142 (desc 0 []) ∧ ((start0 c 0x0142 (desc 0 [])).link 0).state ≠ .removed ∧
      linkHasFlow (start0 c 0x0142 (desc 0 [])) 0 = false) ∧
     (Ready c 0x0144 (dQuery 0) ∧ (dQuery 0).zeroBut [(16, 12)] = true ∧ (dQuery 0).bufferOk 0 = true) ∧
     pathOpen c .firmware = true ∧ linkExists c 0 = true) ∧
    (let c := oneLink { state := .removed } 0
     Ready c 0x0143 (desc 0 []) ∧ (desc 0 []).zeroBut [] = true ∧ ((start0 c 0x0143 (desc 0 [])).link 0).state = .removed) := by
  decide +kernel

/-! ### Ports -/

/-- A device with one host port, 0, whose link is up, and one downstream port, 4. -/
def portChip (y : Port) (t : Nat) : Chip :=
  live { ports := { ports := [(0, { role := 1, state := .l0, present := true }), (4, y)],
                    vcs := [(0, { present := true, up := 0, timeout := 10, vppbs := [(16, { bound := .port 4, unbind := some 1 })] })],
                    pIn := [(0, { port := 0, valid := true, raw := true }), (1, { port := 9, level := true })],
                    pOut := [(2, { port := 4, since := some 0 })] },
         lanes := { courses := [(0, { refOk := true })] }, ft := { ivl := t } }

theorem witness_PortLinkRowsComplete :
    (let c := portChip { role := 2, cfgWidth := 2, present := true, state := .training } 0
     let f : PartnerFacts := { rate := 5, maxRate := 5, width := 2 }
     mayTrain c 4 = true ∧ partnerFits c 4 f = true ∧
     (let c1 := c.setPort 4 { c.port 4 with floor := 1 }
      mayTrain c1 4 = true ∧ partnerFits c1 4 f = false ∧ (c1.port 4).floor < f.width)) ∧
    (let c := portChip { role := 2, state := .l0, flit256 := true } 0
     c.rst.running = true ∧ dlUp (c.port 4) = true ∧ (c.port 4).upstream = false ∧
     (vppbsOn c 4).filter (fun e => (c.vppb e.1 e.2).unbind == some 0) = [] ∧ slotDark c 4 = false ∧ dlUp (c.port 7) = false ∧
     dlUp (c.port 0) = true ∧
     (c.port 0).upstream = true ∧ linkUp (c.port 0) = true ∧ (c.port 4).l0pOut = none ∧
     l0pRefused c 4 3 = true ∧ l0pRefused c 4 1 = false ∧ (slotOf c 4).isSome = false ∧ (c.port 4).present = false ∧
     pathOpen c .firmware = true) ∧
    ((portChip { role := 2, state := .l0p, l0pOut := some 1 } 0).port 4).l0pOut = some 1 ∧
    (let c := portChip { role := 2, state := .l0 } 0
     (let d := desc 4 (leBytes 4 2 ++ leBytes 4 0 ++ leBytes 1 9)
      Ready c 0x0100 d ∧ portConfigCheck d = none ∧ admitFail (start0 c 0x0100 d) (portConfigDo (start0 c 0x0100 d) d) 0 = none) ∧
     (Ready c 0x0101 (dQuery 4) ∧ (dQuery 4).zeroBut [(16, 12)] = true ∧ (dQuery 4).bufferOk 0 = true) ∧
     (Ready c 0x0102 (desc 4 []) ∧ ((start0 c 0x0102 (desc 4 [])).port 4).state = .l0)) := by
  decide +kernel

theorem witness_VirtualSwitchAndPerstRowsComplete :
    (let c := portChip { role := 2, state := .l0 } 0
     (let d := desc 258 [4#8, 1#8]
      Ready c 0x0108 d ∧ perstMapCheck (start0 c 0x0108 d) d = none ∧
      admitFail (start0 c 0x0108 d) (perstMapDo (start0 c 0x0108 d) d) 0 = none) ∧
     (Ready c 0x0114 (dQuery 0) ∧ (dQuery 0).zeroBut [(16, 12)] = true ∧ (dQuery 0).bufferOk 0 = true)) ∧
    (let c : Chip := { ports := { ports := [(0, { role := 1, state := .l0 }), (4, { role := 2 }), (8, { role := 1 })],
                                  vcs := [(1, { present := true, up := 8 }),
                                          (3, { present := true, up := 9, vppbs := [(16, { bound := .port 5 })] })] } }
     (let d := desc 0 [0#8]
      Ready c 0x0110 d ∧ vcsCreateCheck (start0 c 0x0110 d) d = none ∧
      admitFail (start0 c 0x0110 d) (vcsCreateDo (start0 c 0x0110 d) d) 0 = none) ∧
     (let d := desc 1 []
      Ready c 0x0111 d ∧ vcsDestroyCheck (start0 c 0x0111 d) d = none ∧
      admitFail (start0 c 0x0111 d) ((start0 c 0x0111 d).setVcs 1 {}) 0 = none) ∧
     (let d := desc 1 [16#8, 4#8, 0#8, 0#8]
      Ready c 0x0112 d ∧ vppbBindCheck (start0 c 0x0112 d) d = none ∧
      admitFail (start0 c 0x0112 d) (vppbBindDo (start0 c 0x0112 d) d) 0 = none) ∧
     (let d := desc 3 [16#8, 1#8]
      Ready c 0x0113 d ∧ vppbUnbindCheck (start0 c 0x0113 d) d = none ∧
      admitFail (start0 c 0x0113 d) (start0 c 0x0113 d) 0 = none)) ∧
    (let c := portChip { role := 2, state := .l0 } 1600000000
     (c.vppb 0 16).unbind = some 1 ∧ c.past 0 (ms (c.vcsOf 0).timeout) = true ∧ (c.pIn 0).raw ≠ false ∧
     c.past 0 (us c.ports.inFilter) = true ∧
     (let e := groupApply c
      e.rst.running = true ∧ e.past (e.pIn 0).since (us e.ports.inFilter) = true ∧ (e.pIn 0).valid = true ∧ (e.pIn 0).raw = true ∧
      (e.pIn 0).level = false ∧ e.ports.linksDown = false) ∧
     (c.pIn 1).raw = false ∧ (c.pIn 1).level = true ∧ (c.pOut 2).since = some 0 ∧ (c.pOut 2).minDone = false ∧
     c.past 0 (us c.ports.outMin) = true) ∧
    (let c := live { ports := { vcs := [(0, { present := true, vppbs := [(16, { bound := .port 4 })] })] } }
     (c.vppb 0 16).bound = .port 4 ∧ (c.vppb 0 16).off = false ∧ (c.vppb 0 16).unbind = none) := by
  decide +kernel

/-! ### FM API -/

/-- A running switch with a two-LD partner on port 4, a host on port 0 with virtual switch 2, and tenant 1 bound there. -/
def fmChip : Chip :=
  live { rings := { fwReady := true },
         ports := { ports := [(0, { role := 1, state := .l0 }), (4, { role := 2, state := .l0, lds := 2 })],
                    vcs := [(2, { present := true, up := 0, vppbs := [(17, { bound := .ld 4 0 })] })] },
         ten := { tenants := [(1, { state := .enabled, binds := [(0, 3)] })] } }

theorem witness_FmApiSwitchRowsComplete :
    fmChip.rst.running = true ∧ fmChip.rings.fwReady = true ∧ ({} : FmReq).tenant = 0 ∧ (fmChip.port 4).role ≠ 0 ∧
    heldByOther fmChip [{ kind := .port, index := 4 }] 0 = false ∧ (fmChip.port 4).state ≠ .inReset ∧
    (fmChip.port 4).state ≠ .disabled ∧ admitFail fmChip fmChip 0 = none ∧
    admitFail fmChip (flowsRetimed (fmChip.setPort 4 { fmChip.port 4 with disable := true })) 0 = none ∧
    (fmChip.vcsOf 2).present = true ∧ heldByOther fmChip [{ kind := .vcs, index := 2 }] 0 = false ∧
    bindCheck fmChip 2 16 4 (some 1) = none ∧
    admitFail fmChip (fmChip.setVppb 2 16 { bound := bindOf 4 (some 1) }) 0 = none ∧ unbindCheck fmChip 2 17 1 = none := by
  decide +kernel

theorem witness_FmApiDeviceRowsComplete :
    fmChip.rst.running = true ∧ fmChip.rings.fwReady = true ∧ ({} : FmReq).tenant = 0 ∧ ({ tenant := 1 } : FmReq).tenant ≠ 0 ∧
    mldUp fmChip 4 = true ∧ backs fmChip 4 (some 1) = false ∧
    (vppbsOn fmChip 4).any (fun e => (fmChip.vppb e.1 e.2).bound == .ld 4 1) = false ∧ 1 < (fmChip.port 4).lds ∧
    0 + 1 ≤ (heads fmChip).length ∧ (fmChip.port 0).upstream = true ∧ (tenantAt fmChip 0 3).isSome = true := by decide +kernel

/-! ### Lanes -/

/-- A running switch with lane 3 as given. -/
def laneChip (y : Lane) (t : Nat) : Chip :=
  live { lanes := { lanes := [(3, y)], courses := [(1, { stolevo := true })] }, ft := { ivl := t } }

theorem witness_LaneHealthRowsComplete :
    (let c := laneChip { inUse := true } 0
     c.rst.running = true ∧ (((10 * 6553 : Nat) : Int) - 65536).natAbs * 1000 ≤ 65536 ∧
     65536 < (((10 * 6500 : Nat) : Int) - 65536).natAbs * 1000 ∧ (c.lane 3).inUse = true ∧ pathOpen c .firmware = true ∧
     5 ≤ (c.course 0).errLimit ∧ (c.course 0).errLimit < 1025) := by
  decide +kernel

theorem witness_LaneTestRowsComplete :
    (let c := laneChip {} 0
     (let d := desc 3 (leBytes 4 1 ++ leBytes 1 7)
      Ready c 0x0120 d ∧ laneConfigCheck d = none ∧ admitFail (start0 c 0x0120 d) (laneConfigDo (start0 c 0x0120 d) d) 0 = none) ∧
     (Ready c 0x0121 (dQuery 3) ∧ (dQuery 3).zeroBut [(16, 12)] = true ∧ (dQuery 3).bufferOk 0 = true) ∧
     (let d := desc 3 (leBytes 2 2 ++ leBytes 2 0 ++ leBytes 1 4 ++ leBytes 3 0 ++ leBytes 8 100)
      Ready c 0x0122 d ∧ d.zeroBut [(16, 2), (20, 1), (24, 8)] = true ∧ d.u16 16 % 16 ≠ 0 ∧ field (d.u16 16) 6 2 ≠ 3 ∧
      patternOk (d.u16 16 % 16) (d.byte 20) = true ∧ d.u64 24 ≠ 0 ∧ outOfTraffic (start0 c 0x0122 d) 3 = true ∧
      ((start0 c 0x0122 d).lane 3).test = none ∧ (c.course 0).stolevo = false ∧ d.byte 20 ≤ 5) ∧
     (Ready c 0x0124 (desc 3 []) ∧ (desc 3 []).zeroBut [] = true)) ∧
    (let c := laneChip { inUse := true } 0
     let d := desc 3 [0#8]
     Ready c 0x0123 d ∧ d.zeroBut [(16, 1)] = true ∧ d.byte 16 = 0 ∧ ((start0 c 0x0123 d).lane 3).margin = none ∧
     ((start0 c 0x0123 d).lane 3).inUse = true) ∧
    (let c := laneChip { inUse := true, test := some {}, testEnd := 50 } 50
     ((c.lane 3).test = some {} ∧ (c.lane 3).testEnd ≤ c.ivl ∧ pathOpen c .firmware = true ∧ outOfTraffic c 3 = true ∧
      patternOk 2 (c.lane 3).rate = true ∧ field 0x72 6 2 ≠ 3 ∧ field 0x72 6 2 ≠ 0)) ∧
    (let c := laneChip { inUse := true, margin := some {}, marginPartner := true } 0
     (c.lane 3).margin = some {}) ∧
    (let c := live { lanes := { lanes := [(4, { marginPartner := true })] }, ports := { ports := [(1, { role := 2 })] } }
     (c.lane 4).margin = none ∧ (c.lane 4).marginPartner = true ∧ outOfTraffic c 4 = false) := by
  decide +kernel

/-! ### Tenants -/

/-- A running switch with host port 1 and tenant 3 as given. -/
def tenChip (y : Tenant) : Chip :=
  live { ten := { tenants := [(3, y)] }, ports := { ports := [(1, { role := 1, cxl := true })] }, ft := { ivl := 100 } }

theorem witness_TenantTableRowsComplete :
    (let c := tenChip {}
     let d := desc 3 (leBytes 4 1 ++ leBytes 1 2)
     let e := start0 c 0x0200 d
     Ready c 0x0200 d ∧ tenantFieldsOk e d = true ∧ (e.tenant 3).state = .none ∧
     tenantEndOk e 3 (tenantParams e {} d) (tenantShaper {} d) = true ∧
     admitFail e (setTenantShaper (clearTenantCounters (e.setTenant 3 { tenantParams e {} d with tki := freshTki e }) 3) 3
       (tenantShaper {} d)) 0 = none) ∧
    (let c := tenChip { state := .disabled, sc := 1 }
     (let d := desc 3 (leBytes 4 1 ++ leBytes 1 2)
      Ready c 0x0202 d ∧ tenantSetCheck (start0 c 0x0202 d) d = none ∧
      admitFail (start0 c 0x0202 d) (tenantSetDo (start0 c 0x0202 d) d) 0 = none) ∧
     (let d := desc 3 [1#8, 2#8]
      Ready c 0x0203 d ∧ tenantBindCheck (start0 c 0x0203 d) d = none ∧
      admitFail (start0 c 0x0203 d) (tenantBindDo (start0 c 0x0203 d) d) 0 = none) ∧
     (let d := desc 3 []
      Ready c 0x0201 d ∧ d.zeroBut [] = true ∧ ((start0 c 0x0201 d).tenant 3).state = .disabled ∧
      tenantBusy (start0 c 0x0201 d) 3 = false ∧ jobNames (start0 c 0x0201 d) 3 = false) ∧
     (Ready c 0x0208 (dQuery 3) ∧ (dQuery 3).zeroBut [(16, 12)] = true ∧ (dQuery 3).bufferOk 0 = true)) := by
  decide +kernel

theorem witness_TenantTableRowsComplete_unbind :
    (let c := tenChip { state := .disabled, sc := 1, binds := [(1, 2)], ringPort := 1 }
     let d := desc 3 [1#8, 2#8]
     Ready c 0x0204 d ∧ tenantUnbindCheck (start0 c 0x0204 d) d = none ∧
     admitFail (start0 c 0x0204 d) (removeBinding (start0 c 0x0204 d) 3 1 2) 0 = none) := by
  decide +kernel

theorem witness_TenantStateRowsComplete :
    (let c := tenChip { state := .disabled, sc := 1 }
     (Ready c 0x0205 (desc 3 []) ∧ ((start0 c 0x0205 (desc 3 [])).tenant 3).state = .disabled ∧
      tenantBusy (start0 c 0x0205 (desc 3 [])) 3 = false) ∧
     (Ready c 0x0206 (desc 3 (leBytes 4 0)) ∧ (desc 3 (leBytes 4 0)).zeroBut [(16, 4)] = true) ∧
     (Ready c 0x0207 (desc 3 []) ∧ (desc 3 []).zeroBut [] = true)) ∧
    (let c := tenChip { state := .enabled, sc := 1 }
     let d := desc 3 (leBytes 4 5000)
     (Ready c 0x0205 (desc 3 []) ∧ Ready c 0x0206 d ∧ ((start0 c 0x0206 d).tenant 3).state = .enabled ∧
      d.u32 16 ≤ 10000000 ∧ tenantBusy (start0 c 0x0206 d) 3 = false)) ∧
    (let c := tenChip { state := .draining, sc := 1, drain := some { deadline := 90, cmd := some {} } }
     (Ready c 0x0205 (desc 3 []) ∧ (c.tenant 3).drain = some { deadline := 90, cmd := some {} } ∧ drained c 3 = true ∧
      90 ≤ c.ivl)) ∧
    (let c := tenChip { state := .draining, sc := 1, drain := some { deadline := 90 } }
     (c.tenant 3).drain = some { deadline := 90 } ∧ drained c 3 = true) := by
  decide +kernel

/-! ### Rings -/

/-- A running switch with tenant 3 enabled and its ring as given. -/
def ringChip (q : Ring) : Chip :=
  live { ten := { tenants := [(3, { state := .enabled, sc := 1 })] }, rings := { fwReady := true, rings := [(3, q)] }, ft := { ivl := 1600000 },
         ports := { ports := [(0, { role := 1, state := .l0, present := true })] }, rst := { started := true } }

theorem witness_RingRowsComplete :
    (let c := ringChip { state := .running, cmdLog2 := 4, evtLog2 := 4, cmdTail := 3, intAt := some 0, intWait := true, coalesce := 10 }
     c.rst.running = true ∧ (c.tenant 3).state ≠ .none ∧ pathOpen c .endpoint = true ∧ (c.tenant 3).resetting = false ∧
     (c.ring 3).state ≠ .unset ∧ 15 < (c.ring 3).cmdSize ∧ (c.ring 3).cmdSize ≤ 16 ∧ (c.ring 0).state = .unset ∧
     servedRing c = some 3 ∧ (c.ring 3).intAt = some 0 ∧ c.past 0 (coalesceOf c 3) = true ∧
     (mgrFields c 0x84).rings.mgrEnable = false ∧ 4 ≤ field 0x84 0 5 ∧ field 0x84 0 5 ≤ field 0x84 5 5 ∧
     ¬ (4 ≤ field 0x83 0 5 ∧ field 0x83 0 5 ≤ field 0x83 5 5 ∧ field 0x83 5 5 ≤ 16)) ∧
    ((mgrFields (live { rings := { mgrEnable := true } }) 0x84).rings.mgrEnable = true ∧
     ((live { ten := { tenants := [(3, { state := .enabled, resetting := true })] } }).tenant 3).resetting = true) ∧
    (let c := ringChip {}
     (let d := desc 3 (leBytes 8 0x1000 ++ leBytes 8 0x2000 ++ [4#8, 4#8] ++ leBytes 2 0 ++ leBytes 2 0 ++ leBytes 2 0)
      Ready c 0x0230 d ∧ ringSetupOk d = true ∧ ((start0 c 0x0230 d).ring 3).state ≠ .running ∧
      tenantBusy (start0 c 0x0230 d) 3 = false) ∧
     (Ready c 0x0231 (desc 3 []) ∧ (desc 3 []).zeroBut [] = true ∧ tenantBusy (start0 c 0x0231 (desc 3 [])) 3 = false) ∧
     (Ready c 0x0232 (dQuery 3) ∧ (dQuery 3).zeroBut [(16, 12)] = true ∧ (dQuery 3).bufferOk 0 = true)) := by
  decide +kernel

/-- RING_SETUP with TARGET 0 as the MCTP path has delivered it. -/
def maskSetup : Desc := desc 0 (leBytes 8 0 ++ leBytes 8 0 ++ leBytes 8 0)
def maskEntry : InFlight := { entry 0x0230 maskSetup with cmd := { (entry 0x0230 maskSetup).cmd with ring := 8192 } }

theorem witness_RingRowsComplete_mask :
    Runs (live { rings := { fwReady := true, rings := [(8192, { flight := [maskEntry] })] } }) 8192 0x0230 maskSetup maskEntry ∧
    maskSetup.zeroBut [(16, 24)] = true :=
  ⟨⟨⟨rfl, rfl, rfl, rfl⟩, rfl, rfl⟩, rfl⟩

/-- A LANE_TEST of tenant 3's ring that runs. -/
def testRun : InFlight := { cmd := { ring := 6, tag := 5, opcode := 0x0122, target := 3 }, started := true }

theorem witness_CommandPathRowsComplete :
    (let c := ringChip { flight := [testRun] }
     (Ready c 0x0233 (desc 0 [])) ∧
     (let d := desc 6 (leBytes 4 5)
      Ready c 0x0400 d ∧ d.zeroBut [(16, 4)] = true ∧ abortable testRun.cmd.opcode = true ∧
      ((start0 c 0x0400 d).ring (ringKey 6)).flight.filter
          (fun g => g.started && g.cmd.tag == BitVec.ofNat 32 (d.u32 16) &&
            !sameCmd g.cmd { ring := 0, tag := d.tag, opcode := 0x0400, target := d.tgt }) = [testRun])) ∧
    (let c := live { mov := { jobs := [{ tenant := 0, cmd := some { tag := 9, opcode := 0x0410 } }] } }
     let d := desc 0 (leBytes 4 9)
     Ready c 0x0401 d ∧ (jobByTag (start0 c 0x0401 d) 0 9).isSome = true) ∧
    (let c := ringChip { state := .running, cmdLog2 := 4, evtLog2 := 4, cmdTail := 3 }
     c.rst.started = true ∧ c.rst.running = true ∧ (c.rings.mctpOut.filter (fun x => x.1 == 1)).length < 8 ∧
     (c.ring 8193).flight = [] ∧ isQuery 0x0101 = true ∧ knownOp 0x0200 = true ∧ isQuery 0x0200 = false ∧ c.rings.console = false ∧
     servedRing c = some 3) ∧
    (let c : Chip := { rst := { started := true }, rings := { mctpOut := List.replicate 8 (1, 0) } }
     c.rst.started = true ∧ c.rst.running = false ∧ 8 ≤ (c.rings.mctpOut.filter (fun x => x.1 == 1)).length) ∧
    (let c := live { rings := { mgmtReset := true } }
     c.rst.running = true ∧ c.rings.mgmtReset = true) := by
  decide +kernel

/-! ### Groups -/

/-- A running switch whose ring 0 holds group 5. -/
def commitChip (g : Group) (n : DWord) : Chip := live { grp := { groups := [(5, g)], nextOrder := 4 }, ft := { count := n } }

theorem witness_GroupCommandRowsComplete :
    (let c := commitChip {} 0
     let d := desc 5 (leBytes 4 0)
     Ready c 0x0300 d ∧ d.zeroBut [(16, 4)] = true ∧ ((start0 c 0x0300 d).group 5).state = .none) ∧
    (let c := commitChip { state := .opened } 0
     (Ready c 0x0301 (desc 5 []) ∧ ((start0 c 0x0301 (desc 5 [])).group 5).state = .opened ∧
      ((start0 c 0x0301 (desc 5 [])).group 5).owner = 0) ∧
     (let d := desc 5 (leBytes 8 0)
      Ready c 0x0302 d ∧ d.zeroBut [(16, 8)] = true ∧ d.u64 16 = 0) ∧
     (Ready c 0x0303 (desc 5 []) ∧ (desc 5 []).zeroBut [] = true) ∧
     (let d := desc 5 (leBytes 4 100)
      Ready c 0x0305 d ∧ d.zeroBut [(16, 4)] = true ∧ d.u32 16 = 100) ∧
     (Ready c 0x0304 (dQuery 5) ∧ (dQuery 5).zeroBut [(16, 12)] = true ∧ (dQuery 5).bufferOk 0 = true) ∧
     (c.group 5).expiry ≤ c.now) ∧
    (let c := live { grp := { tails := [(2, { left := 1, cmd := some { target := 5 } })] } }
     Ready c 0x0303 (desc 5 []) ∧ ((start0 c 0x0303 (desc 5 [])).group 5).state = .none ∧
     ((start0 c 0x0303 (desc 5 [])).grp.tails.any (fun t => (match t.2.cmd with
          | some y => y.target == 5
          | none => false) && (t.2.owner == 0 || isManager 0))) = true) := by
  decide +kernel

theorem witness_GroupProgressRowsComplete :
    (let c := commitChip { state := .checking, cmd := some {} } 2000
     c.rst.running = true ∧ runningCheck c = some 5 ∧ groupFail c 5 = none) ∧
    (let c := commitChip { state := .checking, cmd := some {}, items := [.cmd 0x0111 0 (desc 3 [])] } 2000
     runningCheck c = some 5 ∧ (groupFail c 5).isSome = true) ∧
    (let c := commitChip { state := .committing, cmd := some {} } 2000
     runningCheck c = some 5 ∧ groupFail c 5 = none ∧ c.now < (c.now / 1024 + 1) * 1024) ∧
    (let c := commitChip { state := .committing, asked := 1000, cmd := some {} } 2000
     runningCheck c = some 5 ∧ groupFail c 5 = none ∧ ceilDiv 1000 1024 * 1024 ≤ c.now) ∧
    (let c := commitChip { state := .armed, cmd := some {}, due := 2048 } 2048
     dueGroup c = some 5) ∧
    (let c := live { grp := { tails := [(2, { cmd := some { target := 5 } })] } }
     c.grp.tails.find? (fun t => t.2.left == 0 && (match t.2.cmd with
      | some x => x.target == 5
      | none => false)) = some (2, { cmd := some { target := 5 } })) := by
  decide +kernel

theorem witness_CommitOwnershipIsExclusive :
    (let c := commitChip { state := .opened, owner := 6, claims := [{ kind := .egress, index := 1 }] } 0
     (let d := desc 8 (leBytes 8 0)
      let e := deliver c 0x0104 d
      fwServes e 0 0x0104 = true ∧ startable [] (e.ring (ringKey 0)).flight 0x0104 d = some (entry 0x0104 d) ∧
      pathWaits e 0 (entry 0x0104 d) = false ∧ preStatus e 0 0x0104 d = none ∧ d.stage = false ∧ isQuery 0x0104 = false ∧
      (claimsOf e 0x0104 d).any (fun o => (claimant e o).any (fun g => g != 0)) = true) ∧
     (let d := { desc 0 [] with flags := 3, group := 5 }
      let e := deliver c 0x0233 d
      fwServes e 0 0x0233 = true ∧ startable [] (e.ring (ringKey 0)).flight 0x0233 d = some (entry 0x0233 d) ∧
      pathWaits e 0 (entry 0x0233 d) = false ∧ preStatus e 0 0x0233 d = none ∧ d.stage = true ∧
      (e.group d.grp).state ≠ .none ∧ (e.group d.grp).owner ≠ 0) ∧
     (Ready c 0x0301 (desc 5 []) ∧ (desc 5 []).zeroBut [] = true ∧ ((start0 c 0x0301 (desc 5 [])).group 5).state ≠ .none ∧
      ((start0 c 0x0301 (desc 5 [])).group 5).owner ≠ 0) ∧
     (let d := desc 5 (leBytes 8 0)
      Ready c 0x0302 d ∧ d.zeroBut [(16, 8)] = true) ∧
     (let d := desc 5 (leBytes 4 100)
      Ready c 0x0305 d ∧ d.zeroBut [(16, 4)] = true ∧ d.u32 16 = 100)) := by
  decide +kernel

/-! ### The data mover -/

/-- A window of one Plain extent on device 0, which has four extents. -/
def jobChip (w : Window) (js : List Job) : Chip :=
  live { pool := { windows := [(1, w)], devs := [(0, { present := true, extents := 4 })] }, mov := { jobs := js } }

/-- The bytes of a job's parameters: three values of eight bytes, the spaces, SC, RATE. -/
def jobBytes (a b n spaces : Nat) : List Byte :=
  leBytes 8 a ++ leBytes 8 b ++ leBytes 8 n ++ leBytes 1 spaces ++ leBytes 1 0 ++ leBytes 2 0 ++ leBytes 4 0

theorem witness_JobCommandRowsComplete :
    (let c := jobChip {} []
     (let d := desc 3 (jobBytes 0 4096 64 0)
      let e := start0 c 0x0410 d
      Ready c 0x0410 d ∧ d.zeroBut [(16, 26), (44, 4)] = true ∧ spaceOk 0 0 = true ∧ spaceOk 0 4096 = true ∧ lengthOk (d.u64 32) = true ∧
      jobRateOk d = true ∧ overlap 0 4096 64 = false ∧ spaceMay e 0 0 0 = true ∧ rangeOk e 0 0 64 = true ∧
      acceptedAll e 0 0 0 64 = true ∧ jobTaken e 0 3 = false ∧ backingFree e 0 4096 64 = true) ∧
     (let d := desc 3 (jobBytes 4096 64 0 0)
      let e := start0 c 0x0411 d
      Ready c 0x0411 d ∧ d.zeroBut [(16, 26), (44, 4)] = true ∧ lengthOk (d.u64 24) = true ∧ spaceMay e 0 0 4096 = true ∧
      rangeOk e 0 4096 64 = true ∧ acceptedAll e 0 0 4096 64 = true ∧ jobTaken e 0 3 = false ∧ backingFree e 0 4096 64 = true) ∧
     (let d := desc 3 (leBytes 1 1 ++ leBytes 7 0 ++ leBytes 8 4096 ++ leBytes 8 64)
      Ready c 0x0414 d ∧ d.zeroBut [(16, 2), (20, 20), (41, 1), (44, 4)] = true ∧ spaceOk 0 (d.u64 24) = true ∧
      lengthOk (d.u64 32) = true ∧ jobRateOk d = true ∧ dumpRangeOk d = true ∧ jobTaken (start0 c 0x0414 d) 0 3 = false)) := by
  decide +kernel

theorem witness_JobCommandRowsComplete_members :
    (let y : Member := { present := true, dev := 0, ext := 1 }
     let c := jobChip { present := true, ext := [(0, { present := true })], members := [(0, y)] } []
     (let d := desc 3 (leBytes 4 1 ++ leBytes 4 0 ++ leBytes 1 0 ++ leBytes 1 0 ++ leBytes 2 0 ++ leBytes 4 2)
      let e := start0 c 0x0412 d
      Ready c 0x0412 d ∧ d.zeroBut [(16, 2), (20, 5), (26, 6), (41, 1), (44, 4)] = true ∧ jobMember (e.window 1) d = some (0, 0) ∧
      memberHasJob e 1 0 0 = false ∧ ((e.window 1).member 0 0).migr = none ∧
      (match migrateTo e (e.window 1) 0 0 d with
       | .ok q => q == (0, 2, false)
       | .error _ => false) = true) ∧
     (let d := desc 3 (leBytes 4 1 ++ leBytes 4 0 ++ leBytes 1 0)
      let e := start0 c 0x0413 d
      Ready c 0x0413 d ∧ d.zeroBut [(16, 2), (20, 5), (41, 1), (44, 4)] = true ∧ jobRateOk d = true ∧
      jobMember (e.window 1) d = some (0, 0) ∧ memberHasJob e 1 0 0 = false ∧ anyPage ((e.window 1).member 0 0) = false)) ∧
    (let y : Member := { present := true, dev := 0, ext := 1, log := [4] }
     let c := jobChip { present := true, ext := [(0, { present := true })], members := [(0, y)] } []
     let d := desc 3 (leBytes 4 1 ++ leBytes 4 0 ++ leBytes 1 0)
     Ready c 0x0413 d ∧ anyPage (((start0 c 0x0413 d).window 1).member 0 0) = true) := by
  decide +kernel

theorem witness_MoverEngineRowsComplete :
    (let c := jobChip {} [{ cmd := some {} }, { auto := some .fill, kind := .fill }]
     c.rst.phase = 0 ∧ engineFree c 0 false = true ∧ (nextQueued c).isSome = true ∧ engineFree c 15 true = true ∧
     (nextAuto c).isSome = true ∧ (c.engine 3).out = false ∧
     jobOf (raise ((txLeave c 3).setEngine 3 { c.engine 3 with out := true }) 243 (srcInfo 9 3)) 3 = none) ∧
    (let c := jobChip {} [{ engine := some 1, kind := .migrate }, { engine := some 2, kind := .resync },
                          { engine := some 3, kind := .resync, auto := some .verify }, { engine := some 4, length := 128 },
                          { engine := some 5, ended := true }, { engine := some 6, ended := true, schedule := some 1 },
                          { engine := some 7, ended := true, bbExport := true }]
     [1, 2, 3, 4].all (fun e => ((jobOf c e).map (·.ended)) == some false) = true ∧ txOf c 1 = none ∧
     (jobOf (raise ((txLeave c 4).setEngine 4 { c.engine 4 with out := true }) 243 (srcInfo 9 4)) 4).isSome = true ∧
     (freeEngines c false).find? (fun x => decide (4 < x)) = some 8 ∧
     [5, 6, 7].all (fun e => ((jobOf c e).map (·.ended)) == some true) = true) ∧
    (let c := jobChip {} [{ engine := some 1, kind := .fill, length := 128, dst := 4096 }]
     (let c1 := c.setEngine 1 { shaper := jobShaper c 65536 }
      let c0 := jobAdvance c1 1
      ((jobOf c0 1).map (fun j => j.kind == .fill && j.dstSpace == 0 && decide (j.sent < jobLines j) &&
        decide (64 * j.sent < j.progress + 65536) && lineMeets c0 j 1)) = some true)) ∧
    (let c := { jobChip {} [{ auto := some .fill, kind := .fill }] with ft := { ivl := 160000000000 } }
     c.mov.jobs.any (fun j => j.auto.isSome && j.engine.isNone && c.past j.queuedAt (sec 10)) = true) := by
  decide +kernel

/-! ### Faults and the black box -/

/-- A running switch with source 100 as given, at `ivl` 1,600,000. -/
def fltChip (x : Source) : Chip := live { flt := { sources := [(100, x)], deferred := [(101, 2)] }, ft := { ivl := 16000000000 } }

theorem witness_CollectorRowsComplete :
    (let c := fltChip { pending := true, logMerged := 3, logAt := some 0 }
     c.rst.running = true ∧ (c.source 100).pending = true ∧ holdoffOver c (some 0) = true ∧ c.flt.queue.length < 256 ∧
     c.flt.deferred ≠ [] ∧ pathOpen c .firmware = true ∧ c.flt.errMin = false ∧ c.rings.mgmtReset = false) ∧
    (let c := fltChip { pending := true, intrMerged := 3, intrAt := some 0 }
     (c.source 100).intrMerged ≠ 0 ∧ holdoffOver c (c.source 100).intrAt = true) ∧
    (let c := live { flt := { errMin := true, errAt := 0 }, ft := { ivl := 160000000 } }
     c.flt.errMin = true ∧ c.past c.flt.errAt (us c.flt.minWidth) = true) ∧
    (let c := live {}
     (let d := desc 3 (leBytes 2 1 ++ leBytes 1 2)
      Ready c 0x0600 d ∧ faultSeverityCheck d = none ∧ admitFail (start0 c 0x0600 d) (faultSeverityDo (start0 c 0x0600 d) d) 0 = none) ∧
     (let d := desc 3 [2#8]
      Ready c 0x0601 d ∧ faultReactionCheck d = none ∧ admitFail (start0 c 0x0601 d) (faultReactionDo (start0 c 0x0601 d) d) 0 = none) ∧
     (let d := desc 0 (leBytes 4 100 ++ leBytes 1 3)
      Ready c 0x0603 d ∧ errOutConfigCheck d = none ∧ admitFail (start0 c 0x0603 d) (errOutConfigDo (start0 c 0x0603 d) d) 0 = none) ∧
     (let d := desc 3 (leBytes 8 4096 ++ leBytes 4 64 ++ leBytes 2 2)
      Ready c 0x0602 d ∧ d.zeroBut [(16, 14)] = true ∧ d.bufferOk 0 = true ∧ d.u16 28 = 2 ∧ d.tgt + 2 ≤ 512)) := by
  decide +kernel

/-- A running switch with the black box as given. -/
def boxChip (b : BlackBox) : Chip := live { bb := b }

theorem witness_BlackBoxRowsComplete :
    (let c := boxChip { queue := [{}] }
     c.bb.queue = [{}] ∧ c.bb.inhibit = false ∧ (pushLog { c with bb := { c.bb with queue := [] } } {}).bb.dropped = 0) ∧
    (let c := boxChip { queue := [{}], dropped := 3 }
     (pushLog { c with bb := { c.bb with queue := [] } } {}).bb.dropped ≠ 0) ∧
    ((boxChip { running := some 1 }).bb.running = some 1) ∧
    (let c := live { flt := { chipWait := some { since := 0, capture := true } }, ft := { ivl := 160000000000 } }
     c.flt.chipWait = some { since := 0, capture := true } ∧ c.past 0 (ms c.flt.snapTime) = true ∧ c.rst.running = true ∧
     c.bb.running = none) ∧
    (let c := boxChip {}
     (let d := desc 1 (leBytes 8 4096 ++ leBytes 4 64 ++ leBytes 4 8)
      Ready c 0x0610 d ∧ d.zeroBut [(16, 16)] = true ∧ d.bufferOk 0 = true ∧ d.u32 28 % 8 = 0 ∧ d.u32 28 < viewBytes d.tgt) ∧
     (let d := desc 0 (leBytes 8 4096 ++ leBytes 4 3517 ++ leBytes 4 1)
      Ready { c with bb := { c.bb with log := [{}] } } 0x0611 d ∧ d.u32 28 = 1 ∧ d.u64 16 % 8 = 0 ∧ 3517 ≤ d.u32 24 ∧
      d.u32 24 < 3517 + 128 * ([({} : LogRec)].take 1).reverse.length) ∧
     (let d := desc 1 [1#8]
      Ready c 0x0612 d ∧ d.zeroBut [(16, 1)] = true ∧ d.tgt ≠ 0xFF ∧ d.byte 16 = 1) ∧
     (let d := desc 0xFF [4#8]
      Ready c 0x0612 d ∧ d.zeroBut [(16, 1)] = true ∧ d.byte 16 = 4 ∧ (start0 c 0x0612 d).bb.running = none ∧
      (snapshot (start0 c 0x0612 d) 0).bb.running.isSome = true)) ∧
    (let c : Chip := { rst := { started := true } }
     c.rst.started = true ∧ c.rst.lowRails = [] ∧ (raise { c with rst := { c.rst with lowRails := [4] } } 23).bb.holdup = false) ∧
    (let c : Chip := { rst := { running := true, lowRails := [4] }, bb := { holdup := true } }
     c.rst.lowRails = [4] ∧ c.rst.running = true ∧ c.bb.holdup = true) := by
  decide +kernel

/-- An export over MCTP. -/
theorem witness_BlackBoxRowsComplete_mctp :
    (let d := desc 1 (leBytes 8 0 ++ leBytes 4 0 ++ leBytes 4 0)
     let c : Chip := { rings := { rings := [(8192, { flight := [entry 0x0611 d] })] } }
     fwServes c 8192 0x0611 = true ∧ startable [] (c.ring (ringKey 8192)).flight 0x0611 d = some (entry 0x0611 d) ∧
     pathWaits c 8192 (entry 0x0611 d) = false ∧ preStatus c 8192 0x0611 d = none ∧ d.stage = false ∧
     (isQuery 0x0611 || !heldByOther c (claimsOf c 0x0611 d) 0) = true ∧ d.tgt ≠ 0 ∧ d.u32 28 = 0) := by
  decide +kernel

/-! ### Self-test -/

theorem witness_SelfTestRowsComplete :
    (let c := live { ports := { ports := [(0, { role := 1, state := .l0, present := true })] }, sw := { host := [(0, { busMaster := [49] })] } }
     (let d := desc 0xFFFFFFFF [1#8]
      Ready c 0x0900 d ∧ d.zeroBut [(16, 1)] = true ∧ d.byte 16 = 1) ∧
     (let d := desc (2 ^ 25 + 5) []
      Ready c 0x0900 d ∧ d.zeroBut [] = true ∧ (start0 c 0x0900 d).test.running = none ∧ testable (start0 c 0x0900 d) 2 5 = true) ∧
     (let d := desc 0 (leBytes 4 3 ++ leBytes 4 60 ++ leBytes 4 1000)
      Ready c 0x0901 d ∧ sliceTestConfigCheck d = none ∧
      admitFail (start0 c 0x0901 d) (sliceTestConfigDo (start0 c 0x0901 d) d) 0 = none) ∧
     (let d := desc 0 (leBytes 8 4096 ++ leBytes 4 64 ++ leBytes 4 0)
      Ready c 0x0902 d ∧ d.zeroBut [(16, 12), (28, 4)] = true ∧ d.bufferOk 0 = true ∧ d.u32 28 < 65280 ∧
      canWrite (start0 c 0x0902 d) 0 = true) ∧
     (let d := desc 1 (leBytes 8 0 ++ leBytes 8 9)
      Ready c 0x0910 d ∧ d.zeroBut [(16, 1), (20, 1), (24, 8)] = true ∧ sourceUsed d.tgt = true ∧ d.byte 16 = 0)) ∧
    (let c := live { test := { kinds := 6, interval := 1 }, ft := { ivl := 16000000000 } }
     c.rst.running = true ∧ c.past c.test.lastTurn (sec c.test.interval) = true ∧ c.test.running = none ∧ c.test.kinds ≠ 0 ∧
     (((List.range 4).map (fun i => (c.test.nextKind + i) % 4)).filter (fun k => bitOf c.test.kinds k)).findSome?
      (fun k => (nextOf c k).map (fun i => (k, i))) = some (1, 0)) ∧
    (let c := live { test := { running := some { kind := 1, index := 2, seg := 16 } }, ft := { ivl := 16000000000 } }
     c.test.running = some { kind := 1, index := 2, seg := 16 } ∧ poolUsed c 2 0 ≤ sharedTrackers c 2 ∧
     c.past 0 (us c.test.drain) = true) ∧
    (let c := live { test := { running := some { kind := 1, index := 2, seg := 3, drained := true } } }
     c.test.running = some { kind := 1, index := 2, seg := 3, drained := true }) ∧
    (let c := live { test := { running := some { kind := 2, index := 2, drained := true } } }
     c.test.running = some { kind := 2, index := 2, drained := true }) := by
  decide +kernel

/-! ### Slot power -/

/-- Channel 2 as given, at `ivl` 16e9. -/
def slotChip (h : Chan) : Chip :=
  { rst := { running := true, started := true }, slot := { chans := [(2, h)] }, ft := { ivl := 960000000000 } }

theorem witness_SlotChannelRowsComplete :
    (let c := slotChip {}
     c.rst.started = true ∧ (c.chan 2).state = .empty) ∧
    (let c := slotChip { state := .debounce, pinLow := some 0 }
     (c.chan 2).state = .debounce ∧ insertionDue c (c.chan 2) = true) ∧
    ((slotChip { state := .off, present := true }).chan 2).present = true ∧
    (let c := slotChip { state := .ramp, gateOn := true, timerAt := some 0 }
     (c.chan 2).live = true ∧ timerPast c (c.chan 2) (tenthMs (c.chan 2).p.faultTime) = true) ∧
    (let c := slotChip { state := .ramp, gateOn := true }
     (c.chan 2).state = .ramp ∧ expiryWon c (c.chan 2) = false) ∧
    (let c := slotChip { state := .on, gateOn := true, pg := true }
     (c.chan 2).state = .on ∧ c.past (c.chan 2).pgAt (sec 60) = true) ∧
    (let c := slotChip { state := .retryWait }
     c.past (c.chan 2).holdFrom (tenthSec (c.chan 2).p.holdoff) = true) ∧
    (let c := { slotChip {} with slot := { chans := [(4, { state := .on, gateOn := true })] } }
     (c.chan 4).gateOn = true) ∧
    ((slotChip { state := .broken }).chan 2).gateOn = false := by
  decide +kernel

theorem witness_SlotCommandRowsComplete :
    (let h := (slotChip {}).chan 2
     h.badA = false ∧ h.p.vFeedUv ≠ 0 ∧ h.feedB = false ∧ h.badB = false ∧ h.inputLow = false ∧ h.senseTold = false) ∧
    (let h := (slotChip { badB := true, inputLow := true }).chan 2
     h.badA = false ∧ h.feedB = false ∧ h.badB = true ∧ h.inputLow = true) ∧
    (let c := slotChip { p := { preferB := true } }
     let h := c.chan 2
     h.p.preferB = true ∧ h.forced = none ∧ h.p.feedReturn ≠ 0 ∧ h.change = none ∧ c.past h.goodB (tenthSec h.p.feedReturn) = true) ∧
    (let c := slotChip { state := .on, change := some 0 }
     (c.chan 2).change = some 0 ∧ (c.chan 2).live = true ∧ c.past 0 (us (c.chan 2).p.deadTime) = true) ∧
    (let c := slotChip { warn := true }
     (c.chan 2).warned = false ∧ c.past (c.chan 2).warnEnd (ms 1) = true) ∧
    (let c := slotChip { state := .on, leadAt := some 0 }
     (c.chan 2).leadAt = some 0 ∧ (c.chan 2).state = .on ∧ c.past 0 (ms (c.chan 2).p.warnLead) = true) := by
  decide +kernel

theorem witness_SlotCommandRowsComplete_commands :
    (let c := slotChip { state := .off }
     (let d := desc 2 (leBytes 1 3 ++ leBytes 1 255 ++ leBytes 1 0 ++ leBytes 1 2 ++ leBytes 2 100 ++ leBytes 2 100 ++ leBytes 2 50 ++
        leBytes 2 10 ++ leBytes 2 100 ++ leBytes 2 10800 ++ leBytes 2 11000 ++ leBytes 2 2000 ++ leBytes 2 10800 ++ leBytes 2 10 ++
        leBytes 1 0 ++ leBytes 1 5 ++ leBytes 2 1000 ++ leBytes 2 10 ++ leBytes 2 10 ++ leBytes 2 0)
      Ready c 0x0710 d ∧ slotConfigCheck (start0 c 0x0710 d) d = none ∧
      admitFail (start0 c 0x0710 d) (slotConfigDo (start0 c 0x0710 d) d) 0 = none) ∧
     (Ready c 0x0711 (desc 2 []) ∧ (desc 2 []).zeroBut [] = true ∧ ((start0 c 0x0711 (desc 2 [])).chan 2).state = .off) ∧
     (Ready c 0x0712 (desc 2 [1#8]) ∧ (desc 2 [1#8]).zeroBut [(16, 1)] = true ∧ ((start0 c 0x0712 (desc 2 [1#8])).chan 2).state = .off) ∧
     (Ready c 0x0713 (dQuery 2) ∧ (dQuery 2).zeroBut [(16, 12)] = true ∧ (dQuery 2).bufferOk 0 = true) ∧
     (Ready c 0x0714 (desc 2 [0#8]) ∧ (desc 2 [0#8]).zeroBut [(16, 1)] = true) ∧
     (Ready c 0x0714 (desc 2 [2#8]) ∧ ((start0 c 0x0714 (desc 2 [2#8])).chan 2).badB = false)) ∧
    (let c := slotChip { state := .on }
     Ready c 0x0712 (desc 2 [1#8]) ∧ ((start0 c 0x0712 (desc 2 [1#8])).chan 2).state = .on ∧
     ((start0 c 0x0712 (desc 2 [1#8])).chan 2).p.warnLead = 0) := by
  decide +kernel

/-! ### Rungs and temperature -/

/-- A running switch with management firmware, the power state as given, at 16 s. -/
def powChip (p : Power) : Chip :=
  { rst := { running := true }, rings := { fwReady := true }, pow := p, ft := { ivl := 256000000000 },
    ports := { ports := [(4, { role := 2, state := .l0p, l0pEn := true, flit256 := true, rate := 5, width := 0, active := 4 })] },
    lanes := { courses := [(2, { stolevo := true })] }, stv := { links := [(1, { state := .active, rateMax := true })] } }

theorem witness_RungRowsComplete :
    (let c := powChip { rungs := [(0, { deepest := 4 }), (1, { current := 2 }), (8, { deepest := 3, current := 3 })] }
     c.rst.running = true ∧ c.rings.fwReady = true ∧ (c.rung 3).current = 0 ∧ (c.rung 3).current + 1 ≤ courseLimit c 3 ∧
     c.past (c.rung 3).since (descentDelay c 0) = true ∧ (c.rung 1).current ≠ 0 ∧ (c.rung 8).current ≠ 0 ∧ c.pow.iLimit < 200 ∧
     c.pow.curStep = false ∧ c.past c.pow.avsAt (us c.pow.avsIvl) = true) ∧
    (let c := powChip { rungs := (List.range 8).map (fun i => (i, { current := 3 })) }
     (c.rung 8).current = 0 ∧ deviceIdle c = true ∧ c.past (c.rung 8).since (ms 1) = true) ∧
    (let c := powChip {}
     let y := c.port 4
     (y.state = .l0 ∨ y.state = .l0p) ∧ y.l0pEn = true ∧ c.past (c.pow.width.look 4).last (us c.pow.lwIvl) = true ∧ y.l0pOut = none ∧
     y.l0pHold = none ∧ 4 < y.active + 1 ∧ y.width < y.active ∧ overWidth y 1000000000 c.pow.lwIvl y.active 3 4 = true ∧
     (let w := c.pow.width.put 4 ((c.pow.width.look 4).after c.ivl 0 (y.active == y.l0pMin) (y.active == y.width))
      thermalStep2 { c with pow := { c.pow with width := w } } = false) ∧
     linkExists c 1 = true ∧ (c.link 1).state = .active ∧ c.past (c.pow.rate.look 1).last (ms c.pow.rateIvl) = true ∧
     (c.link 1).rate = false ∧ (c.link 1).rateMax = true ∧ 4 * (256 * 1000000 * c.pow.rateIvl) < 10 * 100000000000 ∧
     portHasFlow { c with pow := { c.pow with rate := c.pow.rate.put 1 ((c.pow.rate.look 1).after c.ivl 0 true false) } }
       (linkPort c 1) = false ∧ (c.link 1).therm64 = false) := by
  decide +kernel

theorem witness_RungRowsComplete_commands :
    (let c := live {}
     (Ready c 0x0700 (desc 1 [2#8]) ∧ rungSetCheck (desc 1 [2#8]) = none ∧
      admitFail (start0 c 0x0700 (desc 1 [2#8])) (rungSetDo (start0 c 0x0700 (desc 1 [2#8])) (desc 1 [2#8])) 0 = none) ∧
     (let d := desc 1 (leBytes 4 50)
      Ready c 0x0701 d ∧ loopBoundsCheck d = none ∧ admitFail (start0 c 0x0701 d) (loopBoundsDo (start0 c 0x0701 d) d) 0 = none) ∧
     (Ready c 0x0702 (dQuery 0) ∧ (dQuery 0).zeroBut [(16, 12)] = true ∧ (dQuery 0).bufferOk 0 = true)) := by
  decide +kernel

theorem witness_ThermalRowsComplete :
    (let c := powChip {}
     let c1 : Chip := { c with pow := { c.pow with sampleAt := c.ivl } }
     c.rst.running = true ∧ c.past c.pow.sampleAt (us 100) = true ∧
     (let c3 := (List.range 2).foldl (fun c k => sampleSensor c (20 + k) none) ((List.range 20).foldl (fun c i => sampleSensor c i none) c1)
      highestTj c3 = none ∧ c3.rst.running = true) ∧
     (let c3 := (List.range 2).foldl (fun c k => sampleSensor c (20 + k) none)
        ((List.range 20).foldl (fun c i => sampleSensor c i (([some (50 : Int)] : List (Option Int)).getD i none)) c1)
      highestTj c3 = some 50 ∧ (tjSampled c3 50).rst.running = true)) ∧
    (let c := powChip { belowAt := [some 0, none, none], tStep := 1, tripAt := some 0 }
     c.pow.belowAt.getD 0 none = some 0 ∧ c.pow.tStep = 1 ∧ c.past 0 (ms 10) = true ∧ c.pow.tripAt = some 0 ∧ c.past 0 (us 100) = true) ∧
    (let c := { powChip { coolAt := some 0 } with rst := { held := [.thermal] } }
     c.pow.coolAt = some 0 ∧ c.rst.held.contains .thermal = true ∧ c.past 0 (sec 1) = true) := by
  decide +kernel

/-! ### Counters -/

theorem witness_CounterRowsComplete :
    (let c := { live {} with ft := { mode := .locked, count := 1000000 } }
     (let d := desc 5 (leBytes 4 1 ++ leBytes 4 0 ++ leBytes 4 0x3FFFF ++ leBytes 4 0)
      Ready c 0x0500 d ∧ ctrConfigCheck (start0 c 0x0500 d) d = none ∧
      admitFail (start0 c 0x0500 d) (ctrConfigDo (start0 c 0x0500 d) d) 0 = none) ∧
     (let d := desc 0 (leBytes 8 4096 ++ leBytes 4 64 ++ leBytes 1 0 ++ leBytes 1 1 ++ leBytes 2 3 ++ leBytes 2 2)
      Ready c 0x0501 d ∧ d.zeroBut [(16, 18)] = true ∧ d.bufferOk 0 = true ∧ d.byte 28 < 4 ∧ d.byte 29 < 2 ∧ d.u16 30 + d.u16 32 ≤ setItems 0) ∧
     (let d := desc 2 (leBytes 8 0 ++ leBytes 4 1000 ++ leBytes 1 0 ++ leBytes 1 0 ++ leBytes 2 4 ++ leBytes 2 0 ++ leBytes 2 0 ++
        leBytes 4 8 ++ leBytes 8 4096)
      Ready c 0x0502 d ∧ dumpScheduleCheck (start0 c 0x0502 d) d = none ∧
      admitFail (start0 c 0x0502 d) (dumpScheduleDo (start0 c 0x0502 d) 0 d) 0 = none) ∧
     (Ready c 0x0503 (desc 3 (leBytes 4 100)) ∧ (desc 3 (leBytes 4 100)).zeroBut [(16, 4)] = true)) ∧
    (let k : Counters := { bw := [(3, { len := 100, on := true })], dumps := [(4, { active := true }), (5, { active := true, busy := true })] }
     let c := { live {} with ft := { count := 16000000 }, ctr := k }
     c.rst.running = true ∧ (c.ctr.bw.look 3).len ≠ 0 ∧ (c.ctr.bw.look 3).done < c.now / us (max (c.ctr.bw.look 3).len 1) ∧
     c.rst.phase = 0 ∧ (c.schedule 4).active = true ∧ (c.schedule 4).due ≤ c.now ∧ (c.schedule 4).busy = false ∧
     (c.schedule 4).clear = false ∧ (c.schedule 5).busy = true ∧ (c.schedule 5).due ≤ c.now) := by
  decide +kernel

/-! ### Security -/

/-- A running switch with the security state as given, at 16 s. -/
def secChip (x : Secure) : Chip :=
  { live { sec := x, ft := { ivl := 256000000000 } } with rst := { running := true, started := true } }

/-- Three images of one set. -/
def threeImages (set : Nat) : Tbl (Option ImageFacts) :=
  [(3 * set, some { typ := 1 }), (3 * set + 1, some { typ := 2 }), (3 * set + 2, some { typ := 3 })]

/-- An FW_UPDATE chunk over MCTP that the ring of MCTP has fetched. -/
def chunk : Desc :=
  { flags := 10, plen := 2, tag := 7, params := List.replicate 8 0 ++ leBytes 4 40, block := leBytes 4 16 ++ leBytes 4 100 ++ [1#8] }

/-- A switch whose MCTP endpoint holds that chunk. -/
def chunkChip : Chip :=
  { secChip { update := some { typ := 1, set := 1, total := 100, offset := 16, mctp := true } } with
    rings := { fwReady := true, rings := [(8192, { state := .running, flight := [entry 0x0800 chunk] })] } }

theorem witness_ImageRowsComplete :
    (let c := secChip {}
     let d := desc 0 (leBytes 8 4096 ++ leBytes 4 100 ++ leBytes 1 1)
     Ready c 0x0800 d ∧ d.zeroBut [(16, 13)] = true ∧ d.byte 28 = 1 ∧ d.u32 24 ≤ placeBytes 1 ∧
     (start0 c 0x0800 d).sec.update = none ∧ updateSet (start0 c 0x0800 d) = some 1) ∧
    (let c := chunkChip
     fwServes c 8192 0x0800 = true ∧ startable [] (c.ring (ringKey 8192)).flight 0x0800 chunk = some (entry 0x0800 chunk) ∧
     pathWaits c 8192 (entry 0x0800 chunk) = false ∧ preStatus c 8192 0x0800 chunk = none ∧ chunk.stage = false ∧
     heldByOther c (claimsOf c 0x0800 chunk) 0 = false ∧
     24 ≤ chunk.blockLen ∧ (List.range 15).all (fun i => chunk.byte (25 + i) == 0) = true ∧ chunk.byte 24 = 1 ∧ chunk.u32 20 = 100 ∧
     chunk.u32 16 = 16 ∧ chunk.u32 16 + min (chunk.blockLen - 24) (chunk.u32 20 - chunk.u32 16) < 100 ∧
     (begun c 8192 chunk (entry 0x0800 chunk)).sec.update = some { typ := 1, set := 1, total := 100, offset := 16, mctp := true }) ∧
    (let c := secChip {}
     verifyImage c 1 { typ := 1 } = none ∧ verifyImage c 1 { typ := 2 } = some .badParam) ∧
    (let c := secChip { images := threeImages 1 }
     Ready c 0x0801 (desc 1 [1#8]) ∧ (desc 1 [1#8]).zeroBut [(16, 1)] = true ∧ setStatus (start0 c 0x0801 (desc 1 [1#8])) 1 = none) ∧
    (let c := secChip {}
     c.past 0 (sec 10) = true ∧ c.past 0 (sec 2) = true ∧ c.rst.started = true ∧ c.sec.debug = false ∧ c.sec.debugNonce = 0) := by
  decide +kernel

/-- KEY_REVOKE of slot 2 with a block of 3,392 bytes. -/
def revoke : Desc :=
  { flags := 10, plen := 2, tag := 7, target := 2, params := List.replicate 8 0 ++ leBytes 4 3392,
    block := leBytes 8 0 ++ leBytes 1 2 }

theorem witness_ImageRowsComplete_fuses :
    (let c := secChip {}
     let d := { revoke with block := revoke.block ++ List.replicate 7 0 }
     let e := start0 c 0x0802 d
     Ready c 0x0802 d ∧ d.direct 16 % 8 = 0 ∧ d.blockLen = 3392 ∧ authHeadOk e d = true ∧ authSlot e d {} = 0 ∧
     e.sec.revoked.contains (authSlot e d {}) = false ∧ [1, 2, 3].any (fun t => (runningImage e t).keySlot == d.tgt) = false ∧
     (List.range 4).all (fun i => i == d.tgt || e.sec.revoked.contains i) = false ∧ e.sec.trial = false ∧ e.sec.update = none ∧
     [1, 2, 3].all (fun t => (imageAt e (otherSet e) t).isNone) = true) ∧
    (let c := secChip { running := [{}, { svn := 3 }], identity := true, chains := [(1, [5#8])] }
     (Ready c 0x0803 (desc 2 [0#8]) ∧ (desc 2 [0#8]).zeroBut [(16, 1)] = true ∧
      (start0 c 0x0803 (desc 2 [0#8])).sec.ctrs.getD 1 0 < (runningImage (start0 c 0x0803 (desc 2 [0#8])) 2).svn ∧
      imageAt (start0 c 0x0803 (desc 2 [0#8])) (otherSet (start0 c 0x0803 (desc 2 [0#8]))) 2 = none) ∧
     (Ready c 0x0820 (dQuery 1) ∧ (dQuery 1).zeroBut [(16, 12)] = true ∧ (dQuery 1).bufferOk 0 = true ∧
      ((start0 c 0x0820 (dQuery 1)).sec.chains.look 1).isEmpty = false) ∧
     (Ready c 0x0821 (dQuery 0) ∧ (dQuery 0).zeroBut [(16, 12), (28, 32)] = true ∧ (start0 c 0x0821 (dQuery 0)).sec.identity = true)) := by
  decide +kernel

theorem witness_SessionRowsComplete :
    (let c := secChip { version := [0], negotiated := [0], identity := true, chains := [(1, [5#8])] }
     mboxUp c 0 = true ∧ c.sec.version.contains 0 = true ∧ c.sec.negotiated.contains 0 = true ∧ chainPresent c 0 = true ∧
     chainPresent c 1 = true ∧ 0 < (c.sec.chains.look 1).length ∧ sessionsOn c 0 < 1) ∧
    (let c := secChip { sessions := [{ id := 1 }, { id := 2, open_ := true }] }
     sessionOf c 0 1 = some { id := 1 } ∧ sessionOf c 0 2 = some { id := 2, open_ := true }) ∧
    (let c := { secChip { sessions := [{ id := 2, open_ := true }] } with
       lanes := { courses := [(0, { stolevo := true })] }, stv := { links := [(0, { haveTx := [1] })] } }
     (keySession c 2 { port := 128 }).isSome = true ∧ linkSetUsed (c.link 0) 0 = false ∧ (c.link 0).haveTx.contains 1 = true) ∧
    (let c := { secChip { sessions := [{ id := 2, mbox := 1, open_ := true }] } with
       ports := { ports := [(5, { role := 1, state := .l0, haveKeys := [0, 1] })], vcs := [(0, { present := true, up := 5 })] } }
     (keySession c 2 { port := 5 }).isSome = true ∧ portSetUsed (c.port 5) 0 = false ∧ (c.port 5).haveKeys.contains 0 = true) := by
  decide +kernel

/-- IDE_KEY_PROG of port 5, key set 0, with an indirect block. -/
def progDesc : Desc := { flags := 10, plen := 2, tag := 7, target := 5, params := List.replicate 8 0 ++ leBytes 4 64 }

theorem witness_SessionRowsComplete_device :
    let c := { secChip {} with ports := { ports := [(5, { role := 2, state := .l0, haveKeys := [0, 1] })] } }
    (Ready c 0x0810 progDesc ∧ progDesc.direct 16 % 8 < 2 ∧ keyReady (start0 c 0x0810 progDesc) 5 = true ∧
     portSetUsed ((start0 c 0x0810 progDesc).port 5) 0 = false) ∧
    (Ready c 0x0811 (desc 5 [0#8]) ∧ (desc 5 [0#8]).zeroBut [(16, 1)] = true ∧
     keyReady (start0 c 0x0811 (desc 5 [0#8])) 5 = true ∧ ((start0 c 0x0811 (desc 5 [0#8])).port 5).haveKeys.contains 1 = true) := by
  decide +kernel

/-! ### Supplies and reset -/

/-- A held device whose housekeeping has started, with the boot record and images given. -/
def heldChip (x : Secure) : Chip := { rst := { started := true, badRails := [] }, ft := { ivl := 256000000000 }, sec := x }

/-- Images of a set that verify. -/
def goodSet : List ImageFacts := [{ typ := 1 }, { typ := 2 }, { typ := 3 }]

theorem witness_SupplyRowsComplete :
    (let c := live {}
     c.rst.running = true ∧ c.rst.held.isEmpty = true ∧ (warmHold { c with rst := { c.rst with started := true } } .rail).rst.running = false) ∧
    (let c := heldChip {}
     let b : StartFacts := { imagesA := goodSet }
     startReady c = true ∧ b.bootRecordOk = true ∧ c.rst.started = true ∧ c.sec.forceSet = none ∧ c.sec.pend = none ∧
     setStatus (bootImages c b) 0 = none ∧ c.sec.active = 0) ∧
    (let c := heldChip {}
     let b : StartFacts := {}
     startReady c = true ∧ (setStatus (bootImages c b) 0).isSome = true ∧ (setStatus (bootImages c b) 1).isSome = true ∧
     c.sec.recovery = false) := by
  decide +kernel

theorem witness_ShutdownRowsComplete :
    (let c := live {}
     pathOpen c .firmware = true ∧ c.rst.phase = 0 ∧ c.grp.groups.all (fun g => g.2.state == .none) = true ∧ c.sec.update = none) ∧
    (let c := { live {} with rst := { running := true, phase := 1 } }
     c.rst.phase = 1 ∧ drainedAll c = true ∧ writtenAll c = true) ∧
    (let c := { live {} with rst := { running := true, phase := 4, sdMode := true } }
     c.rst.phase = 4 ∧ (flushLog (logRecord (shutdownTests c {}) { kind := .stop, detail := [1] })).rst.sdMode = true) := by
  decide +kernel

/-! ### Rules of one sentence -/

theorem witness_LossCountsFollowDecision :
    (([(0, 3, 0), (1, 7, 0)].map (fun y : Nat × Nat × Nat => y.1 * 8 + y.2.1)).Nodup ∧ Tbl.wf ([(3, 4)] : Tbl Nat) = true) ∧
    (let c := live {}
     let a := arbNext c 40
     let slot := c.nextNow / 64
     winner c 40 a (slotOwner a 40 (slot % 512)) (openAllowed c 40 slot)
      (([5].filter (· ≤ 21)).eraseDups.map (fun i => (i, 8, 0))) = some (5, 8, 0)) ∧
    (let p : QPkt := { pid := 1, port := 3, input := 3, egress := .port 7, sc := 3, cells := 1, bytes := 64, places := [.cls], whole := true }
     let k := ((3 * 38 + 1) * 8 + 3) * 10
     let c0 : Chip := live { ports := { ports := [(7, { role := 1, state := .l0, present := true })] }, sw := { voq := [(k, [p])] } }
     let c := parkHeads c0
     let a := arbNext c0 1
     let slot := c0.nextNow / 64
     (c0.arb 1).carry = none ∧ (winner c 1 a (slotOwner a 1 (slot % 512)) (openAllowed c 1 slot) (candsOf c 1)).isSome = true ∧
     (laneHead c k).isSome = true) := by
  decide +kernel

theorem witness_StuckGateBreaksOrFaultsChannel :
    let c : Chip := { slot := { chans := [(2, { state := .on, gateOn := true }), (7, { state := .on, gateOn := true })] } }
    (c.chan 2).gateOn = true ∧ (c.chan 7).gateOn = true ∧ c.rst.running = false ∧ (live c).rst.running = true ∧
    (c.chan 2).p.retry = true := by
  decide +kernel

theorem witness_ManagementPathControlOnlyThroughEndpoint :
    pathOpen { live {} with ports := { ports := [(0, { state := .l0 })] } } .endpoint = true := by
  decide +kernel

/-! ### Ill-formed commands: one for each check of WellFormed.lean -/

theorem test_wf_port : Instr.wf (.cxlLinkDown 128) = false ∧ Instr.wf (.cxlLinkDown 127) = true := by decide
theorem test_wf_link : Instr.wf (.timeExchange 16) = false ∧ Instr.wf (.timeExchange 15) = true := by decide
theorem test_wf_lane : Instr.wf (.laneLos 512) = false ∧ Instr.wf (.laneLos 511) = true := by decide
theorem test_wf_channel : Instr.wf (.removal 32) = false ∧ Instr.wf (.removal 31) = true := by decide
theorem test_wf_tenant : Instr.wf (.drainComplete 4096) = false ∧ Instr.wf (.drainComplete 4095) = true := by decide
theorem test_wf_slice : Instr.wf (.placementLoopUpdate 32) = false ∧ Instr.wf (.placementLoopUpdate 31) = true := by decide
theorem test_wf_engine : Instr.wf (.jobEnd 16) = false ∧ Instr.wf (.jobEnd 15) = true := by decide
theorem test_wf_course : Instr.wf (.courseWake 8) = false ∧ Instr.wf (.courseWake 7) = true := by decide
theorem test_wf_vcs : Instr.wf (.unbindTimeoutExpire 64 0) = false ∧ Instr.wf (.unbindTimeoutExpire 63 0) = true := by decide
theorem test_wf_vppb : Instr.wf (.unbindTimeoutExpire 0 48) = false ∧ Instr.wf (.unbindTimeoutExpire 0 47) = true := by decide
theorem test_wf_window : Instr.wf (.shrinkDrainDeadline 32768) = false ∧ Instr.wf (.shrinkDrainDeadline 32767) = true := by decide
theorem test_wf_domain : Instr.wf (.agentSweepEnd 256 0) = false ∧ Instr.wf (.agentSweepEnd 255 0) = true := by decide
theorem test_wf_pin : Instr.wf (.perstInAssert 64) = false ∧ Instr.wf (.perstInAssert 63) = true := by decide
theorem test_wf_fabric_id : Instr.wf (.pathProbe 4096 0) = false ∧ Instr.wf (.pathProbe 4095 0) = true := by decide
theorem test_wf_path : Instr.wf (.pathProbe 0 4) = false ∧ Instr.wf (.pathProbe 0 3) = true := by decide
theorem test_wf_arbiter : Instr.wf (.slotStart 102) = false ∧ Instr.wf (.slotStart 101) = true := by decide
theorem test_wf_crossbar : Instr.wf (.cellLeave 38 0 .clean) = false ∧ Instr.wf (.cellLeave 37 0 .clean) = true := by decide
theorem test_wf_bank : Instr.wf (.cellLeave 0 65 .clean) = false ∧ Instr.wf (.cellLeave 0 64 .double) = true := by decide
theorem test_wf_schedule : Instr.wf (.dumpInstant 64) = false ∧ Instr.wf (.dumpInstant 63) = true := by decide
theorem test_wf_source : Instr.wf (.faultHoldoffExpire 512) = false ∧ Instr.wf (.faultHoldoffExpire 511) = true := by decide
theorem test_wf_pending_register : Instr.wf (.faultPendClear .endpoint 32 {}) = false ∧ Instr.wf (.faultPendClear .endpoint 31 {}) = true := by
  decide
theorem test_wf_rail : Instr.wf (.railUv 23) = false ∧ Instr.wf (.railUv 22) = true := by decide
theorem test_wf_feed : Instr.wf (.feedBad 0 2) = false ∧ Instr.wf (.feedBad 0 1) = true := by decide
theorem test_wf_pseudo_channel : Instr.wf (.retirementCopyEnd 64 0) = false ∧ Instr.wf (.retirementCopyEnd 63 0) = true := by decide
theorem test_wf_fret_slot : Instr.wf (.fretParity 0 512) = false ∧ Instr.wf (.fretParity 0 511) = true := by decide
theorem test_wf_priority : Instr.wf (.arbPrioWrite .endpoint 0 8 0) = false ∧ Instr.wf (.arbPrioWrite .endpoint 0 7 0) = true := by decide
theorem test_wf_fret_pair : Instr.wf (.fretBankWrite .endpoint 0 256 0) = false ∧ Instr.wf (.fretBankWrite .endpoint 0 255 0) = true := by
  decide
theorem test_wf_device : Instr.wf (.memberLossTimeExpire 1024) = false ∧ Instr.wf (.memberLossTimeExpire 1023) = true := by decide
theorem test_wf_ring : Instr.wf (.nop 3 {}) = false ∧ Instr.wf (.nop 8190 {}) = true ∧ Instr.wf (.nop 8194 {}) = false ∧
    Instr.wf (.nop 8192 {}) = true := by decide
theorem test_wf_offset : Instr.wf (.regPairLoRead .endpoint (2 ^ 21)) = false ∧ Instr.wf (.regPairLoRead .endpoint 0) = true := by decide
theorem test_wf_access : Instr.wf (.registerWrite .endpoint { offset := 2 ^ 21 }) = false ∧
    Instr.wf (.registerWrite .endpoint { offset := 2 ^ 21, bar2 := true }) = true := by decide
theorem test_wf_tick : Instr.wf (.ftSyncMarker { sub := 8, high := 3072 }) = false ∧ Instr.wf (.ftSyncMarker { sub := 7, high := 3072 }) = true := by decide
theorem test_wf_exchange : Instr.wf (.timeReq 0 256 0 0) = false ∧ Instr.wf (.timeReq 0 255 0 0) = true := by decide
theorem test_wf_time_class : Instr.wf (.timeAnnounce 0 16 0 false 0) = false ∧ Instr.wf (.timeAnnounce 0 15 0 false 0) = true := by decide
theorem test_wf_service_class : Instr.wf (.spillReturn 0 0 8 .req) = false ∧ Instr.wf (.spillReturn 0 0 7 .req) = true := by decide
theorem test_wf_permit_pool : Instr.wf (.permitIdleExpire 0 0 11) = false ∧ Instr.wf (.permitIdleExpire 0 0 10) = true := by decide
theorem test_wf_requester : Instr.wf (.identify { tenant := 4096 }) = false ∧ Instr.wf (.identify { tenant := 4095 }) = true := by decide

theorem test_wf_boot : Instr.wf (.start { config := some { dirSize := 33 } }) = false ∧ Instr.wf (.start { config := some { lcWays := 5 } }) = false ∧
    Instr.wf (.start { config := some {} }) = true := by decide

/-! ### Codes -/

/-- R235: the check value the rule gives for the nine ASCII bytes "123456789". -/
theorem test_crc64_check : crc64 [0x31, 0x32, 0x33, 0x34, 0x35, 0x36, 0x37, 0x38, 0x39] = 0x995DC9BBDF1939FA := by decide +kernel

/-- R236: one wrong byte among the 264 of a flit is corrected. -/
theorem test_fec_corrects : fecDecode ((fecEncode (List.replicate 256 0x5A)).set 7 0) = some (List.replicate 256 0x5A, 1) := by
  decide +kernel

/-! ### Single steps -/

/-- Table 2.1, R548: what a cold reset leaves of Fabric Time. -/
theorem test_reset_time : State.reset.chip.ft.count = 0 ∧ State.reset.chip.ft.mode = .free ∧ State.reset.chip.ft.cls = 15 := by decide

/-- The outcome is a next state of which `p` holds. -/
def nextIs (o : Host.Outcome State Fault Refusal) (p : Chip → Bool) : Bool :=
  match o with
  | .next t => p t.chip
  | .fault _ | .refused _ => false

/-- R44: one core cycle of a running die is 8 ticks. -/
theorem test_idle_cycle : nextIs (step { chip := live {} }) (fun c => c.ft.count == 8) = true := by decide +kernel

/-- R516, R488: a start with one good set of images brings the fabric die up, and the management firmware is ready. -/
theorem test_start : nextIs (step { pending := [.start { imagesA := goodSet, refclkOk := List.replicate 8 true }] })
    (fun c => c.rst.running && c.rings.fwReady && !c.sec.recovery) = true := by decide +kernel

/-- R491: without a complete set the ROM enters recovery. -/
theorem test_start_recovery : nextIs (step { pending := [.start {}] }) (fun c => !c.rst.running && c.sec.recovery) = true := by
  decide +kernel

/-- Channel 5 at its limit for 10 ms. -/
def limited : Chip :=
  { slot := { chans := [(5, { state := .ramp, gateOn := true, limit := true, timerAt := some 0, p := { faultTime := 100 } })] },
    ft := { ivl := 160000000 } }

/-- R445, the worked example: 10 ms of current limit end in a fault; with FAULT_MODE 1 the channel waits for its retry. -/
theorem test_fault_timer : nextIs (exec (.faultTimerExpire 5) { chip := limited })
    (fun c => (c.chan 5).state == .retryWait && !(c.chan 5).gateOn) = true := by decide +kernel

/-- R346, Table 12.7: NOP ends OK and gives its slot back. -/
theorem test_nop : nextIs (exec (.nop 0 (desc 0 [])) { chip := deliver {} 0x0233 (desc 0 []) })
    (fun c => (c.ring 0).reserved == 0 && (c.ring 0).flight.isEmpty) = true := by decide +kernel

/-! ### The package -/

/-- R525's worked example: the even lane 340 and the reference clock of course 5. -/
theorem test_ball_lane : ballAt 79 36 = .tx 340 true ∧ ballAt 78 36 = .tx 340 false ∧ ballAt 73 36 = .rx 340 true ∧
    ballName 79 36 = "DC36" ∧ ballName 73 36 = "CU36" ∧ ballAt 76 47 = .refclk 5 true ∧ ballName 76 47 = "CY47" := by decide +kernel

/-- Table 22.5, Table 22.6: the two blocks' first balls, and their numbers of balls (Table 22.3). -/
theorem test_ball_blocks : ballAt 13 13 = .pin "RST_N" 0 ∧ ballAt 18 13 = .pin "PERST_IN_N" 0 ∧
    housekeepingFill.length = 275 ∧ sidebandFill.length = 165 ∧ (powerFill.map (·.2)).sum = 36 * 55 := by decide +kernel

end Sys2Proof.Tests
end

section
/-!
Register accesses (R7, R8, R37, R480, R539, R540, R542, R546, R549, R550): what a latching read returns and keeps, what a write
access comes to, what one word write does in each BAR, how a counter clear meets the increments of its cycle.
-/
namespace Sys2Proof.Machine

/-! ### Latching reads -/

/-- R37: through an open path the count is returned and its upper half latched for that path. -/
theorem ftNowLoRead_open {c : Chip} {path : Path} (h : pathOpen c path = true) :
    ftNowLoRead path c = { c with ft := { c.ft with
      latch := c.ft.latch.put path.latch (BitVec.ofNat 32 (c.now / 2 ^ 32)) } }.emit (.readData path c.ft.count) := by
  simp [ftNowLoRead, h]

section PairRead
variable {c : Chip} {path : Path} {off : Nat} {x : Reg} (h : pathOpen c path = true) (hx : regAt off = some x)
  (hlo : x.isLo = true)
include h hx hlo

/-- R37: the pair of FT_NOW is read as FT_NOW_LO. -/
theorem regPairLoRead_ftNow (e : x = .ftNow false) : regPairLoRead path off c = ftNowLoRead path c := by
  subst e
  simp [regPairLoRead, hx, hlo, h]

/-- The LO half of a register that does not exist reads 0 and latches nothing. -/
theorem regPairLoRead_absent (e : x ≠ .ftNow false) (ha : regExists c x = false) :
    regPairLoRead path off c = c.emit (.readData path 0) := by
  simp [regPairLoRead, hx, hlo, h, e, ha]

/-- R540: the LO half returns the 64-bit value and latches its upper half for the HI half of the same path. -/
theorem regPairLoRead_exists (e : x ≠ .ftNow false) (ha : regExists c x = true) :
    regPairLoRead path off c = { c with regs := { c.regs with
      latches := c.regs.latches.put (latchKey path (off + 4)) (BitVec.ofNat 32 (regValue c x / 2 ^ 32)) } }.emit
        (.readData path (BitVec.ofNat 64 (regValue c x))) := by
  simp [regPairLoRead, hx, hlo, h, e, ha]

end PairRead

/-- R480: a read of PORT_BW_IN_LO latches the other four words of the port's bandwidth block. -/
theorem portBwInLoRead_open {c : Chip} {path : Path} {p : Nat} (h : pathOpen c path = true) (hp : p < 128) :
    portBwInLoRead path p c =
      let b := c.ctr.bw.look p
      let rest : List Word := [BitVec.ofNat 32 (b.inLast.toNat / 2 ^ 32), BitVec.ofNat 32 b.outLast.toNat,
                               BitVec.ofNat 32 (b.outLast.toNat / 2 ^ 32), b.index]
      { c with ctr := { c.ctr with
        bwLatch := c.ctr.bwLatch.put (path.latch * 128 + p) rest } }.emit (.readData path b.inLast) := by
  have : ¬ 128 ≤ p := by omega
  simp [portBwInLoRead, h, this]

/-! ### Write accesses -/

section Access
variable {c : Chip} {path : Path} {w : RegAccess} (hb : barOpen c path w.bar2 = true) (ho : w.offset < barSize path w.bar2)
include hb ho

/-- R539: an access that leaves out a byte, or is not aligned, is only recorded. -/
theorem writeAccess_ignored (h : w.full = false ∨ w.offset % (if w.wide then 8 else 4) ≠ 0) :
    writeAccess c path w = recordErr c path w.bar2 w.offset 0 := by
  unfold writeAccess
  rw [if_neg (by simp [hb, ho]), if_pos (by simpa using h)]

/-- R539: an aligned 32-bit access is one write of its word. -/
theorem writeAccess_narrow (hf : w.full = true) (hw : w.wide = false) (ha : w.offset % 4 = 0) :
    writeAccess c path w = writeWord c path w.bar2 w.offset (w.value.toNat % 2 ^ 32) (w.held.toNat % 2 ^ 32) := by
  unfold writeAccess
  rw [if_neg (by simp [hb, ho]), if_neg (by simp [hf, hw, ha])]
  simp [hw]

/-- R539, R540: an aligned 64-bit access writes the LO word, then the HI word. -/
theorem writeAccess_wide (hf : w.full = true) (hw : w.wide = true) (ha : w.offset % 8 = 0) :
    writeAccess c path w =
      writeWord (writeWord c path w.bar2 w.offset (w.value.toNat % 2 ^ 32) (w.held.toNat % 2 ^ 32)) path w.bar2 (w.offset + 4)
        (w.value.toNat / 2 ^ 32) (w.held.toNat / 2 ^ 32) := by
  unfold writeAccess
  rw [if_neg (by simp [hb, ho]), if_neg (by simp [hf, hw, ha])]
  simp [hw]

end Access

/-! ### One word of BAR0 -/

/-- ACCESS_ERR: an offset without a register is recorded with CAUSE 1. -/
theorem writeReg_reserved (c : Chip) (path : Path) (v : Nat) {off : Nat} (h : regAt off = none) :
    writeReg c path off v = recordErr c path false off 1 := by
  simp [writeReg, h]

section Word
variable {c : Chip} (path : Path) (v : Nat) {off : Nat} {x : Reg} (hx : regAt off = some x)
include hx

/-- R542: a register that does not exist at present is recorded with CAUSE 5. -/
theorem writeReg_absent (ha : regExists c x = false) : writeReg c path off v = recordErr c path false off 5 := by
  simp [writeReg, hx, ha]

/-- R7: where no field is staged or claimed, every field acts at once. -/
theorem writeReg_direct (ha : regExists c x = true) (hn : x.arbiter = none) (hm : rwcMask x = 0) :
    writeReg c path off v = writeFields c path x v := by
  simp [writeReg, hx, ha, hn, hm]

end Word

/-- R8: a word of BAR0 is one register write, without the W1C bits that hardware sets in the cycle. -/
theorem writeWord_bar0 (c : Chip) (path : Path) (off v held : Nat) :
    writeWord c path false off v held = writeReg c path off (clearsLess (((regAt off).map Reg.w1cMask).getD 0) v held) := by
  simp [writeWord]

/-! ### One word of BAR2 -/

/-- R8: a word of BAR2, through the endpoint or by the firmware, is a word of the page in which it lies. -/
theorem writeWord_page (c : Chip) {path : Path} (t v held : Nat) {o : Nat} (ho : o < 0x2000)
    (hp : path = .endpoint ∨ path = .firmware) :
    writeWord c path true (0x2000 * t + o) v held = writePage c path t o (clearsLess (pageW1c o) v held) := by
  have hq : (0x2000 * t + o) / 0x2000 = t := by omega
  have hr : (0x2000 * t + o) % 0x2000 = o := by omega
  rcases hp with rfl | rfl <;> simp [writeWord, hq, hr]

/-- Without W1C bits a write is taken as it is. -/
@[simp] theorem clearsLess_no_w1c (v held : Nat) : clearsLess 0 v held = v := by simp [clearsLess]

/-- ACCESS_ERR: an offset of a page without a register is recorded with CAUSE 1. -/
theorem writePage_reserved (c : Chip) (path : Path) (t v : Nat) {o : Nat} (h : pageImplemented o = false) :
    writePage c path t o v = recordErr c path true (0x2000 * t + o) 1 := by
  have h0 : o ≠ 0 := by rintro rfl; cases h
  have h4 : o ≠ 4 := by rintro rfl; cases h
  simp [writePage, h0, h4, h]

/-- Table 23.4: the counter enable of a tenant's page. -/
theorem writePage_userCtr (c : Chip) (path : Path) (v : Nat) {t : Nat} (h : (c.tenant t).state ≠ .none) :
    writePage c path t 0xF04 v = c.modTenant t (fun x => { x with userCtr := bitOf v 0 }) := by
  simp [writePage, pageImplemented, h]

/-! ### Counter clears -/

/-- R546: a clear of a register without RWC fields acts on its fields, then takes the increments of the cycle. -/
theorem counterClearWrite_direct {c : Chip} {path : Path} {off : Nat} {r : Reg} (v : BitVec 64) (incr : Nat)
    (hb : barOpen c path false = true) (hp : pathOpen c path = true) (ho : off < barSize path false) (ha : off % 4 = 0)
    (hr : regAt off = some r) (he : regExists c r = true) (hn : r.arbiter = none) (hm : rwcMask r = 0) :
    counterClearWrite path { offset := off, value := v } incr c =
      counterAdd (writeFields c path r (v.toNat % 2 ^ 32)) r incr := by
  have hoff : off / 4 * 4 = off := by omega
  have hw : writeAccess c path { offset := off, value := v } = writeFields c path r (v.toNat % 2 ^ 32) :=
    (write_narrow c path off v hb ho ha).trans (writeReg_direct path _ hr he hn hm)
  unfold counterClearWrite
  simp only [hoff, hr]
  rw [if_neg (by simp [hp, he]), hw]

/-- Settles O20: each clause is the lemma about its function above. -/
theorem registerAccessRowsComplete : Obligations.RegisterAccessRowsComplete := by
  unfold Obligations.RegisterAccessRowsComplete
  intro s
  refine ⟨?reads, ?accesses, ?bar0, ?bar2, fun path c v => ⟨rfl, rfl, rfl⟩, ?clears⟩
  case reads =>
    intro path h
    refine ⟨after_of rfl (ftNowLoRead_open h), fun off x hx hlo => ⟨fun e => ?_, fun e ha => ?_, fun e ha => ?_⟩,
      fun p hp => after_of rfl (portBwInLoRead_open h hp)⟩
    · exact after_of rfl ((regPairLoRead_ftNow h hx hlo e).trans (ftNowLoRead_open h))
    · exact after_of rfl (regPairLoRead_absent h hx hlo e ha)
    · exact after_of rfl (regPairLoRead_exists h hx hlo e ha)
  case accesses =>
    intro path w hb ho
    exact ⟨fun h => after_of rfl (writeAccess_ignored hb ho h), fun hf hw ha => after_of rfl (writeAccess_narrow hb ho hf hw ha),
      fun hf hw ha => after_of rfl (writeAccess_wide hb ho hf hw ha)⟩
  case bar0 =>
    intro c path off v held
    rw [writeWord_bar0]
    refine ⟨fun x hx ha hn hm => ?_, fun h => writeReg_reserved c path _ h, fun x hx ha => writeReg_absent path _ hx ha⟩
    rw [hx]
    exact writeReg_direct path _ hx ha hn hm
  case bar2 =>
    intro c path t o v held ho hp
    dsimp only
    rw [writeWord_page c t v held ho hp]
    refine ⟨?doorbell, ?head, ?counters, fun h => writePage_reserved c path t _ h⟩
    case doorbell => rintro rfl; simp [writePage, pageW1c]
    case head => rintro rfl; simp [writePage, pageW1c]
    case counters => rintro rfl h; simpa [pageW1c] using writePage_userCtr c path v h
  case clears =>
    intro path off v incr r hb hp ho ha hr he hn hm
    have clear := counterClearWrite_direct v incr hb hp ho ha hr he hn hm
    refine ⟨after_of rfl clear, ?_, ?_, ?_⟩
    · rintro n rfl; exact after_of rfl clear
    · rintro n rfl; exact after_of rfl clear
    · rintro rfl; exact after_of rfl (clear.trans (by simp [counterAdd, writeFields]))

end Sys2Proof.Machine
end

section
/-!
The fault collector's commands (R8, R400 to R402, R404, R409, R410): merged raises and deferred marks, the pins, the clearing of
FAULT_PEND, the collector's vendor commands, the faults of the management complex.
-/
namespace Sys2Proof.Machine

/-! ### Merged raises and deferred marks -/

section Holdoff
variable {c : Chip} {n : Nat} (hr : c.rst.running = true) (hn : n < 512) (hp : (c.source n).pending = true)
include hr hn hp

/-- R404: merged raises whose holdoff is over make one record with their count. -/
theorem faultHoldoffExpire_record (hm : (c.source n).logMerged ≠ 0) (hs : (c.source n).logAt.isSome = true)
    (ho : holdoffOver c (c.source n).logAt = true) (hi : (c.source n).intrMerged = 0) :
    let x := c.source n
    let c1 : Chip := { c with flt := { c.flt with
      sources := c.flt.sources.put n { x with logAt := some c.ivl, logMerged := 0, intrMerged := 0 } } }
    faultHoldoffExpire n c = logRecord c1 { kind := .fault, source := n, severity := sevUsed c1 n, reactions := maskOf c1 n,
                                            count := x.logMerged, info := x.info } := by
  have hn' : ¬ 512 ≤ n := by omega
  simp [faultHoldoffExpire, hr, hn', hp, hm, hs, ho, hi]

/-- R404: merged raises whose holdoff is over make one event with their count. -/
theorem faultHoldoffExpire_event (hl : (c.source n).logMerged = 0) (hm : (c.source n).intrMerged ≠ 0)
    (hs : (c.source n).intrAt.isSome = true) (ho : holdoffOver c (c.source n).intrAt = true) :
    let x := c.source n
    let c1 : Chip := { c with flt := { c.flt with
      sources := c.flt.sources.put n { x with logMerged := 0, intrAt := some c.ivl, intrMerged := 0 } } }
    faultHoldoffExpire n c = faultEvent c1 { source := n, count := x.intrMerged, info := x.info, time := c.ft.count } := by
  have hn' : ¬ 512 ≤ n := by omega
  simp [faultHoldoffExpire, hr, hn', hp, hm, hs, ho, hl]

end Holdoff

/-- R404: deferred marks follow in order, as far as the queue has room. -/
theorem faultQueueRoom_room {c : Chip} (hr : c.rst.running = true) (hq : c.flt.queue.length < 256) (hd : c.flt.deferred ≠ []) :
    faultQueueRoom c =
      let n := if c.rings.fwReady then c.flt.deferred.length else 256 - c.flt.queue.length
      (c.flt.deferred.take n).foldl (fun c e => faultEvent c (markEvent c e.1 e.2))
        { c with flt := { c.flt with deferred := c.flt.deferred.drop n, fullTold := false } } := by
  have hq' : ¬ 256 ≤ c.flt.queue.length := by omega
  unfold faultQueueRoom
  rw [if_neg (by simp [hr, hq', hd])]

/-! ### The pins and FAULT_PEND -/

/-- R410: at the end of its minimum width the pin follows HOLD. -/
theorem minWidthExpire_over {c : Chip} (hm : c.flt.errMin = true) (hp : c.past c.flt.errAt (us c.flt.minWidth) = true) :
    minWidthExpire c = { c with flt := { c.flt with errMin := false, errLow := c.flt.hold } } := by
  simp [minWidthExpire, hm, hp]

/-- R410: within the minimum width a RELEASE is ignored. -/
theorem release_within {c : Chip} {path : Path} (hm : c.flt.errMin = true) : release path c = c := by
  simp [release, releasePin, hm]

/-- R410: outside the minimum width a RELEASE lets the pin go. -/
theorem release_after {c : Chip} {path : Path} (h : pathOpen c path = true) (hm : c.flt.errMin = false) :
    release path c = { c with flt := { c.flt with errLow := false } } := by
  simp [release, releasePin, h, hm]

/-- R8, R409: the bits that the write names are cleared, but for those that hardware sets in the same cycle. -/
theorem faultPendWrite_open {c : Chip} {path : Path} {g : Nat} (v held : BitVec 32) (h : pathOpen c path = true) (hg : g < 32) :
    faultPendWrite path g { value := v, held := held } c =
      (List.range 16).foldl (fun c j => if (v &&& ~~~held).getLsbD j then clearPending c (16 * g + j) else c) c := by
  have hg' : ¬ 32 ≤ g := by omega
  unfold faultPendWrite faultPendClear
  rw [if_neg (by simp [h, hg'])]

/-! ### The collector's vendor commands -/

/-- R371: an immediate command that passes the admission check takes effect. -/
theorem admitOr_of_admitted {c e : Chip} (x : CmdRef) (go : Chip → Chip) (h : admitFail c e 0 = none) :
    admitOr c x e go = go e := by
  simp [admitOr, h]

/-- A vendor command completes as its body says of a command of its own ring. -/
theorem completes_of_ring {s : State} {i : Instr} {op r : Nat} {d : Desc} {pre : Chip → Prop} {eff body : Chip → CmdRef → Chip}
    (h : exec i s = outcome s (runCmd op body r d s.chip)) (e : ∀ c x, x.ring = r → pre c → body c x = eff c x) :
    Completes s i op r d pre eff := by
  intro f hr hp
  exact after_of h (by rw [runCmd_of_runs body hr]; exact e _ _ rfl hp)

/-- R402: FAULT_SEVERITY stores what its checks and the admission check accept. -/
theorem faultSeverity_completes (s : State) (r : Nat) (d : Desc) :
    Completes s (.faultSeverity r d) 0x0600 r d
      (fun c => faultSeverityCheck d = none ∧ admitFail c (faultSeverityDo c d) 0 = none)
      (fun c x => endCmd (faultSeverityDo c d) x .ok) := by
  refine completes_of rfl ?_
  rintro c x ⟨hc, ha⟩
  rw [hc]
  exact admitOr_of_admitted x _ ha

/-- R402: FAULT_REACTION stores what its checks and the admission check accept. -/
theorem faultReaction_completes (s : State) (r : Nat) (d : Desc) :
    Completes s (.faultReaction r d) 0x0601 r d
      (fun c => faultReactionCheck d = none ∧ admitFail c (faultReactionDo c d) 0 = none)
      (fun c x => endCmd (faultReactionDo c d) x .ok) := by
  refine completes_of rfl ?_
  rintro c x ⟨hc, ha⟩
  rw [hc]
  exact admitOr_of_admitted x _ ha

/-- R410: ERR_OUT_CONFIG stores width and HOLD, then a RELEASE acts on what is stored. -/
theorem errOutConfig_completes (s : State) (r : Nat) (d : Desc) :
    Completes s (.errOutConfig r d) 0x0603 r d
      (fun c => errOutConfigCheck d = none ∧ admitFail c (errOutConfigDo c d) 0 = none)
      (fun c x => errOutConfigGo (errOutConfigDo c d) x d) := by
  refine completes_of rfl ?_
  rintro c x ⟨hc, ha⟩
  rw [hc]
  exact admitOr_of_admitted x _ ha

/-- R400: FAULT_QUERY reports 32 bytes per source, after the entry that it finds bad has been reported. -/
theorem faultQuery_completes (s : State) (r : Nat) (d : Desc) (bad : Option CfgEntry) (hz : d.zeroBut [(16, 14)] = true)
    (hb : d.bufferOk r = true) (h0 : d.u16 28 ≠ 0) (h1 : d.tgt + d.u16 28 ≤ 512) :
    Completes s (.faultQuery r d bad) 0x0602 r d (fun _ => True)
      (fun c x => endQuery (cfgParity c bad) x d (32 * d.u16 28)
        ((List.range (d.u16 28)).flatMap (fun i => sourceRecord (cfgParity c bad) (d.tgt + i)))) := by
  refine completes_of_ring rfl ?_
  rintro c x hx -
  have h1' : ¬ 512 < d.tgt + d.u16 28 := by omega
  dsimp only
  rw [if_neg (by simp [hz, hx, hb, h0, h1'])]

/-! ### The management complex -/

/-- Table 15.2: outside a reset of the management complex a watchdog raises source 48. -/
theorem mgmtWatchdog_raises {c : Chip} (core : Nat) (h : c.rst.running = true) (hm : c.rings.mgmtReset = false) :
    mgmtWatchdog core c = raise c 48 := by
  simp [mgmtWatchdog, h, hm]

/-- Table 15.2: an ECC error raises source 49 if it was corrected, and 50 if not. -/
theorem mgmtEccError_raises {c : Chip} (core : Nat) (corrected : Bool) (h : c.rst.running = true) :
    mgmtEccError core corrected c = raise c (if corrected then 49 else 50) := by
  simp [mgmtEccError, h]

/-- Table 15.2: outside a reset of the management complex an assertion raises source 51 with its information. -/
theorem mgmtFwAssert_raises {c : Chip} (info : BitVec 64) (h : c.rst.running = true) (hm : c.rings.mgmtReset = false) :
    mgmtFwAssert info c = raise c 51 info := by
  simp [mgmtFwAssert, h, hm]

/-- Settles O46: each clause is the lemma about its command above. -/
theorem collectorRowsComplete : Obligations.CollectorRowsComplete := by
  unfold Obligations.CollectorRowsComplete
  intro s
  refine ⟨?holdoff, fun hr hq hd => after_of rfl (faultQueueRoom_room hr hq hd),
    fun hm hp => after_of rfl (minWidthExpire_over hm hp), ?writes, ?commands, ?management⟩
  case holdoff =>
    intro n hr hn hp
    exact ⟨fun hm hs ho hi => after_of rfl (faultHoldoffExpire_record hr hn hp hm hs ho hi),
      fun hl hm hs ho => after_of rfl (faultHoldoffExpire_event hr hn hp hl hm hs ho)⟩
  case writes =>
    intro path h
    exact ⟨fun hm => after_of rfl (release_within hm), fun hm => after_of rfl (release_after h hm),
      fun g v held hg => after_of rfl (faultPendWrite_open v held h hg)⟩
  case commands =>
    intro r d
    exact ⟨faultSeverity_completes s r d, faultReaction_completes s r d, errOutConfig_completes s r d,
      fun hz hb h0 h1 bad => faultQuery_completes s r d bad hz hb h0 h1⟩
  case management =>
    intro h
    exact ⟨fun core => ⟨after_of rfl (mgmtEccError_raises core true h), after_of rfl (mgmtEccError_raises core false h)⟩,
      fun hm => ⟨fun core => after_of rfl (mgmtWatchdog_raises core h hm), fun info => after_of rfl (mgmtFwAssert_raises info h hm)⟩⟩

end Sys2Proof.Machine
end

section
/-!
The core cycle in which nothing waits (R36, R44, R52, R516), and the state that a cold reset leaves (R36, R315, R402, R548).
-/
namespace Sys2Proof.Machine

/-! ### An idle core cycle -/

/-- Where no message waits at an entry point, no home slice takes one. -/
theorem slicesTake_empty {c : Chip} (h : c.home.inq = []) : slicesTake c = c := by
  simp [slicesTake, h]

/-- R456: idle clocks that start anew change the rungs alone, so what no write of a rung changes stays. -/
theorem rungsHeld_keeps {α : Type} {part : Chip → α} (h : ∀ c i x, part (c.setRung i x) = part c) (c : Chip) :
    part (rungsHeld c) = part c := by
  unfold rungsHeld
  refine List.foldlRecOn (motive := fun b : Chip => part b = part c) _ _ rfl fun b hb i _ => ?_
  rw [apply_ite part, h, ite_self, hb]

/-- R44, R456: in a running fabric die with nothing to count, to settle or to take, Fabric Time advances and idle clocks start anew. -/
theorem coreCycle_idle {c : Chip} (hr : c.rst.running = true) (hc : c.ctr.ctrs.all (fun k => !k.2.enable) = true)
    (ht : c.flt.todo = []) (hq : c.home.inq = []) : coreCycle c = pins (rungsHeld { c with ft := ftTick c.ft }) := by
  have counted : countEvent { c with ft := ftTick c.ft } { code := 0x001, device := true } = { c with ft := ftTick c.ft } :=
    countEvent_off _ _ 1 hc
  have stalls : (stalled { c with ft := ftTick c.ft }).foldl (fun c e => countEvent c e) { c with ft := ftTick c.ft } =
      { c with ft := ftTick c.ft } := countEvents_off _ _ hc
  have taken : slicesTake { c with ft := ftTick c.ft } = { c with ft := ftTick c.ft } := slicesTake_empty hq
  unfold coreCycle
  rw [if_pos hr]
  simp only [counted, stalls, taken]
  exact conclude_quiet _ _ ((rungsHeld_keeps (part := fun c => c.flt.todo) (fun _ _ _ => rfl) _).trans ht)
    (rungsHeld_keeps (part := Chip.pool) setRung_pool _)

/-- R36, R516: while a started fabric die is held, Fabric Time alone goes on. -/
theorem coreCycle_held {c : Chip} (hr : c.rst.running = false) (hs : c.rst.started = true) :
    coreCycle c = pins { c with ft := ftTick c.ft } := by
  simp [coreCycle, hr, hs]

/-- R411: before the first start the nominal clock of the housekeeping die alone passes. -/
theorem coreCycle_unstarted {c : Chip} (hr : c.rst.running = false) (hs : c.rst.started = false) :
    coreCycle c = pins { c with ft := { c.ft with ivl := c.ft.ivl + 8 } } := by
  simp [coreCycle, hr, hs]

/-- On an empty queue a step is one core cycle. -/
theorem step_idle {s : State} {c : Chip} (h : s.pending = []) (hc : coreCycle s.chip = c) : step s = .next { s with chip := c } := by
  subst hc
  simp [step, h]

/-- Settles O2: a step on an empty queue is the core cycle of the die's reset situation, and `ftTick` is R44's addition. -/
theorem idleStepAdvancesFabricTime : Obligations.IdleStepAdvancesFabricTime := by
  unfold Obligations.IdleStepAdvancesFabricTime
  refine ⟨?running, ?held, ?unstarted⟩
  case running => exact fun s hp hr hc ht hq => step_idle hp (coreCycle_idle hr hc ht hq)
  case held => exact fun s hp hr hs => step_idle hp (coreCycle_held hr hs)
  case unstarted => exact fun s hp hr hs => step_idle hp (coreCycle_unstarted hr hs)

/-! ### The cold reset -/

/-- R315: after a cold reset every tenant is as nothing has created it. -/
theorem reset_tenant (t : Nat) : State.reset.chip.tenant t = tenantDef t := rfl

/-- R315: only tenant 0 exists without being created. -/
theorem tenantDef_pos {t : Nat} (h : 0 < t) : tenantDef t = {} := if_neg (Nat.ne_of_gt h)

/-- R402: after a cold reset every source has its own default severity. -/
theorem reset_sevOf (n : Nat) : sevOf State.reset.chip n = sevDef n := rfl

/-- R402: the sources of tenants have severity 2. -/
theorem sevDef_tenants {n : Nat} (h1 : 192 ≤ n) (h2 : n ≤ 196) : sevDef n = 2 := by
  unfold sevDef
  rw [if_neg (by omega), if_neg (by omega), if_neg (by omega), if_pos ⟨h1, h2⟩]

/-- Settles O6: every part is its cold reset value, every table of the reset state is empty. -/
theorem coldResetStateValues : Obligations.ColdResetStateValues := by
  unfold Obligations.ColdResetStateValues
  refine ⟨rfl, rfl, rfl, rfl, rfl, ?tenant0, ?tenants, fun n => ⟨rfl, rfl⟩, ?sev4, ?sev48, ?sev50, ?sev136, ?sevTenants, ?sev0,
    fun k => rfl, rfl, fun g => rfl, fun f => rfl, fun w => rfl, fun b => rfl, fun n => rfl, fun v => rfl, rfl, rfl⟩
  case tenant0 => rw [reset_tenant]; rfl
  case tenants => intro t h; rw [reset_tenant, tenantDef_pos h]
  case sevTenants => intro n h1 h2; rw [reset_sevOf, sevDef_tenants h1 h2]
  case sev4 | sev48 | sev50 | sev136 | sev0 => rw [reset_sevOf]; decide

end Sys2Proof.Machine
end

section
/-!
The commands of Fabric Time and what waits for a commit quantum boundary (R43, R45, Table 2.5, Table 12.8).
-/
namespace Sys2Proof.Machine

/-! ### The checks of the commands -/

/-- R43: TIME_SET is accepted in FREE and SET, with reserved bytes 0 and a VALUE not below the count. -/
theorem timeSetCheck_accepts {c : Chip} {d : Desc} (hz : d.zeroBut [(16, 8)] = true) (hm : c.ft.mode = .free ∨ c.ft.mode = .set)
    (hv : c.now ≤ d.u64 16) : timeSetCheck c d = none := by
  unfold timeSetCheck
  rw [if_neg (by simp [hz]), if_neg (by rintro ⟨h1, h2⟩; exact hm.elim h1 h2), if_neg (Nat.not_lt.mpr hv)]

/-- R43: an accepted TIME_SET waits for the next commit quantum boundary. -/
theorem timeSet_completes (s : State) (r : Nat) (d : Desc) :
    Completes s (.timeSet r d) 0x0A00 r d
      (fun c => d.zeroBut [(16, 8)] = true ∧ (c.ft.mode = .free ∨ c.ft.mode = .set) ∧ c.now ≤ d.u64 16)
      (fun c x => { c with ft := { c.ft with pendSet :=
        c.ft.pendSet ++ [{ value := d.u64 16, load := (c.now / quantum + 1) * quantum, cmd := x }] } }) := by
  refine completes_of rfl ?_
  rintro c x ⟨hz, hm, hv⟩
  rw [timeSetCheck_accepts hz hm hv]

/-- Table 2.5: TIME_CONFIG that its checks accept sets what its mask selects, and ends. -/
theorem timeConfig_completes (s : State) (r : Nat) (d : Desc) :
    Completes s (.timeConfig r d) 0x0A01 r d (fun c => timeConfigCheck c d = none)
      (fun c x => endCmd (syncUseEnds (timeConfigSet c d)) x .ok) := by
  refine completes_of rfl ?_
  intro c x h
  rw [h]

/-- Table 12.8: TIME_QUERY with a good buffer writes the values of Fabric Time. -/
theorem timeQuery_completes (s : State) (r : Nat) (d : Desc) :
    Completes s (.timeQuery r d) 0x0A02 r d (fun _ => d.bufferOk r = true ∧ d.zeroBut [(16, 12)] = true)
      (fun c x => endQuery c x d (Config.queryBytes 0x0A02) (openFields (timeValues c))) := by
  refine completes_of rfl ?_
  rintro c x ⟨hb, hz⟩
  rw [if_neg (by simp [hb, hz])]

/-! ### The commit quantum boundary -/

/-- R43: at the boundary the one TIME_SET that waits is loaded, and none is left. -/
theorem timeSetLoad_single {c : Chip} {p : FtPending} (hp : c.ft.pendSet = [p]) (hl : p.load ≤ c.now) :
    timeSetLoad c = loadOne { c with ft := { c.ft with pendSet := [] } } p := by
  simp [timeSetLoad, hp, hl, Nat.not_lt.mpr hl]

/-- R43: in SET the count runs at the frequency of FT_OSC while it is good, otherwise at the nominal one. -/
theorem setRate_set {c : Chip} (h : c.ft.mode = .set) :
    setRate c = { c with ft := { c.ft with rate := if c.ft.oscOk then freeRate c.freeCtr else 0 } }.usedFree :=
  if_pos h

/-- R43: in another state than SET the rate stays. -/
theorem setRate_other {c : Chip} (h : c.ft.mode ≠ .set) : setRate c = c := if_neg h

/-- R43: a load makes SET of the state, with the manager as source and class 14, posts the TIME event, and ends the command with the
count after the load. -/
theorem loadOne_eq (c : Chip) (p : FtPending) :
    let c1 := if c.ft.mode = .free then loadCount c (p.value - c.now) else stepCount c (p.value - c.now)
    let f : FabricTime := { c1.ft with mode := .set, source := .manager, cls := 14, hops := 0, root := c1.regs.serial.toNat,
                                       rate := if c1.ft.oscOk then freeRate c1.freeCtr else 0, stateIvl := c1.ivl,
                                       timeIn := c1.ft.timeIn.upd c.ft.mode.code (· + (c1.ivl - c1.ft.stateIvl)) }
    let c2 := timeEvent { c1 with ft := f }.usedFree c.ft.mode (c.ft.mode != .free && decide (0 < p.value - c.now))
    loadOne c p = endCmd c2 p.cmd .ok (leBytes 8 c2.now) := by
  intro c1 f c2
  unfold loadOne
  dsimp only
  rw [setRate_set rfl]

/-- R45: a step that has waited for its boundary leaves the queue, and takes effect in ACQUIRE alone. -/
theorem ftStep_due {c : Chip} {n due : Nat} (hp : c.ft.pendStep = some (n, due)) (hd : due ≤ c.now) :
    ftStep c = if c.ft.mode = .acquire then stepCount { c with ft := { c.ft with pendStep := none } } n
      else { c with ft := { c.ft with pendStep := none } } := by
  unfold ftStep
  simp only [hp]
  rw [if_neg (Nat.not_lt.mpr hd)]

/-- Settles O13: each clause is the lemma about its command or its boundary above. -/
theorem fabricTimeCommandsComplete : Obligations.FabricTimeCommandsComplete := by
  unfold Obligations.FabricTimeCommandsComplete
  intro s r d
  refine ⟨timeSet_completes s r d, timeConfig_completes s r d, timeQuery_completes s r d, ?load, ?step⟩
  case load => exact fun p hp hl => after_of rfl ((timeSetLoad_single hp hl).trans (loadOne_eq _ p))
  case step =>
    intro n due hp hd
    exact ⟨fun hm => after_of rfl ((ftStep_due hp hd).trans (if_pos hm)),
      fun hm => after_of rfl ((ftStep_due hp hd).trans (if_neg hm))⟩

end Sys2Proof.Machine
end

section
/-!
The inputs of the Fabric Time state machine: markers and frames of FT_SYNC_IN and their loss, FT_SYNC_OUT, the holdover limit and FT_OSC
(R39 to R42, R44, R49).
-/
namespace Sys2Proof.Machine

/-! ### Markers of FT_SYNC_IN -/

/-- R40: a marker's high time lies within 256 ns of 3,072 ns. -/
theorem pulseNear_marker (high : Nat) : pulseNear high 3072 = true ↔ 45056 ≤ high ∧ high ≤ 53248 := by
  simp [pulseNear]

section Marker
variable {c : Chip} {e high : Nat} (sub : Nat) (he : c.ft.expect = some e)
include he

/-- R40, R41: a valid marker renews FT_SYNC_IN, and is a measurement where FT_SYNC_IN is used and selected. -/
theorem ftSyncMarker_valid (hh : 45056 ≤ high ∧ high ≤ 53248) (hu : c.ft.usable = true) :
    let c' := { c with ft := { c.ft with usable := false, expect := some ((e + 1) % 2 ^ 40), lastMarker := c.ivl } }
    ftSyncMarker { sub := sub, high := high } c =
      if c.ft.syncUse = true ∧ c.ft.source = .sync
      then measure c' (((e * 2 ^ 24 : Nat) : Int) - (((c.now + sub : Nat) : Int) - c.ft.inDelay)) else c' := by
  simp [ftSyncMarker, expectOn, he, (pulseNear_marker high).2 hh, hu]

/-- R40, R41: an invalid pulse, or the marker of no usable period, only uses the period up. -/
theorem ftSyncMarker_unused (h : high < 45056 ∨ 53248 < high ∨ c.ft.usable = false) :
    ftSyncMarker { sub := sub, high := high } c =
      { c with ft := { c.ft with usable := false, expect := some ((e + 1) % 2 ^ 40) } } := by
  have invalid : (pulseNear high 3072 && c.ft.usable) = false := by
    rw [Bool.and_eq_false_iff, Bool.eq_false_iff, Ne, pulseNear_marker]
    rcases h with h | h | h
    · exact .inl (by omega)
    · exact .inl (by omega)
    · exact .inr h
  simp [ftSyncMarker, expectOn, he, invalid]

end Marker

/-! ### Frames of FT_SYNC_IN -/

section Frame
variable {c : Chip} {f : SyncFrame} {b : BitVec 64} (hb : frameBits f = some b) (hc : crc8 b = b.toNat / 2 ^ 56)
include hb hc

/-- R41: a good frame that fits what is expected, or that agrees with the frame before it, is accepted. -/
theorem ftSyncFrame_fits (h : c.ft.expect = none ∨ c.ft.expect = some (b.toNat % 2 ^ 40) ∨ c.ft.lastFrame = some (b.toNat % 2 ^ 40)) :
    ftSyncFrame f c = frameAccept c b.toNat := by
  unfold ftSyncFrame
  simp only [hb]
  rw [if_neg (not_not_intro hc), if_pos h]

/-- R41: a good frame that fits neither is discarded, and its own next value kept. -/
theorem ftSyncFrame_disagrees
    (h : ¬ (c.ft.expect = none ∨ c.ft.expect = some (b.toNat % 2 ^ 40) ∨ c.ft.lastFrame = some (b.toNat % 2 ^ 40))) :
    ftSyncFrame f c = frameDiscard c (some ((b.toNat % 2 ^ 40 + 1) % 2 ^ 40)) := by
  unfold ftSyncFrame
  simp only [hb]
  rw [if_neg (not_not_intro hc), if_neg h]

end Frame

/-- R38, R41, R42: an accepted frame makes FT_SYNC_IN a candidate of its class, the reserved classes taken as 11. -/
theorem frameAccept_eq (c : Chip) (bits : Nat) :
    frameAccept c bits = candReported { c with ft := { c.ft with
      usable := true, expect := some (bits % 2 ^ 40), lastFrame := some ((bits % 2 ^ 40 + 1) % 2 ^ 40), frameTrace := bitOf bits 44,
      lastMarker := if c.ft.syncCand.isNone then c.ivl else c.ft.lastMarker,
      syncCand := some { cls := min (field bits 40 4) 11, root := c.regs.serial.toNat, hops := 0 } } } 0 := by
  rw [Nat.min_def]
  rfl

/-- R40, R41: a frame with an invalid pulse or a bad CRC is discarded, and no next value kept. -/
theorem ftSyncFrame_bad {c : Chip} {f : SyncFrame}
    (h : frameBits f = none ∨ ∃ b, frameBits f = some b ∧ crc8 b ≠ b.toNat / 2 ^ 56) : ftSyncFrame f c = frameDiscard c none := by
  unfold ftSyncFrame
  rcases h with hn | ⟨b, hb, hc⟩
  · simp only [hn]
  · simp only [hb]
    rw [if_pos hc]

/-! ### Loss of FT_SYNC_IN, and FT_SYNC_OUT -/

/-- R39: after three periods without a valid marker FT_SYNC_IN is no candidate, and as the selected source it is lost. -/
theorem ftSyncInLost_expired {c : Chip} {x : FtCand} (hp : c.past c.ft.lastMarker (3 * 2 ^ 24) = true) (hx : c.ft.syncCand = some x) :
    let c' := { c with ft := { c.ft with
      syncCand := none, usable := false, expect := none, lastFrame := none, frameTrace := false } }
    ftSyncInLost c = if c.ft.source = .sync then sourceLost c' else c' := by
  unfold ftSyncInLost
  rw [if_neg (by simpa [hx] using hp)]

/-- R42: a new period drives one marker and frame, with the class that this device announces. -/
theorem ftSyncOutMarker_due {c : Chip} (h : c.ft.lastOut ≠ some (c.now / 2 ^ 24)) :
    ftSyncOutMarker c = Chip.emit { c with ft := { c.ft with lastOut := some (c.now / 2 ^ 24) } }
      (.syncOut (c.now / 2 ^ 24 + 1) c.ft.cls (c.ft.frameTrace && c.ft.source == .sync)) := by
  unfold ftSyncOutMarker
  dsimp only
  rw [if_neg h]

/-! ### Holdover and FT_OSC -/

/-- R49: HOLDOVER ends at its limit. -/
theorem ftHoldoverLimitExpire_over {c : Chip} (hm : c.ft.mode = .holdover) (hp : c.past c.ft.holdSince (sec c.ft.holdLimit) = true) :
    ftHoldoverLimitExpire c = holdoverExpire c :=
  if_pos ⟨hm, hp⟩

section OscFail
variable {c : Chip} (ho : c.ft.oscOk = true)
include ho

/-- Source 35, R49: FT_OSC failing is reported once the rate has followed, and ends HOLDOVER. -/
theorem ftOscFail_good {e : Chip} (hr : setRate { c with ft := { c.ft with oscOk := false } } = e) (hm : e.ft.mode = c.ft.mode) :
    ftOscFail c = if c.ft.mode = .holdover then holdoverExpire (raise e 35) else raise e 35 := by
  unfold ftOscFail
  rw [if_neg (by simp [ho]), hr]
  simp only [raise_ft, hm]

/-- R49: FT_OSC failing ends HOLDOVER. -/
theorem ftOscFail_holdover (hm : c.ft.mode = .holdover) :
    ftOscFail c = holdoverExpire (raise { c with ft := { c.ft with oscOk := false } } 35) := by
  have hs : c.ft.mode ≠ .set := by rw [hm]; decide
  exact (ftOscFail_good ho (setRate_other hs) rfl).trans (if_pos hm)

/-- R43: with FT_OSC failing in SET the count goes on at the nominal rate. -/
theorem ftOscFail_set (hm : c.ft.mode = .set) :
    ftOscFail c = raise { c with ft := { c.ft with oscOk := false, rate := 0 } }.usedFree 35 := by
  have hh : c.ft.mode ≠ .holdover := by rw [hm]; decide
  exact (ftOscFail_good ho (setRate_set hm) rfl).trans (if_neg hh)

/-- In the other states FT_OSC failing is only reported. -/
theorem ftOscFail_other (hh : c.ft.mode ≠ .holdover) (hs : c.ft.mode ≠ .set) :
    ftOscFail c = raise { c with ft := { c.ft with oscOk := false } } 35 :=
  (ftOscFail_good ho (setRate_other hs) rfl).trans (if_neg hh)

end OscFail

/-- Table 2.1: FT_OSC back sets OSC_OK, and the rate of SET follows. -/
theorem ftOscRestored_eq {c : Chip} (ho : c.ft.oscOk = false) :
    ftOscRestored c = setRate { c with ft := { c.ft with oscOk := true } } := by
  simp [ftOscRestored, ho]

/-- Settles O14: each clause is the lemma about its input above. -/
theorem fabricTimeSourcesComplete : Obligations.FabricTimeSourcesComplete := by
  unfold Obligations.FabricTimeSourcesComplete
  intro s
  refine ⟨?marker, ?frame, fun f h => after_of rfl (ftSyncFrame_bad h), fun x hp hx => after_of rfl (ftSyncInLost_expired hp hx),
    fun h => after_of rfl (ftSyncOutMarker_due h), fun hm hp => after_of rfl (ftHoldoverLimitExpire_over hm hp), ?fail, ?restored⟩
  case marker =>
    intro sub high e he
    refine ⟨fun hh hu => ⟨fun h1 h2 => ?_, fun h => ?_⟩, fun h => after_of rfl (ftSyncMarker_unused sub he h)⟩
    · exact after_of rfl ((ftSyncMarker_valid sub he hh hu).trans (if_pos ⟨h1, h2⟩))
    · refine after_of rfl ((ftSyncMarker_valid sub he hh hu).trans (if_neg ?_))
      rintro ⟨h1, h2⟩
      exact h.elim (by simp [h1]) (· h2)
  case frame =>
    intro f b hb hc
    exact ⟨fun h => after_of rfl ((ftSyncFrame_fits hb hc h).trans (frameAccept_eq _ _)),
      fun h => after_of rfl (ftSyncFrame_disagrees hb hc h)⟩
  case fail =>
    intro ho
    exact ⟨fun hh hs => after_of rfl (ftOscFail_other ho hh hs), fun hm => after_of rfl (ftOscFail_holdover ho hm),
      fun hm => after_of rfl (ftOscFail_set ho hm)⟩
  case restored =>
    intro ho
    exact ⟨fun hm => after_of rfl ((ftOscRestored_eq ho).trans (setRate_other hm)),
      fun hm => after_of rfl ((ftOscRestored_eq ho).trans (setRate_set hm))⟩

end Sys2Proof.Machine
end

section
/-!
The two-way time exchange of a Stolevo Link and its announcements (R38, R39, R46, R250).
-/
namespace Sys2Proof.Machine

/-! ### The exchange of a period -/

section Period
variable {c : Chip} {l : Nat} (hl : linkExists c l = true) (hp : c.ft.lastXchg.look l ≠ some (c.now / 2 ^ 20))
include hl hp

/-- R250: in a new period an ACTIVE link gets its TIME_REQ and announcement, and the sources are reviewed. -/
theorem timeExchange_active (hx : (c.link l).state = .active) :
    timeExchange l c = timeReview ({ c with ft := { c.ft with
        lastXchg := c.ft.lastXchg.put l (some (c.now / 2 ^ 20)), nextExch := (c.ft.nextExch + 1) % 256 } }.setLink l
      { c.link l with unseq := (c.link l).unseq ++ [(0, c.ft.nextExch, 0), (2, 0, 0)] }) := by
  unfold timeExchange
  dsimp only
  rw [if_neg (by simpa [hl] using hp), if_neg (not_not_intro hx)]

/-- R39: in a new period the exchange of a link that is not ACTIVE is missed if the link gives time, and the sources are reviewed. -/
theorem timeExchange_inactive (hx : (c.link l).state ≠ .active) :
    timeExchange l c =
      let c' := { c with ft := { c.ft with lastXchg := c.ft.lastXchg.put l (some (c.now / 2 ^ 20)) } }
      timeReview (if (c.ft.cands.look l).isSome then exchangeMissed c' l else c') := by
  unfold timeExchange
  dsimp only
  rw [if_neg (by simpa [hl] using hp), if_pos hx]

end Period

/-! ### Messages that a flit of the link has brought -/

/-- R249, R250: on a link that exists a message of its inbox has arrived. -/
theorem hasArrived_inbox {c : Chip} {l : Nat} {m : CtrlMsg} (hl : linkExists c l = true) (hm : (c.link l).inbox.contains m = true) :
    hasArrived c l m = true := by
  rw [hasArrived, hl, hm, Bool.and_self]

/-- R250: a TIME_REQ gets its answer, with T2 the Fabric Time of its arrival. -/
theorem timeReq_arrived {c : Chip} {l e sub : Nat} {t1 : BitVec 64} (h : hasArrived c l (.timeReq e t1) = true) :
    timeReq l e t1 sub c = c.setLink l { c.link l with
      inbox := (c.link l).inbox.erase (.timeReq e t1),
      unseq := (c.link l).unseq ++ [(1, e, c.ft.count + BitVec.ofNat 64 sub)] } := by
  simp [timeReq, h]

/-- R46: a TIME_RSP to the pending exchange sets delay and offset, and is a measurement of the selected, trusted link. -/
theorem timeRsp_pending {c : Chip} {l sub : Nat} {t2 t3 : BitVec 64}
    (h : hasArrived c l (.timeRsp (c.ft.exch.look l).exchId t2 t3) = true) (ha : (c.ft.exch.look l).active = true) :
    let m : CtrlMsg := .timeRsp (c.ft.exch.look l).exchId t2 t3
    let t1 : Int := ((c.ft.exch.look l).t1 : Nat)
    let t4 : Int := ((c.now + sub : Nat) : Int)
    let i2 : Int := (t2.toNat : Nat)
    let i3 : Int := (t3.toNat : Nat)
    let dly := halfTicks ((t4 - t1) - (i3 - i2) - c.ft.linkAsym.look l) c.freeCtr
    let off := halfTicks ((i2 - t1) - (t4 - i3)) (c.freeCtr + 1)
    let f : FabricTime := { c.ft with exch := c.ft.exch.put l {}, missed := c.ft.missed.put l 0,
                                      offset := c.ft.offset.put l off, delay := c.ft.delay.put l dly }
    let c' := { takeMsg c l m with ft := f, freeCtr := c.freeCtr + 2 }.modLink l
      (fun y => { y with delay := dly.toNat % 2 ^ 24, measured := true })
    timeRsp l (c.ft.exch.look l).exchId t2 t3 sub c =
      if c.ft.source = .link ∧ c.ft.link = l ∧ timeTrusted ((takeMsg c l m).link l) = true then measure c' off else c' := by
  unfold timeRsp
  dsimp only
  rw [if_neg (by simp [h]), if_neg (by simp [ha])]
  rfl

/-- R38: a trusted announcement of less than 63 hops makes the link a candidate, one hop further. -/
theorem timeAnnounce_trusted {c : Chip} {l cls hops : Nat} {tr : Bool} {root : BitVec 64}
    (h : hasArrived c l (.announce cls hops tr root) = true) (hh : hops < 63) (ht : timeTrusted (c.link l) = true) :
    timeAnnounce l cls hops tr root c = candReported
      { takeMsg c l (.announce cls hops tr root) with ft := { c.ft with
        cands := c.ft.cands.put l (some { cls := cls, root := root.toNat, hops := hops + 1 }) } } (l + 1) := by
  unfold timeAnnounce
  dsimp only
  rw [if_neg (by simp [h]), if_neg (by simp [ht]; omega)]
  rfl

/-- R250: an exchange whose TIME_RSP has not come within 16 µs is missed. -/
theorem timeRspMissed_late {c : Chip} {l : Nat} (ha : (c.ft.exch.look l).active = true)
    (hp : c.past (c.ft.exch.look l).since (us 16) = true) : timeRspMissed l c = exchangeMissed c l := by
  unfold timeRspMissed
  dsimp only
  rw [if_neg (by simp [ha, hp])]

/-- Settles O15: each clause is the lemma about its row above. -/
theorem timeExchangeRowsComplete : Obligations.TimeExchangeRowsComplete := by
  unfold Obligations.TimeExchangeRowsComplete
  intro s l hl
  refine ⟨?period, fun e t1 sub hm => after_of rfl (timeReq_arrived (hasArrived_inbox hl hm)),
    fun t2 t3 sub hm ha => after_of rfl (timeRsp_pending (hasArrived_inbox hl hm) ha),
    fun cls hops tr root hm hh ht => after_of rfl (timeAnnounce_trusted (hasArrived_inbox hl hm) hh ht),
    fun ha hp => after_of rfl (timeRspMissed_late ha hp)⟩
  case period =>
    intro hp
    refine ⟨fun hx => after_of rfl (timeExchange_active hl hp hx), fun hx hc => ?_, fun hx hc => ?_⟩
    · exact after_of rfl ((timeExchange_inactive hl hp hx).trans (congrArg timeReview (if_neg (by simp [hc]))))
    · exact after_of rfl ((timeExchange_inactive hl hp hx).trans
        (congrArg timeReview (if_pos (Option.isSome_iff_ne_none.2 hc))))

end Sys2Proof.Machine
end

section
/-!
Flits received, lookups, cells through the central buffer, replay and what a host programs (R57, R58, R66, R68, R69, R71, R76, R78,
R292).
-/
namespace Sys2Proof.Machine

/-! ### Flits of a CXL port -/

section Flit
variable {c : Chip} {p : Nat} {f : CxlFlit} (hp : p < 128) (hl : linkUp (c.port p) = true)
include hp hl

/-- R68: a flit with a bad CRC is nothing but a bad flit. -/
theorem cxlFlitReceive_badCrc (hc : f.crcOk = false) : cxlFlitReceive p f c = badFlit c p f.carries := by
  unfold cxlFlitReceive
  rw [if_neg (by simp [hl, hp]), if_pos (by simp [hc])]

/-- R68, R287, R289: a good flit clears the retry count and brings in last cells, then the MAC check and an odd TLP are answered. -/
theorem cxlFlitReceive_goodCrc (hc : f.crcOk = true) :
    let c' := lastCells (c.modPort p (fun y => { y with retries := 0 })) f.ends
    cxlFlitReceive p f c =
      if f.macOk = some false ∧ (c'.port p).ideOn = true then macFailed c' p (f.carries.map (·.1))
      else f.odd.elim c' (oddTlp c' p) := by
  unfold cxlFlitReceive
  rw [if_neg (by simp [hl, hp]), if_neg (by simp [hc])]
  cases f.odd <;> rfl

end Flit

/-! ### PACKET_LOOKUP -/

/-- The lookup of a packet is counted (Table 19.1). -/
abbrev lookedUp (c : Chip) : Chip := { c with sw := { c.sw with lookups := c.sw.lookups + 1 } }

section Lookup
variable {c : Chip} {p : PacketIn} (hk : lookable c p = true)
include hk

/-- R288: while IDE is required and not active a CXL.io memory request is answered Unsupported Request. -/
theorem packetLookup_held_io (hh : ideHeld c p = true) {a : Nat} (ht : p.traffic = .ioAddr a) :
    packetLookup p c = c.emit (.tlpAnswer p.port .unsupported) := by
  unfold packetLookup
  rw [if_neg (by simp [hk]), if_pos hh, ht]

/-- R288: while IDE is required and not active a CXL.mem request goes nowhere. -/
theorem packetLookup_held_mem (hh : ideHeld c p = true) {a : Nat} {w : Bool} (ht : p.traffic = .mem a w) : packetLookup p c = c := by
  unfold packetLookup
  rw [if_neg (by simp [hk]), if_pos hh, ht]

variable (hh : ideHeld c p = false)
include hh

/-- R57: a packet whose route is found is enqueued. -/
theorem packetLookup_go {q : QPkt} (h : lookup (lookedUp c) p = .go q) :
    packetLookup p c = enqueueRouted (lookedUp c) p q := by
  unfold packetLookup
  rw [if_neg (by simp [hk]), if_neg (by simp [hh])]
  simp only [h]

/-- R57: a message to every downstream port is enqueued once per copy. -/
theorem packetLookup_copies {qs : List QPkt} (h : lookup (lookedUp c) p = .copies qs) :
    packetLookup p c = qs.foldl (fun c q => enqueueRouted c p q) (lookedUp c) := by
  unfold packetLookup
  rw [if_neg (by simp [hk]), if_neg (by simp [hh])]
  simp only [h]

/-- Table 3.1: a packet without a route is answered by the lookup, and counted. -/
theorem packetLookup_done {d : Chip} (h : lookup (lookedUp c) p = .done d) :
    packetLookup p c = countReceived d p (packetOf (lookedUp c) p) := by
  unfold packetLookup
  rw [if_neg (by simp [hk]), if_neg (by simp [hh])]
  simp only [h]

end Lookup

/-! ### Cells of the central buffer -/

/-- R78: the oldest spilled cell of a lane takes the place that R74 admits. -/
theorem spillReturn_admitted {c : Chip} {i o sc n : Nat} {cls : MsgClass} {pl : Place}
    (hn : (c.sw.voq.look (laneKey i o sc cls)).findIdx? (fun q => 0 < q.spilled) = some n) :
    let lane := c.sw.voq.look (laneKey i o sc cls)
    let q := lane.getD n {}
    let c' := takePlace c q.input q.sc q.cls.code pl
    let q' := { q with places := q.places ++ [pl], spilled := q.spilled - 1, whole := true }
    admitPlace c q.input q.sc q.cls.code = some pl →
    spillReturn i o sc cls c = spillCheck { c' with sw := { c'.sw with
      spill := c'.sw.spill - 1, voq := c'.sw.voq.put (laneKey i o sc cls) (setAt lane n q') } } := by
  intro lane q c' q' ha
  unfold spillReturn
  simp only [hn]
  rw [ha]

/-- A packet whose next cell has left the buffer. -/
def cellGone (q : QPkt) (more : List Place) : QPkt := { q with moved := q.moved + 1, places := more }

/-- The next cell of a packet is its last. -/
def isLastCell (q : QPkt) : Bool := decide (q.cells ≤ q.moved + 1)

/-- R66, R74, R76: the chip once the next cell of the packet `q`, which output `o` carries from the head of its lane, has left its
place `pl`: the crossbar is used for the cycle, the place is free, the credit given back, and the last cell ends the packet's turn. -/
def bufferLeft (c : Chip) (o : Nat) (k : Carry) (q : QPkt) (rest : List QPkt) (pl : Place) (more : List Place) : Chip :=
  let used := { c.sw with inCell := c.sw.inCell.put q.input (c.ivl + 1), outCell := c.sw.outCell.put o (c.ivl + 1) }
  let c1 := freePlace { c with sw := used } q.input q.sc q.cls.code pl
  let c2 := if q.input < 32 ∧ !q.fromStv ∧ !q.noCredit then giveBack c1 q.port q.cls.code else c1
  let c3 := { c2 with sw := { c2.sw with voq := c2.sw.voq.put k.lane (if isLastCell q then rest else cellGone q more :: rest) } }
  if isLastCell q then parkHeads (c3.setArb o { c.arb o with carry := none }) else c3

/-- R66, R83, R148: where a cell that has left the buffer goes: to staging, or, with its permit gone, to a home slice or the device. -/
def cellArrives (c : Chip) (q : QPkt) (more : List Place) : Chip :=
  let sunk := permitLeaves c q 1 true
  let c' := q.slice.elim sunk (fun h => sunk.emit (.toSlice h q.pid q.moved))
  q.egress.portNo.elim (if isLastCell q then sc0Late c' q 0 else c') (fun p => stageCell c p (cellGone q more))

theorem cellArrives_port {q : QPkt} {p : Nat} (c : Chip) (more : List Place) (he : q.egress.portNo = some p) :
    cellArrives c q more = stageCell c p (cellGone q more) := by
  rw [cellArrives, he]
  rfl

theorem cellArrives_slice {q : QPkt} {h : Nat} (c : Chip) (more : List Place) (he : q.egress.portNo = none) (hh : q.slice = some h) :
    let c' := (permitLeaves c q 1 true).emit (.toSlice h q.pid q.moved)
    cellArrives c q more = if isLastCell q then sc0Late c' q 0 else c' := by
  rw [cellArrives, he, hh]
  rfl

theorem cellArrives_local {q : QPkt} (c : Chip) (more : List Place) (he : q.egress.portNo = none) (hh : q.slice = none) :
    let c' := permitLeaves c q 1 true
    cellArrives c q more = if isLastCell q then sc0Late c' q 0 else c' := by
  rw [cellArrives, he, hh]
  rfl

/-- The cell of a verdict that shows no error leaves. -/
theorem cellLeave_clean (o b : Nat) (c : Chip) : cellLeave o b .clean c = cellMove o c := rfl

section Cell
variable {c : Chip} {o : Nat} {k : Carry} {q : QPkt} {rest : List QPkt} {pl : Place} {more : List Place}
  (hk : (c.arb o).carry = some k) (hv : c.sw.voq.look k.lane = q :: rest) (hi : q.pid = k.pid)
  (hs : stagingRoom c q 1 = true) (hx : crossbarFree c q.input o = true) (hp : q.places = pl :: more)
include hk hv hi hs hx hp

/-- R66: output `o` moves the cell that it carries, and the free places are offered. -/
theorem cellMove_carried : cellMove o c = offerAll (cellArrives (bufferLeft c o k q rest pl more) q more) q.input := by
  unfold cellMove
  simp only [hk, hv]
  rw [if_neg (by simp [hi, hs, hx])]
  simp only [hp, cellArrives, bufferLeft, isLastCell, cellGone]
  cases q.egress.portNo with
  | some p => rfl
  | none =>
    cases q.slice with
    | some h => rfl
    | none => rfl

end Cell

section Verdict
variable {c : Chip} {o : Nat} {q : QPkt} (b : Nat) (h : outPacket c o = some q)
include h

/-- Source 68: a corrected bit is reported, and the cell leaves. -/
theorem cellLeave_corrected :
    cellLeave o b .corrected c = cellMove o (raise (spendArmed c [68, 69]) 68 (srcInfo 8 b)) := by
  simp only [cellLeave, cellVerdict, h]

/-- R71: a double-bit error tail-marks the packet, which takes the path of one without a good copy, and the cell leaves. -/
theorem cellLeave_double :
    cellLeave o b .double c = cellMove o (noGoodQueued (countEvent
      (raise (markTail (raise (spendArmed c [68, 69]) 69 (srcInfo 8 b)) [(q.pid, q.moved)]) 66 (srcInfo 8 b)) (portEvent q 0x014)) q) := by
  simp only [cellLeave, cellVerdict, h]

end Verdict

/-- R76: a credit withheld for CREDIT_STALL_TIME raises source 76 once. -/
theorem creditStallTimeExpire_over {c : Chip} {p t : Nat} {k : MsgClass} (hs : (creditOf c p k.code).since = some t)
    (hr : (creditOf c p k.code).raised = false) (ht : c.past t (us c.sw.timers.creditStall) = true) :
    creditStallTimeExpire p k c =
      raise (setCredit c p k.code { creditOf c p k.code with raised := true }) 76 (srcInfo 1 p k.code) := by
  unfold creditStallTimeExpire
  simp only [hs]
  rw [if_neg (by simp [hr, ht])]

/-! ### Replay -/

section Retry
variable {c : Chip} {p seq : Nat} (hp : p < 128) (hl : linkUp (c.port p) = true)
include hp hl

/-- R69: a retry request that meets no bad flit is answered with the replay buffer. -/
theorem cxlRetryRequest_replays (h : (c.sw.replay.look p).any (fun e => e.bad && decide (seq ≤ e.seq)) = false) :
    cxlRetryRequest p seq c = replayFrom c p seq := by
  unfold cxlRetryRequest
  dsimp only
  rw [if_neg (by simp [hl, hp]), if_neg (by simp [h])]

/-- R69: a retry request waits, answered with a NOP, while a bad flit waits for its good copy. -/
theorem cxlRetryRequest_waits (h : (c.sw.replay.look p).any (fun e => e.bad && decide (seq ≤ e.seq)) = true) :
    cxlRetryRequest p seq c =
      Chip.emit { c with sw := { c.sw with retryFrom := c.sw.retryFrom.put p (some seq) } } (.nop p) := by
  unfold cxlRetryRequest
  dsimp only
  rw [if_neg (by simp [hl, hp]), if_pos h]

end Retry

/-- R69, R70: a good copy takes the bad one's place. -/
theorem goodCopy_running {c : Chip} (p : Nat) (x : CopyIn) (h : c.rst.running = true) :
    goodCopy p x c = replaceCopy c p x.pid false false (some x.body) := if_pos h

/-- R71: past STOMP_HOLD no copy is awaited. -/
theorem stompHoldExpire_over {c : Chip} {p pid : Nat} {x : Stomp} (hx : (c.sw.stomped.look p).find? (fun s => s.pid == pid) = some x)
    (ht : c.past x.since (us c.sw.timers.stompHold) = true) : stompHoldExpire p pid c = noGoodCopy c p pid := by
  unfold stompHoldExpire
  simp only [hx]
  rw [if_pos ht]

/-! ### HOST_CONFIG_WRITE -/

/-- The settings of the virtual switch of upstream port `p` become `h`. -/
def setHost (c : Chip) (p : Nat) (h : HostCfg) : Chip := { c with sw := { c.sw with host := c.sw.host.put p h } }

/-- R351: a mask holds a vector back, and its end sends the interrupt that was held. -/
theorem hostConfigWrite_vectorMask {c : Chip} {p : Nat} (fn v : Nat) (m : Bool)
    (hr : ¬ ((c.port p).role ≠ 1 ∧ (c.port p).role ≠ 3)) :
    let h := c.sw.host.look p
    let c' := setHost c p { h with masked := if m then addOnce h.masked (fn, v) else h.masked.erase (fn, v) }
    hostConfigWrite p (.vectorMask fn v m) c = if m then c' else sendHeld c' p fn v := by
  cases m <;> exact if_neg hr

/-- Settles O16: each clause is the lemma about its row above; a host's other settings are the arms of HOST_CONFIG_WRITE. -/
theorem flitAndBufferRowsComplete : Obligations.FlitAndBufferRowsComplete := by
  unfold Obligations.FlitAndBufferRowsComplete
  intro s
  refine ⟨?flit, ?lookup, fun i o sc cls n pl hn ha => after_of rfl (spillReturn_admitted hn ha), ?cell,
    fun o b q h => ⟨after_of rfl (cellLeave_corrected b h), after_of rfl (cellLeave_double b h)⟩,
    fun p k t hs hr ht => after_of rfl (creditStallTimeExpire_over hs hr ht), ?retry,
    fun p pid body h => after_of rfl (goodCopy_running p _ h), fun p pid x hx ht => after_of rfl (stompHoldExpire_over hx ht), ?host⟩
  case flit =>
    intro p f hp hl
    refine ⟨fun hc => after_of rfl (cxlFlitReceive_badCrc hp hl hc),
      fun hc => ⟨fun hm hi => ?_, fun hn => ⟨fun ho => ?_, fun k ho => ?_⟩⟩⟩
    · exact after_of rfl ((cxlFlitReceive_goodCrc hp hl hc).trans (if_pos ⟨hm, hi⟩))
    · exact after_of rfl ((cxlFlitReceive_goodCrc hp hl hc).trans ((if_neg hn).trans (by rw [ho]; rfl)))
    · exact after_of rfl ((cxlFlitReceive_goodCrc hp hl hc).trans ((if_neg hn).trans (by rw [ho]; rfl)))
  case lookup =>
    intro p hk
    refine ⟨fun hh => ⟨fun a ht => after_of rfl (packetLookup_held_io hk hh ht), fun a ht => ?_⟩,
      fun hh => ⟨fun q h => after_of rfl (packetLookup_go hk hh h), fun qs h => after_of rfl (packetLookup_copies hk hh h),
        fun d h => after_of rfl (packetLookup_done hk hh h)⟩⟩
    exact ht.elim (fun ht => after_of rfl (packetLookup_held_mem hk hh ht)) (fun ht => after_of rfl (packetLookup_held_mem hk hh ht))
  case cell =>
    intro o b k q rest pl more hk hv hi hs hx hp
    have moved := cellMove_carried hk hv hi hs hx hp
    exact ⟨fun p he => after_of rfl (moved.trans (by rw [cellArrives_port _ _ he]; rfl)),
      fun he => ⟨fun h hh => after_of rfl (moved.trans (by rw [cellArrives_slice _ _ he hh]; rfl)),
        fun hh => after_of rfl (moved.trans (by rw [cellArrives_local _ _ he hh]; rfl))⟩⟩
  case retry =>
    intro p seq hp hl
    exact ⟨fun h => after_of rfl (cxlRetryRequest_replays hp hl h), fun h => after_of rfl (cxlRetryRequest_waits hp hl h)⟩
  case host =>
    intro p hrole
    have hr : ¬ ((s.chip.port p).role ≠ 1 ∧ (s.chip.port p).role ≠ 3) := by omega
    -- Any other setting than a vector mask is one arm of `hostConfigWrite`, which an upstream port takes.
    refine ⟨?_, ?_, ?_, ?_, ?_, fun fn v m => after_of rfl (hostConfigWrite_vectorMask fn v m hr), ?_, ?_, ?_, ?_, ?_, ?_, ?_, ?_⟩ <;>
      intros <;> exact after_of rfl (if_neg hr)

end Sys2Proof.Machine
end

section
/-!
Permits, the path guard and its probes, duplicate suppression and fabric IDs (R61, R82, R83, R86 to R89, R255).
-/
namespace Sys2Proof.Machine

/-! ### Permit messages that a flit of the link has brought -/

section PermitReq
variable {c : Chip} {l : Nat} {m : PermitMsg} (h : hasArrived c l (.permit .req m) = true)
include h

/-- R82: at its far egress a PERMIT_REQ debits what the pool holds, and a grant answers it. -/
theorem permitReq_granted {back : Nat} :
    let c' := takeMsg c l (.permit .req m)
    let g := min m.count (permitRoom c' m.cls m.sc0)
    m.dst = ownId c' → routeLink c' m.src m.path = some back →
    permitReq l m c = sendPermit (debitPool c' m.src m.path m.cls g m.sc0) back .grant { m with count := g } g := by
  intro c' g hd hb
  unfold permitReq
  dsimp only
  rw [if_neg (by simp [h]), if_pos hd, hb]

/-- R82: another device relays a PERMIT_REQ. -/
theorem permitReq_relayed {on : Nat} :
    let c' := takeMsg c l (.permit .req m)
    m.dst ≠ ownId c' → routeLink c' m.dst m.path = some on → permitReq l m c = sendPermit c' on .req m 0 := by
  intro c' hd ho
  unfold permitReq
  dsimp only
  rw [if_neg (by simp [h]), if_neg hd, ho]

end PermitReq

section PermitGrant
variable {c : Chip} {l : Nat} {m : PermitMsg} (h : hasArrived c l (.permit .grant m) = true)
include h

/-- R82: at its source a grant joins the balance, which asks again while it stays low. -/
theorem permitGrant_joins :
    let c' := takeMsg c l (.permit .grant m)
    let cls := if m.sc0 then 10 else m.cls
    let b := c'.sw.balances.look (balKey m.dst m.path cls)
    let again := if m.count = 0 then some c'.ivl else b.retryAt
    m.src = ownId c' →
    permitGrant l m c = askPermits (setBalance c' (balKey m.dst m.path cls)
      { b with permits := b.permits + m.count, reqAt := none, lastUse := c'.ivl, retryAt := again }) m.dst m.path cls := by
  intro c' cls b again hs
  unfold permitGrant
  rw [if_neg (by simp [h])]
  exact if_pos hs

/-- R84: a standing SC0 permit passes a transit device unchanged. -/
theorem permitGrant_standing {back : Nat} :
    let c' := takeMsg c l (.permit .grant m)
    m.src ≠ ownId c' → routeLink c' m.src m.path = some back → m.sc0 = true →
    permitGrant l m c = sendPermit c' back .grant m 0 := by
  intro c' hs hb h0
  unfold permitGrant
  dsimp only
  rw [if_neg (by simp [h]), if_neg hs, hb]
  exact if_pos h0

/-- R82: a transit device debits what it can of another grant, relays that, and returns the rest. -/
theorem permitGrant_transit {back : Nat} :
    let c' := takeMsg c l (.permit .grant m)
    let g := min m.count (permitRoom c' m.cls false)
    let c2 := sendPermit (debitPool c' m.src m.path m.cls g false) back .grant { m with count := g } g
    m.src ≠ ownId c' → routeLink c' m.src m.path = some back → m.sc0 = false →
    permitGrant l m c = if g = m.count then c2
      else (routeLink c2 m.dst m.path).elim c2 (fun on => sendPermit c2 on .ret { m with count := m.count - g } 0) := by
  intro c' g c2 hs hb h0
  unfold permitGrant
  dsimp only
  rw [if_neg (by simp [h]), if_neg hs, hb]
  dsimp only
  rw [if_neg (by simp [h0])]
  cases routeLink c2 m.dst m.path with
  | none => rfl
  | some on => rfl

end PermitGrant

section PermitReturn
variable {c : Chip} {l : Nat} {m : PermitMsg} (h : hasArrived c l (.permit .ret m) = true)
include h

/-- R83: at its far egress a return credits the pool. -/
theorem permitReturn_credited :
    let c' := creditPool (takeMsg c l (.permit .ret m)) m.src m.path m.cls m.count m.sc0
    m.dst = ownId c' → permitReturn l m c = c' := by
  intro c' hd
  unfold permitReturn
  rw [if_neg (by simp [h])]
  exact if_pos hd

/-- R83: a transit device credits its pool, and relays the return. -/
theorem permitReturn_relayed {on : Nat} :
    let c' := creditPool (takeMsg c l (.permit .ret m)) m.src m.path m.cls m.count m.sc0
    m.dst ≠ ownId c' → routeLink c' m.dst m.path = some on → permitReturn l m c = sendPermit c' on .ret m 0 := by
  intro c' hd ho
  unfold permitReturn
  dsimp only
  rw [if_neg (by simp [h]), if_neg hd, ho]

end PermitReturn

/-! ### Permits at their source -/

section Balance
variable {c : Chip} {dst path cls t : Nat}

/-- Table 3.6: 1 µs after a grant of 0 the source asks again. -/
theorem permitRequestRetry_due (hr : (c.sw.balances.look (balKey dst path cls)).retryAt = some t) (ht : c.past t (us 1) = true) :
    permitRequestRetry dst path cls c = askPermits (setBalance c (balKey dst path cls)
      { c.sw.balances.look (balKey dst path cls) with retryAt := none }) dst path cls := by
  unfold permitRequestRetry
  simp only [hr]
  rw [if_pos ht]

/-- R255: 100 µs after a request without a grant the source asks again. -/
theorem permitReqLost_due (hr : (c.sw.balances.look (balKey dst path cls)).reqAt = some t) (ht : c.past t (us 100) = true) :
    permitReqLost dst path cls c = askPermits (setBalance c (balKey dst path cls)
      { c.sw.balances.look (balKey dst path cls) with reqAt := none }) dst path cls := by
  unfold permitReqLost
  simp only [hr]
  rw [if_pos ht]

/-- R83: a balance that no packet has used for PERMIT_IDLE goes back. -/
theorem permitIdleExpire_returns {l : Nat} :
    let b := c.sw.balances.look (balKey dst path cls)
    cls < 10 → b.permits ≠ 0 → c.past b.lastUse (us c.sw.timers.permitIdle) = true → routeLink c dst path = some l →
    permitIdleExpire dst path cls c = sendPermit (setBalance c (balKey dst path cls) { b with permits := 0 }) l .ret
      { src := ownId c, dst := dst, path := path, cls := cls, count := b.permits } 0 := by
  intro b hc hp ht hl
  have hc' : ¬ 10 ≤ cls := by omega
  unfold permitIdleExpire
  dsimp only
  rw [if_neg (by simp [hc', show (c.sw.balances.look (balKey dst path cls)).permits ≠ 0 from hp, ht, b]), hl]

end Balance

/-! ### The path guard and its probes -/

/-- Entry `i` of the guard store becomes `g`. -/
def setGuard (c : Chip) (i : Nat) (g : GuardEntry) : Chip := { c with sw := { c.sw with guardStore := setAt c.sw.guardStore i g } }

/-- R87: request `g`, entry `i` of the guard store, is issued again on path `j`: source 73, its path not usable and probed. -/
def reissueOn (c : Chip) (i : Nat) (g : GuardEntry) (j : Nat) : Chip :=
  let c1 := setGuard c i { g with reissued := true, since := c.ivl, path := j }
  let e := placeCells c1 (reissueCopy c1 g j)
  let c2 := setUsable (joinLane e.1 e.2) g.dstId g.path false
  let others := c2.sw.probes.filter (fun p => p.id ≠ g.dstId ∨ p.path ≠ g.path)
  raise { c2 with sw := { c2.sw with probes := others ++ [{ id := g.dstId, path := g.path, last := c2.ivl }] } } 73

/-- R87, R89: a guarded request whose PATH_GUARD has passed is marked expired where the far quarantine list is full or no other path
is usable, and is otherwise issued again on the next usable path. -/
theorem pathGuardExpire_passed {c : Chip} {dst tag i : Nat} {g : GuardEntry}
    (hi : c.sw.guardStore.findIdx? (fun g => g.dst == dst && g.tag == tag) = some i) (hg : c.sw.guardStore.getD i {} = g)
    (hr : g.reissued = false) (he : g.expired = false) (ht : c.past g.since (ns c.sw.timers.pathGuard) = true) :
    pathGuardExpire dst tag c =
      if 16384 ≤ (c.sw.srcHeld.filter (fun h => h.1 == dst)).length then raise (setGuard c i { g with expired := true }) 75
      else (nextPath (feOf c g.dstId) g.path).elim (raise (setGuard c i { g with expired := true }) 74) (reissueOn c i g) := by
  unfold pathGuardExpire
  simp only [hi, hg]
  rw [if_neg (by simp [hr, he, ht])]
  cases nextPath (feOf c g.dstId) g.path with
  | none => rfl
  | some j => rfl

/-- R87: a path that is not usable is probed every 100 µs. -/
theorem pathProbe_due {c : Chip} {id path i : Nat} (hi : c.sw.probes.findIdx? (fun p => p.id == id && p.path == path) = some i) :
    let p := c.sw.probes.getD i {}
    c.past p.last (us 100) = true →
    pathProbe id path c = Chip.emit { c with sw := { c.sw with probes := setAt c.sw.probes i { p with last := c.ivl } } }
      (.probe id path) := by
  intro p ht
  unfold pathProbe
  simp only [hi]
  exact if_neg (by rw [ht]; decide)

/-- R87: the return of a probe ends the probes of its path and makes it usable. -/
theorem probeReturn_pending {c : Chip} {id path : Nat} (h : c.sw.probes.any (fun p => p.id == id && p.path == path) = true) :
    probeReturn id path c = setUsable { c with sw := { c.sw with
      probes := c.sw.probes.filter (fun p => p.id ≠ id ∨ p.path ≠ path) } } id path true :=
  if_pos h

/-! ### Duplicate suppression -/

/-- An entry of the quarantine list is that of a source's tag. -/
def tagListed (src tag : Nat) (q : Nat × Nat × Nat) : Bool := q.1 == src && q.2.1 == tag

/-- How far a tag lies beyond the oldest tag of its source's window, modulo the tag space. -/
abbrev windowOffset (c : Chip) (src tag : Nat) : Nat := (tag + 65536 - c.sw.base.look src) % 65536

/-- R88: the request is executed, and its tag kept as executed. -/
def executedNow (c : Chip) (src : Nat) (g : GuardedReq) : Chip :=
  Chip.emit { c with sw := { c.sw with executed := c.sw.executed.upd src (g.tag :: ·) } } (.execute src g.pid g.write)

section Arrival
variable {c w : Chip} {src : Nat} {g : GuardedReq} (hw : windowTo c src g.oldest = w)
include hw

/-- R89: a tag in quarantine leaves the list and is answered as a duplicate. -/
theorem guardedRequestArrival_quarantined (hq : w.sw.quarantine.any (tagListed src g.tag) = true) :
    guardedRequestArrival src g c = Chip.emit { w with sw := { w.sw with
      quarantine := w.sw.quarantine.eraseP (tagListed src g.tag) } } (.guardAnswer src g.tag g.path true) := by
  unfold guardedRequestArrival
  rw [hw]
  exact if_pos hq

variable (hq : w.sw.quarantine.any (tagListed src g.tag) = false)
include hq

/-- R88: a tag outside the window is only counted. -/
theorem guardedRequestArrival_outside (hb : 32768 ≤ windowOffset w src g.tag) :
    guardedRequestArrival src g c = { w with sw := { w.sw with belowWin := w.sw.belowWin + 1 } } := by
  unfold guardedRequestArrival
  rw [hw]
  exact (if_neg (Bool.eq_false_iff.1 hq)).trans (if_pos hb)

variable (hb : windowOffset w src g.tag < 32768)
include hb

/-- R88: within the window a tag that has not been executed executes; a re-issue joins the quarantine list, or raises source 75. -/
theorem guardedRequestArrival_first (hd : (w.sw.executed.look src).contains g.tag = false) :
    guardedRequestArrival src g c =
      if g.reissue = false then executedNow w src g
      else if 16384 ≤ (executedNow w src g).sw.quarantine.length then raise (executedNow w src g) 75
      else { executedNow w src g with sw := { (executedNow w src g).sw with
        quarantine := (executedNow w src g).sw.quarantine ++ [(src, g.tag, g.path)] } } := by
  unfold guardedRequestArrival
  rw [hw]
  refine (if_neg (Bool.eq_false_iff.1 hq)).trans ((if_neg (Nat.not_le.2 hb)).trans ((if_pos (by rw [hd]; rfl)).trans ?_))
  cases g.reissue with
  | false => rfl
  | true => rfl

/-- Table 3.7: a repeat is nothing unless it is a re-issue: a read executes again, a write is answered. -/
theorem guardedRequestArrival_repeat (hd : (w.sw.executed.look src).contains g.tag = true) :
    guardedRequestArrival src g c =
      if g.reissue = false then w else if g.write then answerWrite w src g.tag g.path else w.emit (.execute src g.pid false) := by
  unfold guardedRequestArrival
  rw [hw]
  refine (if_neg (Bool.eq_false_iff.1 hq)).trans ((if_neg (Nat.not_le.2 hb)).trans ((if_neg (by rw [hd]; decide)).trans ?_))
  cases g.reissue with
  | false => rfl
  | true => rfl

end Arrival

section Response
variable {c : Chip} {dst tag : Nat} (ex : Bool)

/-- R89: a response that finds no entry is only counted. -/
theorem guardedResponse_late (h : c.sw.guardStore.find? (fun g => g.dst == dst && g.tag == tag) = none) :
    guardedResponse dst tag ex c = { c with sw := { c.sw with guardLate := c.sw.guardLate + 1 } } := by
  unfold guardedResponse
  rw [h]

/-- R89: the first response frees the entry; the tag of a re-issue whose original had not been executed stays held. -/
theorem guardedResponse_first {g : GuardEntry} (h : c.sw.guardStore.find? (fun g => g.dst == dst && g.tag == tag) = some g) :
    guardedResponse dst tag ex c = guardRoom { c with sw := { c.sw with
      guardStore := c.sw.guardStore.filter (fun x => x.dst ≠ dst ∨ x.tag ≠ tag),
      srcHeld := if g.reissued && !ex then c.sw.srcHeld ++ [(dst, tag, g.pid)] else c.sw.srcHeld } } := by
  unfold guardedResponse
  rw [h]

end Response

/-! ### Fabric IDs -/

/-- R61: FABRIC_ID_SET writes an entry that its checks and the admission check accept. -/
theorem fabricIdSet_completes (s : State) (r : Nat) (d : Desc) :
    Completes s (.fabricIdSet r d) 0x0160 r d
      (fun c => fabricIdSetCheck c d = none ∧ admitFail c (flowsRetimed (fabricIdSetDo c d)) 0 = none)
      (fun c x => endCmd (flowsRetimed (fabricIdSetDo c d)) x .ok) := by
  refine completes_of rfl ?_
  rintro c x ⟨hc, ha⟩
  rw [hc]
  exact admitOr_of_admitted x _ ha

/-- R61: FABRIC_ID_QUERY answers the entry as it stands. -/
theorem fabricIdQuery_completes (s : State) (r : Nat) (d : Desc) :
    Completes s (.fabricIdQuery r d) 0x0161 r d (fun _ => d.zeroBut [] = true)
      (fun c x => endCmd c x .ok (leBytes 8 (feOf c d.tgt).toNat)) := by
  refine completes_of rfl ?_
  intro c x hz
  rw [if_neg (by simp [hz])]

/-- Settles O17: each clause is the lemma about its row above. -/
theorem permitAndGuardRowsComplete : Obligations.PermitAndGuardRowsComplete := by
  unfold Obligations.PermitAndGuardRowsComplete
  intro s
  refine ⟨?req, ?grant, ?ret, ?source, ?guard, fun id path i hi ht => after_of rfl (pathProbe_due hi ht),
    fun id path h => after_of rfl (probeReturn_pending h), ?arrival,
    fun dst tag ex => ⟨fun h => after_of rfl (guardedResponse_late ex h), fun g h => after_of rfl (guardedResponse_first ex h)⟩,
    fun dst tag => after_of rfl rfl, fun r d => ⟨fabricIdSet_completes s r d, fabricIdQuery_completes s r d⟩⟩
  case req =>
    intro l m h
    exact ⟨fun back hd hb => after_of rfl (permitReq_granted h hd hb), fun on hd ho => after_of rfl (permitReq_relayed h hd ho)⟩
  case grant =>
    intro l m h
    refine ⟨fun hs => after_of rfl (permitGrant_joins h hs),
      fun back hs hb => ⟨fun h0 => ?_, fun h0 => ⟨fun hg => ?_, fun on hg ho => ?_⟩⟩⟩
    · exact after_of rfl (permitGrant_standing h hs hb h0)
    · exact after_of rfl ((permitGrant_transit h hs hb h0).trans (if_pos hg))
    · exact after_of rfl ((permitGrant_transit h hs hb h0).trans ((if_neg hg).trans (by rw [ho]; rfl)))
  case ret =>
    intro l m h
    exact ⟨fun hd => after_of rfl (permitReturn_credited h hd), fun on hd ho => after_of rfl (permitReturn_relayed h hd ho)⟩
  case source =>
    intro dst path cls t
    exact ⟨fun hr ht => after_of rfl (permitRequestRetry_due hr ht), fun hr ht => after_of rfl (permitReqLost_due hr ht),
      fun l hc hp ht hl => after_of rfl (permitIdleExpire_returns hc hp ht hl)⟩
  case guard =>
    intro dst tag i hi g keep hr he ht held
    have passed := pathGuardExpire_passed hi rfl hr he ht
    refine ⟨fun hf => after_of rfl (passed.trans (if_pos hf)), fun hf hn => ?_, fun j hf hn => ?_⟩
    · exact after_of rfl (passed.trans ((if_neg (Nat.not_le.2 hf)).trans (by rw [hn]; rfl)))
    · exact after_of rfl (passed.trans ((if_neg (Nat.not_le.2 hf)).trans (by rw [hn]; rfl)))
  case arrival =>
    intro src g c listed inside done run
    refine ⟨fun hq => after_of rfl (guardedRequestArrival_quarantined rfl hq), fun hq hb => ?_, fun hq hb hd => ?_, fun hq hb hd => ?_⟩
    · exact after_of rfl (guardedRequestArrival_outside rfl hq (Nat.not_lt.1 (of_decide_eq_false hb)))
    · have first := guardedRequestArrival_first rfl hq (of_decide_eq_true hb) hd
      refine ⟨fun hr => after_of rfl (first.trans (if_pos hr)), fun hr hl => ?_, fun hr hl => ?_⟩
      · exact after_of rfl (first.trans ((if_neg (by simp [hr])).trans (if_neg (Nat.not_le.2 hl))))
      · exact after_of rfl (first.trans ((if_neg (by simp [hr])).trans (if_pos hl)))
    · have again := guardedRequestArrival_repeat rfl hq (of_decide_eq_true hb) hd
      refine ⟨fun hr => after_of rfl (again.trans (if_pos hr)), fun hr hw => ?_, fun hr hw ha => ?_, fun hr hw ha => ?_⟩
      · exact after_of rfl (again.trans ((if_neg (by simp [hr])).trans (if_neg (by simp [hw]))))
      · exact after_of rfl (again.trans ((if_neg (by simp [hr])).trans ((if_pos hw).trans (if_pos ha))))
      · exact after_of rfl (again.trans ((if_neg (by simp [hr])).trans ((if_pos hw).trans (if_neg (Bool.eq_false_iff.1 ha)))))

end Sys2Proof.Machine
end

section
/-!
Loss counts (R102): what one decision makes of the count of each key, and that a decision of a crossbar output or of a pseudo-channel
leaves its arbiter with those counts.
-/
namespace Sys2Proof.Machine

/-! ### The counts after a decision -/

/-- The key of a candidate's loss count: input × 8 + SC on a crossbar arbiter, else the requester. -/
def lossKey (x : Nat) (y : Nat × Nat × Nat) : Nat := if x ≤ 37 then y.1 * 8 + y.2.1 else y.1

/-- The candidate has the input, and on a crossbar arbiter the class, of the one granted. -/
abbrev Granted (x : Nat) (g y : Nat × Nat × Nat) : Prop := y.1 = g.1 ∧ (38 ≤ x ∨ y.2.1 = g.2.1)

/-- What a decision makes of a candidate's count `n`. -/
def lossNext (x : Nat) (g y : Nat × Nat × Nat) (n : Nat) : Nat :=
  if Granted x g y then 0 else if x ≤ 37 ∧ y.2.1 = 7 then n else min 16 (n + 1)

/-- What a decision makes of the table for one candidate. -/
def lossStep (x : Nat) (g : Nat × Nat × Nat) (t : Tbl Nat) (y : Nat × Nat × Nat) : Tbl Nat :=
  if Granted x g y then t.put (lossKey x y) 0
  else if x ≤ 37 ∧ y.2.1 = 7 then t
  else t.put (lossKey x y) (min 16 (t.look (lossKey x y) + 1))

/-- The counts after a decision are made candidate by candidate. -/
theorem lossAfter_cons (x : Nat) (t : Tbl Nat) (y : Nat × Nat × Nat) (cs : List (Nat × Nat × Nat)) (g : Nat × Nat × Nat) :
    lossAfter x t (y :: cs) g = lossAfter x (lossStep x g t y) cs g := rfl

/-- Only the candidate granted has its key. -/
theorem granted_iff_lossKey_eq {x : Nat} {g y : Nat × Nat × Nat} (h : y ≠ g → lossKey x y ≠ lossKey x g) :
    Granted x g y ↔ y = g := by
  constructor
  · rintro ⟨h1, h2⟩
    refine Decidable.byContradiction fun hne => h hne ?_
    unfold lossKey
    split
    · rw [h1, h2.resolve_left (by omega)]
    · exact h1
  · rintro rfl
    exact ⟨rfl, .inr rfl⟩

/-- Where no key repeats, a later candidate has not the key of the first. -/
theorem lossKey_ne_head {x : Nat} {y z : Nat × Nat × Nat} {cs : List (Nat × Nat × Nat)} (hn : ((z :: cs).map (lossKey x)).Nodup)
    (hy : y ∈ cs) : lossKey x y ≠ lossKey x z :=
  fun e => (List.nodup_cons.1 hn).1 (e ▸ List.mem_map_of_mem hy)

/-- Where no key repeats, two candidates have two keys. -/
theorem lossKey_ne_of_nodup {x : Nat} {y z : Nat × Nat × Nat} {cs : List (Nat × Nat × Nat)} (hn : (cs.map (lossKey x)).Nodup)
    (hy : y ∈ cs) (hz : z ∈ cs) (hne : y ≠ z) : lossKey x y ≠ lossKey x z := by
  induction cs with
  | nil => cases hy
  | cons w cs ih =>
    rcases List.mem_cons.1 hy with rfl | hy'
    · rcases List.mem_cons.1 hz with rfl | hz'
      · exact absurd rfl hne
      · exact (lossKey_ne_head hn hz').symm
    · rcases List.mem_cons.1 hz with rfl | hz'
      · exact lossKey_ne_head hn hy'
      · exact ih (List.nodup_cons.1 hn).2 hy' hz'

section Step
variable {x : Nat} {g y : Nat × Nat × Nat} {t : Tbl Nat}

theorem lossStep_wf (h : t.wf = true) : (lossStep x g t y).wf = true := by
  unfold lossStep
  split
  · exact Tbl.wf_put _ _ _ h
  · split
    · exact h
    · exact Tbl.wf_put _ _ _ h

theorem lossStep_look (h : t.wf = true) : (lossStep x g t y).look (lossKey x y) = lossNext x g y (t.look (lossKey x y)) := by
  unfold lossStep lossNext
  split
  · exact Tbl.look_put _ _ _ h
  · split
    · rfl
    · exact Tbl.look_put _ _ _ h

theorem lossStep_look_ne {k : Nat} (h : lossKey x y ≠ k) : (lossStep x g t y).look k = t.look k := by
  unfold lossStep
  split
  · exact Tbl.look_put_ne _ _ h.symm
  · split
    · rfl
    · exact Tbl.look_put_ne _ _ h.symm

end Step

/-- R102: the count of a candidate that is not eligible stays. -/
theorem lossAfter_look_absent {x k : Nat} {g : Nat × Nat × Nat} {cs : List (Nat × Nat × Nat)} (t : Tbl Nat)
    (h : ∀ y, y ∈ cs → lossKey x y ≠ k) : (lossAfter x t cs g).look k = t.look k := by
  induction cs generalizing t with
  | nil => rfl
  | cons y cs ih =>
    obtain ⟨hy, hcs⟩ := List.forall_mem_cons.1 h
    rw [lossAfter_cons, ih _ hcs, lossStep_look_ne hy]

/-- R102: an eligible candidate's count is made anew once. -/
theorem lossAfter_look_mem {x : Nat} {g y : Nat × Nat × Nat} {cs : List (Nat × Nat × Nat)} {t : Tbl Nat} (ht : t.wf = true)
    (hn : (cs.map (lossKey x)).Nodup) (hy : y ∈ cs) :
    (lossAfter x t cs g).look (lossKey x y) = lossNext x g y (t.look (lossKey x y)) := by
  induction cs generalizing t with
  | nil => cases hy
  | cons z cs ih =>
    rw [lossAfter_cons]
    rcases List.mem_cons.1 hy with rfl | hy
    · rw [lossAfter_look_absent _ fun w hw => lossKey_ne_head hn hw, lossStep_look ht]
    · rw [ih (lossStep_wf ht) (List.nodup_cons.1 hn).2 hy, lossStep_look_ne (lossKey_ne_head hn hy).symm]

/-- R102: counts stay within 0 to 16. -/
theorem lossAfter_look_le {x : Nat} {g : Nat × Nat × Nat} {cs : List (Nat × Nat × Nat)} {t : Tbl Nat} (ht : t.wf = true)
    (hn : (cs.map (lossKey x)).Nodup) (h : ∀ k, t.look k ≤ 16) (k : Nat) : (lossAfter x t cs g).look k ≤ 16 := by
  by_cases hk : ∃ y, y ∈ cs ∧ lossKey x y = k
  · obtain ⟨y, hy, rfl⟩ := hk
    rw [lossAfter_look_mem ht hn hy]
    have := h (lossKey x y)
    unfold lossNext
    split
    · omega
    · split <;> omega
  · rw [lossAfter_look_absent t fun y hy e => hk ⟨y, hy, e⟩]
    exact h k

/-! ### What a decision leaves of the scheduler -/

/-- What no step of a fold changes stays. -/
theorem foldl_keeps {α β γ : Type} (p : α → γ) {f : α → β → α} (h : ∀ a b, p (f a b) = p a) (l : List β) (a : α) :
    p (l.foldl f a) = p a :=
  List.foldlRecOn (motive := fun b => p b = p a) l f rfl fun b hb x _ => (h b x).trans hb

@[simp] theorem setShaper_arb (c : Chip) (ten : Bool) (k : Nat) (s : Shaper) (x : Nat) : (setShaper c ten k s).arb x = c.arb x := by
  unfold setShaper
  cases ten <;> rfl

/-- R121: a shaper that goes onto a wheel leaves the arbiters alone. -/
theorem parkHeads_arb (c : Chip) (x : Nat) : (parkHeads c).arb x = c.arb x := by
  unfold parkHeads
  refine foldl_keeps (fun c : Chip => c.arb x) (fun c l => ?_) _ _
  cases l.2.head? with
  | none => rfl
  | some q =>
    dsimp only
    split
    · rfl
    · exact foldl_keeps (fun c : Chip => c.arb x) (fun c s => setShaper_arb c _ _ _ x) _ _

@[simp] theorem countEvent_arb (c : Chip) (e : Happening) (n x : Nat) : (countEvent c e n).arb x = c.arb x :=
  congrArg (fun s : Sched => s.arbs.look x) (countEvent_sched c e n)

/-- R100: the groups that fall due change the bank and ENABLE of an arbiter, never its counts. -/
theorem arbNext_loss (c : Chip) (x : Nat) : (arbNext c x).loss = (c.arb x).loss := by
  unfold arbNext
  refine foldl_keeps Arbiter.loss (fun a g => foldl_keeps Arbiter.loss (fun a i => ?_) _ _) _ _
  cases i with
  | reg o v => dsimp only; split <;> rfl
  | cmd => rfl

/-! ### Decisions -/

/-- R101, R102: a decision that grants a head leaves its arbiter with the counts after it. -/
theorem decideWith_loss {c : Chip} {a : Arbiter} {o t : Nat} {g : Nat × Nat × Nat} {q : QPkt}
    (hw : winner c o a (slotOwner a o (t / 64 % 512)) (openAllowed c o (t / 64)) (candsOf c o) = some g)
    (hq : laneHead c (((g.1 * 38 + o) * 8 + g.2.1) * 10 + g.2.2) = some q) :
    ((decideWith c a o t).arb o).loss = lossAfter o a.loss (candsOf c o) g := by
  unfold decideWith
  simp only [hw, hq]
  rw [parkHeads_arb, countEvent_arb]
  refine congrArg Arbiter.loss (arb_back _ _ _ fun e => ?_)
  cases congrArg Arbiter.carry e

/-- An idle crossbar arbiter parks the heads that its shapers hold, then decides for the slot of the next cycle. -/
theorem arbiterDecision_idle {c : Chip} {x : Nat} (w : List Nat) (hx : x ≤ 37) (hc : (c.arb x).carry = none) :
    arbiterDecision x w c = decideWith (parkHeads c) (arbNext c x) x c.nextNow := by
  simp [arbiterDecision, hx, hc]

/-- A crossbar arbiter that carries a packet goes on. -/
theorem arbiterDecision_carrying {c : Chip} {x : Nat} {k : Carry} (w : List Nat) (hx : x ≤ 37) (hc : (c.arb x).carry = some k) :
    arbiterDecision x w c = c := by
  simp [arbiterDecision, hx, hc]

/-- The candidates of a pseudo-channel arbiter: the requesters 0 to 21 that wait. -/
abbrev waitingCands (w : List Nat) : List (Nat × Nat × Nat) := (w.filter (· ≤ 21)).eraseDups.map (fun i => (i, 8, 0))

/-- The owner of the next cycle's slot, by the table that is active in it. -/
abbrev nextOwner (c : Chip) (x : Nat) : Owner := slotOwner (arbNext c x) x (c.nextNow / 64 % 512)

/-- The requester that a pseudo-channel arbiter grants. -/
abbrev pcWinner (c : Chip) (x : Nat) (w : List Nat) : Option (Nat × Nat × Nat) :=
  winner c x (arbNext c x) (nextOwner c x) (openAllowed c x (c.nextNow / 64)) (waitingCands w)

/-- The losses are counted and the requester granted is remembered. -/
abbrev pcGrant (c : Chip) (x : Nat) (w : List Nat) (g : Nat × Nat × Nat) : Chip :=
  c.setArb x { c.arb x with loss := lossAfter x (arbNext c x).loss (waitingCands w) g, last := some g.1 }

section PseudoChannel
variable {c : Chip} {x : Nat} {w : List Nat} (h1 : 38 ≤ x) (h2 : x ≤ 101)
include h1 h2

theorem arbiterDecision_pc_none (hw : pcWinner c x w = none) : arbiterDecision x w c = c := by
  unfold arbiterDecision
  rw [if_neg (by omega), if_neg (by omega)]
  simp only [hw]

/-- R101, R102, R470: the grant of a pseudo-channel arbiter is counted, and an open slot granted is remembered. -/
theorem arbiterDecision_pc_some {g : Nat × Nat × Nat} (hw : pcWinner c x w = some g) :
    arbiterDecision x w c = countEvent
      (if nextOwner c x = .open_ then
        { pcGrant c x w g with pow := { c.pow with skip := c.pow.skip.put x (c.nextNow / 64 + 1) } } else pcGrant c x w g)
      { code := 0x061, quad := (x - 38) / 16, inst := x - 38 } := by
  unfold arbiterDecision
  rw [if_neg (by omega), if_neg (by omega)]
  simp only [hw]
  rfl

end PseudoChannel

/-- The pseudo-channel arbiter that has granted holds the counts after its decision. -/
theorem pcGrant_loss (c : Chip) (x : Nat) (w : List Nat) (g : Nat × Nat × Nat) :
    ((pcGrant c x w g).arb x).loss = lossAfter x (c.arb x).loss (waitingCands w) g := by
  rw [← arbNext_loss c x]
  refine congrArg Arbiter.loss (arb_back _ _ _ fun e => ?_)
  cases congrArg Arbiter.last e

/-- Settles O58: the counts follow from `lossAfter`'s laws, and each kind of arbiter is left with `lossAfter` of its counts. -/
theorem lossCountsFollowDecision : Obligations.LossCountsFollowDecision := by
  unfold Obligations.LossCountsFollowDecision
  refine ⟨?counts, ?xbar, ?pc⟩
  case counts =>
    intro x loss cs g key hwf hn hg t
    have granted : ∀ y, y ∈ cs → (Granted x g y ↔ y = g) := fun y hy =>
      granted_iff_lossKey_eq fun hne => lossKey_ne_of_nodup hn hy hg hne
    refine ⟨?_, fun y hy hne => ?_, fun k hk => lossAfter_look_absent loss hk, fun h k => lossAfter_look_le hwf hn h k⟩
    · exact (lossAfter_look_mem hwf hn hg).trans (if_pos ((granted g hg).2 rfl))
    · exact (lossAfter_look_mem hwf hn hy).trans (if_neg (mt (granted y hy).1 hne))
  case xbar =>
    intro s x w g q hx c cs a slot hc hw hq
    refine ⟨_, after_of rfl (arbiterDecision_idle w hx hc), ?_⟩
    rw [decideWith_loss hw hq, arbNext_loss]
  case pc =>
    intro s x w g h1 h2 c cs a slot hw
    refine ⟨_, after_of rfl (arbiterDecision_pc_some h1 h2 hw), ?_⟩
    rw [countEvent_arb]
    split <;> exact pcGrant_loss c x w g

end Sys2Proof.Machine
end

section
/-!
Arbitration and scheduling rows (R99, R101, R104, R109, R111, R112, R121, R122, R132, R544): preemption, fret parity and writes, gate
lists at their instants, egress flit boundaries.
-/
namespace Sys2Proof.Machine

/-! ### Preemption and fret parity -/

/-- R104: at the first cycle of an SC0 slot the output puts its packet back for an SC0 candidate and decides again. -/
theorem slotStart_preempts {c : Chip} {x : Nat} {k : Carry} (hx : x ≤ 37) (hc : (c.arb x).carry = some k) (hn : c.ft.newSlot = true)
    (ho : slotOwner (c.arb x) x (slotAt c.now) = .sc 0) (hk : k.sc ≠ 0) (ha : (candsOf c x).any (fun y => y.2.1 == 0) = true) :
    slotStart x c =
      let quad := if x < 32 then x / 8 else if x < 36 then x - 32 else 4
      let e := countEvent c { code := 0x021, quad := quad, inst := x, sc := k.sc, mc := k.lane % 10 }
      decideOutput (e.setArb x { c.arb x with carry := none }) x e.now := by
  have hx' : ¬ 37 < x := by omega
  unfold slotStart
  simp only [hc]
  rw [if_neg (by simp [hx', hn, ho, hk]), if_neg (by simp [ha])]

/-- R132: a parity error opens its slot in the bank that is active, and raises source 84. -/
theorem fretParity_opens {c : Chip} {x n : Nat} (hx : x ≤ 101) (hn : n ≤ 511) :
    fretParity x n c =
      let a := c.arb x
      raise (c.setArb x (if a.active then { a with badB := addOnce a.badB n } else { a with badA := addOnce a.badA n })) 84
        (srcInfo 5 x) :=
  if_neg (by omega)

/-! ### Gate lists at their instants -/

section Gates
variable {c : Chip} {p : Nat} {l : GateList}

/-- R112: a committed list becomes operational once its start has come. -/
theorem gateListStart_due (hp : (c.gate p).pending = some l) (hs : l.start ≤ c.now) :
    gateListStart p c = c.setGate p { c.gate p with oper := some l, pending := none, entry := entryAt l c.now } := by
  unfold gateListStart
  simp only [hp]
  exact if_neg (by omega)

/-- R111: an operational list moves to the entry that holds the instant. -/
theorem gateEntryBoundary_moves (hp : (c.gate p).oper = some l) (hs : l.start ≤ c.now) :
    gateEntryBoundary p c = c.setGate p { c.gate p with entry := entryAt l c.now } := by
  unfold gateEntryBoundary
  simp only [hp]
  exact if_neg (by omega)

end Gates

/-! ### Egress flit boundaries -/

section Egress
variable {c : Chip} {p : Nat} (hp : p < 128)
include hp

/-- R109: on a CXL port the class picked sends one flit. -/
theorem egressFlitBoundary_cxl {sc : Nat} {q : QPkt} (hl : portLink (markOverrun c p) p = none)
    (hs : ((markOverrun c p).port p).state = .l0 ∨ ((markOverrun c p).port p).state = .l0p)
    (hk : pickClass (markOverrun c p) p = some sc) (hq : stagedHead (markOverrun c p) p sc = some q) :
    egressFlitBoundary p c = sendCxlFlit (markOverrun c p) p sc q := by
  have up : ¬ (((markOverrun c p).port p).state ≠ .l0 ∧ ((markOverrun c p).port p).state ≠ .l0p) := fun h => hs.elim h.1 h.2
  unfold egressFlitBoundary
  rw [if_neg (by omega)]
  simp only [hl]
  rw [if_neg up]
  simp only [hk, hq, Option.bind_some, Option.map_some]

/-- R109, R247: on a Stolevo Link's port a whole SC0 packet that may start passes to an empty link layer. -/
theorem egressFlitBoundary_link {l : Nat} {q : QPkt} (hl : portLink (markOverrun c p) p = some l)
    (he : ((markOverrun c p).link l).sendSc0.isEmpty = true) (hq : stagedHead (markOverrun c p) p 0 = some q)
    (hw : q.cells ≤ q.moved) (hm : mayStart (markOverrun c p) p 0 q = true) :
    egressFlitBoundary p c = toLink (markOverrun c p) p l 0 q := by
  unfold egressFlitBoundary
  rw [if_neg (by omega)]
  simp [hl, he, hq, hw, hm]

end Egress

/-! ### Writes to an arbiter -/

section ArbWrite
variable {c : Chip} {path : Path} {x : Nat}

/-- R544: a write to an arbiter that no other group claims acts, with the arbiter claimed for the named group. -/
theorem arbWrite_free (off : Nat) (f : Chip → Chip) (h : claimedElsewhere c { kind := .arbiter, index := x } = false) :
    arbWrite c path x off f = f (claimArb c x) :=
  if_neg (Bool.eq_false_iff.1 h)

/-- R544: a write to an arbiter that another group claims is refused with CAUSE 2. -/
theorem arbWrite_claimed (off : Nat) (f : Chip → Chip) (h : claimedElsewhere c { kind := .arbiter, index := x } = true) :
    arbWrite c path x off f = rwcRefuse c path off 2 :=
  if_pos h

variable (v : BitVec 32) (hx : x < 102) (ho : pathOpen c path = true)
include hx ho

/-- R99: a fret write through an open path is a write to its arbiter. -/
theorem fretBankWrite_open {n : Nat} (hn : n < 256) :
    fretBankWrite path x n v c = arbWrite c path x (0x80000 + 0x800 * x + 4 * n) (fun c => fretSet c x n v) :=
  if_neg (by simp [ho]; omega)

/-- R103: a priority write through an open path is a write to its arbiter. -/
theorem arbPrioWrite_open {k : Nat} (hk : k < 8) :
    arbPrioWrite path x k v c = arbWrite c path x (0x80410 + 0x800 * x + 4 * k) (fun c => prioSet c x k v) :=
  if_neg (by simp [ho]; omega)

end ArbWrite

/-- Settles O18: each clause is the lemma about its row above; the wheels' rows are their definitions. -/
theorem arbitrationRowsComplete : Obligations.ArbitrationRowsComplete := by
  unfold Obligations.ArbitrationRowsComplete
  intro s
  refine ⟨?xbar, ?pc, fun x k hx hc hn ho hk ha => after_of rfl (slotStart_preempts hx hc hn ho hk ha),
    fun x n hx hn => after_of rfl (fretParity_opens hx hn), fun p l hp hs => after_of rfl (gateListStart_due hp hs),
    fun p l hp hs => after_of rfl (gateEntryBoundary_moves hp hs), after_of rfl rfl, after_of rfl rfl, ?egress, ?fret, ?prio⟩
  case xbar =>
    intro x w hx
    exact ⟨fun hc => after_of rfl (arbiterDecision_idle w hx hc), fun k hc => after_of rfl (arbiterDecision_carrying w hx hc)⟩
  case pc =>
    intro x w h1 h2 a slot own cs
    refine ⟨fun hw => after_of rfl (arbiterDecision_pc_none h1 h2 hw), fun g hw => ?_⟩
    have granted := arbiterDecision_pc_some h1 h2 hw
    exact ⟨fun ho => after_of rfl (granted.trans (by rw [if_neg ho])), fun ho => after_of rfl (granted.trans (by rw [if_pos ho]; rfl))⟩
  case egress =>
    intro p hp
    exact ⟨fun sc q hl hs hk hq => after_of rfl (egressFlitBoundary_cxl hp hl hs hk hq),
      fun l q hl he hq hw hm => after_of rfl (egressFlitBoundary_link hp hl he hq hw hm)⟩
  case fret =>
    intro path x n v hx hn ho
    have write := fretBankWrite_open v hx ho hn
    exact ⟨fun h => after_of rfl (write.trans (arbWrite_free _ _ h)), fun h => after_of rfl (write.trans (arbWrite_claimed _ _ h))⟩
  case prio =>
    intro path x k v hx hk ho
    have write := arbPrioWrite_open v hx ho hk
    exact ⟨fun h => after_of rfl (write.trans (arbWrite_free _ _ h)), fun h => after_of rfl (write.trans (arbWrite_claimed _ _ h))⟩

end Sys2Proof.Machine
end

section
/-!
The vendor commands of chapter 4 (R112, R116, R120, R124, R128): gate lists, port-class shapers, SC0 flows.
-/
namespace Sys2Proof.Machine

/-! ### Gate lists -/

/-- The port's gate lists with the list that GATE_LIST_SET commits. -/
abbrev gateCommitted (c : Chip) (d : Desc) : Gate :=
  { c.gate d.tgt with pending := some (gateListOf c d).1, basePast := (gateListOf c d).2 }

/-- The port's gate lists once GATE_LIST_SET has removed them. -/
abbrev gateRemoved (c : Chip) (d : Desc) : Gate := { c.gate d.tgt with oper := none, pending := none, entry := 0 }

theorem gateListSetDo_commits {c : Chip} {d : Desc} (h : glCount d ≠ 0) : gateListSetDo c d = c.setGate d.tgt (gateCommitted c d) := by
  unfold gateListSetDo
  rw [if_neg h]

theorem gateListSetDo_removes {c : Chip} {d : Desc} (h : glCount d = 0) : gateListSetDo c d = c.setGate d.tgt (gateRemoved c d) := by
  unfold gateListSetDo
  rw [if_pos h]

/-- R112: the commit ends with the start instant of the list committed. -/
theorem gateListSetEnd_committed {c : Chip} {d : Desc} (x : CmdRef) (h : glCount d ≠ 0) :
    gateListSetEnd (c.setGate d.tgt (gateCommitted c d)) x d =
      endCmd (c.setGate d.tgt (gateCommitted c d)) x (if (gateListOf c d).2 then .okBasePast else .ok)
        (leBytes 8 (gateListOf c d).1.start) := by
  have back := gate_setGate c d.tgt (gateCommitted c d) fun e => by cases congrArg Gate.pending e
  simp only [gateListSetEnd, if_neg h, back, Option.map_some, Option.getD_some]

/-- R112: GATE_LIST_SET commits a list that its checks and the admission check accept. -/
theorem gateListSet_commits (s : State) (r : Nat) (d : Desc) :
    Completes s (.gateListSet r d) 0x0150 r d
      (fun c => gateListSetCheck c d = none ∧ glCount d ≠ 0 ∧ admitFail c (c.setGate d.tgt (gateCommitted c d)) 0 = none)
      (fun c x => endCmd (c.setGate d.tgt (gateCommitted c d)) x (if (gateListOf c d).2 then .okBasePast else .ok)
        (leBytes 8 (gateListOf c d).1.start)) := by
  refine completes_of rfl ?_
  rintro c x ⟨hc, hn, ha⟩
  simp only [hc, gateListSetDo_commits hn]
  rw [admitOr_of_admitted x _ ha, gateListSetEnd_committed x hn]

/-- R112: GATE_LIST_SET without entries removes the lists. -/
theorem gateListSet_removes (s : State) (r : Nat) (d : Desc) :
    Completes s (.gateListSet r d) 0x0150 r d
      (fun c => gateListSetCheck c d = none ∧ glCount d = 0 ∧ admitFail c (c.setGate d.tgt (gateRemoved c d)) 0 = none)
      (fun c x => endCmd (c.setGate d.tgt (gateRemoved c d)) x .ok (leBytes 8 c.now)) := by
  refine completes_of rfl ?_
  rintro c x ⟨hc, hn, ha⟩
  simp only [hc, gateListSetDo_removes hn]
  exact (admitOr_of_admitted x _ ha).trans (if_pos hn)

/-- R116: GATE_LIST_QUERY reports the operational and the pending list. -/
theorem gateListQuery_completes (s : State) (r : Nat) (d : Desc) :
    Completes s (.gateListQuery r d) 0x0151 r d (fun _ => d.bufferOk r = true ∧ d.zeroBut [(16, 12)] = true)
      (fun c x =>
        let b := gateListBytes (c.gate d.tgt).oper ++ gateListBytes (c.gate d.tgt).pending
        endQuery c x d b.length b) := by
  refine completes_of rfl ?_
  rintro c x ⟨hb, hz⟩
  exact if_neg (by simp [hb, hz])

/-! ### Port-class shapers -/

/-- R120: PORT_SHAPER_SET sets a shaper that its checks and the admission check accept. -/
theorem portShaperSet_completes (s : State) (r : Nat) (d : Desc) :
    Completes s (.portShaperSet r d) 0x0104 r d
      (fun c => portShaperSetCheck d = none ∧ admitFail c (portShaperSetDo c d) 0 = none)
      (fun c x => endCmd (portShaperSetDo c d) x .ok) := by
  refine completes_of rfl ?_
  rintro c x ⟨hc, ha⟩
  rw [hc]
  exact admitOr_of_admitted x _ ha

/-! ### SC0 flows -/

/-- R124, R128: SC0_FLOW_ADD declares a flow that its checks and the admission check accept and ends with its term. -/
theorem sc0FlowAdd_completes (s : State) (r : Nat) (d : Desc) :
    Completes s (.sc0FlowAdd r d) 0x0240 r d
      (fun c => sc0FlowAddCheck c d = none ∧ admitFail c (sc0FlowAddDo c d) 0 = none)
      (fun c x => endCmd (sc0FlowAddDo c d) x .ok (leBytes 4 (ceilDiv ((sc0FlowAddDo c d).flow d.tgt).term 16))) := by
  refine completes_of rfl ?_
  rintro c x ⟨hc, ha⟩
  rw [hc]
  exact admitOr_of_admitted x _ ha

/-- R124: SC0_FLOW_REMOVE removes a flow that its checks and the admission check let go. -/
theorem sc0FlowRemove_completes (s : State) (r : Nat) (d : Desc) :
    Completes s (.sc0FlowRemove r d) 0x0241 r d
      (fun c => d.zeroBut [] = true ∧ sc0FlowRemoveEnd c (sc0FlowRemoveDo c d) d = none ∧ admitFail c (sc0FlowRemoveDo c d) 0 = none)
      (fun c x => endCmd (sc0FlowRemoveDo c d) x .ok) := by
  refine completes_of rfl ?_
  rintro c x ⟨hz, he, ha⟩
  dsimp only
  rw [if_neg (by simp [hz]), he]
  exact admitOr_of_admitted x _ ha

/-- R124: SC0_FLOW_QUERY reports the flow as it stands. -/
theorem sc0FlowQuery_completes (s : State) (r : Nat) (d : Desc) :
    Completes s (.sc0FlowQuery r d) 0x0242 r d (fun _ => d.zeroBut [] = true)
      (fun c x => let f := c.flow d.tgt
        endCmd c x .ok (leBytes 2 f.tenant ++ leBytes 1 f.ingress ++ leBytes 1 f.hopsIn ++ leBytes 2 f.dst ++
          leBytes 1 (f.path + 4 * f.m) ++ leBytes 4 (ceilDiv f.term 16) ++ leBytes 4 f.share)) := by
  refine completes_of rfl ?_
  intro c x hz
  exact if_neg (by simp [hz])

/-- Settles O19: each clause is the lemma about its command above. -/
theorem schedulingCommandsComplete : Obligations.SchedulingCommandsComplete := by
  unfold Obligations.SchedulingCommandsComplete
  intro s r d
  exact ⟨gateListSet_commits s r d, gateListSet_removes s r d, gateListQuery_completes s r d, portShaperSet_completes s r d,
    sc0FlowAdd_completes s r d, sc0FlowRemove_completes s r d, sc0FlowQuery_completes s r d⟩

end Sys2Proof.Machine
end

section
/-!
The entry point of a home slice (R159): a message that waits, the message taken, and what a REQ message that is taken must be.
-/
namespace Sys2Proof.Machine

/-! ### A message at its slice -/

/-- The queue of its slice once a message has arrived. -/
def queueWith (c : Chip) (x : SliceMsg) : List SliceMsg := c.home.inq.look (x.slice c) ++ [x.stamped c]

/-- The chip once a message waits in its slice. -/
def waitingIn (c : Chip) (x : SliceMsg) : Chip :=
  { c with home := { c.home with inq := c.home.inq.put (x.slice c) (queueWith c x) } }

/-- The chip from which the entry point of slice `h` has taken `y`, and `rest` stays. -/
def takenFrom (c : Chip) (h : Nat) (y : SliceMsg) (rest : List SliceMsg) : Chip :=
  { c with home := { c.home with
    inq := c.home.inq.put h rest
    entered := c.home.entered.put h (c.ivl + 1)
    lastIn := match y.req? with
      | some m => c.home.lastIn.put h (m.input + 1)
      | none => c.home.lastIn } }

/-- The queue with the message reads back: it is not empty. -/
theorem inq_waitingIn (c : Chip) (x : SliceMsg) : (waitingIn c x).home.inq.look (x.slice c) = queueWith c x :=
  Tbl.look_put_new _ _ _ (List.append_ne_nil_of_right_ne_nil _ (List.cons_ne_nil _ _))

/-- R159: an entry point that has taken a message in this core cycle takes no other. -/
theorem entryPoint_busy {c : Chip} {h : Nat} (he : c.home.entered.look h = c.ivl + 1) : entryPoint c h = c := if_pos he

/-- R159: an entry point that has taken none in this core cycle lets the one that it takes in. -/
theorem entryPoint_takes {c : Chip} {h : Nat} {y : SliceMsg} {rest : List SliceMsg} (he : c.home.entered.look h ≠ c.ivl + 1)
    (ht : takeEntry (c.home.lastIn.look h) (c.home.inq.look h) = some (y, rest)) :
    entryPoint c h = enterMsg (takenFrom c h y rest) y := by
  unfold entryPoint
  rw [if_neg he, ht]
  rfl

/-- R159: a message waits while others of its core cycle follow, or the slice has taken one. -/
theorem arriveMsg_waits {c : Chip} {x : SliceMsg} (h : x.more = true ∨ c.home.entered.look (x.slice c) = c.ivl + 1) :
    arriveMsg c x = waitingIn c x := by
  unfold arriveMsg
  cases hm : x.more with
  | true => rfl
  | false => exact entryPoint_busy (c := waitingIn c x) (h.resolve_left (by simp [hm]))

/-- R159: the last message of a core cycle lets in the one that the entry point takes. -/
theorem arriveMsg_takes {c : Chip} {x y : SliceMsg} {rest : List SliceMsg} (hm : x.more = false)
    (he : c.home.entered.look (x.slice c) ≠ c.ivl + 1)
    (ht : takeEntry (c.home.lastIn.look (x.slice c)) (queueWith c x) = some (y, rest)) :
    arriveMsg c x = enterMsg (takenFrom (waitingIn c x) (x.slice c) y rest) y := by
  have ht' : takeEntry ((waitingIn c x).home.lastIn.look (x.slice c)) ((waitingIn c x).home.inq.look (x.slice c)) = some (y, rest) := by
    rw [inq_waitingIn]
    exact ht
  unfold arriveMsg
  rw [hm]
  exact entryPoint_takes (c := waitingIn c x) he ht'

/-- The first REQ message of its input is the head of the input's queue. -/
theorem isHead_of_first {q : List SliceMsg} {y : SliceMsg} {n : MemReq} (hn : y.req? = some n)
    (hf : q.find? (fun z => (z.req?.map (·.input)) == some n.input) = some y) : isHead q y = true := by
  unfold isHead takeEntry.headReq
  rw [hn]
  exact beq_iff_eq.2 hf

end Sys2Proof.Machine
end

section
/-!
Requests, evictions and writes at their home slice (R148, R149, R154, R157, R158, R160, R188): what each does where its line is
of no domain, coherent, or held by an open transaction.
-/
namespace Sys2Proof.Machine

/-! ### Held and NACKed requests -/

/-- R160: a request that is not starving is NACKed. -/
theorem holdOrNack_early {c : Chip} {m : MemReq} (i : Bool) (h : m.nacks < 4) : holdOrNack c m i = sendNack c m := if_pos h

section Starving
variable {c : Chip} {m : MemReq} (i : Bool) (h : 4 ≤ m.nacks)
include h

/-- R160: a starving request is held behind the line's transaction while a starvation tracker is free. -/
theorem holdOrNack_held {u : Tracker} (hs : starveUsed c (lineSlice m.line) < 32) (hu : c.tracker m.line = some u) :
    holdOrNack c m i = c.setTracker m.line (some { u with starving := u.starving ++ [(m, i)] }) := by
  unfold holdOrNack
  simp only [if_neg (Nat.not_lt.2 h), if_pos hs, hu]

/-- R162: without a starvation tracker it is NACKed with source 96. -/
theorem holdOrNack_full (hs : 32 ≤ starveUsed c (lineSlice m.line)) : holdOrNack c m i = sendNack
    (raise { c with home := { c.home with starveOvf := c.home.starveOvf.put (lineSlice m.line) true } } 96
      (srcInfo 6 (lineSlice m.line))) m :=
  (if_neg (Nat.not_lt.2 h)).trans (if_neg (Nat.not_lt.2 hs))

end Starving

/-! ### Requests -/

section Req
variable {c e : Chip} {m : MemReq} (i : Bool) (he : touchLine (countReq c m 0) m.line m.ecc = e)
include he

/-- R158, R188: a request taken past its deadline is answered at once. -/
theorem enterReq_late (hl : isLate e (stamped e m) = true) : enterReq c m i = answerLate e (stamped e m) := by
  subst he
  exact if_pos hl

/-- R160: a request in time finds a transient line. -/
theorem enterReq_transient {u : Tracker} (hl : isLate e (stamped e m) = false) (hu : e.tracker m.line = some u) :
    enterReq c m i = holdOrNack e (stamped e m) i := by
  subst he
  exact (if_neg (Bool.eq_false_iff.1 hl)).trans (if_pos (by rw [hu]; rfl))

end Req

/-! ### Evictions -/

/-- R161: an eviction of a transient line is NACKed. -/
theorem enterEvict_transient {c : Chip} {m : MemReq} (h : (countReq c m 0).tracker m.line ≠ none) :
    enterEvict c m = sendNack (countReq c m 0) { m with evict := true } :=
  if_pos (.inl (Option.isSome_iff_ne_none.2 h))

/-- R148: an eviction takes its agent out of the line's record, and completes. -/
theorem enterEvict_leaves {c f : Chip} {m : MemReq} {d a : Nat} (h : (countReq c m 0).tracker m.line = none)
    (hp : poolUsed (countReq c m 0) (lineSlice m.line) 0 < sharedTrackers (countReq c m 0) (lineSlice m.line))
    (hd : lineDomain (countReq c m 0) m.line = some d) (hf : touchLine (countReq c m 0) m.line m.ecc = f)
    (ha : agentOf f d m = some a) (hc : (f.line m.line).agents.contains a = true) :
    let l := (f.line m.line).agents.erase a
    enterEvict c m = sendDone (putRec f d m.line (if l.isEmpty then .inv else (f.line m.line).state) l) m := by
  intro l
  unfold enterEvict
  dsimp only
  rw [if_neg (by simp [h, hp])]
  simp only [hd, hf, ha, hc, if_true]
  rfl

/-! ### Writes -/

section TransientWrite
variable {c e : Chip} {m : MemReq} (ptl : Bool) {t : Tracker} {a : Nat} (he : touchLine (countReq c m 1) m.line m.ecc = e)
  (ht : e.tracker m.line = some t) (hd : t.domain < 256) (ha : agentOf e t.domain (stamped e m) = some a)
include he ht hd ha

/-- R157: on a transient line the write of a snooped agent is its snoop's data. -/
theorem enterWrite_snooped (hp : t.pending.any (fun p => p.agent == a) = true) :
    enterWrite c m ptl = takeWrite e (stamped e m) ptl := by
  unfold enterWrite
  simp only [he, ht, if_pos hd, ha, hp, if_true]

/-- R151: on a transient line the write of an agent that is not snooped and does not hold the line is held. -/
theorem enterWrite_held (hp : t.pending.any (fun p => p.agent == a) = false)
    (hw : writerHolds e t.domain m.line (some a) m.want = false) : enterWrite c m ptl = holdWrite e (stamped e m) ptl := by
  have hw' : writerHolds e t.domain m.line (some a) (stamped e m).want = false := hw
  unfold enterWrite
  simp only [he, ht, if_pos hd, ha, hp, hw', Bool.false_eq_true, if_false]

end TransientWrite

/-- Settles O22: the entry point takes what `takeEntry` says; each kind of message then does what the lemma about it above says. -/
theorem coherentRequestsEnter : Obligations.CoherentRequestsEnter := by
  unfold Obligations.CoherentRequestsEnter
  intro s
  refine ⟨?arrive, ?entry, ?request, ?evict, ?write⟩
  case arrive =>
    intro row x h q wait
    have arrives : exec (row x) s = outcome s (arriveMsg s.chip x) := by cases x <;> rfl
    refine ⟨fun hw => after_of arrives (arriveMsg_waits hw), fun hm he => ?_⟩
    have some_taken := takeEntry_some (s.chip.home.lastIn.look h) q (List.append_ne_nil_of_right_ne_nil _ (List.cons_ne_nil _ _))
    obtain ⟨⟨y, rest⟩, ht⟩ := Option.isSome_iff_exists.1 some_taken
    exact ⟨y, rest, ht, after_of arrives (arriveMsg_takes hm he ht)⟩
  case entry =>
    intro last q x rest h
    obtain ⟨split, least⟩ := takeEntry_least h
    exact ⟨split, least, fun y m n hy hm hn hf => takeEntry_req h hm hy (isHead_of_first hn hf) hn⟩
  case request =>
    intro c m i n k e q t
    refine ⟨by cases i <;> rfl, fun hl => enterReq_late i rfl hl, fun hl u hu => ?_, fun hl hn hp => ?_⟩
    · have transient := enterReq_transient i rfl hl hu
      exact ⟨fun hm => transient.trans (holdOrNack_early (m := q) i hm),
        fun hm hs => transient.trans (holdOrNack_held (m := q) i hm hs hu),
        fun hm hs => transient.trans (holdOrNack_full (m := q) i hm hs)⟩
    · have starts := enterReq_starts c m i e rfl hl (by rw [hn]; rfl) hp
      refine ⟨fun hd => ?_, ?_⟩
      · have onPrivate := starts.trans (startReq_private 7 e q i 0 _ hd rfl)
        exact ⟨fun hi => onPrivate.trans (if_neg (Bool.eq_false_iff.1 hi)), fun hi => onPrivate.trans (if_pos hi)⟩
      · intro d e' hd st hold r w p t' hf hc
        have fits := starts.trans (startReq_fits 7 e e' q i 0 d _ p w hd rfl rfl rfl hf hc)
        refine ⟨fun hs => ?_, fun hs => ?_⟩
        · have granted := fits.trans (if_pos hs)
          exact ⟨fun hi => granted.trans (if_neg (Bool.eq_false_iff.1 hi)), fun hi => granted.trans (if_pos hi)⟩
        · have snoops := fits.trans (if_neg (Bool.eq_false_iff.1 hs))
          exact ⟨fun hi => snoops.trans (if_neg (Bool.eq_false_iff.1 hi)), fun hi => snoops.trans (if_pos hi)⟩
  case evict =>
    intro c m n e
    refine ⟨enterEvict_transient, ?_⟩
    intro hn hp d a hd f ha hc
    exact enterEvict_leaves hn hp hd rfl ha hc
  case write =>
    intro c m ptl n e q pool
    refine ⟨by cases ptl <;> rfl, fun hn hd => ?_, fun hn d a hd ha hs hh => ?_, fun t ht hd a ha => ?_⟩
    · have onPrivate := (enterWrite_starts c m ptl e rfl hn).trans (startWrite_private 7 e q ptl pool hd)
      refine ⟨fun ⟨hp, hr⟩ => onPrivate.trans (if_pos ?_), fun p hp => onPrivate.trans ?_⟩
      · rw [hp, show mustRead e q.line ptl = true from hr]
        rfl
      · rw [hp]
        exact if_neg (by simp)
    · exact (enterWrite_starts c m ptl e rfl hn).trans (startWrite_owner 7 e q ptl pool d a hd ha hs hh)
    · exact ⟨enterWrite_snooped ptl rfl ht hd ha, enterWrite_held ptl rfl ht hd ha⟩

end Sys2Proof.Machine
end

section
/-!
Rows of a coherence transaction (R149, R151, R153, R154, R158, R161, R167, R188): snoop responses, conflicts, NACKs, data at hand,
held snoops, BISNP_TIMEOUT and the response deadline.
-/
namespace Sys2Proof.Machine

/-! ### Snoop responses -/

/-- Where a pending bit awaits the response of its agent. -/
abbrev awaited (t : Tracker) (m : SnoopRsp) : Option SnoopDest := t.pending.find? (fun p => p.agent == m.agent && p.sent)

/-- The response is none that the snoop admits (Table 5.7). -/
abbrev wrongAnswer (p : SnoopDest) (m : SnoopRsp) : Bool := (m.kind != .rspI && p.op == .inv) || (m.kind == .rspE && p.op == .data)

section Response
variable {c : Chip} {m : SnoopRsp} {t : Tracker} (ht : c.tracker m.line = some t)
include ht

/-- R149: a response that nobody awaits, or of a block form, is discarded. -/
theorem enterRsp_discarded (h : awaited t m = none ∨ m.block = true) : enterRsp c m = discardRsp c t.domain m.agent := by
  unfold enterRsp
  simp only [ht]
  rcases h with h | h
  · simp only [h]
  · simp only [h]
    cases t.pending.find? (fun p => p.agent == m.agent && p.sent) <;> rfl

variable {p : SnoopDest} (hp : awaited t m = some p) (hb : m.block = false)
include hp hb

/-- R149: a response that is due clears its agent's bit. -/
theorem enterRsp_due (hw : wrongAnswer p m = false) :
    enterRsp c m = clearBit c m.line m.agent (m.kind == .rspI) (m.kind == .rspS) := by
  unfold enterRsp
  simp only [ht, hp, hb]
  exact if_pos (by simp [hw])

/-- R149: a wrong answer to the repeated snoop is the agent's death. -/
theorem enterRsp_wrongAgain (hw : wrongAnswer p m = true) (ha : p.again = true) :
    enterRsp c m = (killAgent (raise c 103 (srcInfo 10 (c.agent t.domain m.agent).tenant)) t.domain m.agent false true).1 := by
  unfold enterRsp
  simp only [ht, hp, hb]
  exact (if_neg (by simp [hw])).trans (if_pos ha)

end Response

/-- R151: a bit is cleared in the line's tracker, and the last one ends the snoops. -/
theorem clearBit_tracker {c : Chip} {n a : Nat} {t : Tracker} (gone toS : Bool) (ht : c.tracker n = some t) :
    let ps := t.pending.filter (fun p => p.agent != a)
    let e := c.setTracker n (some { t with
      pending := ps, gone := if gone then addOnce t.gone a else t.gone, toShared := if toS then addOnce t.toShared a else t.toShared })
    clearBit c n a gone toS = if ps.isEmpty then snoopsDone e n else e := by
  intro ps e
  unfold clearBit
  rw [ht]

/-! ### Conflicts, NACKs and retries -/

/-- R153: a conflict with an accepted request waits for its completion. -/
theorem biconflict_waits {c : Chip} {p n : Nat} (h : requestOpen c p n = true) :
    biconflict p n true c = { c with home := { c.home with conflicts := c.home.conflicts ++ [(p, n)] } } :=
  if_pos (by rw [h]; rfl)

/-- R153: any other conflict is acknowledged at once. -/
theorem biconflict_acknowledged {c : Chip} {p n : Nat} {accepted : Bool} (h : (accepted && requestOpen c p n) = false) :
    biconflict p n accepted c = c.emit (.conflictAck p n) :=
  if_neg (Bool.eq_false_iff.1 h)

/-- The chip once the port agent holds a NACKed request. -/
def nackHeld (p : Nat) (m : MemReq) (c : Chip) : Chip :=
  { c with home := { c.home with
    nacked := c.home.nacked ++ [{ port := p, since := c.ivl, req := { m with nacks := min 7 (m.nacks + 1) } }] } }

/-- The chip once counters have counted a request that starves (Table 19.1, event 0x032). -/
def starvingCounted (c : Chip) (m : MemReq) : Chip := countEvent c (lineEvent c m.line 0x032 m.fab)

/-- Only the fourth NACK makes a request starving. -/
theorem starves_iff (k : Nat) : (k < 4 ∧ 4 ≤ min 7 (k + 1)) ↔ k = 3 := by omega

section Nack
variable {c : Chip} {m : MemReq} (p : Nat) (he : m.evict = false)
include he

/-- R161: a NACKed request is held with its count raised. -/
theorem nack_held (h : m.nacks ≠ 3) : nack p m c = nackHeld p m c := by
  unfold nack
  dsimp only
  rw [if_neg (by simp [he]), if_neg (mt (starves_iff m.nacks).1 h)]
  rfl

/-- R161: the fourth NACK of a request is counted. -/
theorem nack_starving_noDomain (h : m.nacks = 3) (hd : lineDomain (starvingCounted c m) m.line = none) :
    nack p m c = nackHeld p m (starvingCounted c m) := by
  unfold starvingCounted at hd
  unfold nack
  dsimp only
  rw [if_neg (by simp [he]), if_pos ((starves_iff m.nacks).2 h), hd]
  rfl

/-- R161: on a coherent line the domain counts a starving request as well. -/
theorem nack_starving_coherent {d : Nat} (h : m.nacks = 3) (hd : lineDomain (starvingCounted c m) m.line = some d) :
    nack p m c = nackHeld p m ((starvingCounted c m).modDomain d (fun x => { x with starving := x.starving + 1 })) := by
  unfold starvingCounted at hd
  unfold nack
  dsimp only
  rw [if_neg (by simp [he]), if_pos ((starves_iff m.nacks).2 h), hd]
  rfl

end Nack

/-- R161: a request whose backoff has passed is sent again. -/
theorem retryBackoffExpire_resends {c : Chip} {p n : Nat} {w : NackWait} {rest : List NackWait}
    (h : takeFirst (fun w => w.port == p && w.req.line == n && c.past w.since (ns c.home.backoff)) c.home.nacked = some (w, rest)) :
    retryBackoffExpire p n c = Chip.emit { c with home := { c.home with nacked := rest } } (.resend p w.req) := by
  unfold retryBackoffExpire
  rw [h]

/-! ### Data at hand -/

/-- R151: data at hand answers a waiting read that no partial write precedes, and ends its transaction. -/
theorem dataAtHand_answers {c : Chip} {n : Nat} {t : Tracker} {m : MemReq} {x : Line × Bool} (ht : c.tracker n = some t)
    (hx : t.data = some x) (hu : t.purpose = .read m false) (ha : t.answered = false) (hp : t.patch = []) (hr : t.phase = .rdPend) :
    dataAtHand c n x.1 x.2 = closeLine (sendDrs (c.setTracker n (some t)) m t.want x.1 x.2) n := by
  cases t
  cases hx; cases hu; cases ha; cases hp; cases hr
  unfold dataAtHand
  rw [ht]
  rfl

section DataReady
variable {c e : Chip} {n : Nat} {t : Tracker} (ht : c.tracker n = some t) (hw : wantsData t = true) (hr : t.phase = .rdPend)
  (hn : c.pool.reads.look n = none)
include ht hw hr hn

/-- R151: data that a transaction holds in its tracker is at hand. -/
theorem lineDataReady_held {x : Line × Bool} (hx : t.data = some x) : lineDataReady n c = dataAtHand c n x.1 x.2 := by
  unfold lineDataReady
  simp only [ht]
  rw [if_neg (by simp [hw, hr, hn]), hx]

/-- R151: so is the line cache's. -/
theorem lineDataReady_cached {i : Nat} (hx : t.data = none) (hf : findWay c n = (e, some i)) :
    let w := e.way (wayKey (lineSlice n) (lineSet n) i)
    lineDataReady n c = dataAtHand e n w.data w.poison := by
  unfold lineDataReady
  simp only [ht]
  rw [if_neg (by simp [hw, hr, hn])]
  simp only [hx, hf]

/-- R151: data that is nowhere at hand is read from backing. -/
theorem lineDataReady_missed (hx : t.data = none) (hf : findWay c n = (e, none)) : lineDataReady n c = startRead e n := by
  unfold lineDataReady
  simp only [ht]
  rw [if_neg (by simp [hw, hr, hn])]
  simp only [hx, hf]
  exact if_pos (.inl hr)

end DataReady

/-! ### Held snoops and BISNP_TIMEOUT -/

/-- R154: a held snoop that can be sent is sent. -/
theorem snoopReachable_sends {c e : Chip} {n a : Nat} {t : Tracker} {p : SnoopDest} (ht : c.tracker n = some t)
    (hp : t.pending.find? (fun p => p.agent == a && !p.sent) = some p)
    (hs : sendSnoop c (c.agent t.domain a).fab n t.sc p.op = some e) :
    snoopReachable n a c = e.setTracker n (some { t with
      pending := t.pending.map (fun q => if q.agent = a then { q with sent := true } else q) }) := by
  unfold snoopReachable
  simp only [ht, hp, hs]

/-- R152, R154: a snoop to an agent of this device whose port is up goes at once. -/
theorem sendSnoop_local {c : Chip} {fab : Nat} (n sc : Nat) (op : SnoopOp) (hr : reachable c fab = true)
    (hl : feLocal (feOf c fab) = true) : sendSnoop c fab n sc op = some (c.emit (.snoop fab n sc op)) :=
  (if_neg (by simp [hr])).trans (if_pos hl)

/-- R167: past BISNP_TIMEOUT source 97 is raised, once for the destination. -/
theorem bisnpTimeout_raises {c : Chip} {n a : Nat} {t : Tracker} {p : SnoopDest} (ht : c.tracker n = some t)
    (hp : t.pending.find? (fun p => p.agent == a && !p.raised && c.past p.since (us c.home.snpTime)) = some p) :
    bisnpTimeout n a c = raise (c.setTracker n (some { t with
      pending := t.pending.map (fun q => if q.agent = a then { q with raised := true } else q) })) 97 (srcInfo 6 (lineSlice n)) := by
  unfold bisnpTimeout
  simp only [ht, hp]

/-! ### The response deadline -/

section Deadline
variable {c : Chip} {n : Nat} {t : Tracker} {m : MemReq} {i : Bool} (ht : c.tracker n = some t) (hu : t.purpose = .read m i)
  (hs : t.starving = []) (hw : t.waiting = [])
include ht hu hs hw

/-- R158, R188: what the deadline does to a read behind which nothing is held. -/
theorem trackerLate_read : trackerLate c n =
    if t.answered ∨ !isLate c m then c.setTracker n (some t)
    else
      let c1 := c.setTracker n (some { t with answered := true })
      let c2 := if t.phase = .rdPend ∧ t.domain < 256 then putRec c1 t.domain n t.before.1 t.before.2 else c1
      let c3 := answerLate c2 m
      if readStuck c3 n then endLine (endRead c3 n) n else c3 := by
  cases t
  cases hu; cases hs; cases hw
  unfold trackerLate
  rw [ht]
  simp only [setTracker_setTracker]
  rfl

end Deadline

/-- Where no completion waits, none is late. -/
@[simp] theorem lateCmps_nil (c : Chip) (n : Nat) : lateCmps c n [] = 0 := rfl

/-- No missed deadline, no effect. -/
@[simp] theorem missAll_zero (c : Chip) (n : Nat) : missAll c n 0 = c := rfl

/-- R158, R188: where requests wait for a way or a map alone, those that are late are answered. -/
theorem waitingLate_stalled {c : Chip} (n : Nat) (h1 : c.home.nacked = []) (h2 : c.pool.writes = []) (h3 : c.pool.ops = [])
    (h4 : c.pool.held = []) :
    waitingLate c n = (c.home.stalled.filter (fun q => q.1.line == n && isLate c q.1)).foldl (fun c q => answerLate c q.1)
      { c with home := { c.home with stalled := c.home.stalled.filter (fun q => !(q.1.line == n && isLate c q.1)) } } := by
  unfold waitingLate splitLate
  simp only [h1, h2, h3, h4, List.partition_eq_filter_filter, Function.comp_def, List.map_nil, List.filter_nil, List.foldl_nil,
    lateCmps_nil, Nat.add_zero, missAll_zero]
  rw [← h1, ← h2, ← h3, ← h4]

/-- Settles O23: each clause is the lemma about its row above. -/
theorem coherentTransactionRowsComplete : Obligations.CoherentTransactionRowsComplete := by
  unfold Obligations.CoherentTransactionRowsComplete
  intro s
  refine ⟨?response, ?arrival, ?conflict, ?nack, fun p n w rest h => after_of rfl (retryBackoffExpire_resends h), ?data, ?snoop,
    fun n a t p ht hp => after_of rfl (bisnpTimeout_raises ht hp), fun n => after_of rfl rfl, ?deadline,
    fun c n h1 h2 h3 h4 => waitingLate_stalled n h1 h2 h3 h4⟩
  case response =>
    intro c m t ht dest
    refine ⟨enterRsp_discarded ht, ?_⟩
    intro p hp hb wrong warned
    exact ⟨fun hw => (enterRsp_due ht hp hb hw).trans (clearBit_tracker _ _ ht), enterRsp_wrongAgain ht hp hb⟩
  case arrival =>
    intro m hm hq he
    have alone : queueWith s.chip (.rsp m) = [.rsp m] := congrArg (· ++ [SliceMsg.rsp m]) hq
    have taken : takeEntry (s.chip.home.lastIn.look (lineSlice m.line)) (queueWith s.chip (.rsp m)) = some (.rsp m, []) := by
      rw [alone]
      rfl
    have arrives := after_of (i := .birsp m) (s := s) rfl (arriveMsg_takes (x := .rsp m) hm he taken)
    unfold waitingIn at arrives
    rw [alone] at arrives
    exact arrives
  case conflict =>
    intro p n
    exact ⟨fun h => after_of rfl (biconflict_waits h), fun h => after_of rfl (biconflict_acknowledged (by rw [h]; rfl)),
      after_of rfl (biconflict_acknowledged rfl)⟩
  case nack =>
    intro p m wait
    refine ⟨fun h => after_of rfl (if_pos h), fun he h => after_of rfl (nack_held p he h), ?_⟩
    intro he h c
    exact ⟨fun hd => after_of rfl (nack_starving_noDomain p he h hd), fun d hd => after_of rfl (nack_starving_coherent p he h hd)⟩
  case data =>
    intro n t ht hw hr hn
    refine ⟨fun m x hx hu ha hp => after_of rfl ((lineDataReady_held ht hw hr hn hx).trans (dataAtHand_answers ht hx hu ha hp hr)),
      fun hx => ⟨?_, fun c hf => after_of rfl (lineDataReady_missed ht hw hr hn hx hf)⟩⟩
    intro c i hf w
    exact after_of rfl (lineDataReady_cached ht hw hr hn hx hf)
  case snoop =>
    intro n a t p c ht hp fab
    exact ⟨fun hs => after_of rfl (snoopReachable_sends ht hp hs), fun hr hl => sendSnoop_local n t.sc p.op hr hl⟩
  case deadline =>
    intro c n t m i ht hu hs hw
    have late := trackerLate_read ht hu hs hw
    refine ⟨?_, fun h => late.trans (if_pos (h.imp_right (by simp)))⟩
    intro ha hl c1 c2 c3
    exact late.trans (if_neg (by simp [ha, hl]))

end Sys2Proof.Machine
end

section
/-!
Coherence domains and their agents (R136 to R138, R142, R155, R156): the commands, and the ends of unbinding, of life and of a sweep.
-/
namespace Sys2Proof.Machine

/-! ### Domains -/

/-- Table 5.1: a timer field of all ones keeps the value, one in range sets it. -/
theorem timerField_takes {bits lo hi step v : Nat} (cur : Nat) (h : v = 2 ^ bits - 1 ∨ (lo ≤ v ∧ v ≤ hi ∧ v % step = 0)) :
    timerField bits lo hi step cur v = some (if v = 2 ^ bits - 1 then cur else v) := by
  unfold timerField
  split
  · rfl
  · rename_i hv
    exact if_pos (h.resolve_left hv)

/-- The domain that DOMAIN_CREATE asks for. -/
def domainOfDesc (d : Desc) : Domain :=
  { present := true, tags := bitOf (d.byte 16) 0, entries := d.u32 20, keep := bitOf (d.byte 16) 1,
    sc := if field (d.byte 16) 2 3 = 0 then 5 else field (d.byte 16) 2 3 }

/-- R136, R138: DOMAIN_CREATE makes a domain that is new and that the directory region holds, and sets the timers it names. -/
theorem domainCreate_completes (s : State) (r : Nat) (d : Desc) :
    Completes s (.domainCreate r d) 0x0B00 r d
      (fun c => d.zeroBut [(16, 1), (20, 4), (24, 2), (28, 4), (32, 4)] = true ∧ d.byte 16 < 32 ∧ d.u32 20 ≠ 0 ∧
        d.u32 20 % (if bitOf (d.byte 16) 0 then 256 else 128) = 0 ∧ (c.domain d.tgt).present = false ∧
        (d.u16 24 = 65535 ∨ (d.u16 24 ≤ 1000 ∧ d.u16 24 % 2 = 0)) ∧
        (d.u32 28 = 4294967295 ∨ (1 ≤ d.u32 28 ∧ d.u32 28 ≤ 100000)) ∧ (d.u32 32 = 4294967295 ∨ (1 ≤ d.u32 32 ∧ d.u32 32 ≤ 10000)) ∧
        dirBytes (c.setDomain d.tgt (domainOfDesc d)) ≤ c.hbm.dirSize * 2 ^ 28)
      (fun c x => let e := c.setDomain d.tgt (domainOfDesc d)
        endCmd { e with home := { e.home with
          backoff := if d.u16 24 = 65535 then c.home.backoff else d.u16 24
          snpTime := if d.u32 28 = 4294967295 then c.home.snpTime else d.u32 28
          deadTime := if d.u32 32 = 4294967295 then c.home.deadTime else d.u32 32 } } x .ok (leBytes 4 (d.u32 20))) := by
  refine completes_of rfl ?_
  rintro c x ⟨hz, hb, hn, hm, hp, h1, h2, h3, hs⟩
  have t1 := timerField_takes (bits := 16) (lo := 0) (hi := 1000) (step := 2) c.home.backoff (by simpa using h1)
  have t2 := timerField_takes (bits := 32) (lo := 1) (hi := 100000) (step := 1) c.home.snpTime (by simpa [Nat.mod_one] using h2)
  have t3 := timerField_takes (bits := 32) (lo := 1) (hi := 10000) (step := 1) c.home.deadTime (by simpa [Nat.mod_one] using h3)
  dsimp only
  rw [t1, t2, t3]
  dsimp only
  rw [if_neg (by rw [hm]; simp [hz, hb, hn]), if_neg (by simp [hp])]
  exact if_neg (Nat.not_lt.2 hs)

/-- R138: DOMAIN_DESTROY frees a domain without windows and agents. -/
theorem domainDestroy_completes (s : State) (r : Nat) (d : Desc) :
    Completes s (.domainDestroy r d) 0x0B01 r d
      (fun c => d.zeroBut [] = true ∧ c.pool.windows.any (fun w => w.2.present && w.2.domain == d.tgt) = false ∧
        (c.domain d.tgt).agents.any (fun a => a.2.bound) = false)
      (fun c x => endCmd (dropDomain c d.tgt) x .ok) := by
  refine completes_of rfl ?_
  rintro c x ⟨hz, hw, ha⟩
  exact (if_neg (by simp [hz])).trans (if_neg (by simp only [hw, ha]; decide))

/-- R136: DOMAIN_QUERY with a good buffer reports the domain as it stands. -/
theorem domainQuery_completes (s : State) (r : Nat) (d : Desc) :
    Completes s (.domainQuery r d) 0x0B05 r d (fun _ => d.zeroBut [(16, 12)] = true ∧ d.bufferOk r = true)
      (fun c x => let y := c.domain d.tgt
        endQuery c x d (Config.queryBytes 0x0B05) (openFields
          [nat1 y.tags, (y.agents.filter (fun a => a.2.bound)).length, entriesUsed c d.tgt, y.victims, y.nacks, y.starving])) := by
  refine completes_of_ring rfl ?_
  rintro c x hr ⟨hz, hb⟩
  exact if_neg (by simp [hz, hb, hr])

/-! ### Agents -/

/-- R137, R142: AGENT_BIND binds an agent that its checks accept. -/
theorem agentBind_completes (s : State) (r : Nat) (d : Desc) :
    Completes s (.agentBind r d) 0x0B02 r d (fun c => agentBindCheck c d = none)
      (fun c x => agentBindEnd (agentBindDo c d) x d) := by
  refine completes_of rfl ?_
  intro c x h
  rw [h]

/-- R156: AGENT_UNBIND of a bound agent that no other one unbinds begins the flush; a deadline of 0 is 100 ms. -/
theorem agentUnbind_completes (s : State) (r : Nat) (d : Desc) :
    Completes s (.agentUnbind r d) 0x0B03 r d
      (fun c => d.zeroBut [(16, 2), (20, 4)] = true ∧ d.u32 20 ≤ 10000000 ∧ (c.agent d.tgt (d.u16 16)).bound = true ∧
        ((c.agent d.tgt (d.u16 16)).unbind.bind (·.cmd)) = none)
      (fun c x => beginFlush c d.tgt (d.u16 16) (us (if d.u32 20 = 0 then 100000 else d.u32 20)) (some x)) := by
  refine completes_of rfl ?_
  rintro c x ⟨hz, hd, hb, hu⟩
  have inRange : ¬ 10000000 < (if d.u32 20 = 0 then 100000 else d.u32 20) := by
    split <;> omega
  dsimp only
  rw [if_neg (by simp [hz, inRange]), if_neg (by simp [hb])]
  exact if_neg (by simp [hu])

/-- R155: AGENT_REMOVE kills a bound agent and reports its lines and those lost. -/
theorem agentRemove_completes (s : State) (r : Nat) (d : Desc) :
    Completes s (.agentRemove r d) 0x0B04 r d
      (fun c => d.zeroBut [(16, 2)] = true ∧ (c.agent d.tgt (d.u16 16)).bound = true)
      (fun c x => let k := killAgent c d.tgt (d.u16 16) true true
        endCmd k.1 x .ok (leBytes 4 k.2.1 ++ leBytes 4 k.2.2)) := by
  refine completes_of rfl ?_
  rintro c x ⟨hz, hb⟩
  have accepted : agentRemoveCheck c d = none := (if_neg (by simp [hz])).trans (if_neg (by simp [hb]))
  rw [accepted]

/-! ### The end of unbinding -/

section Unbinding
variable {c : Chip} {d a : Nat} {u : Unbinding} (hu : (c.agent d a).unbind = some u)
include hu

section Empty
variable (hh : holdsNothing c d a = true)
include hh

/-- R156: an agent that holds nothing leaves its domain, once its sweep ends where one runs. -/
theorem agentUnbindEnd_leaves {x : CmdRef} (hc : u.cmd = some x) :
    agentUnbindEnd d a c = endCmd (if (c.agent d a).dead then c.modAgent d a (fun y => { y with unbind := none, removed := true })
      else c.setAgent d a {}) x .ok (leBytes 4 u.flushed) := by
  unfold agentUnbindEnd
  simp only [hu, hh, hc]
  rfl

/-- R325: the flush of a drain is counted with its tenant. -/
theorem agentUnbindEnd_drained (hc : u.cmd = none) :
    agentUnbindEnd d a c = Chip.modTenant (c.modAgent d a (fun y => { y with unbind := none })) u.tenant
      (fun t => { t with drain := t.drain.map (fun dr => { dr with flushed := dr.flushed + u.flushed }) }) := by
  unfold agentUnbindEnd
  simp only [hu, hh, hc]
  rfl

end Empty

/-- R156: at its deadline what the agent still holds is handled as a death. -/
theorem agentUnbindDeadline_dies {x : CmdRef} (hc : u.cmd = some x) (hd : u.deadline ≤ c.ivl) :
    agentUnbindDeadline d a c = endCmd (killAgent (c.modAgent d a (fun y => { y with unbind := none })) d a true true).1 x .drainTimeout
      (leBytes 4 u.flushed) := by
  unfold agentUnbindDeadline
  simp only [hu, hc]
  exact if_neg (Nat.not_lt.2 hd)

end Unbinding

/-! ### Death and sweep -/

section Dead
variable {c : Chip} {d a : Nat}

/-- A snoop to the agent has been pending for AGENT_DEAD_TIME. -/
def snoopStuck (c : Chip) (d a : Nat) : Prop :=
  ∃ e ∈ c.home.trackers, ∃ t, e.2 = some t ∧ t.domain = d ∧
    t.pending.any (fun p => p.agent == a && c.past p.since (ms c.home.deadTime)) = true

/-- R155: a bound agent whose port has been down, or to which a snoop has been pending, for AGENT_DEAD_TIME is declared dead. -/
theorem agentDeadTimeExpire_kills (hb : (c.agent d a).bound = true) (hd : (c.agent d a).dead = false)
    (h : (∃ t, (c.agent d a).downAt = some t ∧ c.past t (ms c.home.deadTime) = true) ∨ snoopStuck c d a) :
    agentDeadTimeExpire d a c = (killAgent c d a false true).1 := by
  unfold agentDeadTimeExpire
  have live : ((c.agent d a).bound && !(c.agent d a).dead) = true := by simp [hb, hd]
  refine if_pos ((Bool.and_eq_true _ _).mpr ⟨live, (Bool.or_eq_true _ _).mpr (h.imp ?down ?stuck)⟩)
  case down =>
    rintro ⟨t, ht, hp⟩
    simp only [ht, hp]
  case stuck =>
    rintro ⟨e, he, t, ht, hm, hp⟩
    exact List.any_eq_true.2 ⟨e, he, by simp only [ht, hm, hp, beq_self_eq_true, Bool.and_self]⟩

/-- R155: the sweep of an agent ends, and with it the reset of a tenant that waits for no other. -/
theorem agentSweepEnd_runs (hs : c.home.sweeps.contains (d, a) = true) :
    agentSweepEnd d a c = resetDone (endSweep c d a) (c.agent d a).tenant :=
  if_neg (by rw [hs]; decide)

end Dead

/-- Settles O24: each clause is the lemma about its command or its row above. -/
theorem agentAndDomainRowsComplete : Obligations.AgentAndDomainRowsComplete := by
  unfold Obligations.AgentAndDomainRowsComplete
  intro s
  refine ⟨fun r d => ?commands, ?unbinding, fun d a hb hd h => after_of rfl (agentDeadTimeExpire_kills hb hd h), ?sweep⟩
  case commands =>
    exact ⟨domainCreate_completes s r d, domainDestroy_completes s r d, agentBind_completes s r d, agentUnbind_completes s r d,
      agentRemove_completes s r d, domainQuery_completes s r d⟩
  case unbinding =>
    intro d a u hu
    refine ⟨fun x hc hh hd => after_of rfl ?_, fun x hc hh hd => after_of rfl ?_,
      fun hc hh => after_of rfl (agentUnbindEnd_drained hu hh hc), fun x hc hd => after_of rfl (agentUnbindDeadline_dies hu hc hd)⟩
    · rw [agentUnbindEnd_leaves hu hh hc, hd]
      rfl
    · rw [agentUnbindEnd_leaves hu hh hc, hd]
      rfl
  case sweep =>
    intro d a hs c t
    have sweep := agentSweepEnd_runs hs
    exact ⟨fun h => after_of rfl (sweep.trans (congrArg (resetDone · t) (if_pos h))),
      fun h => after_of rfl (sweep.trans (congrArg (resetDone · t) (if_neg (Bool.eq_false_iff.1 h))))⟩

end Sys2Proof.Machine
end

section
/-!
Vendor commands on backing devices, windows and their members (R169 to R172, R176, R178, R179, R195 to R197): what each does where its
checks and the admission check let it pass.
-/
namespace Sys2Proof.Machine

/-! ### Backing devices -/

/-- R169: BACKING_ADD adds the device that it describes, sets the response time it names, and answers the device's extents. -/
theorem backingAdd_completes (s : State) (r : Nat) (d : Desc) (f : DeviceFacts) :
    Completes s (.backingAdd r d f) 0x0210 r d (fun c => backingAddCheck c d f = none)
      (fun c x => let y := deviceOfDesc c d f
        let c := addDevice c d.tgt y
        endCmd (if d.u32 60 = 0 then c else { c with pool := { c.pool with dcTime := d.u32 60 } }) x .ok (leBytes 4 y.extents)) := by
  refine completes_of rfl ?_
  intro c x h
  rw [h]

/-- R170: BACKING_REMOVE takes out a device no extent of which is in use. -/
theorem backingRemove_completes (s : State) (r : Nat) (d : Desc) :
    Completes s (.backingRemove r d) 0x0211 r d
      (fun c => d.zeroBut [] = true ∧ (c.dev d.tgt).ext.any (fun e => e.2 == .inUse) = false)
      (fun c x => endCmd (removeDevice c d.tgt) x .ok) := by
  refine completes_of rfl ?_
  rintro c x ⟨hz, hu⟩
  exact (if_neg (by simp [hz])).trans (if_neg (Bool.eq_false_iff.1 hu))

/-- R170, R171: SPARE_SET moves the zero-filled extents of its range that are in the other state. -/
theorem spareSet_completes (s : State) (r : Nat) (d : Desc) :
    Completes s (.spareSet r d) 0x0212 r d
      (fun c => d.zeroBut [(16, 9)] = true ∧ d.byte 24 ≤ 1 ∧ d.u32 16 + d.u32 20 ≤ (c.dev d.tgt).extents)
      (fun c x => let was : ExtState := if d.byte 24 == 1 then .free else .spare
        let y := c.dev d.tgt
        let hit := (List.range (d.u32 20)).filter (fun i => y.ext.look (d.u32 16 + i) == was &&
          (!y.adopt || y.zeroed.contains (d.u32 16 + i)))
        endCmd (hit.foldl (fun c i => setExt c d.tgt (d.u32 16 + i) (if d.byte 24 == 1 then .spare else .free)) c) x .ok
          (leBytes 4 hit.length)) := by
  refine completes_of rfl ?_
  rintro c x ⟨hz, hb, he⟩
  exact if_neg (by simp [hz, hb, he])

/-! ### Windows -/

/-- R174, R178: WINDOW_CREATE offers the window that it makes and that the admission check lets pass. -/
theorem windowCreate_completes (s : State) (r : Nat) (d : Desc) (e : Chip) :
    Completes s (.windowCreate r d) 0x0218 r d (fun c => windowCreateMake c d = .ok e ∧ admitFail c e 0 = none)
      (fun _ x => startAdd (adoptStart e d.tgt) x d.tgt 0 (d.u24 24) 0 true) := by
  refine completes_of rfl ?_
  rintro c x ⟨hm, ha⟩
  rw [hm]
  exact admitOr_of_admitted x _ ha

/-- R176: WINDOW_DESTROY destroys a window that no job works on. -/
theorem windowDestroy_completes (s : State) (r : Nat) (d : Desc) :
    Completes s (.windowDestroy r d) 0x0219 r d (fun c => d.zeroBut [] = true ∧ jobOnWindow c d.tgt = false)
      (fun c x => endCmd (destroyWindow c d.tgt) x .ok) := by
  refine completes_of rfl ?_
  rintro c x ⟨hz, hj⟩
  exact (if_neg (by simp [hz])).trans (if_neg (Bool.eq_false_iff.1 hj))

/-- WINDOW_GROW that makes its end state is not refused. -/
theorem windowGrowCheck_of_make {c e : Chip} {d : Desc} (h : windowGrowMake c d = .ok e) : windowGrowCheck c d = none := by
  unfold windowGrowCheck
  rw [h]

/-- WINDOW_GROW that makes its end state takes it. -/
theorem windowGrowDo_of_make {c e : Chip} {d : Desc} (h : windowGrowMake c d = .ok e) : windowGrowDo c d = e := by
  unfold windowGrowDo
  rw [h]

/-- R178: WINDOW_GROW offers the extents that it adds and that the admission check lets pass. -/
theorem windowGrow_completes (s : State) (r : Nat) (d : Desc) (e : Chip) :
    Completes s (.windowGrow r d) 0x021A r d (fun c => windowGrowMake c d = .ok e ∧ admitFail c e 0 = none)
      (fun c x => startAdd e x d.tgt ((e.window d.tgt).extents - d.u24 16) (d.u24 16) (c.window d.tgt).span false) := by
  refine completes_of rfl ?_
  rintro c x ⟨hm, ha⟩
  simp only [windowGrowCheck_of_make hm, windowGrowDo_of_make hm]
  exact admitOr_of_admitted x _ ha

/-- R179: WINDOW_SHRINK that its checks accept asks for the release. -/
theorem windowShrink_completes (s : State) (r : Nat) (d : Desc) :
    Completes s (.windowShrink r d) 0x021B r d (fun c => windowShrinkCheck c d = none) (fun c x => windowShrinkGo c x d) := by
  refine completes_of rfl ?_
  intro c x h
  rw [h]

/-- Table 12.12: WINDOW_SET stores what its checks and the admission check accept. -/
theorem windowSet_completes (s : State) (r : Nat) (d : Desc) :
    Completes s (.windowSet r d) 0x021C r d
      (fun c => windowSetCheck c d = none ∧ admitFail c (c.modWindow d.tgt (fun w => windowSetNew w d)) 0 = none)
      (fun c x => endCmd (c.modWindow d.tgt (fun w => windowSetNew w d)) x .ok) := by
  refine completes_of rfl ?_
  rintro c x ⟨hc, ha⟩
  rw [hc]
  exact admitOr_of_admitted x _ ha

/-- R197: WINDOW_QUERY with a good buffer reports the window as it stands. -/
theorem windowQuery_completes (s : State) (r : Nat) (d : Desc) :
    Completes s (.windowQuery r d) 0x021D r d (fun _ => d.zeroBut [(16, 12)] = true ∧ d.bufferOk r = true)
      (fun c x => let w := c.window d.tgt
        endQuery c x d (Config.queryBytes 0x021D)
          (openFields ([w.shown] ++ (w.members.filter (fun m => m.2.present)).flatMap (fun m =>
            [m.1, m.2.dev, m.2.ext, m.2.state.code, pagesSet m.2]) ++
           [w.verify.getD 0, w.dsReads, w.poisons, w.altHits, w.late, w.misses, w.mismatch, w.discards, w.recons, w.repairs]))) := by
  refine completes_of_ring rfl ?_
  rintro c x hr ⟨hz, hb⟩
  exact if_neg (by simp [hz, hb, hr])

/-! ### Members -/

/-- R195: MEMBER_FAIL loses the device of the member that it names. -/
theorem memberFail_completes (s : State) (r : Nat) (d : Desc) (u m : Nat) :
    Completes s (.memberFail r d) 0x0220 r d
      (fun c => namedUnit (c.window d.tgt) d = some (u, m) ∧ d.zeroBut [(16, 5)] = true)
      (fun c x => endCmd (loseDevice c ((c.window d.tgt).member u m).dev true) x .ok) := by
  refine completes_of rfl ?_
  rintro c x ⟨hn, hz⟩
  rw [hn]
  exact if_neg (by simp [hz])

/-- The command names a member that is LOST and that no job works on. -/
def NamesIdleLost (c : Chip) (d : Desc) (u m : Nat) : Prop :=
  namedUnit (c.window d.tgt) d = some (u, m) ∧ d.zeroBut [(16, 5), (22, 6)] = true ∧
    ((c.window d.tgt).member u m).state = .lost ∧ memberHasJob c d.tgt u m = false

/-- The answer of MEMBER_REPLACE once the member is on extent `e` of device `b`. -/
def endReplace (c : Chip) (x : CmdRef) (b e : Nat) : Chip := endCmd c x .ok (leBytes 2 b ++ leBytes 4 e)

/-- What MEMBER_REPLACE does with a LOST member that no job works on: it chooses a spare extent, or takes back the member's own, or
takes the one that is named. -/
def replaceLost (c : Chip) (x : CmdRef) (d : Desc) (u m : Nat) : Chip :=
  let w := c.window d.tgt
  let y := w.member u m
  let b := d.u16 22
  let e := d.u32 24
  if e = 0xFFFFFFFF then
    match chooseExtent c w (othersOf w u m) .spare with
    | some (b, e) => endReplace (moveMember c d.tgt u m b e) x b e
    | none => refuse c x .capacity
  else if b = y.dev ∧ e = y.ext then
    if (c.dev b).lost then refuse c x .badParam
    else endReplace (reviewWindow (c.modWindow d.tgt (fun w => w.setMember u m (returned w.mode y))) d.tgt) x b e
  else if !mayJoin c w.strict (othersOf w u m) b ∨ (c.dev b).extents ≤ e ∨ extState c b e ≠ .spare then refuse c x .badParam
  else if !latencyOk c w b then refuse c x .deadlineInfeasible
  else endReplace (moveMember c d.tgt u m b e) x b e

/-- Table 6.6: MEMBER_REPLACE of such a member. -/
theorem memberReplace_lost (s : State) (r : Nat) (d : Desc) (u m : Nat) :
    Completes s (.memberReplace r d) 0x0221 r d (fun c => NamesIdleLost c d u m) (fun c x => replaceLost c x d u m) := by
  refine completes_of rfl ?_
  rintro c x ⟨hn, hz, hl, hj⟩
  dsimp only
  rw [hn]
  dsimp only
  rw [if_neg (by simp [hz]), hl]
  dsimp only
  rw [if_neg (Bool.eq_false_iff.1 hj)]
  rfl

/-- A command that completes under one premise completes so under a stronger one, with an effect that is the same there. -/
theorem completes_mono {s : State} {i : Instr} {op r : Nat} {d : Desc} {pre pre' : Chip → Prop} {eff eff' : Chip → CmdRef → Chip}
    (h : Completes s i op r d pre eff) (hp : ∀ c, pre' c → pre c) (he : ∀ c x, pre' c → eff c x = eff' c x) :
    Completes s i op r d pre' eff' := by
  intro f hr hc
  rw [← he _ _ hc]
  exact h f hr (hp _ hc)

section Replace
variable {c : Chip} {d : Desc} {u m b e : Nat} (x : CmdRef)

/-- R196: all ones leave the choice of the spare extent to the switch. -/
theorem replaceLost_chooses (ha : d.u32 24 = 0xFFFFFFFF)
    (hc : chooseExtent c (c.window d.tgt) (othersOf (c.window d.tgt) u m) .spare = some (b, e)) :
    replaceLost c x d u m = endReplace (moveMember c d.tgt u m b e) x b e := by
  unfold replaceLost
  dsimp only
  rw [if_pos ha, hc]

section Named
variable (hb : d.u16 22 = b) (he : d.u32 24 = e) (hn : e ≠ 0xFFFFFFFF)
include hb he hn

/-- Table 6.6: a member whose own extent is named is back in place once its device is there. -/
theorem replaceLost_returns (ho : b = ((c.window d.tgt).member u m).dev ∧ e = ((c.window d.tgt).member u m).ext)
    (hl : (c.dev b).lost = false) :
    replaceLost c x d u m = endReplace (reviewWindow (c.modWindow d.tgt (fun w => w.setMember u m
      (returned w.mode ((c.window d.tgt).member u m)))) d.tgt) x b e := by
  unfold replaceLost
  dsimp only
  rw [hb, he, if_neg hn, if_pos ho]
  exact if_neg (Bool.eq_false_iff.1 hl)

/-- R172, R196: a spare extent that may join the unit and that the deadline allows is taken. -/
theorem replaceLost_takes (ho : ¬ (b = ((c.window d.tgt).member u m).dev ∧ e = ((c.window d.tgt).member u m).ext))
    (hj : mayJoin c (c.window d.tgt).strict (othersOf (c.window d.tgt) u m) b = true) (hr : e < (c.dev b).extents)
    (hs : extState c b e = .spare) (hl : latencyOk c (c.window d.tgt) b = true) :
    replaceLost c x d u m = endReplace (moveMember c d.tgt u m b e) x b e := by
  unfold replaceLost
  dsimp only
  rw [hb, he, if_neg hn, if_neg ho, if_neg (by simp [hj, hr, hs])]
  exact if_neg (by simp [hl])

end Named

end Replace

/-- Settles O25: each clause is the lemma about its command above. -/
theorem backingAndWindowCommandsComplete : Obligations.BackingAndWindowCommandsComplete := by
  unfold Obligations.BackingAndWindowCommandsComplete
  intro s r d
  refine ⟨backingAdd_completes s r d, backingRemove_completes s r d, spareSet_completes s r d, windowCreate_completes s r d,
    windowDestroy_completes s r d, windowGrow_completes s r d, windowShrink_completes s r d, windowSet_completes s r d,
    windowQuery_completes s r d, memberFail_completes s r d, ?replace⟩
  intro u m b e lost
  have replace := memberReplace_lost s r d u m
  refine ⟨completes_mono replace (fun _ h => h.1) ?chosen, completes_mono replace (fun _ h => h.1) ?own,
    completes_mono replace (fun _ h => h.1) ?named⟩
  case chosen =>
    rintro c x ⟨-, ha, hc⟩
    exact replaceLost_chooses x ha hc
  case own =>
    rintro c x ⟨-, hb, he, hn, hd, hx, hl⟩
    exact replaceLost_returns x hb he hn ⟨hd, hx⟩ hl
  case named =>
    rintro c x ⟨-, hb, he, hn, ho, hj, hr, hs, hl⟩
    exact replaceLost_takes x hb he hn ho hj hr hs hl

end Sys2Proof.Machine
end

section
/-!
Exchanges of dynamic capacity (R176, R178, R179): the answers to Add Capacity and their deadline, the releases that WINDOW_SHRINK waits
for and its deadline.
-/
namespace Sys2Proof.Machine

/-! ### The list of exchanges -/

/-- The chip with the list of exchanges as given. -/
abbrev withDc (c : Chip) (l : List DcWait) : Chip := { c with pool := { c.pool with dc := l } }

section Head
variable {c : Chip} {p : DcWait → Bool} {e : DcWait} {rest : List DcWait} (h : c.pool.dc = e :: rest) (hp : p e = true)
include h hp

/-- The exchange at the head is the first that is looked for. -/
theorem findDc_head : c.pool.dc.find? p = some e := by
  rw [h, List.find?_cons_of_pos hp]

/-- The exchange at the head is over. -/
theorem setDc_ends_head : setDc c p (fun _ => none) = withDc c rest := by
  unfold setDc editDc
  rw [h]
  dsimp only
  rw [if_pos hp]

/-- The exchange at the head goes on as `y`. -/
theorem setDc_puts_head (y : DcWait) : setDc c p (fun _ => some y) = withDc c (y :: rest) := by
  unfold setDc editDc
  rw [h]
  dsimp only
  rw [if_pos hp]

end Head

/-! ### Add Capacity -/

/-- The window's extents once host port `p` has accepted the first `n` that are offered. -/
def acceptExtents (c : Chip) (e : DcWait) (p n : Nat) : Chip :=
  let take : Tbl WExtent → Nat → Tbl WExtent := fun t i =>
    t.upd (e.first + i) (fun x => if x.present then { x with accepted := addOnce x.accepted p } else x)
  c.modWindow e.window (fun w => { w with ext := (List.range (min n e.count)).foldl take w.ext })

/-- The exchange once that port has answered. -/
def DcWait.answered (e : DcWait) (p n : Nat) : DcWait :=
  { e with ports := e.ports.erase p, accepted := max e.accepted (min n e.count) }

/-- The chip once the time for the answers has passed: what a host had accepted is scrubbed, the rest freed. -/
def undoAdd (c : Chip) (e : DcWait) : Chip :=
  let k := if (c.window e.window).mode = .stripe then 8 else 1
  let used : Nat → Bool := fun u => (List.range k).any (fun i => !(((c.window e.window).ext.look (u + i)).accepted).isEmpty)
  let c := (freeUnits c e.window (unitsFrom (c.window e.window) e.first) (fun u => if used u then .scrub else .free)).modWindow
    e.window (fun w => { w with span := e.span })
  if e.create then dropWindowIo (c.setWindow e.window {}) e.window else c

/-- The exchange awaits the answer of host port `p` for window `id`. -/
abbrev awaitsAnswer (id p : Nat) (y : DcWait) : Bool := y.add && y.window == id && y.ports.contains p

/-- The exchange for window `id` has waited for its answers past DC_RESPONSE_TIME. -/
abbrev answerOverdue (c : Chip) (id : Nat) (y : DcWait) : Bool := y.add && y.window == id && c.past y.since (ms c.pool.dcTime)

section Add
variable {c : Chip} {e : DcWait} {rest : List DcWait} (h : c.pool.dc = e :: rest) (ha : e.add = true)
include h ha

/-- R178: a host's answer is recorded, and the last one closes the exchange. -/
theorem dcResponse_records {p : Nat} (n : Nat) (hp : p ∈ e.ports) :
    dcResponse p e.window n c =
      if (e.answered p n).ports.isEmpty then closeAdd (withDc (acceptExtents c e p n) rest) (e.answered p n)
      else withDc (acceptExtents c e p n) (e.answered p n :: rest) := by
  have mine : awaitsAnswer e.window p e = true := by simp [ha, hp]
  have kept : (acceptExtents c e p n).pool.dc = e :: rest := h
  have found := findDc_head h mine
  rw [← setDc_ends_head kept mine, ← setDc_puts_head kept mine]
  unfold dcResponse
  simp only [found]
  rfl

/-- R178: past DC_RESPONSE_TIME the allocation is undone, source 124 is raised and the command ends BUSY. -/
theorem dcResponseTimeExpire_undoes (hp : c.past e.since (ms c.pool.dcTime) = true) :
    dcResponseTimeExpire e.window c = endCmd (raise (undoAdd (withDc c rest) e) 124 (srcInfo 13 e.window)) e.cmd .busy := by
  have mine : answerOverdue c e.window e = true := by simp [ha, hp]
  have found := findDc_head h mine
  rw [← setDc_ends_head h mine]
  unfold dcResponseTimeExpire
  simp only [found]
  rfl

end Add

/-! ### Release Capacity -/

/-- The exchange releases extent `i` of window `id`. -/
abbrev releases (id i : Nat) (y : DcWait) : Bool :=
  !y.add && y.window == id && decide (y.first ≤ i) && decide (i < y.first + y.count)

/-- Extent `i` of window `id` once host port `p` has released it. -/
def releaseBy (c : Chip) (id i p : Nat) : WExtent :=
  let x := (c.window id).ext.look i
  { x with released := x.released ++ [p] }

/-- The chip once that is recorded. -/
def releaseExtent (c : Chip) (id i p : Nat) : Chip :=
  c.modWindow id (fun w => { w with ext := w.ext.put i (releaseBy c id i p) })

/-- The host ports that still hold an extent of the exchange. -/
def stillHolding (w : Window) (e : DcWait) : List Nat :=
  ((List.range e.count).map (e.first + ·)).foldl (fun l i => ((w.ext.look i).accepted.filter (fun p =>
    !(w.ext.look i).released.contains p)).foldl addOnce l) []

/-- The units of the exchange that its window still has. -/
def unitsLeft (w : Window) (e : DcWait) : List Nat :=
  (unitsOf w).filter (fun u => decide (e.first ≤ u) && decide (u < e.first + e.count))

/-- The chip once the exchange is forced: the hosts that still hold extents are told, and the units left go to SCRUB. -/
def forceRelease (c : Chip) (e : DcWait) : Chip :=
  let w := c.window e.window
  freeUnits (c.emits ((dcEnabled c (stillHolding w e)).map (fun p => Msg.forcedRemoval p e.window e.first e.count)))
    e.window (unitsLeft w e) (fun _ => .scrub)

/-- The deadline of the release from window `id` has passed. -/
abbrev releaseOverdue (c : Chip) (id : Nat) (y : DcWait) : Bool := !y.add && y.window == id && decide (y.deadline ≤ c.ivl)

section Release
variable {c : Chip} {e : DcWait} {rest : List DcWait} (h : c.pool.dc = e :: rest) (ha : e.add = false)
include h ha

section Extent
variable {i p : Nat} (lo : e.first ≤ i) (hi : i < e.first + e.count)
  (hx : ((c.window e.window).ext.look i).accepted.contains p = true)
  (hr : ((c.window e.window).ext.look i).released.contains p = false)
include lo hi hx hr

/-- R179: a release that leaves the extent with other hosts is recorded. -/
theorem releaseCapacityResponse_records (hn : extReleased (releaseBy c e.window i p) = false) :
    releaseCapacityResponse p e.window i c = releaseExtent c e.window i p := by
  have found := findDc_head (p := releases e.window i) h (by simp [ha, lo, hi])
  unfold releaseCapacityResponse
  simp only [found]
  rw [if_neg (by simp only [hx, hr]; decide)]
  exact if_pos (congrArg not hn)

/-- R179: the release of the last extent frees the range and ends WINDOW_SHRINK. -/
theorem releaseCapacityResponse_ends (hn : extReleased (releaseBy c e.window i p) = true) (hd : e.done + 1 = e.count) :
    releaseCapacityResponse p e.window i c =
      endCmd (setDc (freeReleased (releaseExtent c e.window i p) e.window e.first e.count) (releases e.window i) (fun _ => none)) e.cmd .ok
        (leBytes 4 (e.done + 1)) := by
  have found := findDc_head (p := releases e.window i) h (by simp [ha, lo, hi])
  unfold releaseCapacityResponse
  simp only [found]
  rw [if_neg (by simp only [hx, hr]; decide)]
  exact (if_neg (Bool.eq_false_iff.1 (congrArg not hn))).trans (if_pos hd)

end Extent

section Deadline
variable (hd : e.deadline ≤ c.ivl)
include hd

/-- R179: without FORCE the deadline ends WINDOW_SHRINK with what has been released. -/
theorem shrinkDrainDeadline_ends (hf : e.force = false) :
    shrinkDrainDeadline e.window c = endCmd (withDc c rest) e.cmd .drainTimeout (leBytes 4 e.done) := by
  have mine : releaseOverdue c e.window e = true := by simp [ha, hd]
  have found := findDc_head h mine
  rw [← setDc_ends_head h mine]
  unfold shrinkDrainDeadline
  simp only [found]
  exact if_pos (by simp [hf])

/-- R179: with FORCE the deadline takes the rest away. -/
theorem shrinkDrainDeadline_forces (hf : e.force = true) :
    shrinkDrainDeadline e.window c = endCmd (forceRelease (withDc c rest) e) e.cmd .ok (leBytes 4 e.count) := by
  have mine : releaseOverdue c e.window e = true := by simp [ha, hd]
  have found := findDc_head h mine
  rw [← setDc_ends_head h mine]
  unfold shrinkDrainDeadline
  simp only [found]
  exact if_neg (by simp [hf])

end Deadline

end Release

/-- Settles O26: each clause is the lemma about its row above. -/
theorem dynamicCapacityRowsComplete : Obligations.DynamicCapacityRowsComplete := by
  unfold Obligations.DynamicCapacityRowsComplete
  intro s e rest h c
  refine ⟨fun ha => ⟨fun p n hp => after_of rfl (dcResponse_records h ha n hp),
    fun hp => after_of rfl (dcResponseTimeExpire_undoes h ha hp)⟩, fun ha => ⟨?release, ?deadline⟩⟩
  case release =>
    intro p i lo hi x x' hx hr
    exact ⟨fun hn => after_of rfl (releaseCapacityResponse_records h ha lo hi hx hr hn),
      fun hn hd => after_of rfl (releaseCapacityResponse_ends h ha lo hi hx hr hn hd)⟩
  case deadline =>
    intro hd
    exact ⟨fun hf => after_of rfl (shrinkDrainDeadline_ends h ha hd hf),
      fun hf => after_of rfl (shrinkDrainDeadline_forces h ha hd hf)⟩

end Sys2Proof.Machine
end

section
/-!
Backing accesses and members (R184, R186, R187, R189, R191, R192, R194 to R196): results at their slice, double-stop reads, timeouts,
the end of a write, loss, recovery and sparing of members, the stripe leader's entry.
-/
namespace Sys2Proof.Machine

/-! ### A result at its slice -/

/-- The chip once the slice of a message, that held no other, has taken it. -/
abbrev takenAtOnce (c : Chip) (x : SliceMsg) : Chip :=
  let h := x.slice c
  { c with home := { c.home with inq := (c.home.inq.put h [x]).put h [], entered := c.home.entered.put h (c.ivl + 1) } }

section Alone
variable {c : Chip} {x : SliceMsg} (hq : c.home.inq.look (x.slice c) = []) (he : c.home.entered.look (x.slice c) ≠ c.ivl + 1)
include hq he

/-- R159: a message from backing that finds its slice's queues empty and its entry point free is taken at once. -/
theorem arriveMsg_alone (hm : x.more = false) (hr : x.req? = none) (hs : x.stamped c = x)
    (ht : takeEntry (c.home.lastIn.look (x.slice c)) [x] = some (x, [])) : arriveMsg c x = enterMsg (takenAtOnce c x) x := by
  have alone : queueWith c x = [x] := by
    unfold queueWith
    rw [hq, hs]
    rfl
  rw [arriveMsg_takes hm he (by rw [alone]; exact ht)]
  unfold takenFrom waitingIn
  rw [hr, alone]

/-- R186, R189: a read's result that does enters at once. -/
theorem backingReadResult_enters {n k : Nat} {r : ReadResult} (hx : x = .data n k r) :
    backingReadResult n k r c = enterReadResult (takenAtOnce c x) n k r := by
  subst hx
  exact arriveMsg_alone hq he rfl rfl rfl rfl

/-- R192: a write's result that does enters at once. -/
theorem backingWriteComplete_enters {n k : Nat} {ok : Bool} (hx : x = .done n k ok) :
    backingWriteComplete n k ok c = enterWriteDone (takenAtOnce c x) n k ok := by
  subst hx
  exact arriveMsg_alone hq he rfl rfl rfl rfl

end Alone

/-! ### Reads -/

/-- R186: past DS_TRIGGER a read of a protected window is double-stopped. -/
theorem dsTriggerExpire_doubleStops {c : Chip} {n : Nat} {r : BackRead} (hr : c.pool.reads.look n = some r) (ha : r.asked = false)
    (hm : (c.window r.window).mode ≠ .plain) (hd : r.dstop = false) (hp : c.past r.since (ns (c.window r.window).trigger) = true) :
    dsTriggerExpire n c = doubleStop c n r := by
  unfold dsTriggerExpire
  simp only [hr]
  exact if_neg (by simp [hm, hd, ha, hp])

/-- The member's answer is the one that the read awaits from its source. -/
abbrev fromSource (r : BackRead) (m : Nat) : Bool := m == r.member && !r.asked && !r.bad.contains m

/-- The member's answer is the one that a double-stopped read awaits from the alternate of a Mirror. -/
abbrev fromAlternate (c : Chip) (r : BackRead) (m : Nat) : Bool :=
  (c.window r.window).mode == .mirror && r.dstop && m == r.alt && !r.bad.contains m

section NoLeader
variable {c : Chip} (ho : c.pool.ops = []) (ht : c.pool.txs = [])

include ht in
/-- Without line transactions none waits. -/
theorem txWaits_none (n m : Nat) (w : Bool) : txWaits c n m w = none := by
  unfold txWaits
  rw [ht]
  rfl

include ho in
/-- Without leaders' operations none writes. -/
theorem opWrite_none (n m : Nat) : opWrite c n m = none := by
  unfold opWrite
  rw [ho]
  rfl

include ho ht

/-- R186: where no leader's operation and no line transaction is open, a result is for the line's own read. -/
theorem enterReadResult_own (n m : Nat) (q : ReadResult) : enterReadResult c n m q = readResult c n m q := by
  unfold enterReadResult
  simp only [txWaits_none ht, ho, List.find?_nil]

/-- R186: a result for a line without a read is late. -/
theorem enterReadResult_noRead {n : Nat} (m : Nat) (q : ReadResult) (hr : c.pool.reads.look n = none) :
    enterReadResult c n m q = lateResult c n := by
  rw [enterReadResult_own ho ht]
  unfold readResult
  rw [hr]

section Awaited
variable {n m : Nat} {r : BackRead} (hr : c.pool.reads.look n = some r)
include hr

/-- R186: a result that its line's read does not await is late. -/
theorem enterReadResult_unawaited (q : ReadResult) (hf : fromSource r m = false) (ha : fromAlternate c r m = false) :
    enterReadResult c n m q = lateResult c n := by
  have unawaited : (!fromSource r m && !fromAlternate c r m) = true := by rw [hf, ha]; rfl
  rw [enterReadResult_own ho ht]
  unfold readResult
  simp only [hr]
  exact if_pos unawaited

variable (hw : (fromSource r m || fromAlternate c r m) = true)
include hw

/-- R186: good data that is awaited ends the line's read. -/
theorem enterReadResult_good (d : Line) : enterReadResult c n m (.good d) = readGood c n r d (!fromSource r m) := by
  have awaited : ¬ (!fromSource r m && !fromAlternate c r m) = true := by rw [← Bool.not_or, hw]; decide
  have alt : (fromAlternate c r m && !fromSource r m) = !fromSource r m := by
    revert hw
    cases fromSource r m with
    | true => simp
    | false => simp
  rw [enterReadResult_own ho ht]
  unfold readResult
  simp only [hr]
  exact (if_neg awaited).trans (congrArg (readGood c n r d) alt)

/-- R186, R195: poison or an error that is awaited counts against the member's device, and its source has failed. -/
theorem enterReadResult_bad {q : ReadResult} (hb : q = .poison ∨ q = .error) :
    enterReadResult c n m q =
      sourceFailed (deviceFails c (memberDev (c.window r.window) r.ext n m)) n { r with bad := addOnce r.bad m } := by
  have awaited : ¬ (!fromSource r m && !fromAlternate c r m) = true := by rw [← Bool.not_or, hw]; decide
  rw [enterReadResult_own ho ht]
  unfold readResult
  simp only [hr]
  rcases hb with rfl | rfl <;> exact if_neg awaited

end Awaited

end NoLeader

/-! ### Accesses without an answer -/

/-- Without writes none is without an answer. -/
theorem writeTimeout_none {c : Chip} (n : Nat) (h : c.pool.writes = []) : writeTimeout c n = c := by
  unfold writeTimeout
  simp only [h, List.map_nil, List.filter_nil, List.foldl_nil]
  rw [← h]

/-- Without line transactions none is without an answer. -/
theorem txTimeout_none {c : Chip} (n : Nat) (h : c.pool.txs = []) : txTimeout c n = c := by
  unfold txTimeout
  simp only [h, List.find?_nil]

/-- Without leaders' operations none is without an answer. -/
theorem opTimeout_none {c : Chip} (n : Nat) (h : c.pool.ops = []) : opTimeout c n = c := by
  unfold opTimeout
  simp only [h, List.find?_nil]

/-- R189: where the line's own read alone is open, BACKING_TIMEOUT is its own. -/
theorem backingTimeoutExpire_read {c : Chip} (n : Nat) (hw : c.pool.writes = []) (ht : c.pool.txs = []) (ho : c.pool.ops = []) :
    backingTimeoutExpire n c = readTimeout c n := by
  unfold backingTimeoutExpire
  rw [writeTimeout_none n hw, txTimeout_none n ht, opTimeout_none n ho]

/-- A Plain read has no alternate. -/
theorem altFailed_plain {c : Chip} (n : Nat) {r : BackRead} (h : (c.window r.window).mode = .plain) : altFailed c n r = true := by
  unfold altFailed
  simp only [h]

/-- R189, R198: a failed source of a Plain read leaves none, and the line completes with poison. -/
theorem sourceFailed_plain {c : Chip} {n : Nat} {r : BackRead} (hm : (c.window r.window).mode = .plain) (hf : firstFailed r = true) :
    sourceFailed c n r = readPoison (setRead c n (some r)) n r := by
  unfold sourceFailed
  dsimp only
  rw [if_neg (by simp [hf])]
  exact if_pos (altFailed_plain (c := setRead c n (some r)) n hm)

/-- R189: a Plain read past BACKING_TIMEOUT raises source 119, counts against its device and completes with poison. -/
theorem readTimeout_plain {c e : Chip} {n : Nat} {r : BackRead} (hr : c.pool.reads.look n = some r)
    (hm : (c.window r.window).mode = .plain) (ha : r.asked = false) (ht : r.timed = false) (hb : r.bad.contains r.member = false)
    (hp : overTime c (memberDev (c.window r.window) r.ext n r.member) r.since = true)
    (he : deviceFails (raise c 119 (srcInfo 14 (memberDev (c.window r.window) r.ext n r.member)))
      (memberDev (c.window r.window) r.ext n r.member) = e) (hq : (e.window r.window).mode = .plain) :
    readTimeout c n = readPoison (setRead e n (some { r with timed := true })) n { r with timed := true } := by
  have failed : firstFailed { r with timed := true } = true := by simp [firstFailed]
  unfold readTimeout
  simp only [hr]
  rw [if_pos (by rw [ha, ht, hb, hp]; rfl), if_pos hm, he]
  exact sourceFailed_plain hq failed

/-! ### Writes -/

/-- R192: a late write of the line and member ends first. -/
theorem enterWriteDone_late {c : Chip} {n m : Nat} {e : BackWrite} (ok : Bool) (h : c.pool.writes.find? (isWrite n m true) = some e) :
    enterWriteDone c n m ok = writeEnded (setWrite c (isWrite n m true) (fun _ => none)) e ok := by
  unfold enterWriteDone
  rw [h]

/-- R192: where no operation, no transaction and no late write awaits it, the end is that of the write itself. -/
theorem enterWriteDone_own {c : Chip} {n m : Nat} {e : BackWrite} (ok : Bool) (ho : c.pool.ops = []) (ht : c.pool.txs = [])
    (hl : c.pool.writes.find? (isWrite n m true) = none) (h : c.pool.writes.find? (isWrite n m false) = some e) :
    enterWriteDone c n m ok = writeEnded (setWrite c (isWrite n m false) (fun _ => none)) e ok := by
  unfold enterWriteDone
  simp only [hl, opWrite_none ho, txWaits_none ht, h]

/-- A write that ends well closes, unless it was late. -/
theorem writeEnded_ok (c : Chip) (e : BackWrite) : writeEnded c e true = if e.late then c else closeWrite c e := rfl

/-- The chip once a failed write of a protected window has had its page logged and, once, been counted. -/
def failedWrite (c : Chip) (e : BackWrite) : Chip :=
  let w := c.window e.window
  let off := memberOff w e.ext e.line
  let logged := logPage c e.window (unitOf w e.ext) e.member (off / 64)
  if e.timed then logged else deviceFails logged (placeOf (w.member (unitOf w e.ext) e.member) off).1

/-- R192, R195: a failed write of a Mirror has its page logged and counts, then ends as any other. -/
theorem writeEnded_failed {c : Chip} {e : BackWrite} (hm : (c.window e.window).mode = .mirror) :
    writeEnded c e false = if e.late then failedWrite c e else closeWrite (failedWrite c e) e := by
  unfold writeEnded failedWrite
  simp only [hm]
  rfl

/-- R194: past DS_TRIGGER a write of a protected window has its page logged and counts as complete, but still runs. -/
theorem backingWriteLate_logs {c : Chip} {n m : Nat} {e : BackWrite} (ho : c.pool.ops = []) (ht : c.pool.txs = [])
    (h : c.pool.writes.find? (isWrite n m false) = some e) (hm : (c.window e.window).mode ≠ .plain)
    (hp : c.past e.since (ns (c.window e.window).trigger) = true) :
    backingWriteLate n m c =
      closeWrite (setWrite (logPage c e.window (unitOf (c.window e.window) e.ext) m (memberOff (c.window e.window) e.ext n / 64))
        (isWrite n m false) (fun e => some { e with late := true, cmp := none })) e := by
  unfold backingWriteLate
  simp only [opWrite_none ho, txWaits_none ht, h]
  exact if_neg (by simp [hm, hp])

/-! ### Members -/

/-- R195: a device that has been down for MEMBER_LOSS_TIME is lost. -/
theorem memberLossTimeExpire_loses {c : Chip} {b t : Nat} (ht : (c.dev b).downAt = some t) (hp : (c.dev b).present = true)
    (hl : (c.dev b).lost = false) (ho : c.past t (ms (c.dev b).lossTime) = true) : memberLossTimeExpire b c = loseDevice c b := by
  unfold memberLossTimeExpire
  simp only [ht]
  exact if_pos (by simp [hp, hl, ho])

/-- A row names a member by its unit × 10 + its number. -/
theorem unit_and_member {u m : Nat} (h : m < 10) : (u * 10 + m) / 10 = u ∧ (u * 10 + m) % 10 = m := by omega

section Spare
variable {c : Chip} {id u m : Nat} (hm : m < 10) (hw : (c.window id).present = true) (hx : ((c.window id).member u m).present = true)
  (hl : ((c.window id).member u m).state = .lost) (hd : (c.dev ((c.window id).member u m).dev).spareDelay ≠ 0)
  (hp : c.past ((c.window id).member u m).lostAt (ms (c.dev ((c.window id).member u m).dev).spareDelay) = true)
  (hn : (c.window id).mode ≠ .plain)
include hm hw hx hl hd hp hn

/-- R196: a member LOST for AUTO_SPARE_DELAY is rebuilt on the spare extent that is chosen. -/
theorem autoSpareDelayExpire_rebuilds {b e : Nat} (hc : chooseExtent c (c.window id) (othersOf (c.window id) u m) .spare = some (b, e)) :
    autoSpareDelayExpire id (u * 10 + m) c = moveMember c id u m b e := by
  obtain ⟨unit, number⟩ := unit_and_member (u := u) hm
  unfold autoSpareDelayExpire
  simp only [unit, number]
  rw [if_neg (by simp [hw, hx, hl, hd, hp, hn]), hc]

/-- R196: without a spare extent source 122 is raised, once for the member. -/
theorem autoSpareDelayExpire_noSpare (hc : chooseExtent c (c.window id) (othersOf (c.window id) u m) .spare = none)
    (hs : ((c.window id).member u m).noSpare = false) :
    autoSpareDelayExpire id (u * 10 + m) c =
      raise (c.setWindow id ((c.window id).setMember u m { (c.window id).member u m with noSpare := true })) 122 (srcInfo 13 id) := by
  obtain ⟨unit, number⟩ := unit_and_member (u := u) hm
  unfold autoSpareDelayExpire
  simp only [unit, number]
  rw [if_neg (by simp [hw, hx, hl, hd, hp, hn]), hc]
  exact if_neg (Bool.eq_false_iff.1 hs)

end Spare

/-! ### The stripe leader -/

/-- R184: the leader takes the first operation that is asked of it; its place is that of its entry. -/
theorem leaderRequest_takes {c : Chip} {o : StripeOp} {rest : List StripeOp} (h : c.pool.ops = o :: rest) (ht : o.taken = false) :
    leaderRequest o.line o.recon c =
      opGo { c with pool := { c.pool with ops := { o with taken := true, order := c.pool.orders } :: rest, orders := c.pool.orders + 1 } }
        o := by
  have mine : (o.line == o.line && o.recon == o.recon && !o.taken) = true := by simp [ht]
  unfold leaderRequest
  simp only [h, List.find?_cons, mine]
  unfold leaderRequest.mark
  simp only [mine, if_true]

/-- Settles O27: each clause is the lemma about its row above. -/
theorem backingAccessRowsComplete : Obligations.BackingAccessRowsComplete := by
  unfold Obligations.BackingAccessRowsComplete
  intro s c
  refine ⟨?entry, fun n r hr ha hm hd hp => after_of rfl (dsTriggerExpire_doubleStops hr ha hm hd hp), ?result,
    fun n => ⟨after_of rfl rfl, fun hw ht ho => after_of rfl (backingTimeoutExpire_read n hw ht ho)⟩,
    fun c n r hr hm ha ht hb hp e he hq => readTimeout_plain hr hm ha ht hb hp he hq,
    fun c n m ok ho ht => ⟨fun e h => enterWriteDone_late ok h, fun e hl h => enterWriteDone_own ok ho ht hl h⟩,
    fun c e => ⟨writeEnded_ok c e, fun hm => writeEnded_failed hm⟩,
    fun n m e ho ht h hm hp => after_of rfl (backingWriteLate_logs ho ht h hm hp),
    fun b t ht hp hl ho => after_of rfl (memberLossTimeExpire_loses ht hp hl ho), fun b => after_of rfl rfl, ?spare,
    fun o rest h ht => after_of rfl (leaderRequest_takes h ht)⟩
  case entry =>
    intro x h hq he e
    exact ⟨fun n k r hx => after_of rfl (backingReadResult_enters hq he hx),
      fun n k ok hx => after_of rfl (backingWriteComplete_enters hq he hx)⟩
  case result =>
    intro c n m ho ht
    exact ⟨fun q hr => enterReadResult_noRead ho ht m q hr, fun r hr => ⟨fun hf ha q => enterReadResult_unawaited ho ht hr q hf ha,
      fun hw => ⟨fun d => enterReadResult_good ho ht hr hw d, fun q hb => enterReadResult_bad ho ht hr hw hb⟩⟩⟩
  case spare =>
    intro id u m hm w x delay hw hx hl hd hp hn
    exact ⟨fun b e hc => after_of rfl (autoSpareDelayExpire_rebuilds hm hw hx hl hd hp hn hc),
      fun hc hs => after_of rfl (autoSpareDelayExpire_noSpare hm hw hx hl hd hp hn hc hs)⟩

end Sys2Proof.Machine
end

section
/-!
The HBM subsystem (R211, R215 to R217, R219, R225, R226, R229): what the decoder's three verdicts on a codeword come to, the scrubber's
next line, the end of a retirement copy and of a purge, the placement loop, the HBM commands.
-/
namespace Sys2Proof.Machine

/-! ### Codeword reads -/

/-- Table 7.4: the chip once a parity error that the controller retried has been raised. -/
abbrev parityRaised (c : Chip) (r : CodewordRead) : Chip := if r.parity then raise c 137 (pcInfo r.pc) else c

/-- The read names a pseudo-channel that is in service, and a line that lies on it. -/
def Readable (c : Chip) (r : CodewordRead) : Prop := r.pc < 64 ∧ (c.pcOf r.pc).failed = false ∧ onChannel r = true

/-- A read that names no line in service does nothing. -/
theorem codeword_unreadable {c : Chip} {r : CodewordRead} (h : 64 ≤ r.pc ∨ (c.pcOf r.pc).failed = true ∨ onChannel r = false) :
    codeword c r = c := if_pos (by simpa using h)

/-- The test that opens `codeword` lets a readable line pass. -/
theorem Readable.passes {c : Chip} {r : CodewordRead} (h : Readable c r) :
    ¬ (64 ≤ r.pc ∨ (c.pcOf r.pc).failed = true ∨ (!onChannel r) = true) := by
  obtain ⟨hpc, hfailed, hon⟩ := h
  simp [hfailed, hon, hpc]

section Decoded
variable {c : Chip} {r : CodewordRead} (h : Readable c r)
include h

/-- R215: where the decoder finds nothing, and the word is unchanged or is no way's, a parity error is all that a read can leave. -/
theorem codeword_clean (hd : hbmDecode (readWord (parityRaised c r) r) = .clean)
    (hr : r.errors = [] ∨ ∀ s set i, r.region ≠ .lineCache s set i) : codeword c r = parityRaised c r := by
  unfold codeword
  rw [if_neg h.passes]
  simp only [hd]
  cases hregion : r.region with
  | lineCache s set i =>
    have hnone : r.errors = [] := hr.resolve_right (fun other => other s set i hregion)
    exact if_pos (by rw [hnone]; rfl)
  | directory | spill | resyncLog | staging | management => rfl

/-- R211: errors that the code does not see leave another line in the way. -/
theorem codeword_unseen {s set i : Nat} (hd : hbmDecode (readWord (parityRaised c r) r) = .clean) (he : r.errors ≠ [])
    (hr : r.region = .lineCache s set i) :
    codeword c r = setWay (parityRaised c r) (wayKey s set i)
      (wayOfWord ((parityRaised c r).way (wayKey s set i)) (readWord (parityRaised c r) r)) := by
  unfold codeword
  rw [if_neg h.passes]
  simp only [hd, hr]
  exact if_neg (by simpa using he)

/-- R215: a word that the decoder corrects. -/
theorem codeword_fixed {n : Nat} {word : List Byte} (hd : hbmDecode (readWord (parityRaised c r) r) = .fixed n word) :
    codeword c r = corrected (spendArmed (parityRaised c r) [128, 129, 130]) r n word := by
  unfold codeword
  rw [if_neg h.passes]
  simp only [hd]

/-- Table 7.3: a word whose errors the decoder detects. -/
theorem codeword_detected (hd : hbmDecode (readWord (parityRaised c r) r) = .detected) :
    codeword c r = detected (uncorrected (spendArmed (parityRaised c r) [128, 129, 130]) r) r := by
  unfold codeword
  rw [if_neg h.passes]
  simp only [hd]

end Decoded

/-- R215: a codeword read acts while the fabric die runs. -/
theorem hbmCodewordRead_running {c : Chip} (r : CodewordRead) (h : c.rst.running = true) : hbmCodewordRead r c = codeword c r := if_pos h

/-- What a codeword read comes to completes the row. -/
theorem after_codeword {s : State} {r : CodewordRead} {c : Chip} (h : s.chip.rst.running = true) (e : codeword s.chip r = c) :
    After s (.hbmCodewordRead r) c := after_of rfl ((hbmCodewordRead_running r h).trans e)

/-! ### Scrubbing, retirement, placement, purges -/

/-- R216: a scrubber that is on reads its next line once it is due, and moves on. -/
theorem patrolScrub_due {c : Chip} (r : CodewordRead) (hr : c.rst.running = true) (he : c.hbm.scrubEn = true)
    (hp : (c.rung 8).current = 0) (hd : scrubDue c ≤ c.ivl) :
    patrolScrub r c =
      let n := (c.hbm.cursor + 1) % hbmLines
      codeword { c with hbm := { c.hbm with cursor := n, scrubAt := if n = 0 then c.ivl else c.hbm.scrubAt } }
        { r with pc := scrubPc c, block := scrubBlock c } :=
  if_neg (by simp [hr, he, hp, hd])

/-- R217, R219: the end of a copy switches the map to the lowest free spare; the 1,024th retirement fails the pseudo-channel. -/
theorem retirementCopyEnd_copying {c : Chip} {k b : Nat} (h : (c.pcOf k).copying.contains b = true) :
    retirementCopyEnd k b c =
      let x := c.pcOf k
      let spare := ((List.range (c.bb.retired.length + 1)).find? (fun i => !(c.bb.retired.any (fun e => e.2 == i + 1)))).getD 0
      let c1 := c.setPc k { x with copying := x.copying.erase b, mapped := addOnce x.mapped b, retired := x.retired + 1 }
      let c2 := raise { c1 with bb := { c.bb with retired := c.bb.retired.put (k * 2 ^ 20 + b) (spare + 1) } } 133 (pcInfo k)
      if 1024 ≤ x.retired + 1 then failPc c2 k else c2 :=
  if_neg (by simpa using h)

/-- R225: the placement loop of a slice, 1 ms after its last step. -/
theorem placementLoopUpdate_due {c : Chip} {i : Nat} (hi : i < 32) (hr : c.rst.running = true)
    (hp : c.past (c.hbm.loops.look i).last (ms 1) = true) :
    placementLoopUpdate i c =
      let l := c.hbm.loops.look i
      let dt := c.ivl - l.last
      { c with hbm := { c.hbm with loops := c.hbm.loops.put i { l with
          atMin := if l.thresh = l.min then l.atMin + dt else l.atMin, atMax := if l.thresh = l.max then l.atMax + dt else l.atMax,
          thresh := stepThresh l, hitsLo := 0, hitsHi := 0, last := c.ivl } } } :=
  if_neg (by simp [hi, hr, hp])

/-- R226: the end of a purge is recorded. -/
theorem purgeEnd_purging {c : Chip} {b e : Nat} (h : (c.dev b).purging.contains e = true) :
    purgeEnd b e c = scrubDone (c.modDev b (fun d => { d with purging := d.purging.erase e })) b e := if_pos h

/-! ### The HBM commands -/

/-- R229: HBM_RESERVE answers the slots that it reserves. -/
theorem hbmReserve_completes (s : State) (r : Nat) (d : Desc) :
    Completes s (.hbmReserve r d) 0x0B10 r d (fun c => d.zeroBut [(16, 10)] = true ∧ admitFail c (hbmReserveDo c d) 0 = none)
      (fun c x => endCmd (hbmReserveDo c d) x .ok (leBytes 2 (d.u16 24))) := by
  refine completes_of rfl ?_
  rintro c x ⟨hz, ha⟩
  have accepted : hbmReserveCheck d = none := if_pos hz
  rw [accepted]
  exact admitOr_of_admitted x _ ha

/-- The first slice that LC_CONFIG names. -/
theorem lcSlices_headD (d : Desc) : (lcSlices d).headD 0 = if d.tgt = 0xFFFF then 0 else d.tgt := by
  unfold lcSlices
  split <;> rfl

/-- R225: LC_CONFIG stores what its checks and the admission check accept, and answers the bounds applied. -/
theorem lcConfig_completes (s : State) (r : Nat) (d : Desc) :
    Completes s (.lcConfig r d) 0x0B11 r d (fun c => lcConfigCheck c d = none ∧ admitFail c (lcConfigDo c d) 0 = none)
      (fun c x => let l := (lcConfigDo c d).hbm.loops.look (if d.tgt = 0xFFFF then 0 else d.tgt)
        endCmd (lcConfigDo c d) x .ok (leBytes 1 l.min ++ leBytes 1 l.max)) := by
  refine completes_of rfl ?_
  rintro c x ⟨hc, ha⟩
  rw [hc, ← lcSlices_headD]
  exact admitOr_of_admitted x _ ha

/-- Table 12.12: HBM_QUERY with a good buffer reports the pseudo-channel or the slice that it names. -/
theorem hbmQuery_completes (s : State) (r : Nat) (d : Desc) :
    Completes s (.hbmQuery r d) 0x0B12 r d (fun _ => d.zeroBut [(16, 12)] = true ∧ d.bufferOk r = true)
      (fun c x => let p := c.pcOf d.tgt
        let l := c.hbm.loops.look (d.tgt - 2 ^ 31)
        endQuery c x d (Config.queryBytes 0x0B12) (openFields (if d.tgt < 64 then [p.ceCount, p.ueCount, p.retired, c.hbm.poolFree]
          else [l.thresh, l.atMin, l.atMax, l.hits, l.missed]))) := by
  refine completes_of_ring rfl ?_
  rintro c x hr ⟨hz, hb⟩
  exact if_neg (by simp [hz, hb, hr])

/-- Settles O28: each clause is the lemma about its row above. -/
theorem hbmRowsComplete : Obligations.HbmRowsComplete := by
  unfold Obligations.HbmRowsComplete
  intro s
  refine ⟨?reads, fun r hr he hp hd => after_of rfl (patrolScrub_due r hr he hp hd),
    fun k b h => after_of rfl (retirementCopyEnd_copying h), fun i hi hr hp => after_of rfl (placementLoopUpdate_due hi hr hp),
    fun b e h => after_of rfl (purgeEnd_purging h),
    fun r d => ⟨hbmReserve_completes s r d, lcConfig_completes s r d, hbmQuery_completes s r d⟩⟩
  case reads =>
    intro r running
    refine ⟨fun h => after_codeword running (codeword_unreadable h), fun hpc hf hon => ?_⟩
    have readable : Readable s.chip r := ⟨hpc, hf, hon⟩
    exact ⟨fun hd hr => after_codeword running (codeword_clean readable hd hr),
      fun sl st i hd he hr => after_codeword running (codeword_unseen readable hd he hr),
      fun n word hd => after_codeword running (codeword_fixed readable hd),
      fun hd => after_codeword running (codeword_detected readable hd)⟩

end Sys2Proof.Machine
end

section
/-!
Flits that a Stolevo Link receives (R232, R237, R242, R244, R251 to R253, R260): the checks of a wire flit, what each TYPE does, TRAIN
flits.
-/
namespace Sys2Proof.Machine

/-! ### The checks of a wire flit -/

/-- The chip once a flit with a good CRC is counted: its corrected symbols, and its time as that of the last good flit. -/
abbrev goodFlit (c : Chip) (l n : Nat) : Chip := (bumpCnt c l 0 n).modLink l (fun x => { x with goodAt := c.ivl })

section Wire
variable {c : Chip} {l : Nat} {ws : List Byte} (f : WireFlit)

/-- R237: a flit that FEC cannot correct is discarded. -/
theorem takeWire_uncorrectable (h : checkFlit ws = .uncorrectable) : takeWire c l ws f = flitDiscarded c l 1 f.carries := by
  unfold takeWire
  rw [h]

/-- R237: a flit whose CRC fails is discarded, after its corrected symbols have been counted. -/
theorem takeWire_crcError {n : Nat} (h : checkFlit ws = .crcError n) :
    takeWire c l ws f = flitDiscarded (bumpCnt c l 0 n) l 2 f.carries := by
  unfold takeWire
  rw [h]

section Good
variable {n : Nat} {h : FlitHead} {p : List Byte} (hg : checkFlit ws = .good n h p)
include hg

/-- R237: a FILLER is counted, and no more. -/
theorem takeWire_filler (ht : h.typ = 1) : takeWire c l ws f = bumpCnt (goodFlit c l n) l 7 1 := by
  unfold takeWire
  simp only [hg]
  exact if_pos ht

/-- R260: a flit without a payload in clear is an authentication failure. -/
theorem takeWire_badTag (ht : h.typ ≠ 1) (hp : clearPayload ((goodFlit c l n).link l) h p = none) :
    takeWire c l ws f = authFail (goodFlit c l n) l := by
  unfold takeWire
  simp only [hg]
  rw [if_neg ht, hp]

/-- R237: a flit with a payload in clear is acted on. -/
theorem takeWire_acts {q : List Byte} (ht : h.typ ≠ 1) (hp : clearPayload ((goodFlit c l n).link l) h p = some q) :
    takeWire c l ws f = actOnFlit (goodFlit c l n) l h q f := by
  unfold takeWire
  simp only [hg]
  rw [if_neg ht, hp]

end Good

end Wire

/-- R232: on lanes that the link does not use nothing is received. -/
theorem stvFlitReceive_unused {c : Chip} {l : Nat} {f : WireFlit} (h : f.lanes.length ≠ rxWidth (c.link l) ∨ f.lanes = []) :
    stvFlitReceive l f c = c := if_pos (.inr (by simpa using h))

/-- R232: the lanes of the group in use spell a wire flit. -/
theorem stvFlitReceive_used {c : Chip} {l : Nat} {f : WireFlit} (hl : linkExists c l = true)
    (hw : f.lanes.length = rxWidth (c.link l)) (hn : f.lanes ≠ []) :
    stvFlitReceive l f c = takeWire c l (fromLanes f.lanes) f := if_neg (by simp [hl, hw, hn])

/-! ### What a TRAIN flit does -/

/-- Table 8.7: a TRAIN flit retrains an ACTIVE link. -/
theorem takeTrain_active {c : Chip} {l : Nat} (t : TrainSeq) (h : (c.link l).state = .active) : takeTrain c l t = retrainLink c l := by
  unfold takeTrain
  rw [h]

/-- R253: in CONFIG a proposal that differs from the last one is recorded. -/
theorem takeTrain_proposal {c : Chip} {l : Nat} {t : TrainSeq} (h : (c.link l).state = .config) (hp : (c.link l).phase = 0)
    (ht : t.phase = 0) (hn : (c.link l).lastProp ≠ some t) :
    takeTrain c l t =
      c.setLink l { c.link l with lastProp := some t, peerResume := t.resume, peerExpected := t.rxExpected } := by
  unfold takeTrain trainConfig
  rw [h]
  dsimp only
  rw [if_pos hp, if_pos ht]
  exact if_pos (by simpa using hn)

/-! ### What each TYPE does -/

section Act
variable {c : Chip} {l : Nat} {h : FlitHead} (q : List Byte) (f : WireFlit)

/-- R251: the reserved types raise source 154. -/
theorem actOnFlit_reserved (h5 : 5 ≤ h.typ) (h7 : h.typ ≤ 7) : actOnFlit c l h q f = raise c 154 (linkInfo l) := if_pos ⟨h5, h7⟩

/-- R237: a TRAIN flit is taken by training. -/
theorem actOnFlit_train (ht : h.typ = 4) (hc : h.cls = 15) : actOnFlit c l h q f = takeTrain c l (parseTrain q) :=
  (if_neg (by omega)).trans ((if_pos ht).trans (if_pos hc))

section Active
variable (ha : (c.link l).state = .active)
include ha

/-- R242, R244: on an ACTIVE link an IDLE brings its ACK and the peer's next sequence number. -/
theorem actOnFlit_idle (ht : h.typ = 0) (hc : h.cls = 15) :
    actOnFlit c l h q f = (takeAck c l h.ack (BitVec.ofNat 16 h.snack)).modLink l (fun z => seenTo z h.seq) := by
  have unsequenced : isSeqType h.typ = false := by rw [ht]; rfl
  have fits : classFits h.typ h.cls = true := by rw [ht, hc]; rfl
  unfold actOnFlit
  dsimp only
  rw [if_neg (by omega), if_neg (by omega), if_neg (by simp [unsequenced]), if_neg (by simp [fits, ha]), if_neg (by simp [ha]),
    if_pos ht]

/-- R237, R242: on an ACTIVE link a packet's flit brings its ACK, its KEY_SET and what its cells say, then its place in sequence. -/
theorem actOnFlit_packet (ht : 8 ≤ h.typ) (hc : h.cls ≤ 9) :
    actOnFlit c l h q f =
      let c2 := (takeAck c l h.ack (BitVec.ofNat 16 h.snack)).modLink l (fun z => { z with rxSet := nat1 h.keySet })
      takeSeq (lastCells (if h.poison then poisonPkts c2 f.carries else c2) f.ends) l
        { head := h, payload := q, carries := f.carries } := by
  have sequenced : isSeqType h.typ = true := by simp [isSeqType, ht]
  have fits : classFits h.typ h.cls = true := (if_neg (by omega)).trans (decide_eq_true hc)
  have taken : (decide ((c.link l).state ≠ .active) || !classFits h.typ h.cls) = false := by simp [ha, fits]
  unfold actOnFlit
  dsimp only
  rw [if_neg (by omega), if_neg (by omega), if_pos sequenced, taken]
  rfl

end Active

end Act

/-- R242: a sequenced flit behind the window is a duplicate, and the ACK is repeated. -/
theorem takeSeq_duplicate {c : Chip} {l : Nat} {h : StvHeld} (ho : 2048 ≤ (h.head.seq + 65536 - (c.link l).expected) % 65536) :
    takeSeq c l h = (bumpCnt c l 5 1).modLink l (fun z => { z with repeatAck := true }) := if_pos ho

/-- R259: a TRAIN flit is never under a tag. -/
theorem clearPayload_train (x : StvLink) {h : FlitHead} (p : List Byte) (ht : h.typ = 4) : clearPayload x h p = some p :=
  if_pos (.inr (by simp [isSeqType, ht]))

/-- R252: a TRAIN flit on four aligned lanes is counted as a good flit and taken by training. -/
theorem trainFlit_train {c : Chip} {l : Nat} {f : TrainIn} {n : Nat} {h : FlitHead} {p : List Byte} (hl : linkExists c l = true)
    (hg : f.group < 4) (hn : f.lanes.length = 4) (hf : checkFlit (fromLanes f.lanes) = .good n h p) (ht : h.typ = 4) (hc : h.cls = 15)
    (hs : (c.link l).state = .active ∨ ((c.link l).state = .config ∧ groupIn (3 + f.group) (c.link l).rxLanes = true)) :
    trainFlit l f c = takeTrain (goodFlit c l n) l (parseTrain p) := by
  have acts : takeWire c l (fromLanes f.lanes) {} = takeTrain (goodFlit c l n) l (parseTrain p) :=
    (takeWire_acts {} hf (by omega) (clearPayload_train _ p ht)).trans (actOnFlit_train p {} ht hc)
  have group : ¬ 4 ≤ f.group := Nat.not_le.2 hg
  rw [← acts]
  unfold trainFlit
  rw [if_neg ?seen, hf]
  · exact if_pos (.inl ht)
  case seen =>
    rcases hs with ha | ⟨ha, hr⟩
    · simp [hl, group, hn, ha]
    · simp [hl, group, hn, ha, hr]

end Sys2Proof.Machine
end

section
/-!
What a Stolevo Link sends, its timers and its training up to CONFIG (R233, R241, R244, R246, R247, R252, R260, Table 8.7).
-/
namespace Sys2Proof.Machine

/-! ### The flit boundary of an ACTIVE link (R247) -/

/-- R260: the link requires keys and has none in use. -/
abbrev waitsForKeys (x : StvLink) : Bool := x.ideReq && !x.ideOn

/-- R244: the first entry of the replay store that is to be sent again. -/
abbrev toSendAgain (x : StvLink) : Option StvEntry := x.replay.find? (fun e => e.nacked && !e.bad)

/-- An IDLE flit goes out. -/
abbrev sendIdle (c : Chip) (l : Nat) : Chip := sendFlit c l { typ := 0, cls := 15, seq := (c.link l).nextSeq } [] false

/-- The packet at the head of a stream, if it need not wait for a good copy. -/
abbrev readyHead (x : StvLink) (qs : List QPkt) : Option QPkt := qs.head?.filter (mayEncrypt x)

/-- R247: the items that need room in the replay store, and the IDLE that takes their place. -/
def sendSequenced (c : Chip) (l : Nat) : Chip :=
  let x := c.link l
  match readyHead x x.sendSc0 with
  | some q => sendPacketFlit c l true q
  | none =>
    if controlDue c x then sendControl c l
    else if !x.sendSc0.isEmpty then sendIdle c l
    else match readyHead x x.sendData with
      | some q => sendPacketFlit c l false q
      | none => sendIdle c l

/-- R247: the items that follow the retransmissions. -/
def sendNew (c : Chip) (l : Nat) : Chip :=
  let x := c.link l
  if !x.unseq.isEmpty then sendUnseq c l
  else if !(!waitsForKeys x && decide (x.replay.length < 2048)) then sendIdle c l
  else sendSequenced c l

/-- The head of a stream that need not wait. -/
theorem readyHead_cons {x : StvLink} {q : QPkt} {t qs : List QPkt} (h : qs = q :: t) (hm : mayEncrypt x q = true) :
    readyHead x qs = some q := by simp [h, hm]

/-- A stream whose head waits, or that is empty. -/
theorem readyHead_none {x : StvLink} {qs : List QPkt} (h : ∀ q, qs.head? = some q → mayEncrypt x q = false) :
    readyHead x qs = none := by simpa using h

section Transmit
variable {c : Chip} {l : Nat}

/-- R233: past 1,023 flits a FILLER goes out. -/
theorem transmitActive_filler (hf : 1023 ≤ ((holdMarked c l).link l).sinceFiller) :
    transmitActive c l =
      let x := (holdMarked c l).link l
      emitFlit ((holdMarked c l).setLink l { x with sinceFiller := 0 }) l (groupLanes x.group) { typ := 1 } [] false := if_pos hf

variable (hf : ((holdMarked c l).link l).sinceFiller < 1023)
include hf

/-- R244: a link that does not wait for its keys first sends again what is to be sent again. -/
theorem transmitActive_again {e : StvEntry} (hk : waitsForKeys ((holdMarked c l).link l) = false)
    (he : toSendAgain ((holdMarked c l).link l) = some e) : transmitActive c l = sendAgain (holdMarked c l) l e := by
  unfold transmitActive
  simp only [hk, he]
  exact if_neg (by omega)

/-- R247: without a retransmission the other items follow. -/
theorem transmitActive_new (h : waitsForKeys ((holdMarked c l).link l) = true ∨ toSendAgain ((holdMarked c l).link l) = none) :
    transmitActive c l = sendNew (holdMarked c l) l := by
  have nothing : (if waitsForKeys ((holdMarked c l).link l) then none else toSendAgain ((holdMarked c l).link l)) = none := by
    rcases h with hk | hn
    · exact if_pos hk
    · rw [hn, ite_self]
  unfold transmitActive
  dsimp only
  rw [if_neg (by omega), nothing]
  rfl

end Transmit

section New
variable {c : Chip} {l : Nat}

/-- R247: a waiting message of CTRL_UNSEQ goes first. -/
theorem sendNew_unseq (hu : (c.link l).unseq ≠ []) : sendNew c l = sendUnseq c l := if_pos (by simpa using hu)

variable (hu : (c.link l).unseq = [])
include hu

/-- R241, R260: without keys or room in the replay store nothing sequenced goes out. -/
theorem sendNew_noRoom (h : waitsForKeys (c.link l) = true ∨ 2048 ≤ (c.link l).replay.length) : sendNew c l = sendIdle c l := by
  have room : (!waitsForKeys (c.link l) && decide ((c.link l).replay.length < 2048)) = false := by
    rcases h with hk | hr
    · rw [hk]; rfl
    · rw [decide_eq_false (by omega), Bool.and_false]
  unfold sendNew
  rw [if_neg (by simp [hu]), if_pos (by rw [room]; rfl)]

/-- R241, R260: with keys and room in the replay store the sequenced items follow. -/
theorem sendNew_room (hk : waitsForKeys (c.link l) = false) (hr : (c.link l).replay.length < 2048) :
    sendNew c l = sendSequenced c l := by
  unfold sendNew
  rw [if_neg (by simp [hu]), if_neg (by rw [hk, decide_eq_true hr]; decide)]

end New

section Sequenced
variable {c : Chip} {l : Nat}

/-- R247: an SC0 packet that need not wait precedes the rest. -/
theorem sendSequenced_sc0 {q : QPkt} (hq : readyHead (c.link l) (c.link l).sendSc0 = some q) :
    sendSequenced c l = sendPacketFlit c l true q := by
  unfold sendSequenced
  simp only [hq]

section NoSc0
variable (hq : readyHead (c.link l) (c.link l).sendSc0 = none)
include hq

/-- R247: control messages that are due follow. -/
theorem sendSequenced_control (hc : controlDue c (c.link l) = true) : sendSequenced c l = sendControl c l := by
  unfold sendSequenced
  simp only [hq]
  exact if_pos hc

variable (hc : controlDue c (c.link l) = false)
include hc

/-- R260: an SC0 packet that waits leaves its slots to IDLE. -/
theorem sendSequenced_sc0Waits (hs : (c.link l).sendSc0 ≠ []) : sendSequenced c l = sendIdle c l := by
  unfold sendSequenced
  simp only [hq]
  exact (if_neg (Bool.eq_false_iff.1 hc)).trans (if_pos (by simpa using hs))

variable (hs : (c.link l).sendSc0 = [])
include hs

/-- R247: a data packet that need not wait follows. -/
theorem sendSequenced_data {q : QPkt} (hd : readyHead (c.link l) (c.link l).sendData = some q) :
    sendSequenced c l = sendPacketFlit c l false q := by
  unfold sendSequenced
  simp only [hq, hd]
  exact (if_neg (Bool.eq_false_iff.1 hc)).trans (if_neg (by simp [hs]))

/-- R247: with nothing else to send the link sends IDLE. -/
theorem sendSequenced_idle (hd : readyHead (c.link l) (c.link l).sendData = none) : sendSequenced c l = sendIdle c l := by
  unfold sendSequenced
  simp only [hq, hd]
  exact (if_neg (Bool.eq_false_iff.1 hc)).trans (if_neg (by simp [hs]))

end NoSc0

end Sequenced

/-! ### The flit boundary in each state -/

section Boundary
variable {c : Chip} {l : Nat} (hl : linkExists c l = true)
include hl

/-- R247: an ACTIVE link sends the first item that applies. -/
theorem stvFlitTransmit_active (h : (c.link l).state = .active) : stvFlitTransmit l c = transmitActive c l := by
  unfold stvFlitTransmit
  rw [if_neg (by simp [hl])]
  simp only [h]

/-- R252: ALIGN sends markers, and CONFIG until 64 have gone out. -/
theorem stvFlitTransmit_marker (h : (c.link l).state = .align ∨ ((c.link l).state = .config ∧ (c.link l).markers < 64)) :
    stvFlitTransmit l c = sendMarker c l := by
  unfold stvFlitTransmit
  rw [if_neg (by simp [hl])]
  rcases h with ha | ⟨hc, hm⟩
  · simp only [ha]
  · simp only [hc]
    exact if_pos hm

/-- R252, R253: CONFIG then sends the training sequence on every group. -/
theorem stvFlitTransmit_train (hc : (c.link l).state = .config) (hm : 64 ≤ (c.link l).markers) (hp : (c.link l).phase = 0)
    (ho : (c.link l).ownDone = false) (hf : (c.link l).sinceFiller < 1023) :
    stvFlitTransmit l c =
      Chip.emit (c.setLink l { c.link l with sinceFiller := (c.link l).sinceFiller + 1 })
        (.train l (onEveryGroup { typ := 4, cls := 15 } (packTrain (ownTrain c l)))) := by
  have noFiller : decide (1023 ≤ (c.link l).sinceFiller) = false := decide_eq_false (by omega)
  have sent : stvFlitTransmit l c = sendConfig c l := by
    unfold stvFlitTransmit
    rw [if_neg (by simp [hl])]
    simp only [hc]
    rw [if_neg (by omega), if_neg (by simp [hp]), if_neg (by simp [hp]), if_neg (by simp [hp])]
  rw [sent]
  unfold sendConfig
  simp only [noFiller]
  exact if_neg (by simp [ho])

end Boundary

/-! ### Timers -/

section Timers
variable {c : Chip} {l : Nat} (hl : linkExists c l = true)
include hl

section Replay
variable {e : StvEntry} {t : List StvEntry} (ha : (c.link l).state = .active) (hr : (c.link l).replay = e :: t)
include ha hr

/-- R244: ACK_TIMEOUT marks the oldest entry and raises source 156. -/
theorem ackTimeoutExpire_marks (hp : c.past (max (c.link l).ackAt e.since) (us (c.link l).ackTime) = true) :
    ackTimeoutExpire l c =
      raise (bumpCnt (c.setLink l { c.link l with replay := { e with nacked := true } :: t, ackAt := c.ivl }) l 4 1) 156
        (linkInfo l) := by
  unfold ackTimeoutExpire
  simp only [hr]
  exact if_neg (by simp [hl, ha, hp])

/-- R246: REPLAY_AGE raises source 147 and retrains the link. -/
theorem replayAgeExpire_retrains (hp : c.past e.since (us (c.link l).replayAge) = true) :
    replayAgeExpire l c = retrainLink (raise c 147 (linkInfo l)) l := by
  unfold replayAgeExpire
  simp only [hr]
  exact if_neg (by simp [hl, ha, hp])

end Replay

/-- Table 8.7: TRAIN_TIMEOUT takes a link in training to DOWN_HELD. -/
theorem trainTimeoutExpire_holds (hs : (c.link l).state = .phy ∨ (c.link l).state = .align ∨ (c.link l).state = .config)
    (hp : c.past (c.link l).trainAt (ms (c.link l).trainTime) = true) :
    trainTimeoutExpire l c = raise (linkHeld c l) 149 (linkInfo l) := by
  have training : ((c.link l).state == .phy || (c.link l).state == .align || (c.link l).state == .config) = true := by
    simpa [or_assoc] using hs
  unfold trainTimeoutExpire
  dsimp only
  rw [training]
  exact if_neg (by simp [hl, hp])

/-- R39, Table 8.7: IDLE_DOWN takes an ACTIVE link to DOWN_HELD. -/
theorem idleDownExpire_holds (ha : (c.link l).state = .active) (hp : c.past (c.link l).goodAt (us (c.link l).idleDown) = true) :
    idleDownExpire l c = raise (linkHeld c l) 144 (linkInfo l) := if_neg (by simp [hl, ha, hp])

/-- Table 8.7: RETRY_INTERVAL starts a link in DOWN_HELD again. -/
theorem retryIntervalExpire_starts (hs : (c.link l).state = .downHeld) (hd : (c.link l).authDown = false)
    (hp : c.past (c.link l).stateAt (ms (c.link l).retryIvl) = true) :
    retryIntervalExpire l c = startPhy c l := if_neg (by simp [hl, hs, hd, hp])

/-! ### Training up to CONFIG -/

/-- The lanes of the port that lock and equalise and that training may use. -/
abbrev lanesUp (c : Chip) (l : Nat) (lanes : BitVec 16) : List Nat :=
  (List.range 16).filter (fun i => lanes.getLsbD i && laneFree c (stvLane c l i))

/-- R297, R301: a lane that has locked and equalised at rate `rt`. -/
abbrev lockedLane (rt : Nat) (y : Lane) : Lane :=
  { y with signal := true, cdrLock := true, eqDone := true, bad := false, rate := rt, saved := addOnce y.saved rt }

/-- The chip once these lanes of the link have locked. -/
abbrev lockLanes (c : Chip) (l : Nat) (up : List Nat) : Chip :=
  up.foldl (fun e i => e.modLane (stvLane e l i) (lockedLane (stvRate (c.link l).rate))) c

/-- Some aligned group of four lanes is among them. -/
abbrev hasWholeGroup (up : List Nat) : Bool := (List.range 4).any (fun g => (List.range 4).all (fun i => up.contains (4 * g + i)))

/-- R297, R301: the lanes that lock in PHY are noted, and four of an aligned group move the link to ALIGN. -/
theorem stvLanesLocked_phy (lanes : BitVec 16) (hs : (c.link l).state = .phy)
    (hp : c.test.portsOut.contains (portXbar (linkPort c l)) = false) :
    stvLanesLocked l lanes c =
      if hasWholeGroup (lanesUp c l lanes) then sendMarker (reach (lockLanes c l (lanesUp c l lanes)) l .align) l
      else lockLanes c l (lanesUp c l lanes) := by
  have ready : ¬ ((!linkExists c l) = true ∨ (c.link l).state ≠ .phy ∨ c.test.portsOut.contains (portXbar (linkPort c l)) = true) := by
    rw [hl, hs, hp]; decide
  unfold stvLanesLocked
  by_cases hw : hasWholeGroup (lanesUp c l lanes) = true
  · rw [if_pos hw, if_neg ready]
    exact if_neg (Bool.eq_false_iff.1 (congrArg not hw))
  · rw [if_neg hw, if_neg ready]
    exact if_pos (congrArg not (Bool.eq_false_iff.2 hw))

/-- The markers that are received on lanes in training, as read. -/
abbrev seenMarks (c : Chip) (l : Nat) (marks : List LaneMark) : List SeenLane :=
  (marks.filter (fun m => decide (m.lane < 16) && laneFree c (stvLane c l m.lane) && !(c.lane (stvLane c l m.lane)).bad)).map
    (fun m => (m.lane, readMarker m.nibbles))

/-- Those that are good and alone in naming their logical lane: physical lane, inversion, logical lane. -/
abbrev goodMarks (ms : List SeenLane) : List (Nat × Bool × Nat) :=
  (ms.filter (goodLane ms)).filterMap (fun m => m.2.map (fun r => (m.1, r.1, r.2)))

/-- The chip once the link's lanes are known by them. -/
abbrev nameLanes (c : Chip) (l : Nat) (ok : List (Nat × Bool × Nat)) : Chip :=
  ok.foldl (fun e m => e.modLane (stvLane e l m.1) (fun y => { y with inverted := m.2.1, logical := m.2.2 })) c

/-- The logical lanes that they name. -/
abbrev namedLanes (ok : List (Nat × Bool × Nat)) : BitVec 16 := BitVec.ofNat 16 (ok.foldl (fun n m => n + 2 ^ m.2.2) 0)

/-- R252, R299: markers that name a whole group of lanes move the link to CONFIG; a bad or doubled one raises source 182. -/
theorem markersDeskewed_align (marks : List LaneMark) (hs : (c.link l).state = .align) :
    markersDeskewed l marks c =
      let ms := seenMarks c l marks
      let rx := namedLanes (goodMarks ms)
      let c1 := nameLanes (if (goodMarks ms).length < ms.length then raise c 182 (srcInfo 1 (linkPort c l)) else c) l (goodMarks ms)
      if (List.range 7).any (fun g => groupIn g rx) then
        (reach c1 l .config).modLink l (fun x => { trainFresh x with rxLanes := rx, markers := x.markers })
      else c1.modLink l (fun x => { x with rxLanes := rx }) := if_neg (by simp [hl, hs])

end Timers

/-- Settles O29: each clause is the lemma about its row above. -/
theorem stolevoFlitRowsComplete : Obligations.StolevoFlitRowsComplete := by
  unfold Obligations.StolevoFlitRowsComplete
  intro s l hl
  refine ⟨?receive, ?act, fun c h ho => takeSeq_duplicate ho, ?active,
    fun h => after_of rfl (stvFlitTransmit_marker hl h),
    fun hc hm hp ho hf => after_of rfl (stvFlitTransmit_train hl hc hm hp ho hf),
    fun e t ha hr => ⟨fun hp => after_of rfl (ackTimeoutExpire_marks hl ha hr hp),
      fun hp => after_of rfl (replayAgeExpire_retrains hl ha hr hp)⟩,
    fun hs hp => after_of rfl (trainTimeoutExpire_holds hl hs hp),
    fun ha hp => after_of rfl (idleDownExpire_holds hl ha hp),
    fun hs hd hp => after_of rfl (retryIntervalExpire_starts hl hs hd hp),
    fun lanes hs hp => after_of rfl (stvLanesLocked_phy hl lanes hs hp),
    fun marks hs => after_of rfl (markersDeskewed_align hl marks hs),
    fun g lanes n h p hg hn hf ht hc hs => after_of rfl (trainFlit_train hl hg hn hf ht hc hs),
    fun c t => ⟨takeTrain_active t, fun hs hp ht hn => takeTrain_proposal hs hp ht hn⟩⟩
  case receive =>
    intro f
    refine ⟨fun h => after_of rfl (stvFlitReceive_unused h), fun hw hn => ?_⟩
    have wire := stvFlitReceive_used hl hw hn
    refine ⟨fun h => after_of rfl (wire.trans (takeWire_uncorrectable f h)),
      fun n h => after_of rfl (wire.trans (takeWire_crcError f h)), fun n h p hg => ?_⟩
    exact ⟨fun ht => after_of rfl (wire.trans (takeWire_filler f hg ht)),
      fun ht hp => after_of rfl (wire.trans (takeWire_badTag f hg ht hp)),
      fun q ht hp => after_of rfl (wire.trans (takeWire_acts f hg ht hp))⟩
  case act =>
    intro c h q f
    exact ⟨actOnFlit_reserved q f, actOnFlit_train q f, fun ht hc ha => actOnFlit_idle q f ha ht hc,
      fun ht hc ha => actOnFlit_packet q f ha ht hc⟩
  case active =>
    intro ha
    have boundary := stvFlitTransmit_active hl ha
    refine ⟨fun hf => after_of rfl (boundary.trans (transmitActive_filler hf)), fun hf => ⟨fun e hk he =>
      after_of rfl (boundary.trans (transmitActive_again hf hk he)), fun h => ?_⟩⟩
    have new := boundary.trans (transmitActive_new hf h)
    refine ⟨fun hu => after_of rfl (new.trans (sendNew_unseq hu)),
      fun hu => ⟨fun h => after_of rfl (new.trans (sendNew_noRoom hu h)), fun hk hr => ?_⟩⟩
    have sequenced := new.trans (sendNew_room hu hk hr)
    refine ⟨fun q t hq hm => after_of rfl (sequenced.trans (sendSequenced_sc0 (readyHead_cons hq hm))), fun hw => ?_⟩
    have noSc0 := readyHead_none hw
    exact ⟨fun hc => after_of rfl (sequenced.trans (sendSequenced_control noSc0 hc)),
      fun hc hs => after_of rfl (sequenced.trans (sendSequenced_sc0Waits noSc0 hc hs)),
      fun hc hs => ⟨fun q t hq hm => after_of rfl (sequenced.trans (sendSequenced_data noSc0 hc hs (readyHead_cons hq hm))),
        fun hd => after_of rfl (sequenced.trans (sendSequenced_idle noSc0 hc hs (readyHead_none hd)))⟩⟩

end Sys2Proof.Machine
end

section
/-!
The commands and register writes of a Stolevo Link (R256, R257, R261, R468, R540, R546, Table 12.12).
-/
namespace Sys2Proof.Machine

/-- R261, R468: STV_LINK_CONFIG stores what its checks and the admission check accept; a new STV_CTL then moves the rate. -/
theorem stvLinkConfig_completes (s : State) (r : Nat) (d : Desc) :
    Completes s (.stvLinkConfig r d) 0x0140 r d
      (fun c => stvLinkConfigCheck d = none ∧ admitFail c (flowsRetimed (stvLinkConfigDo c d)) 0 = none)
      (fun c x => let e := flowsRetimed (stvLinkConfigDo c d)
        endCmd (if d.mask 0 then rateBoundsGo e d.tgt else e) x .ok) := by
  refine completes_of rfl ?_
  rintro c x ⟨hc, ha⟩
  rw [hc]
  exact admitOr_of_admitted x _ ha

/-- STV_LINK_RETRAIN retrains an ACTIVE link, and waits for the state reached. -/
theorem stvLinkRetrain_completes (s : State) (r : Nat) (d : Desc) :
    Completes s (.stvLinkRetrain r d) 0x0141 r d (fun c => d.zeroBut [] = true ∧ (c.link d.tgt).state = .active)
      (fun c x => (retrainLink c d.tgt).modLink d.tgt (fun y => { y with retrain := some x })) := by
  refine completes_of rfl ?_
  rintro c x ⟨hz, ha⟩
  exact (if_neg (by simp [hz])).trans (if_neg (by simp [ha]))

/-- R257: STV_LINK_REMOVE of a link without an SC0 flow discards its traffic and answers the packets and permits. -/
theorem stvLinkRemove_completes (s : State) (r : Nat) (d : Desc) :
    Completes s (.stvLinkRemove r d) 0x0142 r d
      (fun c => d.zeroBut [] = true ∧ (c.link d.tgt).state ≠ .removed ∧ linkHasFlow c d.tgt = false)
      (fun c x =>
        let c1 := (reach (leaveActive c d.tgt) d.tgt .removed).modLink d.tgt (fun y =>
          { trainFresh y with fresh := true, rate := false })
        let k := removeTraffic (linkTimeLost c1 d.tgt) d.tgt
        endCmd (offerAll k.1 (portXbar (linkPort k.1 d.tgt))) x .ok (leBytes 4 k.2.1 ++ leBytes 4 k.2.2)) := by
  refine completes_of rfl ?_
  rintro c x ⟨hz, hs, hf⟩
  dsimp only
  rw [if_neg (by simp [hz]), if_neg hs, if_neg (Bool.eq_false_iff.1 hf)]

/-- The chip once the tests on the link's lanes are cut and its next start is a fresh one. -/
abbrev restoredLink (c : Chip) (l : Nat) : Chip :=
  ((List.range 16).foldl (fun e i => laneTestCut e (stvLane e l i)) c).modLink l (fun y => { y with fresh := true })

/-- R257, R260: STV_LINK_RESTORE starts training, or leaves a link that waits for new keys in DOWN_HELD. -/
theorem stvLinkRestore_completes (s : State) (r : Nat) (d : Desc) :
    Completes s (.stvLinkRestore r d) 0x0143 r d (fun c => d.zeroBut [] = true ∧ (c.link d.tgt).state = .removed)
      (fun c x => let e := restoredLink c d.tgt
        endCmd (if (e.link d.tgt).authDown then reach e d.tgt .downHeld else startPhy e d.tgt) x .ok) := by
  refine completes_of rfl ?_
  rintro c x ⟨hz, hs⟩
  exact (if_neg (by simp [hz])).trans (if_neg (by simp [hs]))

/-- Table 12.12: STV_LINK_QUERY with a good buffer reports the link. -/
theorem stvLinkQuery_completes (s : State) (r : Nat) (d : Desc) :
    Completes s (.stvLinkQuery r d) 0x0144 r d (fun _ => d.zeroBut [(16, 12)] = true ∧ d.bufferOk r = true)
      (fun c x => let y := c.link d.tgt
        endQuery c x d (Config.queryBytes 0x0144)
          (openFields ([y.state.code, groupLanes y.group, nat1 y.rate, nat1 y.leader, y.peerSerial, y.peerEpoch, y.delay] ++
           (List.range 10).map (fun n => y.cnt.look n)))) := by
  refine completes_of rfl ?_
  rintro c x ⟨hz, hb⟩
  exact if_neg (by simp [hz, hb])

section Writes
variable {c : Chip} {p : Path} {k : Nat} (hp : pathOpen c p = true) (hk : linkExists c k = true)
include hp hk

/-- STV_CTL.RETRAIN through an open path retrains the link, without an event. -/
theorem stvCtlRetrain_open : stvCtlRetrain p k c = retrainLink c k := if_pos ⟨hp, hk⟩

/-- R546: CLR_CNT through an open path leaves the error counters what the core cycle has added. -/
theorem clrCnt_open :
    clrCnt p k c = c.modLink k (fun x => { x with cnt := if x.cntAt = c.ivl + 1 then x.cntCyc else [] }) := if_pos ⟨hp, hk⟩

end Writes

/-- Settles O30: each clause is the lemma about its command above. -/
theorem stolevoCommandsComplete : Obligations.StolevoCommandsComplete := by
  unfold Obligations.StolevoCommandsComplete
  intro s r d
  exact ⟨stvLinkConfig_completes s r d, stvLinkRetrain_completes s r d, stvLinkRemove_completes s r d,
    stvLinkRestore_completes s r d, stvLinkQuery_completes s r d,
    fun p k hp hk => ⟨after_of rfl (stvCtlRetrain_open hp hk), after_of rfl (clrCnt_open hp hk)⟩⟩

end Sys2Proof.Machine
end

section
/-!
Links of the CXL ports (R266 to R270, R277, R304, R356, R373): link events, L0p, presence, the port commands.
-/
namespace Sys2Proof.Machine

/-- A command that has its own checks and then changes parameters under the admission check completes where both accept. -/
theorem completes_of_checked {s : State} {i : Instr} {op r : Nat} {d : Desc} {body : Chip → CmdRef → Chip}
    {check : Chip → Option Status} {change : Chip → Chip} (go : Chip → CmdRef → Chip → Chip)
    (h : exec i s = outcome s (runCmd op body r d s.chip))
    (hb : ∀ c x, check c = none → body c x = admitOr c x (change c) (go c x)) :
    Completes s i op r d (fun c => check c = none ∧ admitFail c (change c) 0 = none) (fun c x => go c x (change c)) := by
  refine completes_of h ?_
  rintro c x ⟨hc, ha⟩
  exact (hb c x hc).trans (admitOr_of_admitted x _ ha)

/-! ### Up -/

section Up
variable {c : Chip} {p : Nat} {f : PartnerFacts} (hp : p < 128) (hm : mayTrain c p = true)
include hp hm

/-- R266: a port that may train comes up with a partner that fits it. -/
theorem cxlLinkUp_fits (hf : partnerFits c p f = true) : cxlLinkUp p f c = portRises c p f :=
  (if_neg (by simp [hm, hp])).trans (if_pos hf)

/-- R267: with a partner that reaches only a width narrower than WIDTH_FLOOR it stays in Detect. -/
theorem cxlLinkUp_tooNarrow (hf : partnerFits c p f = false) (hw : (c.port p).floor < f.width) :
    cxlLinkUp p f c = if dlUp (c.port p) then linkLost c p else portFalls c p .down :=
  (if_neg (by simp [hm, hp])).trans ((if_neg (Bool.eq_false_iff.1 hf)).trans (if_pos hw))

end Up

/-! ### Down -/

/-- The vPPBs on a port whose unbind with option 0 waits for its link (R279). -/
abbrev unbindsWaiting (c : Chip) (p : Nat) : List (Nat × Nat) := (vppbsOn c p).filter (fun e => (c.vppb e.1 e.2).unbind == some 0)

section Down
variable {c : Chip} {p : Nat}

/-- No link goes down that is not up. -/
theorem linkDrops_notUp (h : dlUp (c.port p) = false) : linkDrops c p = c := if_pos (by simp [h])

/-- Nor does a link that is not up get lost. -/
theorem linkLost_notUp (h : dlUp (c.port p) = false) : linkLost c p = c := if_pos (by simp [h])

section OfUp
variable (h : dlUp (c.port p) = true)
include h

section Upstream
variable (hu : (c.port p).upstream = true)
include hu

/-- R268: the link down of an upstream port that was caused resets its host. -/
theorem linkDrops_upstream : linkDrops c p = hostReset c p .down 64 := (if_neg (by simp [h])).trans (if_pos hu)

/-- R268: so does one that comes unasked. -/
theorem linkLost_upstream : linkLost c p = hostReset c p .down 64 := (if_neg (by simp [h])).trans (if_pos hu)

end Upstream

section Downstream
variable (hu : (c.port p).upstream = false)
include hu

/-- R268: a link down that the slot caused is no event of a downstream port's link. -/
theorem linkDrops_downstream : linkDrops c p = downstreamFalls c p :=
  (if_neg (by simp [h])).trans (if_neg (Bool.eq_false_iff.1 hu))

/-- R279: nor is one that an unbind waits for. -/
theorem linkLost_awaited (hw : unbindsWaiting c p ≠ []) : linkLost c p = downstreamFalls c p := by
  have someWaits : (vppbsOn c p).any (fun e => (c.vppb e.1 e.2).unbind == some 0) = true := by
    rw [ne_eq, List.filter_eq_nil_iff] at hw
    simpa using hw
  exact (if_neg (by simp [h])).trans ((if_neg (Bool.eq_false_iff.1 hu)).trans (if_pos someWaits))

/-- R268: any other is a surprise link down at the port's vPPBs, and raises source 160. -/
theorem linkLost_surprise (hw : unbindsWaiting c p = []) :
    linkLost c p = raise ((vppbsOn c p).foldl (fun e b => surpriseDown e b.1 b.2 p) (downstreamFalls c p)) 160 (srcInfo 1 p) := by
  have noneWaits : (vppbsOn c p).any (fun e => (c.vppb e.1 e.2).unbind == some 0) = false := by
    rw [List.filter_eq_nil_iff] at hw
    simpa using hw
  exact (if_neg (by simp [h])).trans ((if_neg (Bool.eq_false_iff.1 hu)).trans (if_neg (Bool.eq_false_iff.1 noneWaits)))

end Downstream

end OfUp

variable (hr : c.rst.running = true) (hp : p < 128)
include hr hp

/-- R268: CXL_LINK_DOWN at a port whose slot is off or empty was caused by it. -/
theorem cxlLinkDown_dark (h : slotDark c p = true) : cxlLinkDown p c = linkDrops c p :=
  (if_neg (by simp [hr, hp])).trans (if_pos h)

/-- R268: at any other port it comes unasked. -/
theorem cxlLinkDown_lit (h : slotDark c p = false) : cxlLinkDown p c = linkLost c p :=
  (if_neg (by simp [hr, hp])).trans (if_neg (Bool.eq_false_iff.1 h))

/-- A link that is not up does not go down. -/
theorem cxlLinkDown_notUp (h : dlUp (c.port p) = false) : cxlLinkDown p c = c := by
  cases hd : slotDark c p with
  | true => rw [cxlLinkDown_dark hr hp hd, linkDrops_notUp h]
  | false => rw [cxlLinkDown_lit hr hp hd, linkLost_notUp h]

section OfUp
variable (h : dlUp (c.port p) = true)
include h

/-- R268: the link down of an upstream port resets its host. -/
theorem cxlLinkDown_upstream (hu : (c.port p).upstream = true) : cxlLinkDown p c = hostReset c p .down 64 := by
  cases hd : slotDark c p with
  | true => rw [cxlLinkDown_dark hr hp hd, linkDrops_upstream h hu]
  | false => rw [cxlLinkDown_lit hr hp hd, linkLost_upstream h hu]

variable (hu : (c.port p).upstream = false)
include hu

/-- R268, R279: a link down of a downstream port that its slot or an unbind caused ends the unbind, and is not reported. -/
theorem cxlLinkDown_caused (hc : slotDark c p = true ∨ unbindsWaiting c p ≠ []) : cxlLinkDown p c = downstreamFalls c p := by
  cases hd : slotDark c p with
  | true => rw [cxlLinkDown_dark hr hp hd, linkDrops_downstream h hu]
  | false => rw [cxlLinkDown_lit hr hp hd, linkLost_awaited h hu (hc.resolve_left (by simp [hd]))]

/-- R268: an unexpected one is a surprise link down. -/
theorem cxlLinkDown_surprise (hd : slotDark c p = false) (hw : unbindsWaiting c p = []) :
    cxlLinkDown p c =
      raise ((vppbsOn c p).foldl (fun e b => surpriseDown e b.1 b.2 p) (downstreamFalls c p)) 160 (srcInfo 1 p) := by
  rw [cxlLinkDown_lit hr hp hd, linkLost_surprise h hu hw]

end OfUp

end Down

/-! ### L0p (R269, R270) -/

section Request
variable {c : Chip} {p : Nat} (w : Nat) (hr : c.rst.running = true) (hs : (c.port p).state = .l0 ∨ (c.port p).state = .l0p)
  (hf : (c.port p).flit256 = true)
include hr hs hf

/-- R269: while a downstream port's own request stands, the partner's is rejected. -/
theorem l0pRequest_ownFirst (ho : (c.port p).l0pOut.isSome = true) (hd : (c.port p).role = 2) :
    l0pRequest p w c = c.emit (.l0pAnswer p false) :=
  (if_neg (by simp [hr, hs, hf])).trans (if_pos ⟨ho, hd⟩)

/-- The port gives up its own request, if it has one. -/
abbrev ownRequestGivenUp (c : Chip) (p : Nat) : Chip :=
  if (c.port p).l0pOut.isSome then c.setPort p { c.port p with l0pOut := none, l0pHold := some c.ivl } else c

variable (ho : (c.port p).l0pOut = none ∨ (c.port p).role ≠ 2)
include ho

/-- Any other request goes to the checks of R269, a request of the port's own given up. -/
theorem l0pRequest_checked :
    l0pRequest p w c =
      if l0pRefused (ownRequestGivenUp c p) p w then (ownRequestGivenUp c p).emit (.l0pAnswer p false)
      else (setActive (ownRequestGivenUp c p) p w).emit (.l0pAnswer p true) := by
  have free : ¬ ((c.port p).l0pOut.isSome = true ∧ (c.port p).role = 2) := by
    rintro ⟨standing, downstream⟩
    rcases ho with hn | hn
    · rw [hn] at standing; cases standing
    · exact hn downstream
  exact (if_neg (by simp [hr, hs, hf])).trans (if_neg free)

end Request

/-- R269: the partner's answer settles the switch's own request: accepted, the width becomes the active one. -/
theorem l0pResponse_accepted {c : Chip} {p w : Nat} (ho : (c.port p).l0pOut = some w)
    (hs : (c.port p).state = .l0 ∨ (c.port p).state = .l0p) :
    l0pResponse p true c = l0pLeave (setActive (c.setPort p { c.port p with l0pOut := none }) p w) p := by
  unfold l0pResponse
  dsimp only
  rw [ho]
  exact if_pos ⟨rfl, hs⟩

/-- R269: rejected, the request is over and the width stays. -/
theorem l0pResponse_rejected {c : Chip} {p w : Nat} (ho : (c.port p).l0pOut = some w) :
    l0pResponse p false c = c.setPort p { c.port p with l0pOut := none } := by
  unfold l0pResponse
  simp only [ho]
  exact if_neg (by simp)

/-! ### Presence and the port commands -/

/-- R277: a downstream port without a slot-power channel becomes present once a partner is detected. -/
theorem receiverDetect_absent {c : Chip} {p : Nat} (hr : c.rst.running = true) (hp : p < 128) (hd : (c.port p).role = 2)
    (ha : (c.port p).present = false) (hn : (slotOf c p).isSome = false) :
    receiverDetect p c =
      let st := if (c.port p).state = .down then .training else (c.port p).state
      raise (slotSeen (c.setPort p { c.port p with present := true, seen := false, state := st }) p 0) 168 (srcInfo 1 p) :=
  if_neg (by simp [hr, hp, hd, ha, hn])

/-- R356, R373: PORT_CONFIG stores what its checks and the admission check accept, and the port reacts. -/
theorem portConfig_completes (s : State) (r : Nat) (d : Desc) :
    Completes s (.portConfig r d) 0x0100 r d (fun c => portConfigCheck d = none ∧ admitFail c (portConfigDo c d) 0 = none)
      (fun c x => portConfigGo c (portConfigDo c d) x d) :=
  completes_of_checked (fun c x e => portConfigGo c e x d) rfl (fun c x hc => by rw [hc])

/-- Table 12.12: PORT_QUERY with a good buffer reports the port, its time in L0p counted up to now. -/
theorem portQuery_completes (s : State) (r : Nat) (d : Desc) :
    Completes s (.portQuery r d) 0x0101 r d (fun _ => d.zeroBut [(16, 12)] = true ∧ d.bufferOk r = true)
      (fun c x => let y := l0pCounted c (c.port d.tgt)
        endQuery c x d (Config.queryBytes 0x0101)
          (openFields [portStatus c d.tgt, y.ident, y.serial, y.lds, y.errors, y.l0pTime])) := by
  refine completes_of_ring rfl ?_
  rintro c x hr ⟨hz, hb⟩
  exact if_neg (by simp [hz, hb, hr])

/-- R304: PORT_RETRAIN of a port that is neither in reset nor disabled waits for the state reached; a port that stays DOWN has
reached it. -/
theorem portRetrain_completes (s : State) (r : Nat) (d : Desc) :
    Completes s (.portRetrain r d) 0x0102 r d
      (fun c => d.zeroBut [] = true ∧ (c.port d.tgt).state ≠ .inReset ∧ (c.port d.tgt).state ≠ .disabled)
      (fun c x => let e := retrainPort c d.tgt
        if (e.port d.tgt).state = .down then endCmd e x .ok (leBytes 1 0)
        else e.modPort d.tgt (fun y => { y with retrain := y.retrain ++ [x] })) := by
  refine completes_of rfl ?_
  rintro c x ⟨hz, hi, hd⟩
  exact (if_neg (by simp [hz])).trans (if_neg (by simp [hi, hd]))

/-- Settles O31: each clause is the lemma about its row above. -/
theorem portLinkRowsComplete : Obligations.PortLinkRowsComplete := by
  unfold Obligations.PortLinkRowsComplete
  intro s
  refine ⟨fun p f hp hm => ⟨fun hf => after_of rfl (cxlLinkUp_fits hp hm hf),
      fun hf hw => after_of rfl (cxlLinkUp_tooNarrow hp hm hf hw)⟩,
    fun p hr hp => ⟨fun h => after_of rfl (cxlLinkDown_notUp hr hp h), fun h hu => after_of rfl (cxlLinkDown_upstream hr hp h hu),
      fun h hu => ⟨fun hc => after_of rfl (cxlLinkDown_caused hr hp h hu hc),
        fun hd hw => after_of rfl (cxlLinkDown_surprise hr hp h hu hd hw)⟩⟩,
    fun p hr hu hl => after_of rfl (if_pos ⟨hr, hu, hl⟩),
    fun p w hr hs hf => ⟨fun ho hd => after_of rfl (l0pRequest_ownFirst w hr hs hf ho hd), fun ho => ?request⟩,
    fun p w ho hs => ⟨after_of rfl (l0pResponse_accepted ho hs), after_of rfl (l0pResponse_rejected ho)⟩,
    fun p hr hp hd ha hn => after_of rfl (receiverDetect_absent hr hp hd ha hn),
    fun p path ho hp hr => after_of rfl (if_pos ⟨ho, hp, hr⟩),
    fun r d => ⟨portConfig_completes s r d, portQuery_completes s r d, portRetrain_completes s r d⟩⟩
  case request =>
    have checked := l0pRequest_checked w hr hs hf ho
    exact ⟨fun h => after_of rfl (checked.trans (if_pos h)),
      fun h => after_of rfl (checked.trans (if_neg (Bool.eq_false_iff.1 h)))⟩

end Sys2Proof.Machine
end

section
/-!
Virtual CXL switches, hot plug and PERST (R271 to R273, R278, R279, R281 to R283).
-/
namespace Sys2Proof.Machine

/-! ### The commands -/

section Commands
variable (s : State) (r : Nat) (d : Desc)

/-- R281: PERST_MAP stores the mapping of a pin. -/
theorem perstMap_completes :
    Completes s (.perstMap r d) 0x0108 r d (fun c => perstMapCheck c d = none ∧ admitFail c (perstMapDo c d) 0 = none)
      (fun c x => perstMapGo c (perstMapDo c d) x d) :=
  completes_of_checked (fun c x e => perstMapGo c e x d) rfl (fun c x hc => by rw [hc])

/-- R271: VCS_CREATE makes a virtual CXL switch under the upstream port that it names. -/
theorem vcsCreate_completes :
    Completes s (.vcsCreate r d) 0x0110 r d (fun c => vcsCreateCheck c d = none ∧ admitFail c (vcsCreateDo c d) 0 = none)
      (fun c x => endCmd (c.setVcs d.tgt { present := true, up := d.byte 16 }) x .ok) :=
  completes_of_checked (change := fun c => vcsCreateDo c d) (fun _ x e => endCmd e x .ok) rfl (fun c x hc => by rw [hc])

/-- R271: VCS_DESTROY frees a virtual CXL switch. -/
theorem vcsDestroy_completes :
    Completes s (.vcsDestroy r d) 0x0111 r d (fun c => vcsDestroyCheck c d = none ∧ admitFail c (c.setVcs d.tgt {}) 0 = none)
      (fun c x => endCmd (c.setVcs d.tgt {}) x .ok) :=
  completes_of_checked (change := fun c => vcsDestroyDo c d) (fun _ x e => endCmd e x .ok) rfl (fun c x hc => by rw [hc])

/-- R272, R279: VPPB_BIND binds what it names, which appears as a hot add. -/
theorem vppbBind_completes :
    Completes s (.vppbBind r d) 0x0112 r d (fun c => vppbBindCheck c d = none ∧ admitFail c (vppbBindDo c d) 0 = none)
      (fun c x => let e := c.setVppb d.tgt (d.byte 16) { bound := bindOf (d.byte 17) (bindLd d) }
        endCmd (hotAdd e d.tgt (d.byte 16) (d.byte 17)) x .ok (leBytes 1 (d.byte 16))) :=
  completes_of_checked (change := fun c => vppbBindDo c d) (fun _ x e => vppbBindGo e x d) rfl (fun c x hc => by rw [hc])

/-- R279: VPPB_UNBIND begins an unbind with the option that it names. -/
theorem vppbUnbind_completes :
    Completes s (.vppbUnbind r d) 0x0113 r d (fun c => vppbUnbindCheck c d = none ∧ admitFail c c 0 = none)
      (fun c x => beginUnbind c d.tgt (d.byte 16) (d.byte 17) (some x) none) :=
  completes_of_checked (change := fun c => c) (fun _ x e => vppbUnbindGo e x d) rfl (fun c x hc => by rw [hc])

/-- Table 12.12: VCS_QUERY with a good buffer reports the virtual CXL switch. -/
theorem vcsQuery_completes :
    Completes s (.vcsQuery r d) 0x0114 r d (fun _ => d.zeroBut [(16, 12)] = true ∧ d.bufferOk r = true)
      (fun c x => let v := c.vcsOf d.tgt
        endQuery c x d (Config.queryBytes 0x0114) (openFields (v.up :: (List.range 16).map (fun i => (tenantAt c v.up i).getD 0) ++
          v.vppbs.flatMap (fun b => boundValues b.1 b.2 ++ [nat1 b.2.off, nat1 b.2.unbind.isSome])))) := by
  refine completes_of_ring rfl ?_
  rintro c x hr ⟨hz, hb⟩
  exact if_neg (by simp [hz, hb, hr])

end Commands

/-! ### vPPBs -/

/-- R278: a virtual slot that its host turns off, while no unbind waits, holds the port bound there in DISABLED. -/
theorem powerControllerOff_port {c : Chip} {v b p : Nat} (hr : c.rst.running = true) (hb : (c.vppb v b).bound = .port p)
    (ho : (c.vppb v b).off = false) (hu : (c.vppb v b).unbind = none) :
    powerControllerOff v b c =
      let e := ((c.setVppb v b { c.vppb v b with off := true }).emit (.hotPlug v b 7)).emit (.hotPlug v b 3)
      if dlUp (e.port p) ∨ (e.port p).state = .training then portFalls e p .disabled else e := by
  unfold powerControllerOff
  rw [if_neg (by simp [hr, hb, ho])]
  simp only [hb, hu]
  rw [if_neg (by simp), if_neg (by simp)]

/-! ### PERST -/

section Pin
variable {c : Chip} {i : Nat} (hi : i < 64)
include hi

/-- R282: a change of a PERST_IN_N pin starts its filter. -/
theorem perstInNEdge_change {low : Bool} (h : (c.pIn i).raw ≠ low) :
    perstInNEdge i low c = c.setPIn i { c.pIn i with raw := low, since := c.ivl } := if_neg (by simp [h, hi])

variable (hr : c.rst.running = true) (hp : c.past (c.pIn i).since (us c.ports.inFilter) = true)
include hr hp

/-- R282: a mapped pin that has been low for the filter's time resets the host of its port, with source 169. -/
theorem perstInAssert_low (hv : (c.pIn i).valid = true) (hw : (c.pIn i).raw = true) (hl : (c.pIn i).level = false)
    (hd : c.ports.linksDown = false) :
    perstInAssert i c =
      portEvent8007 (raise (hostReset (c.setPIn i { c.pIn i with level := true, seen := true }) (c.pIn i).port .inReset i)
        169 (srcInfo 1 (c.pIn i).port)) (c.pIn i).port 4 :=
  if_neg (by simp [hr, hp, hv, hw, hl, hd, hi])

/-- R283: one that has been high for it lets its port leave IN_RESET. -/
theorem perstInRelease_high (hw : (c.pIn i).raw = false) (hl : (c.pIn i).level = true) :
    perstInRelease i c =
      portEvent8007 (releaseOuts (leaveReset (c.setPIn i { c.pIn i with level := false }) (c.pIn i).port) i) (c.pIn i).port 5 :=
  if_neg (by simp [hr, hp, hw, hl, hi])

end Pin

/-- R283: past its minimum an output is held by the pin that reset it alone. -/
theorem perstOutMinExpire_past {c : Chip} {j t : Nat} (ht : (c.pOut j).since = some t) (hm : (c.pOut j).minDone = false)
    (hp : c.past t (us c.ports.outMin) = true) :
    perstOutMinExpire j c =
      let x := c.pOut j
      let held := decide (x.input < 64) && (c.pIn x.input).level
      c.setPOut j (outLevel { x with minDone := true, since := if held then some t else none }) := by
  unfold perstOutMinExpire
  simp only [ht]
  exact if_neg (by simp [hm, hp])

/-- Settles O32: each clause is the lemma about its row above; PERST_IN_ASSERT acts on the chip with the due commit group applied. -/
theorem virtualSwitchAndPerstRowsComplete : Obligations.VirtualSwitchAndPerstRowsComplete := by
  unfold Obligations.VirtualSwitchAndPerstRowsComplete
  intro s
  exact ⟨fun r d => ⟨perstMap_completes s r d, vcsCreate_completes s r d, vcsDestroy_completes s r d, vppbBind_completes s r d,
      vppbUnbind_completes s r d, vcsQuery_completes s r d⟩,
    fun v b hu hp => after_of rfl (if_pos ⟨hu, hp⟩),
    fun v b p hr hb ho hu => after_of rfl (powerControllerOff_port hr hb ho hu),
    fun i low hi => ⟨fun h => after_of rfl (perstInNEdge_change hi h), fun h => after_of rfl (if_pos (.inr h))⟩,
    fun i hi hr hp hv hw hl hd => after_of rfl (perstInAssert_low hi hr hp hv hw hl hd),
    fun i hi hr hp hw hl => after_of rfl (perstInRelease_high hi hr hp hw hl),
    fun j t ht hm hp => after_of rfl (perstOutMinExpire_past ht hm hp)⟩

end Sys2Proof.Machine
end

section
/-!
Requests of the CXL Fabric Manager API (R177, R274 to R276, R279, R366, Table 9.3): whom the firmware serves, requests about the
switch, requests passed on to a multi-logical-device partner, requests about the pooled device.
-/
namespace Sys2Proof.Machine

/-! ### Who is served -/

/-- R275: a request that the firmware serves: it runs, and the request is the manager's. -/
structure Served (c : Chip) (q : FmReq) : Prop where
  running : c.rst.running = true
  ready   : c.rings.fwReady = true
  manager : q.tenant = 0

/-- A served request has its meaning. -/
theorem Served.body {c : Chip} {q : FmReq} (hs : Served c q) (b : Chip → Chip) : fmServed c q b = b c :=
  fmServed_of c q b hs.running hs.ready hs.manager

/-- R275: a request of another tenant is answered Invalid Input, whatever it asks. -/
theorem after_otherTenant {s : State} {q : FmReq} {i : Instr} (hr : s.chip.rst.running = true) (hf : s.chip.rings.fwReady = true)
    (ht : q.tenant ≠ 0) (h : ∃ b, exec i s = outcome s (fmServed s.chip q b)) :
    After s i (s.chip.emit (.fmAnswer q.tag .invalidInput [])) := by
  obtain ⟨b, hb⟩ := h
  exact after_of hb (fmServed_not s.chip q b hr hf ht)

/-! ### The switch and its ports -/

section Switch
variable {c : Chip} {q : FmReq} (hs : Served c q)
include hs

section AtPort
variable {p : Nat} (hp : p < 128) (hr : (c.port p).role ≠ 0)
include hp hr

/-- Table 9.3: GET_PHYSICAL_PORT_STATE reports a port in use. -/
theorem getPhysicalPortState_used :
    getPhysicalPortState q p c = let y := c.port p
      fmReply c q [p, y.role, y.cfgWidth, y.width, y.rateMax, y.rate, nat1 y.present, nat1 y.cxl, y.lds, portStatus c p] :=
  (hs.body _).trans (if_neg (by simp [hr, Nat.le_of_lt_succ hp]))

/-- Table 9.3: a configuration write goes to the bridge of a port in use. -/
theorem sendPpbCxlIoConfigurationRequest_write (reg : Nat) (v : BitVec 32) :
    sendPpbCxlIoConfigurationRequest q p reg true v c =
      fmReply (c.emit (.toPartner p 0x5103 (leBytes 4 reg ++ leBytes 1 (nat1 true) ++ leBytes 4 v.toNat))) q [] :=
  (hs.body _).trans (if_neg (by simp [hr, Nat.le_of_lt_succ hp]))

/-- Table 9.3: a configuration read goes there, and its value, which the bridge gives, is passed back. -/
theorem sendPpbCxlIoConfigurationRequest_read (reg : Nat) (v : BitVec 32) :
    sendPpbCxlIoConfigurationRequest q p reg false v c =
      fmReply (c.emit (.toPartner p 0x5103 (leBytes 4 reg ++ leBytes 1 (nat1 false) ++ leBytes 4 v.toNat))).usedFree q
        [c.freeNat % 2 ^ 32] :=
  (hs.body _).trans (if_neg (by simp [hr, Nat.le_of_lt_succ hp]))

section Control
variable (hh : heldByOther c [{ kind := .port, index := p }] 0 = false)
include hh

/-- R276: a retrain of a port that is neither in reset nor disabled answers with the state reached. -/
theorem physicalPortControl_retrain (hi : (c.port p).state ≠ .inReset) (hd : (c.port p).state ≠ .disabled)
    (ha : admitFail c c 0 = none) :
    physicalPortControl q p .retrain c = let e := retrainPort c p
      if (e.port p).state = .down then fmEnd e q.tag .ok else e.modPort p (fun y => { y with fmWait := y.fmWait ++ [q.tag] }) := by
  refine (hs.body _).trans ((if_neg (by simp [hr, Nat.le_of_lt_succ hp])).trans ?_)
  dsimp only
  rw [if_neg (by simp [hi, hd])]
  exact fmChange_of c c q _ _ hh ha

/-- R276, R366: DISABLE is set or cleared as PORT_CONFIG does it, where the admission check accepts the change. -/
theorem physicalPortControl_disable (b : Bool)
    (ha : admitFail c (flowsRetimed (c.setPort p { c.port p with disable := b })) 0 = none) :
    physicalPortControl q p (if b then .disable else .enable) c =
      fmEnd (portCtlGo (flowsRetimed (c.setPort p { c.port p with disable := b })) p (c.port p)) q.tag .ok := by
  refine (hs.body _).trans ((if_neg (by simp [hr, Nat.le_of_lt_succ hp])).trans ?_)
  cases b <;> exact fmChange_of c _ q _ _ hh ha

end Control

end AtPort

/-! ### Virtual CXL switches -/

section AtVcs
variable {v : Nat} (hv : (c.vcsOf v).present = true)
include hv

/-- Table 9.3: GET_VIRTUAL_CXL_SWITCH_INFO reports a virtual CXL switch that exists. -/
theorem getVirtualCxlSwitchInfo_present :
    getVirtualCxlSwitchInfo q v c =
      fmReply c q ((c.vcsOf v).up :: (c.vcsOf v).vppbs.flatMap (fun b => boundValues b.1 b.2)) :=
  (hs.body _).trans (if_neg (by simp [hv]))

/-- Table 9.3: GENERATE_AER_EVENT generates the event at a vPPB. -/
theorem generateAerEvent_vppb {b : Nat} (err : BitVec 32) (hb : b ≤ 47) :
    generateAerEvent q v b err c = fmEnd (c.emit (.aer v b err)) q.tag .ok :=
  (hs.body _).trans (if_neg (by simp [hv, hb]))

section Change
variable (hh : heldByOther c [{ kind := .vcs, index := v }] 0 = false)
include hh

/-- R276: BIND_VPPB binds under the checks of VPPB_BIND. -/
theorem bindVppb_admitted {b p : Nat} {ld : Option Nat} (hc : bindCheck c v b p ld = none)
    (ha : admitFail c (c.setVppb v b { bound := bindOf p ld }) 0 = none) :
    bindVppb q v b p ld c = fmEnd (hotAdd (c.setVppb v b { bound := bindOf p ld }) v b p) q.tag .ok := by
  refine (hs.body _).trans ((if_neg (by simp [hv])).trans ?_)
  rw [hc]
  exact fmChange_of c _ q _ _ hh ha

/-- R276, R279: UNBIND_VPPB begins an unbind under the checks of VPPB_UNBIND. -/
theorem unbindVppb_admitted {b o : Nat} (hc : unbindCheck c v b o = none) (ha : admitFail c c 0 = none) :
    unbindVppb q v b o c = beginUnbind c v b o none (some q.tag) := by
  refine (hs.body _).trans ((if_neg (by simp [hv])).trans ?_)
  rw [hc]
  exact fmChange_of c c q _ _ hh ha

end Change

end AtVcs

end Switch

/-- Settles O33: each clause is the rule about its request above. -/
theorem fmApiSwitchRowsComplete : Obligations.FmApiSwitchRowsComplete := by
  unfold Obligations.FmApiSwitchRowsComplete
  intro s q c hr hf ht
  have hs : Served s.chip q := ⟨hr, hf, ht⟩
  refine ⟨after_of rfl (hs.body _), after_of rfl (hs.body _), after_of rfl (hs.body _), fun n => after_of rfl (hs.body _),
    after_of rfl (hs.body _), fun p hp hr => ⟨after_of rfl (getPhysicalPortState_used hs hp hr), fun hh => ⟨?retrain, ?disable⟩,
      fun reg v => ⟨after_of rfl (sendPpbCxlIoConfigurationRequest_write hs hp hr reg v),
        after_of rfl (sendPpbCxlIoConfigurationRequest_read hs hp hr reg v)⟩⟩,
    fun v hv => ⟨after_of rfl (getVirtualCxlSwitchInfo_present hs hv), fun hh => ⟨?bind, ?unbind⟩,
      fun b err hb => after_of rfl (generateAerEvent_vppb hs hv err hb)⟩,
    fun n => after_of rfl (hs.body _)⟩
  case retrain => exact fun hi hd ha => after_of rfl (physicalPortControl_retrain hs hp hr hh hi hd ha)
  case disable => exact fun b ha => after_of rfl (physicalPortControl_disable hs hp hr hh b ha)
  case bind => exact fun b p ld hc ha => after_of rfl (bindVppb_admitted hs hv hh hc ha)
  case unbind => exact fun b o hc ha => after_of rfl (unbindVppb_admitted hs hv hh hc ha)

/-! ### Requests passed on to a partner's FM-owned LD (R274) -/

section Partner
variable {c : Chip} {q : FmReq} {p : Nat} (hs : Served c q) (hm : mldUp c p = true)
include hs hm

/-- A request to a multi-logical-device partner whose link is up reaches it unchanged, and is answered. -/
theorem fmServed_passOn (cmd : Nat) (body : List Byte) :
    fmServed c q (fun e => passOn e q p cmd body) = fmReply (c.emit (.toPartner p cmd body)) q [] :=
  (hs.body _).trans (if_pos hm)

/-- SET_LD_ALLOCATIONS is passed on where no LD that it shrinks is bound or registered. -/
theorem setLdAllocations_free {ls : List Nat} (body : List Byte)
    (hl : ∀ l ∈ ls, backs c p (some l) = false ∧ (vppbsOn c p).any (fun e => (c.vppb e.1 e.2).bound == .ld p l) = false) :
    setLdAllocations q p ls body c = fmReply (c.emit (.toPartner p 0x5402 body)) q [] := by
  have free : ls.any (fun l => backs c p (some l) || (vppbsOn c p).any (fun e => (c.vppb e.1 e.2).bound == .ld p l)) = false := by
    rw [List.any_eq_false]
    intro l h
    obtain ⟨unregistered, unbound⟩ := hl l h
    rw [unregistered, unbound]
    decide
  exact (hs.body _).trans ((if_neg (Bool.eq_false_iff.1 free)).trans (if_pos hm))

section OfLd
variable {ld : Nat} (hl : ld < (c.port p).lds)
include hl

/-- A configuration write to an LD that the partner has is passed on. -/
theorem sendLdCxlIoConfigurationRequest_write (reg : Nat) (v : BitVec 32) :
    sendLdCxlIoConfigurationRequest q p ld reg true v c =
      fmReply (c.emit (.toPartner p 0x5301 (leBytes 2 ld ++ leBytes 4 reg ++ leBytes 1 1 ++ leBytes 4 v.toNat))) q [] :=
  (hs.body _).trans (if_neg (by simp [hm, hl]))

/-- A memory write to an LD that the partner has is passed on. -/
theorem sendLdCxlIoMemoryRequest_write (a : BitVec 64) (body : List Byte) :
    sendLdCxlIoMemoryRequest q p ld true a body c =
      fmReply (c.emit (.toPartner p 0x5302 (leBytes 2 ld ++ leBytes 1 1 ++ leBytes 8 a.toNat ++ body))) q [] :=
  (hs.body _).trans (if_neg (by simp [hm, hl]))

end OfLd

end Partner

/-! ### The pooled device (R177) -/

section Pooled
variable {c : Chip} {q : FmReq} (hs : Served c q)
include hs

/-- GET_HEAD_INFO reports the heads that it names, where there are so many. -/
theorem getHeadInfo_inside {first n : Nat} (h : first + n ≤ (heads c).length) :
    getHeadInfo q first n c = fmReply c q ((((heads c).drop first).take n).flatMap (fun p => let y := c.port p
      [p, y.cfgWidth, y.width, y.rateMax, y.rate])) :=
  (hs.body _).trans (if_neg (by omega))

section Host
variable {p : Nat} (hp : p < 128) (hu : (c.port p).upstream = true)
include hp hu

/-- GET_HOST_DC_REGION_CONFIGURATION reports the 8 regions of a host's port with the windows shown there. -/
theorem getHostDcRegionConfiguration_host :
    getHostDcRegionConfiguration q p c = fmReply c q (8 :: 2 ^ 28 :: (shownAt c p).flatMap (fun e =>
      let w := c.window e.2
      [e.1, w.region, w.dpaOff, w.extents])) :=
  (hs.body _).trans (if_neg (by simp [hu, Nat.le_of_lt_succ hp]))

/-- GET_DC_REGION_EXTENT_LISTS reports the extents that the host has accepted in the windows of an LD. -/
theorem getDcRegionExtentLists_host {ld : Nat} (hl : (tenantAt c p ld).isSome = true) :
    getDcRegionExtentLists q p ld c = fmReply c q ((shownAt c p).flatMap (fun e =>
      let w := c.window e.2
      if e.1 = ld then (w.ext.filter (fun x => extentOpen w x.1 p)).flatMap (fun x => [w.region, w.dpaOff + x.1, x.2.pool])
      else [])) := by
  have bound : (tenantAt c p ld).isNone = false := by rw [← Option.not_isSome, hl]; rfl
  exact (hs.body _).trans (if_neg (by simp [hu, bound, Nat.le_of_lt_succ hp]))

end Host

end Pooled

/-- Settles O34: each clause about tenant 0 is the rule about its request above; every request of the API goes through the check of
the tenant. -/
theorem fmApiDeviceRowsComplete : Obligations.FmApiDeviceRowsComplete := by
  unfold Obligations.FmApiDeviceRowsComplete
  intro s q c hr hf
  refine ⟨fun ht => ?manager, fun ht p n a v b body ls ld act i hi => after_otherTenant hr hf ht ?other⟩
  case manager =>
    have hs : Served s.chip q := ⟨hr, hf, ht⟩
    refine ⟨fun p body hm => ?partner, after_of rfl (hs.body _), fun first n h => after_of rfl (getHeadInfo_inside hs h),
      after_of rfl (hs.body _), fun p hp hu => ⟨after_of rfl (getHostDcRegionConfiguration_host hs hp hu),
        fun ld hl => after_of rfl (getDcRegionExtentLists_host hs hp hu hl)⟩⟩
    have passed := fmServed_passOn hs hm
    exact ⟨after_of rfl (passed 0x5300 body), after_of rfl (passed 0x5400 []), after_of rfl (passed 0x5401 body),
      fun ls hl => after_of rfl (setLdAllocations_free hs hm body hl), after_of rfl (passed 0x5403 []),
      after_of rfl (passed 0x5404 body), after_of rfl (passed 0x5405 []), after_of rfl (passed 0x5406 body),
      after_of rfl (passed 0x5407 body), after_of rfl (passed 0x5408 body), after_of rfl (passed 0x5409 body),
      fun ld reg v a hl => ⟨after_of rfl (sendLdCxlIoConfigurationRequest_write hs hm hl reg v),
        after_of rfl (sendLdCxlIoMemoryRequest_write hs hm hl a body)⟩⟩
  case other =>
    simp only [List.mem_cons, List.not_mem_nil, or_false] at hi
    rcases hi with rfl | rfl | rfl | rfl | rfl | rfl | rfl | rfl | rfl | rfl | rfl | rfl | rfl | rfl | rfl | rfl |
      rfl | rfl | rfl | rfl | rfl | rfl | rfl | rfl | rfl | rfl | rfl | rfl | rfl | rfl | rfl <;> exact ⟨_, rfl⟩

end Sys2Proof.Machine
end

section
/-!
Reference clocks and lane health (R294, R301, R303 to R305, R513).
-/
namespace Sys2Proof.Machine

/-! ### Reference clocks -/

section Reference
variable {c : Chip} {k : Nat} (hr : c.rst.running = true) (hk : k < 8)
include hr hk

/-- R294: a count within 0.1 % of nominal is good; the sixteenth in a row sets REFCLK_OK, and the PLLs run above Slack. -/
theorem refclkCount_within {edges : Nat} (h : (((10 * edges : Nat) : Int) - 65536).natAbs * 1000 ≤ 65536) :
    refclkCount k edges c =
      let x := c.course k
      let ok := x.refOk || decide (16 ≤ x.goodCounts + 1)
      let runs := ok && decide ((c.rung k).current < 3)
      c.setCourse k { x with
        badCounts := 0, goodCounts := x.goodCounts + 1, refOk := ok, pllH := runs, pllL := runs && !x.stolevo } :=
  (if_neg (by simp [hr, hk])).trans (if_neg (Nat.not_lt.2 h))

/-- R294: a count off by more is bad, and the second in a row clears REFCLK_OK. -/
theorem refclkCount_outside {edges : Nat} (h : 65536 < (((10 * edges : Nat) : Int) - 65536).natAbs * 1000) :
    refclkCount k edges c =
      let x := c.course k
      let c1 := c.setCourse k { x with badCounts := x.badCounts + 1, goodCounts := 0 }
      if 2 ≤ x.badCounts + 1 then refclkLost c1 k else c1 :=
  (if_neg (by simp [hr, hk])).trans (if_pos h)

/-- R294: no edge for 1 µs clears REFCLK_OK at once. -/
theorem refclkEdgeLoss_running : refclkEdgeLoss k c = refclkLost c k := if_neg (by simp [hr, hk])

end Reference

/-! ### Lane health -/

section Health
variable {c : Chip} {n : Nat} (hr : c.rst.running = true) (hn : n < 512)
include hr hn

section Carried
variable (hc : carried c n = true)
include hc

/-- R303: a lane in traffic that loses its signal is dropped. -/
theorem laneLos_carried :
    laneLos n c = dropLane (raise (c.modLane n (fun x => { x with signal := false, losSeen := true })) 176 (srcInfo 3 n)) n :=
  if_neg (by simp [hr, hn, hc])

/-- R303: a lane in traffic that loses lock is dropped. -/
theorem laneCdrUnlock_carried :
    laneCdrUnlock n c =
      dropLane (raise (c.modLane n (fun x => { x with cdrLock := false, unlockSeen := true })) 177 (srcInfo 3 n)) n :=
  if_neg (by simp [hr, hn, hc])

/-- R303: the corrections of a lane in traffic are counted, and more in 1 ms than the limit of its course drop it. -/
theorem laneErrLimit_carried (m : Nat) :
    laneErrLimit n m c =
      let c1 := c.modLane n (fun x => { x with err := min (x.err + m) 0xFFFFFFFF })
      if m ≤ (c1.course (n / 64)).errLimit then c1
      else dropLane (raise (c1.modLane n (fun x => { x with limitSeen := true })) 178 (srcInfo 3 n)) n :=
  if_neg (by simp [hr, hn, hc])

end Carried

/-- R300, R301, R303: a failed equalisation is reported; it drops a lane of a Stolevo Link or in traffic. -/
theorem eqFail_running :
    eqFail n c =
      let e := raise (c.modLane n (fun x => { x with eqDone := false })) 181 (srcInfo 3 n)
      if (laneLink c n).isSome ∨ carried c n then dropLane e n else e :=
  if_neg (by simp [hr, hn])

end Health

/-- R305: CLR_QUAR clears the quarantine. -/
theorem clrQuar_open {c : Chip} {path : Path} {n : Nat} (h : pathOpen c path = true) (hn : n < 512) :
    clrQuar path n c = c.modLane n (fun x => { x with quar := false, badAt := none }) := if_pos ⟨h, hn⟩

/-- Settles O35: each clause is the lemma about its row above. -/
theorem laneHealthRowsComplete : Obligations.LaneHealthRowsComplete := by
  unfold Obligations.LaneHealthRowsComplete
  intro s
  refine ⟨fun k edges hr hk => ⟨fun h => after_of rfl (refclkCount_within hr hk h),
      fun h => after_of rfl (refclkCount_outside hr hk h), after_of rfl (refclkEdgeLoss_running hr hk)⟩,
    fun n hr hn => ⟨fun hc => ⟨after_of rfl (laneLos_carried hr hn hc), after_of rfl (laneCdrUnlock_carried hr hn hc),
        fun m => ?limit⟩,
      after_of rfl (eqFail_running hr hn)⟩,
    fun n path h hn => after_of rfl (clrQuar_open h hn)⟩
  case limit =>
    have counted := laneErrLimit_carried hr hn hc m
    exact ⟨fun h => after_of rfl (counted.trans (if_pos h)), fun h => after_of rfl (counted.trans (if_neg (Nat.not_le.2 h)))⟩

end Sys2Proof.Machine
end

section
/-!
Lane commands, PRBS tests, margining and saved coefficients (R302, R306 to R308, R310 to R312, R546).
-/
namespace Sys2Proof.Machine

/-! ### The commands -/

section Commands
variable (s : State) (r : Nat) (d : Desc)

/-- R312: LANE_CONFIG stores what its checks and the admission check accept; a lane that it newly excludes is dropped. -/
theorem laneConfig_completes :
    Completes s (.laneConfig r d) 0x0120 r d (fun c => laneConfigCheck d = none ∧ admitFail c (laneConfigDo c d) 0 = none)
      (fun c x => let e := laneConfigDo c d
        endCmd (if d.tgt < 512 then excluded c e d.tgt else e) x .ok) :=
  completes_of_checked (fun c x e => laneConfigGo c e x d) rfl (fun c x hc => by rw [hc])

/-- Table 12.12: LANE_QUERY with a good buffer reports the lane. -/
theorem laneQuery_completes :
    Completes s (.laneQuery r d) 0x0121 r d (fun _ => d.zeroBut [(16, 12)] = true ∧ d.bufferOk r = true)
      (fun c x => let y := c.lane d.tgt
        endQuery c x d (Config.queryBytes 0x0121) (openFields (laneStatus y :: y.err :: y.saved ++ y.lastMargin))) := by
  refine completes_of_ring rfl ?_
  rintro c x hr ⟨hz, hb⟩
  exact if_neg (by simp [hz, hb, hr])

/-- R306: LANE_MARGIN begins on a lane in use that is not being margined. -/
theorem laneMargin_completes :
    Completes s (.laneMargin r d) 0x0123 r d (fun c => let y := c.lane d.tgt
        d.zeroBut [(16, 1)] = true ∧ d.byte 16 ≤ (if (c.course (d.tgt / 64)).stolevo then 2 else 0) ∧
        y.margin = none ∧ y.marginPartner = false ∧ y.inUse = true)
      (fun c x => c.setLane d.tgt { c.lane d.tgt with margin := some x }) := by
  refine completes_of rfl ?_
  rintro c x ⟨hz, heye, hm, hp, hu⟩
  exact (if_neg (by simpa [hz] using heye)).trans (if_neg (by simp [hm, hp, hu]))

/-- R302: LANE_EQ_CLEAR clears the saved coefficients of a lane, or of every lane of a course. -/
theorem laneEqClear_completes :
    Completes s (.laneEqClear r d) 0x0124 r d (fun _ => d.zeroBut [] = true)
      (fun c x => let ns := if d.tgt < 512 then [d.tgt] else (List.range 64).map (64 * (d.tgt - 2 ^ 31) + ·)
        endCmd (ns.foldl (fun c n => c.modLane n (fun y => { y with saved := [] })) c) x .ok) := by
  refine completes_of rfl ?_
  intro c x hz
  exact if_neg (by simp [hz])

/-- R308: LANE_TEST on a lane out of traffic sets generator and checker at the rate that it names and clears the counts. -/
theorem laneTest_completes (hz : d.zeroBut [(16, 2), (20, 1), (24, 8)] = true) (hen : d.u16 16 / 16 % 4 = 0)
    (h8 : d.u16 16 / 256 % 2 = 0) (h13 : d.u16 16 / 2 ^ 13 % 4 = 0) (hpat : d.u16 16 % 16 ≠ 0) (hlb : field (d.u16 16) 6 2 ≠ 3)
    (hruns : patternOk (d.u16 16 % 16) (d.byte 20) = true) (htime : d.u64 24 ≠ 0) :
    Completes s (.laneTest r d) 0x0122 r d
      (fun c => outOfTraffic c d.tgt = true ∧ (c.lane d.tgt).test = none ∧
        (if (c.course (d.tgt / 64)).stolevo then d.byte 20 = 5 ∨ d.byte 20 = 6 else d.byte 20 ≤ 5))
      (fun c x => c.modLane d.tgt (fun y => { prbsSet c { y with rate := d.byte 20, chkSync := false } (d.u16 16 + 0x30) with
        prbsErr := 0, prbsBits := 0, test := some x, testEnd := c.ivl + us (d.u64 24) })) := by
  refine completes_of rfl ?_
  rintro c x ⟨hout, htest, hrate⟩
  have rateOk : (if (c.course (d.tgt / 64)).stolevo then d.byte 20 == 5 || d.byte 20 == 6 else decide (d.byte 20 ≤ 5)) = true := by
    cases hs : (c.course (d.tgt / 64)).stolevo <;> simpa [hs] using hrate
  refine (if_neg ?accepted).trans (if_neg (by simp [hout, htest]))
  case accepted =>
    rw [hz, rateOk, hruns]
    simpa [hen, h8, hpat, hlb, htime] using h13

end Commands

/-! ### The end of a test -/

/-- R309, R311: at its end a test returns the lane and answers what the checker has counted by itself, or what the row brings of any
other checker. -/
theorem laneTestEnd_over {c : Chip} {n : Nat} {y : CmdRef} (bits errors losses : Nat) (ht : (c.lane n).test = some y)
    (he : (c.lane n).testEnd ≤ c.ivl) :
    let own := (c.lane n).chkSync
    let z := prbsNow c (c.lane n)
    let b := if own then z.prbsBits else sat64 bits
    let e := if own then z.prbsErr else sat64 errors
    laneTestEnd n bits errors losses c =
      endCmd (c.setLane n { z.untested with prbsBits := b, prbsErr := e }) y .ok
        (leBytes 8 b ++ leBytes 4 e ++ leBytes 3 (if own then 0 else losses)) := by
  unfold laneTestEnd
  dsimp only
  rw [ht]
  refine (if_neg (Nat.not_lt.2 he)).trans ?_
  cases (c.lane n).chkSync <;> rfl

/-! ### Margining -/

section Margin
variable {c : Chip} {n l r u d : Nat} (hl : l ≤ 16) (hr : r ≤ 16) (hu : u ≤ 64) (hd : d ≤ 64)
include hl hr hu hd

/-- R307: the end of LANE_MARGIN answers the steps of the four directions. -/
theorem laneMarginEnd_command {x : CmdRef} (hm : (c.lane n).margin = some x) :
    laneMarginEnd n l r u d c =
      endCmd (c.setLane n { c.lane n with margin := none, marginPartner := false, lastMargin := [l, r, u, d] }) x .ok
        (leBytes 1 l ++ leBytes 1 r ++ leBytes 1 u ++ leBytes 1 d) := by
  unfold laneMarginEnd
  dsimp only
  rw [if_neg (by simp [hm, hl, hr, hu, hd]), hm]

/-- R306: the end of a partner's margining is only held in the lane. -/
theorem laneMarginEnd_partner (hm : (c.lane n).margin = none) (hp : (c.lane n).marginPartner = true) :
    laneMarginEnd n l r u d c =
      c.setLane n { c.lane n with margin := none, marginPartner := false, lastMargin := [l, r, u, d] } := by
  unfold laneMarginEnd
  dsimp only
  rw [if_neg (by simp [hp, hl, hr, hu, hd]), hm]

end Margin

/-- R306: a CXL partner margins a lane in use that LANE_MARGIN does not hold. -/
theorem marginRequest_free {c : Chip} {n : Nat} (hn : n < 512) (hs : (c.course (n / 64)).stolevo = false)
    (hu : (c.lane n).inUse = true) (hm : (c.lane n).margin = none) :
    marginRequest n c = c.setLane n { c.lane n with marginPartner := true } :=
  if_neg (by simp [hn, hs, hu, hm])

/-! ### Writes of a lane's registers -/

section Writes
variable {c : Chip} {path : Path} {n : Nat} (h : pathOpen c path = true) (hn : n < 512)
include h hn

/-- R302: EQ_CLEAR clears the lane's saved coefficients. -/
theorem eqClear_open : eqClear path n c = c.modLane n (fun x => { x with saved := [] }) := if_pos ⟨h, hn⟩

/-- R546: PRBS_CLR clears the counts, but for an error injected in the same core cycle. -/
theorem prbsClr_open :
    prbsClr path n c = c.modLane n (fun x =>
      { prbsNow c x with prbsErr := if x.injAt = c.ivl + 1 then x.injCyc else 0, prbsBits := 0 }) := if_pos ⟨h, hn⟩

/-- R310: INJECT_ONE adds one error to a checker that is in sync with its own generator. -/
theorem injectOne_open :
    injectOne path n c = c.modLane n (fun x => if x.chkSync ∧ x.prbsSync ≤ c.ivl then
      { x with prbsErr := sat64 (x.prbsErr + 1), injCyc := (if x.injAt = c.ivl + 1 then x.injCyc else 0) + 1,
               injAt := c.ivl + 1 } else x) := if_pos ⟨h, hn⟩

section Prbs
variable {v : BitVec 32} (hp : patternOk (v.toNat % 16) (c.lane n).rate = true) (hlb : field v.toNat 6 2 ≠ 3)
include hp hlb

/-- R308: out of traffic a write of LANE_PRBS sets what it names. -/
theorem lanePrbsWrite_outOfTraffic (ho : outOfTraffic c n = true) :
    lanePrbsWrite path n v c = c.setLane n (prbsSet c (c.lane n) (v.toNat % 16 + 16 * nat1 (bitOf v.toNat 4) +
      32 * nat1 (bitOf v.toNat 5) + 64 * field v.toNat 6 2 + 512 * field v.toNat 9 4 + 2 ^ 15 * nat1 (bitOf v.toNat 15))) := by
  unfold lanePrbsWrite
  dsimp only
  rw [if_neg (by simp [h, hn]), if_pos hp, if_neg hlb]
  simp only [ho, if_true, true_or]

/-- R308: in traffic a write of LANE_PRBS enables neither generator nor checker, and leaves the loopback unless it ends it. -/
theorem lanePrbsWrite_inTraffic (ho : outOfTraffic c n = false) (hz : field v.toNat 6 2 ≠ 0) :
    lanePrbsWrite path n v c = c.setLane n (prbsSet c (c.lane n) (v.toNat % 16 +
      16 * min (nat1 (bitOf v.toNat 4)) (nat1 (c.lane n).genEn) + 32 * min (nat1 (bitOf v.toNat 5)) (nat1 (c.lane n).chkEn) +
      64 * (c.lane n).loopback + 512 * field v.toNat 9 4 + 2 ^ 15 * nat1 (bitOf v.toNat 15))) := by
  unfold lanePrbsWrite
  dsimp only
  rw [if_neg (by simp [h, hn]), if_pos hp, if_neg hlb]
  simp only [ho, hz, Bool.false_eq_true, if_false, or_self]

end Prbs

end Writes

/-- Settles O36: each clause is the lemma about its row above. -/
theorem laneTestRowsComplete : Obligations.LaneTestRowsComplete := by
  unfold Obligations.LaneTestRowsComplete
  intro s
  exact ⟨fun r d => ⟨laneConfig_completes s r d, laneQuery_completes s r d, laneMargin_completes s r d, laneEqClear_completes s r d⟩,
    laneTest_completes s,
    fun n y bits errors losses ht he => after_of rfl (laneTestEnd_over bits errors losses ht he),
    fun n l r u d hl hr hu hd => ⟨fun x hm => after_of rfl (laneMarginEnd_command hl hr hu hd hm),
      fun hm hp => after_of rfl (laneMarginEnd_partner hl hr hu hd hm hp)⟩,
    fun n hn hs hu hm => after_of rfl (marginRequest_free hn hs hu hm),
    fun n path h hn => ⟨after_of rfl (eqClear_open h hn), after_of rfl (prbsClr_open h hn), after_of rfl (injectOne_open h hn),
      fun v ho hp hlb => after_of rfl (lanePrbsWrite_outOfTraffic h hn hp hlb ho),
      fun v ho hp hlb hz => after_of rfl (lanePrbsWrite_inTraffic h hn hp hlb ho hz)⟩⟩

end Sys2Proof.Machine
end

section
/-!
Tenants in their table: made, changed, bound, unbound, destroyed, queried (R316, R317, R321 to R324, R330, R504).
-/
namespace Sys2Proof.Machine

section Commands
variable (s : State) (r : Nat) (d : Desc)

/-- The chip with the tenant that TENANT_CREATE makes of the fields that it names, before the tenant is told DISABLED. -/
abbrev createdTenant (c : Chip) (d : Desc) : Chip :=
  setTenantShaper (clearTenantCounters (c.setTenant d.tgt { tenantParams c {} d with tki := freshTki c }) d.tgt) d.tgt
    (tenantShaper {} d)

/-- R324, R504: TENANT_CREATE of an absent tenant makes it DISABLED and answers its key index. -/
theorem tenantCreate_completes :
    Completes s (.tenantCreate r d) 0x0200 r d
      (fun c => d.tgt ≠ 0 ∧ tenantFieldsOk c d = true ∧ (c.tenant d.tgt).state = .none ∧
        tenantEndOk c d.tgt (tenantParams c {} d) (tenantShaper {} d) = true ∧ admitFail c (createdTenant c d) 0 = none)
      (fun c x => endCmd (tenantTo (createdTenant c d) d.tgt .disabled 0) x .ok (leBytes 1 (freshTki c))) := by
  refine completes_of rfl ?_
  rintro c x ⟨ht, hf, hs, he, ha⟩
  dsimp only
  rw [if_neg ht, if_neg (by simp [hf]), if_neg (by simp [hs]), if_neg (by rw [he]; decide)]
  exact admitOr_of_admitted x _ ha

/-- R330: TENANT_SET stores what its checks and the admission check accept. -/
theorem tenantSet_completes :
    Completes s (.tenantSet r d) 0x0202 r d (fun c => tenantSetCheck c d = none ∧ admitFail c (tenantSetDo c d) 0 = none)
      (fun c x => endCmd (tenantSetDo c d) x .ok) :=
  completes_of_checked (fun _ x e => endCmd e x .ok) rfl (fun c x hc => by rw [hc])

/-- R321: TENANT_BIND adds the binding, which its vPPB reports as a hot add. -/
theorem tenantBind_completes :
    Completes s (.tenantBind r d) 0x0203 r d (fun c => tenantBindCheck c d = none ∧ admitFail c (tenantBindDo c d) 0 = none)
      (fun c x => endCmd (bindPlug (tenantBindDo c d) (d.byte 16) (d.byte 17) 0) x .ok) :=
  completes_of_checked (fun _ x e => tenantBindGo e x d) rfl (fun c x hc => by rw [hc])

/-- R317, R322: TENANT_UNBIND removes the binding with the agents behind it, and at RING_PORT the rings. -/
theorem tenantUnbind_completes :
    Completes s (.tenantUnbind r d) 0x0204 r d
      (fun c => tenantUnbindCheck c d = none ∧ admitFail c (removeBinding c d.tgt (d.byte 16) (d.byte 17)) 0 = none)
      (fun c x => endCmd (removeBinding c d.tgt (d.byte 16) (d.byte 17)) x .ok) :=
  completes_of_checked (change := (tenantUnbindDo · d)) (fun _ x e => endCmd e x .ok) rfl (fun c x hc => by rw [hc])

/-- R323: TENANT_DESTROY of a DISABLED tenant that no command, reset or mover job holds removes what the tenant has, in this order,
and answers the number of its windows. -/
theorem tenantDestroy_completes :
    Completes s (.tenantDestroy r d) 0x0201 r d
      (fun c => d.tgt ≠ 0 ∧ d.zeroBut [] = true ∧ (c.tenant d.tgt).state = .disabled ∧ tenantBusy c d.tgt = false ∧
        (c.tenant d.tgt).resetting = false ∧ jobNames c d.tgt = false)
      (fun c x => let t := d.tgt
        let noWindows := (windowsOf c t).foldl destroyWindow c
        let unbound := (c.tenant t).binds.foldl (fun c b => removeBinding c t b.1 b.2) noWindows
        let noAgents := (tenantAgents unbound t).foldl (fun c a => (killAgent c a.1 a.2 true false).1) unbound
        let noFlows := ((flowsOf c).filter (fun f => f.2.tenant == t)).foldl
          (fun c f => (standingPermits c f.2 false).setFlow f.1 {}) noAgents
        let unshaped := flowsRetimed { noFlows with sched := { noFlows.sched with tShapers := noFlows.sched.tShapers.put t {} } }
        let gone := tenantTo (resetRing (discardRing unshaped (2 * t) 0) t) t .none 0
        endCmd (gone.setTenant t {}) x .ok (leBytes 4 (windowsOf c t).length)) := by
  refine completes_of rfl ?_
  rintro c x ⟨ht, hz, hs, hb, hr, hj⟩
  dsimp only
  rw [if_neg ht, if_neg (by simp [hz]), if_neg (by simp [hs, hb, hr, hj])]

/-- R324: TENANT_QUERY with a good buffer reports the tenant. -/
theorem tenantQuery_completes :
    Completes s (.tenantQuery r d) 0x0208 r d (fun _ => d.zeroBut [(16, 12)] = true ∧ d.bufferOk r = true)
      (fun c x => let y := c.tenant d.tgt
        let sh := c.sched.tShapers.look d.tgt
        endQuery c x d (Config.queryBytes 0x0208)
          (openFields ([y.state.code, nat1 y.resetting, y.binds.length] ++ y.binds.flatMap (fun b => [b.1, b.2]) ++
           [y.sc, nat1 sh.enable, sh.rate, sh.burst, y.lcMin, y.lcMax.getD (cacheMiB c), y.ringPort, y.action, y.limit, y.evtIvl] ++
           (List.range 32).map (occupancy c d.tgt) ++ [y.ctr.getD 7 0, y.faults.length]))) := by
  refine completes_of_ring rfl ?_
  rintro c x hr ⟨hz, hb⟩
  exact if_neg (by simp [hz, hb, hr])

end Commands

/-- Settles O37: each clause is the lemma about its command above. -/
theorem tenantTableRowsComplete : Obligations.TenantTableRowsComplete := by
  unfold Obligations.TenantTableRowsComplete
  intro s r d
  exact ⟨tenantCreate_completes s r d, tenantSet_completes s r d, tenantBind_completes s r d, tenantUnbind_completes s r d,
    tenantDestroy_completes s r d, tenantQuery_completes s r d⟩

end Sys2Proof.Machine
end

section
/-!
The states of a tenant: enabled, drained, reset (R324 to R328, R331, R333).
-/
namespace Sys2Proof.Machine

/-! ### The commands -/

section Commands
variable (s : State) (r : Nat) (d : Desc)

/-- R340: a stopped ring of the tenant runs. -/
abbrev ringRun (c : Chip) (t : Nat) : Chip :=
  if (c.ring t).state = .stopped then c.modRing t (fun q => { q with state := .running }) else c

section Enable
variable (hz : d.zeroBut [] = true)
include hz

/-- Table 11.4: TENANT_ENABLE of a DISABLED tenant, which no command holds, enables it. -/
theorem tenantEnable_disabled :
    Completes s (.tenantEnable r d) 0x0205 r d (fun c => (c.tenant d.tgt).state = .disabled ∧ tenantBusy c d.tgt = false)
      (fun c x => endCmd (ringRun (tenantTo c d.tgt .enabled 0) d.tgt) x .ok) := by
  refine completes_of rfl ?_
  rintro c x ⟨hs, hb⟩
  dsimp only
  rw [if_neg (by simp [hz]), hs]
  exact if_neg (by simp [hb])

/-- R328: TENANT_ENABLE of a DRAINING tenant gives the drain up. -/
theorem tenantEnable_draining :
    Completes s (.tenantEnable r d) 0x0205 r d (fun c => (c.tenant d.tgt).state = .draining)
      (fun c x => endCmd (ringRun (cancelDrain c d.tgt) d.tgt) x .ok) := by
  refine completes_of rfl ?_
  intro c x hs
  dsimp only
  rw [if_neg (by simp [hz]), hs]

/-- Table 11.4: TENANT_ENABLE of an ENABLED tenant is BUSY. -/
theorem tenantEnable_enabled :
    Completes s (.tenantEnable r d) 0x0205 r d (fun c => (c.tenant d.tgt).state = .enabled) (fun c x => endCmd c x .busy) := by
  refine completes_of rfl ?_
  intro c x hs
  dsimp only
  rw [if_neg (by simp [hz]), hs]

end Enable

/-- The deadline of TENANT_DISABLE in µs, 0 for 100 ms (R325). -/
abbrev drainTime (d : Desc) : Nat := if d.u32 16 = 0 then 100000 else d.u32 16

/-- A deadline that the command may name is one that it may set. -/
theorem drainTime_le {d : Desc} (h : d.u32 16 ≤ 10000000) : drainTime d ≤ 10000000 := by
  unfold drainTime
  split
  · decide
  · exact h

section Disable
variable (ht : d.tgt ≠ 0) (hz : d.zeroBut [(16, 4)] = true) (hd : d.u32 16 ≤ 10000000)
include ht hz hd

/-- R325: TENANT_DISABLE of an ENABLED tenant, which no command holds, begins the drain and waits for its end. -/
theorem tenantDisable_enabled :
    Completes s (.tenantDisable r d) 0x0206 r d (fun c => (c.tenant d.tgt).state = .enabled ∧ tenantBusy c d.tgt = false)
      (fun c x => startDrain c d.tgt (drainTime d) 0 (some x) false) := by
  refine completes_of rfl ?_
  rintro c x ⟨hs, hb⟩
  dsimp only
  rw [if_neg ht, if_neg (by simpa [hz] using drainTime_le hd), hs]
  exact if_neg (by simp [hb])

/-- R325: TENANT_DISABLE of a DISABLED tenant, which no command holds, has nothing to drain. -/
theorem tenantDisable_disabled :
    Completes s (.tenantDisable r d) 0x0206 r d (fun c => (c.tenant d.tgt).state = .disabled ∧ tenantBusy c d.tgt = false)
      (fun c x => endCmd c x .ok (leBytes 4 0 ++ leBytes 4 0 ++ leBytes 4 0)) := by
  refine completes_of rfl ?_
  rintro c x ⟨hs, hb⟩
  dsimp only
  rw [if_neg ht, if_neg (by simpa [hz] using drainTime_le hd), hs]
  exact if_neg (by simp [hb])

end Disable

/-- R331, R333: TENANT_RESET resets the tenant after a commit group that is due, and waits for the end. -/
theorem tenantReset_completes (ht : d.tgt ≠ 0) (hz : d.zeroBut [] = true) :
    Completes s (.tenantReset r d) 0x0207 r d (fun _ => True) (fun c x => resetTenant (groupApply c) d.tgt 0 (some x)) := by
  refine completes_of rfl ?_
  intro c x _
  exact (if_neg ht).trans (if_neg (by simp [hz]))

end Commands

/-! ### The end of a drain -/

/-- The chip once the drain of the tenant has ended DISABLED, with the cause of its TENANT_STATE event. -/
abbrev drainOver (c : Chip) (t cause : Nat) : Chip :=
  tenantTo (c.modTenant t (fun x => { x with drain := none })) t .disabled cause

/-- R327: the agents of the tenant that still hold lines are killed; the lines that they have lost. -/
abbrev killHolders (c : Chip) (t : Nat) : Chip × Nat :=
  (tenantAgents c t).foldl (fun (r : Chip × Nat) a =>
    if holdsNothing r.1 a.1 a.2 then r
    else ((killAgent r.1 a.1 a.2 false true).1, r.2 + (killAgent r.1 a.1 a.2 false true).2.1)) (c, 0)

/-- R327: the drain ends with cause 2 and source 195; one of a shutdown is over with source 359 too. -/
abbrev drainExpired (c : Chip) (t : Nat) (shutdown : Bool) : Chip :=
  let e := raise (drainOver c t 2) 195 (srcInfo 10 t)
  if shutdown then raise { e with rst := { e.rst with drainOut := true } } 359 (srcInfo 10 t) else e

/-- A row that may end a command too: its effect where one waits, and where none does. -/
theorem after_waiting {s : State} {i : Instr} {b ended : Chip} {cmd : Option CmdRef} {told : CmdRef → Chip}
    (h : exec i s = outcome s b) (hb : b = cmd.elim ended told) :
    (∀ x, cmd = some x → After s i (told x)) ∧ (cmd = none → After s i ended) :=
  ⟨fun x hx => after_of h (by rw [hb, hx]; rfl), fun hx => after_of h (by rw [hb, hx]; rfl)⟩

section Drain
variable {c : Chip} {t : Nat} {d : Drain} (hd : (c.tenant t).drain = some d) (hs : (c.tenant t).state = .draining)
include hd hs

/-- R326: a drain with nothing left ends with cause 1, and a TENANT_DISABLE that waits for it with the result. -/
theorem drainComplete_drained (hall : drained c t = true) :
    let e := endFlushes c t
    let ended := drainOver e.1 t 1
    drainComplete t c = d.cmd.elim ended (fun x => endCmd ended x .ok (drainResult ended t d (d.flushed + e.2))) := by
  unfold drainComplete
  rw [hd]
  dsimp only
  rw [if_neg (by simp [hs, hall])]
  cases d.cmd <;> rfl

/-- R327: at its deadline a drain kills the agents that hold lines and aborts the jobs, and a TENANT_DISABLE that waits for it ends
DRAIN_TIMEOUT. -/
theorem tenantDrainDeadline_past (hp : d.deadline ≤ c.ivl) :
    let k := killHolders (endFlushes c t).1 t
    let j := abortTenantJobs k.1 t
    let ended := drainExpired j.1 t d.shutdown
    tenantDrainDeadline t c =
      d.cmd.elim ended (fun x => endCmd ended x .drainTimeout (drainResult ended t d k.2 ++ leBytes 3 j.2)) := by
  unfold tenantDrainDeadline
  rw [hd]
  dsimp only
  rw [if_neg (by simp [hs, hp])]
  cases d.cmd <;> rfl

end Drain

/-- Settles O38: each clause is the lemma about its row above. -/
theorem tenantStateRowsComplete : Obligations.TenantStateRowsComplete := by
  unfold Obligations.TenantStateRowsComplete
  intro s
  exact ⟨fun r d => ⟨fun hz => ⟨tenantEnable_disabled s r d hz, tenantEnable_draining s r d hz, tenantEnable_enabled s r d hz⟩,
      fun ht hz hd => ⟨tenantDisable_enabled s r d ht hz hd, tenantDisable_disabled s r d ht hz hd⟩,
      tenantReset_completes s r d⟩,
    fun t d hd hs => ⟨fun hall => after_waiting rfl (drainComplete_drained hd hs hall),
      fun hp => after_waiting rfl (tenantDrainDeadline_past hd hs hp)⟩⟩

end Sys2Proof.Machine
end

section
/-!
What every step of the machine is and keeps: the front command runs, a next state follows, the invariant of a safe run holds (R349, R406,
R409 to R411).
-/
namespace Sys2Proof.Machine

/-- Settles O1: the queue is the front command before the rest. -/
theorem stepRunsFrontCommand : Obligations.StepRunsFrontCommand := by
  unfold Obligations.StepRunsFrontCommand
  exact fun _ _ => rfl

/-- A step of a waiting command answers a state whose queue is the rest, whose chip is what the command's conclusion leaves. -/
theorem step_waiting {s : State} {i : Instr} {rest : List Instr} (h : s.pending = i :: rest) :
    ∃ c, step s = .next { pending := rest, chip := conclude s.chip c } := by
  obtain ⟨c, hc⟩ := exec_is_outcome i { s with pending := rest }
  refine ⟨c, ?_⟩
  unfold step
  rw [h]
  exact hc

/-- Settles O3: an empty queue gives a core cycle, and every command's outcome is a next state. -/
theorem everyStepAnswersNextState : Obligations.EveryStepAnswersNextState := by
  unfold Obligations.EveryStepAnswersNextState
  intro s
  cases h : s.pending with
  | nil => exact ⟨_, step_idle h rfl, h⟩
  | cons i rest =>
    obtain ⟨c, hc⟩ := step_waiting h
    exact ⟨_, hc, rfl⟩

/-! ### The invariant -/

/-- Settles O4: nothing waits, nothing is left over, no source is pending and the pins are high. -/
theorem resetStateIsSafe : Obligations.ResetStateIsSafe := by
  unfold Obligations.ResetStateIsSafe
  exact ⟨rfl, rfl, fun _ => rfl, fun h => h⟩

/-- A core cycle in which no reaction is left over leaves none. -/
theorem coreCycle_todo {c : Chip} (h : c.flt.todo = []) : (coreCycle c).flt.todo = [] := by
  unfold coreCycle
  split
  · exact conclude_todo _ _
  · split <;> exact (pins_todo _).trans h

/-- After a core cycle the pins follow the collector. -/
theorem coreCycle_follow (c : Chip) : PinsFollow (coreCycle c) := by
  unfold coreCycle
  split
  · exact conclude_follow _ _
  · split <;> exact pins_follow _

/-- Settles O5: a core cycle keeps the queue and the reactions, a command takes the front of the queue, and both end with the pins set. -/
theorem everyStepKeepsSafety : Obligations.EveryStepKeepsSafety := by
  unfold Obligations.EveryStepKeepsSafety
  rintro s t ⟨hq, ht, -⟩ hs
  cases h : s.pending with
  | nil =>
    rw [step_idle h rfl] at hs
    cases hs
    exact ⟨hq, coreCycle_todo ht, coreCycle_follow _⟩
  | cons i rest =>
    obtain ⟨c, hc⟩ := step_waiting h
    rw [hc] at hs
    cases hs
    unfold QueueOk at hq
    rw [h, List.all_cons, Bool.and_eq_true] at hq
    exact ⟨hq.2, conclude_todo _ _, conclude_follow _ _⟩

/-- R409, R410: the pins are all that a conclusion sets. -/
theorem pins_eq (c : Chip) : pins c =
    { c with flt := { c.flt with irqLow := if c.rst.running then irqDue c else c.flt.irqLow,
                                 errLow := c.flt.errLow || c.flt.errMin } } := by
  unfold pins
  cases h : c.rst.running <;> rfl

/-- Settles O10: with no reaction and the pooling state as it was, the conclusion is the pins. -/
theorem quietCommandLeavesOnlyPins : Obligations.QuietCommandLeavesOnlyPins := by
  unfold Obligations.QuietCommandLeavesOnlyPins
  intro a b ht hp
  exact (conclude_quiet a b ht hp).trans (pins_eq b)

end Sys2Proof.Machine
end

section
/-!
The raise of a source and the clearing of its pending bit (R400).
-/
namespace Sys2Proof.Machine

/-- R400: clearing the pending bit clears the record with it, and keeps the count. -/
theorem clearPending_source {c : Chip} (n : Nat) (h : c.flt.sources.wf = true) :
    (clearPending c n).source n = { c.source n with pending := false, first := 0, info := 0 } :=
  Tbl.look_put _ _ _ h

/-- R400: clearing a pending bit touches no other source. -/
theorem clearPending_source_ne (c : Chip) {n m : Nat} (h : m ≠ n) : (clearPending c n).source m = c.source m :=
  Tbl.look_put_ne _ _ h

/-- Settles O11: a raise writes `raiseSource` into its own source, a clear its own entry. -/
theorem raiseSetsPendingAndRecord : Obligations.RaiseSetsPendingAndRecord := by
  unfold Obligations.RaiseSetsPendingAndRecord
  intro c n v hr
  dsimp only
  rw [raise_source c n n v hr, if_pos rfl]
  refine ⟨rfl, rfl, ?_, ?_, ?_, clearPending_source n, fun m hm => clearPending_source_ne c hm⟩
  · intro h; simp [raiseSource, h]
  · intro h; simp [raiseSource, h]
  · intro m hm; rw [raise_source c n m v hr, if_neg hm]

end Sys2Proof.Machine
end

section
/-!
How a vendor command is delivered, checked, held up and staged, and how it ends (R343, R344, R346, R349, R359, R360, R363, R366,
R370).
-/
namespace Sys2Proof.Machine

/-- A vendor row completes with what the runner makes of it, whatever its body. -/
theorem after_of_runner {i : Instr} {op r : Nat} {d : Desc} {s : State} {c : Chip} (h : i.vendor = some (op, r, d))
    (e : ∀ body, runCmd op body r d s.chip = c) : After s i c := by
  obtain ⟨body, hb⟩ := vendor_runs i op r d s h
  exact after_of hb (e body)

/-! ### Before the body runs -/

section Turn
variable {c : Chip} {op r : Nat} {d : Desc} (body : Chip → CmdRef → Chip)

/-- R360: a command whose path is not served changes nothing. -/
theorem runCmd_of_unserved (h : fwServes c r op = false) : runCmd op body r d c = c := by
  simp [runCmd, h]

/-- R349: a command that may not start changes nothing. -/
theorem runCmd_of_unstartable (h : startable [] (c.ring (ringKey r)).flight op d = none) : runCmd op body r d c = c := by
  simp [runCmd, h]

section Startable
variable {f : InFlight} (hs : startable [] (c.ring (ringKey r)).flight op d = some f)
include hs

/-- R359: a command that waits for another manager path changes nothing. -/
theorem runCmd_of_waiting (h : pathWaits c r f = true) : runCmd op body r d c = c := by
  simp [runCmd, hs, h]

/-- R346: a failed check of steps 2 to 4 ends the command with its status. -/
theorem runCmd_of_failing {st : Status} (hf : fwServes c r op = true) (hw : pathWaits c r f = false)
    (h : preStatus c r op d = some st) : runCmd op body r d c = endNow c (refOf r d f) st [] := by
  simp [runCmd, hf, hs, hw, h, refOf]

end Startable

/-- R366: a command that passes, is not staged, and would change a claimed object ends LOCK_HELD. -/
theorem runCmd_of_held {f : InFlight} (h : Passes c r op d f) (hg : d.stage = false) (hq : isQuery op = false)
    (hh : heldByOther c (claimsOf c op d) 0 = true) : runCmd op body r d c = endNow c (refOf r d f) .lockHeld [] := by
  rw [runCmd_of_passes body h, if_neg (by rw [hg]; decide), if_pos (by rw [hq, hh]; rfl)]

/-- R370: a command that passes and is staged goes to its group. -/
theorem runCmd_of_staged {f : InFlight} (h : Passes c r op d f) (hg : d.stage = true) :
    runCmd op body r d c = stage c (refOf r d f) op d :=
  (runCmd_of_passes body h).trans (if_pos hg)

end Turn

/-- Settles O7: a failed check and a foreign claim each end the command in the runner. -/
theorem vendorCommandChecksInOrder : Obligations.VendorCommandChecksInOrder := by
  unfold Obligations.VendorCommandChecksInOrder
  intro i op r d s f hi hf hs hw
  exact ⟨fun st hp => after_of_runner hi fun body => runCmd_of_failing body hs hf hw hp,
    fun hp hg hq hh => after_of_runner hi fun body => runCmd_of_held body ⟨hf, hs, hw, hp⟩ hg hq hh⟩

/-- Settles O9: each reason to wait leaves the chip as it is. -/
theorem vendorCommandWaitsItsTurn : Obligations.VendorCommandWaitsItsTurn := by
  unfold Obligations.VendorCommandWaitsItsTurn
  rintro i op r d s hi (hf | hs | ⟨f, hs, hw⟩)
  · exact after_of_runner hi fun body => runCmd_of_unserved body hf
  · exact after_of_runner hi fun body => runCmd_of_unstartable body hs
  · exact after_of_runner hi fun body => runCmd_of_waiting body hs hw

/-! ### Staging -/

section Stage
variable {c : Chip} {x : CmdRef} (op : Nat) {d : Desc}

/-- R370: the group does not exist. -/
theorem stage_absent (h : (c.group d.grp).state = .none) : stage c x op d = endNow c x .noSuchTarget [] := by
  simp [stage, h]

/-- R363, R370: the group belongs to another ring. -/
theorem stage_foreign (h : (c.group d.grp).state ≠ .none) (ho : (c.group d.grp).owner ≠ x.ring) :
    stage c x op d = endNow c x .lockHeld [] := by
  simp [stage, h, ho]

/-- R370: the group is not OPEN. -/
theorem stage_unopened (h : (c.group d.grp).state ≠ .none) (ho : (c.group d.grp).owner = x.ring)
    (hs : (c.group d.grp).state ≠ .opened) : stage c x op d = endNow c x .busy [] := by
  simp [stage, h, ho, hs]

section Open
variable (h : (c.group d.grp).state = .opened) (ho : (c.group d.grp).owner = x.ring)
include h ho

/-- R370: the group has no room. -/
theorem stage_full (hr : 1024 ≤ (c.group d.grp).cmds ∨ 256 * 1024 < (c.group d.grp).bytes + copiedBytes d) :
    stage c x op d = endNow c x .capacity [] := by
  unfold stage
  dsimp only
  rw [if_neg (by rw [h]; decide), if_neg (not_not_intro ho), if_neg (not_not_intro h), if_pos hr]

variable (hr : ¬ (1024 ≤ (c.group d.grp).cmds ∨ 256 * 1024 < (c.group d.grp).bytes + copiedBytes d))
include hr

/-- R370: another group claims an object. -/
theorem stage_claimed (hh : heldByOther c (claimsOf c op d) d.grp = true) : stage c x op d = endNow c x .lockHeld [] := by
  unfold stage
  dsimp only
  rw [if_neg (by rw [h]; decide), if_neg (not_not_intro ho), if_neg (not_not_intro h), if_neg hr, if_pos hh]

/-- The group with the descriptor, its bytes and its claims. -/
abbrev groupWith (c : Chip) (g : Group) (op r : Nat) (d : Desc) : Group :=
  { g with items := g.items ++ [Item.cmd op r d], bytes := g.bytes + copiedBytes d, claims := (claimsOf c op d).foldl addOnce g.claims }

/-- R370: the descriptor joins the group. -/
theorem stage_joins (hh : heldByOther c (claimsOf c op d) d.grp = false) :
    stage c x op d = endNow (c.setGroup d.grp (groupWith c (c.group d.grp) op x.ring d)) x .ok [] true := by
  unfold stage
  dsimp only
  rw [if_neg (by rw [h]; decide), if_neg (not_not_intro ho), if_neg (not_not_intro h), if_neg hr, if_neg (by rw [hh]; decide)]

end Open

end Stage

/-- Settles O8: each clause is the case of `stage` for its state of the group. -/
theorem stagingCopiesDescriptorIntoGroup : Obligations.StagingCopiesDescriptorIntoGroup := by
  unfold Obligations.StagingCopiesDescriptorIntoGroup
  intro i op r d s f hi hp hg
  dsimp only
  have run {c : Chip} (e : stage s.chip (refOf r d f) op d = c) : After s i c :=
    after_of_runner hi fun body => (runCmd_of_staged body hp hg).trans e
  have room (h : (decide (1024 ≤ (s.chip.group d.grp).cmds) ||
      decide (256 * 1024 < (s.chip.group d.grp).bytes + copiedBytes d)) = false) :
      ¬ (1024 ≤ (s.chip.group d.grp).cmds ∨ 256 * 1024 < (s.chip.group d.grp).bytes + copiedBytes d) := by
    simpa using h
  exact ⟨fun h => run (stage_absent op h), fun h ho => run (stage_foreign op h ho),
    fun h ho hs => run (stage_unopened op h ho hs),
    fun h ho hf => run (stage_full op h ho (by simpa using hf)),
    fun h ho hf hh => run (stage_claimed op h ho (room hf) hh),
    fun h ho hf hh => run (stage_joins op h ho (room hf) hh)⟩

/-! ### The end of a command -/

section End
variable {c : Chip} {x : CmdRef} {f : InFlight} (hx : x.ring < 8192)
  (hf : (c.ring (x.ring / 2)).flight.find? (fun y => sameCmd y.cmd x) = some f)
include hx

/-- A command ring is known by its pair. -/
theorem ringKey_of_lt : ringKey x.ring = x.ring / 2 := by
  unfold ringKey
  rw [if_neg (by omega)]

/-- R344: a command of a ring where no RING_STOP waits only gives its slot back. -/
theorem leaveRing_quiet (hs : (c.ring (x.ring / 2)).stopCmd = none) :
    leaveRing c x = c.setRing (x.ring / 2) { c.ring (x.ring / 2) with
      flight := dropFirst (c.ring (x.ring / 2)).flight x, reserved := (c.ring (x.ring / 2)).reserved - 1 } := by
  have : x.ring ≠ 8192 := by omega
  unfold leaveRing
  simp [ringKey_of_lt hx, hs, this]

include hf

/-- R344: a command that ends OK without RESPOND writes no event. -/
theorem endNow_silent {st : Status} (res : List Byte) (h : st = .ok ∧ x.respond = false ∧ f.restarted = false) :
    endNow c x st res = leaveRing c x := by
  obtain ⟨h1, h2, h3⟩ := h
  unfold endNow
  simp only [ringKey_of_lt hx, hf]
  rw [if_pos (by simp [h1, h2, h3, hx])]

/-- R343: any other command of a command ring ends with its event. -/
theorem endNow_event {st : Status} (res : List Byte) (h : ¬ (st = .ok ∧ x.respond = false ∧ f.restarted = false)) :
    endNow c x st res = writeRecord (leaveRing c x) (x.ring / 2)
      { code := x.opcode, status := st, tag := x.tag, result := res, restarted := f.restarted } := by
  have h' : ¬ (st = .ok ∧ (!x.respond) = true ∧ (!f.restarted) = true ∧ x.ring < 8192) := by
    rintro ⟨h1, h2, h3, -⟩
    exact h ⟨h1, by simpa using h2, by simpa using h3⟩
  unfold endNow
  simp only [ringKey_of_lt hx, hf]
  rw [if_neg h']
  unfold cmdRecord
  rw [if_neg (by omega)]

end End

/-- Settles O12: the command leaves its ring, and its event, if it has one, is the record at EVT_TAIL. -/
theorem eventRecordWrittenAtTail : Obligations.EventRecordWrittenAtTail := by
  unfold Obligations.EventRecordWrittenAtTail
  intro c x st res f hx hf hs
  refine ⟨fun h => (endNow_silent hx hf res h).trans (leaveRing_quiet hx hs), fun h hu hw => ?_⟩
  rw [endNow_event hx hf res h, leaveRing_quiet hx hs]
  exact writeRecord_setRing c _ _ _ hu hw

end Sys2Proof.Machine
end

section
/-!
The commands of commit groups and whom they belong to (R362 to R364, R366 to R370, R373, R374, R379).
-/
namespace Sys2Proof.Machine

/-- A vendor command completes as its body says of a command with the ring, the opcode and the descriptor's tag and target. -/
theorem completes_of_known {s : State} {i : Instr} {op r : Nat} {d : Desc} {pre : Chip → Prop} {eff body : Chip → CmdRef → Chip}
    (h : exec i s = outcome s (runCmd op body r d s.chip))
    (e : ∀ c x, x.ring = r → x.tag = d.tag ∧ x.opcode = op ∧ x.target = d.tgt → pre c → body c x = eff c x) :
    Completes s i op r d pre eff := by
  intro f hr hp
  exact after_of h (by rw [runCmd_of_runs body hr]; exact e _ _ rfl (startable_names hr.1.2.1) hp)

/-- A vendor command completes as its body says of a command of its ring on its target. -/
theorem completes_of_named {s : State} {i : Instr} {op r : Nat} {d : Desc} {pre : Chip → Prop} {eff body : Chip → CmdRef → Chip}
    (h : exec i s = outcome s (runCmd op body r d s.chip))
    (e : ∀ c x, x.ring = r → x.target = d.tgt → pre c → body c x = eff c x) : Completes s i op r d pre eff :=
  completes_of_known h fun c x hr hn => e c x hr hn.2.2

section Commands
variable (s : State) (r : Nat) (d : Desc)

/-- The lease that GROUP_OPEN asks for, in ms (R362). -/
abbrev leaseAsked (d : Desc) : Nat := if d.u32 16 = 0 then 10000 else d.u32 16

/-- R362, R369: GROUP_OPEN under a free ID, with room for the ring, makes an OPEN group, and answers and clears the report of
involuntary discards. -/
theorem groupOpen_completes (hz : d.zeroBut [(16, 4)] = true) (h0 : d.tgt ≠ 0) (hf : d.tgt ≠ 0xFFFFFFFF) (hl : leaseAsked d ≤ 600000) :
    Completes s (.groupOpen r d) 0x0300 r d
      (fun c => (c.group d.tgt).state = .none ∧
        (c.grp.groups.filter (fun y => y.2.state != .none)).length < 64 ∧
        (c.grp.groups.filter (fun y => y.2.state != .none && y.2.owner == r)).length < 4)
      (fun c x => let c1 := c.setGroup d.tgt { state := .opened, owner := r, expiry := c.now + ms (leaseAsked d) }
        endCmd { c1 with grp := { c1.grp with discGroup := 0, discCause := 0, discRing := 0, discCount := 0 } } x .ok
          (leBytes 4 c.grp.discGroup ++ leBytes 1 c.grp.discCause ++ leBytes 2 c.grp.discRing ++ leBytes 1 c.grp.discCount)) := by
  refine completes_of_ring rfl ?_
  rintro c x rfl ⟨hs, ha, hm⟩
  have room : ¬ (64 ≤ ((c.grp.groups.filter (fun y => y.2.state != .none)).map (·.2)).length ∨
      4 ≤ (((c.grp.groups.filter (fun y => y.2.state != .none)).map (·.2)).filter (fun y => y.owner == x.ring)).length) := by
    rw [List.length_map, List.filter_map, List.length_map, List.filter_filter]
    simp only [Function.comp_def, Bool.and_comm]
    omega
  dsimp only
  rw [if_neg (by simp only [hz, h0, hf]; simpa using hl), if_neg (not_not_intro hs), if_neg room]
  rfl

section Own
variable {c : Chip} {x : CmdRef}

/-- R363: a command of the owner on its OPEN group passes. -/
theorem refusal_of_opened {l : List GState} (hs : (c.group x.target).state = .opened) (ho : (c.group x.target).owner = x.ring)
    (hl : l.contains .opened = true) (m : Bool) : groupRefusal c x m l = none :=
  refusal_own (hs ▸ hl) (by rw [hs]; decide) (.inl ho)

end Own

/-- R364: GROUP_CHECK of an OPEN group of its ring begins a check. -/
theorem groupCheck_begins (hz : d.zeroBut [] = true) :
    Completes s (.groupCheck r d) 0x0301 r d (fun c => (c.group d.tgt).state = .opened ∧ (c.group d.tgt).owner = r)
      (fun c x => beginCheck c x .checking 0) := by
  refine completes_of_named rfl ?_
  rintro c x rfl ht ⟨hs, ho⟩
  rw [← ht] at hs ho
  rw [if_neg (by simp [hz]), refusal_of_opened hs ho rfl false]

/-- R374: GROUP_COMMIT of an OPEN group of its ring, with an instant that it may name, begins a commit. -/
theorem groupCommit_begins (hz : d.zeroBut [(16, 8)] = true) :
    Completes s (.groupCommit r d) 0x0302 r d
      (fun c => (c.group d.tgt).state = .opened ∧ (c.group d.tgt).owner = r ∧ (d.u64 16 = 0 ∨ c.ft.mode ≠ .free) ∧
        d.u64 16 ≤ c.now + sec 60)
      (fun c x => beginCheck c x .committing (d.u64 16)) := by
  refine completes_of_named rfl ?_
  rintro c x rfl ht ⟨hs, ho, hm, hi⟩
  rw [← ht] at hs ho
  dsimp only
  rw [if_neg (by simp [hz]), refusal_of_opened hs ho rfl false]
  dsimp only
  rw [if_neg (fun h => hm.elim h.1 (fun h' => h' h.2)), if_neg (Nat.not_lt.mpr hi)]

/-- Every state of a group that exists is one in which it may be discarded or queried. -/
theorem contains_of_present {g : GState} (h : g ≠ .none) : [GState.opened, .checking, .committing, .armed].contains g = true := by
  cases g
  case none => exact absurd rfl h
  all_goals rfl

/-- R368: GROUP_DISCARD of a group of its ring, or by the manager, drops it. -/
theorem groupDiscard_drops (hz : d.zeroBut [] = true) :
    Completes s (.groupDiscard r d) 0x0303 r d
      (fun c => (c.group d.tgt).state ≠ .none ∧ ((c.group d.tgt).owner = r ∨ isManager r = true))
      (fun c x => endCmd (dropGroup c d.tgt) x .ok) := by
  refine completes_of_named rfl ?_
  rintro c x rfl ht ⟨hs, ho⟩
  rw [← ht] at hs ho ⊢
  rw [if_neg (by simp [hz]), refusal_own (contains_of_present hs) hs (ho.imp_right (fun h => ⟨rfl, h⟩))]

/-- R379: GROUP_DISCARD of a group that has applied, whose commit has not ended, comes too late. -/
theorem groupDiscard_late (hz : d.zeroBut [] = true) :
    Completes s (.groupDiscard r d) 0x0303 r d
      (fun c => (c.group d.tgt).state = .none ∧ c.grp.tails.any (fun t => (match t.2.cmd with
        | some y => y.target == d.tgt
        | none => false) && (t.2.owner == r || isManager r)) = true)
      (fun c x => endCmd c x .okLateAbort) := by
  refine completes_of_named rfl ?_
  rintro c x rfl ht ⟨hs, ha⟩
  rw [← ht] at hs ha
  have late : tailOf c x = true := ha
  have gone : groupRefusal c x true [.opened, .checking, .committing, .armed] = some .noSuchTarget := by
    unfold groupRefusal
    exact if_pos hs
  rw [if_neg (by simp [hz]), gone]
  dsimp only
  rw [if_pos ⟨rfl, late⟩]

/-- R367: GROUP_RENEW of a group of its ring that is not ARMED sets and answers the new expiry. -/
theorem groupRenew_sets (hz : d.zeroBut [(16, 4)] = true) (h0 : d.u32 16 ≠ 0) (hl : d.u32 16 ≤ 600000) :
    Completes s (.groupRenew r d) 0x0305 r d
      (fun c => ((c.group d.tgt).state = .opened ∨ (c.group d.tgt).state = .checking ∨ (c.group d.tgt).state = .committing) ∧
        (c.group d.tgt).owner = r)
      (fun c x => endCmd (c.setGroup d.tgt { c.group d.tgt with expiry := c.now + ms (d.u32 16) }) x .ok
        (leBytes 8 (c.now + ms (d.u32 16)))) := by
  refine completes_of_named rfl ?_
  rintro c x rfl ht ⟨hs, ho⟩
  rw [← ht] at hs ho ⊢
  have pass : groupRefusal c x false [.opened, .checking, .committing] = none := by
    refine refusal_own ?_ ?_ (.inl ho) <;> rcases hs with h | h | h <;> rw [h] <;> decide
  dsimp only
  rw [if_neg (by simp [hz, h0, hl]), pass]
  rfl

/-- R370: GROUP_QUERY of a group of its ring, or by the manager, reports it. -/
theorem groupQuery_reports :
    Completes s (.groupQuery r d) 0x0304 r d
      (fun c => d.zeroBut [(16, 12)] = true ∧ d.bufferOk r = true ∧ (c.group d.tgt).state ≠ .none ∧
        ((c.group d.tgt).owner = r ∨ isManager r = true))
      (fun c x => let g := c.group d.tgt
        endQuery c x d (Config.queryBytes 0x0304)
          (openFields ([g.state.code, g.owner, g.expiry, g.cmds, g.regs] ++ g.items.flatMap itemValues ++
           g.claims.flatMap (fun o => [o.kind.ctorIdx, o.index]) ++ [g.asked, g.applyAt]))) := by
  refine completes_of_named rfl ?_
  rintro c x rfl ht ⟨hz, hb, hs, ho⟩
  rw [← ht] at hs ho ⊢
  dsimp only
  rw [if_neg (by simp [hz, hb]), refusal_own (contains_of_present hs) hs (ho.imp_right (fun h => ⟨rfl, h⟩))]

/-- R367: at its expiry a group is discarded with cause 2. -/
theorem groupLeaseExpire_due {c : Chip} {id : Nat} (hr : c.rst.running = true) (hs : (c.group id).state ≠ .none)
    (he : (c.group id).expiry ≤ c.now) : groupLeaseExpire id c = discardGroup c id 2 :=
  if_pos ⟨hr, hs, he⟩

/-! ### Ownership -/

/-- A group of another ring. -/
abbrev ForeignGroup (c : Chip) : Prop := (c.group d.tgt).state ≠ .none ∧ (c.group d.tgt).owner ≠ r

variable {d} in
/-- R363: what another ring may not do with a group ends LOCK_HELD. -/
theorem refusal_of_foreign {c : Chip} {x : CmdRef} (l : List GState) (ht : x.target = d.tgt) (h : ForeignGroup x.ring d c) :
    groupRefusal c x false l = some .lockHeld := by
  obtain ⟨hs, ho⟩ := h
  rw [← ht] at hs ho
  exact refusal_other hs ho

/-- R363: GROUP_CHECK of another ring's group. -/
theorem groupCheck_foreign (hz : d.zeroBut [] = true) :
    Completes s (.groupCheck r d) 0x0301 r d (ForeignGroup r d) (fun c x => endCmd c x .lockHeld []) := by
  refine completes_of_named rfl ?_
  rintro c x rfl ht h
  rw [if_neg (by simp [hz]), refusal_of_foreign _ ht h]

/-- R363: GROUP_COMMIT of another ring's group. -/
theorem groupCommit_foreign (hz : d.zeroBut [(16, 8)] = true) :
    Completes s (.groupCommit r d) 0x0302 r d (ForeignGroup r d) (fun c x => endCmd c x .lockHeld []) := by
  refine completes_of_named rfl ?_
  rintro c x rfl ht h
  dsimp only
  rw [if_neg (by simp [hz]), refusal_of_foreign _ ht h]

/-- R363: GROUP_RENEW of another ring's group. -/
theorem groupRenew_foreign (hz : d.zeroBut [(16, 4)] = true) (h0 : d.u32 16 ≠ 0) (hl : d.u32 16 ≤ 600000) :
    Completes s (.groupRenew r d) 0x0305 r d (ForeignGroup r d) (fun c x => endCmd c x .lockHeld []) := by
  refine completes_of_named rfl ?_
  rintro c x rfl ht h
  dsimp only
  rw [if_neg (by simp [hz, h0, hl]), refusal_of_foreign _ ht h]

end Commands

/-- Settles O41: each clause is the lemma about its command above. -/
theorem groupCommandRowsComplete : Obligations.GroupCommandRowsComplete := by
  unfold Obligations.GroupCommandRowsComplete
  intro s
  exact ⟨fun r d => ⟨groupOpen_completes s r d, groupCheck_begins s r d, groupCommit_begins s r d,
      fun hz => ⟨groupDiscard_drops s r d hz, groupDiscard_late s r d hz⟩, groupRenew_sets s r d, groupQuery_reports s r d⟩,
    fun id hr hs he => after_of rfl (groupLeaseExpire_due hr hs he)⟩

/-- Settles O43: a claim and a foreign group stop a command in the runner, a foreign group each command on groups. -/
theorem commitOwnershipIsExclusive : Obligations.CommitOwnershipIsExclusive := by
  unfold Obligations.CommitOwnershipIsExclusive
  intro s
  refine ⟨fun i op r d f hi hp => ⟨fun hg hq hc => ?claimed, fun hg hs ho => ?staged⟩,
    fun r d => ⟨groupCheck_foreign s r d, groupCommit_foreign s r d, groupRenew_foreign s r d⟩⟩
  case claimed => exact after_of_runner hi fun body => runCmd_of_held body hp hg hq (held_of_claim hc)
  case staged => exact after_of_runner hi fun body => (runCmd_of_staged body hp hg).trans (stage_foreign op hs ho)

end Sys2Proof.Machine
end

section
/-!
The progress of commit groups: the end of a check, arming, the apply, the end of a commit (R364, R371 to R374, R376 to R378, R380).
-/
namespace Sys2Proof.Machine

section Check
variable {c : Chip} {id : Nat} (hr : c.rst.running = true) (hc : runningCheck c = some id)
include hr hc

/-- R371: a failure opens the group again. -/
theorem groupCheckEnd_fails (o : Option Nat) {n : Nat} {f : Refuse} (hf : groupFail c id = some (n, f)) :
    groupCheckEnd id o c = reopen c id f.status (f.bytes n) := by
  unfold groupCheckEnd
  rw [if_neg (by simp [hr, hc]), hf]

section Passes
variable (hf : groupFail c id = none)
include hf

/-- R364: a GROUP_CHECK that passes ends OK. -/
theorem groupCheckEnd_checked (o : Option Nat) (hs : (c.group id).state = .checking) : groupCheckEnd id o c = reopen c id .ok [] := by
  unfold groupCheckEnd
  rw [if_neg (by simp [hr, hc]), hf]
  exact if_pos hs

section Commit
variable (hs : (c.group id).state = .committing)
include hs

/-- R376: a block whose storage is found in error fails the commit. -/
theorem groupCheckEnd_storage (b : Nat) :
    groupCheckEnd id (some b) c = reopen (raise c 226) id .checkFailed
      (({ status := .checkFailed, kind := 3, obj := b, need := 0, have_ := 0 } : Refuse).bytes 0xFFFF) := by
  unfold groupCheckEnd
  rw [if_neg (by simp [hr, hc]), hf]
  exact if_neg (by rw [hs]; decide)

/-- R374: a commit whose instant has passed ends STALE_TIME. -/
theorem groupCheckEnd_stale (h : applyInstant c (c.group id).asked ≤ c.now) : groupCheckEnd id none c = reopen c id .staleTime [] := by
  unfold groupCheckEnd
  rw [if_neg (by simp [hr, hc]), hf]
  exact (if_neg (by rw [hs]; decide)).trans (if_pos h)

/-- R374, R376: a commit whose instant is to come is armed. -/
theorem groupCheckEnd_arms (h : c.now < applyInstant c (c.group id).asked) :
    groupCheckEnd id none c = armGroup c id (applyInstant c (c.group id).asked) := by
  unfold groupCheckEnd
  rw [if_neg (by simp [hr, hc]), hf]
  exact (if_neg (by rw [hs]; decide)).trans (if_neg (Nat.not_le.mpr h))

end Commit

end Passes

end Check

/-- R377, R378: the group that is due applies, once in a core cycle. -/
theorem groupApply_due {c : Chip} {id : Nat} (hr : c.rst.running = true) (hc : c.grp.cycle ≠ some c.ivl) (hd : dueGroup c = some id) :
    groupApply c = applyGroup c id := by
  unfold groupApply
  rw [if_neg (by simp [hr, hc]), hd]

/-- R380: a commit without further work left ends with the result of Table 13.5. -/
theorem groupCommitEnd_ends {c : Chip} {id k : Nat} {g : Group} {x : CmdRef}
    (ht : c.grp.tails.find? (fun t => t.2.left == 0 && (match t.2.cmd with
      | some x => x.target == id
      | none => false)) = some (k, g)) (hg : g.cmd = some x) :
    groupCommitEnd id c = endCmd { c with grp := { c.grp with tails := c.grp.tails.del k } } x
      (if g.basePast then .okBasePast else .ok) (commitResult g) := by
  unfold groupCommitEnd
  split
  case h_1 h => cases h.symm.trans ht
  case h_2 h =>
    cases h.symm.trans ht
    rw [hg]

/-- Settles O42: each clause is the lemma about its row above. -/
theorem groupProgressRowsComplete : Obligations.GroupProgressRowsComplete := by
  unfold Obligations.GroupProgressRowsComplete
  intro s
  refine ⟨fun id hr hc => ⟨fun o n f hf => after_of rfl (groupCheckEnd_fails hr hc o hf),
      fun o hf hs => after_of rfl (groupCheckEnd_checked hr hc hf o hs),
      fun hf hs h => after_of rfl (groupCheckEnd_stale hr hc hf hs h),
      fun b hf hs => after_of rfl (groupCheckEnd_storage hr hc hf hs b),
      fun hf hs h => after_of rfl (groupCheckEnd_arms hr hc hf hs h)⟩,
    fun id hr hc hd => after_of rfl (groupApply_due hr hc hd),
    fun id k g x ht hg => after_of rfl (groupCommitEnd_ends ht hg)⟩

end Sys2Proof.Machine
end

section
/-!
Ring pairs: doorbells, the fetch, heads, coalescing, set-up and stop (R339 to R345, R351, R550).
-/
namespace Sys2Proof.Machine

/-! ### Doorbells and heads -/

/-- R550: the path reaches the page of the tenant. -/
abbrev reachesPage (c : Chip) (path : Path) (t : Nat) : Prop :=
  (path = .endpoint ∧ t = 0 ∧ pathOpen c .endpoint = true) ∨ (path = .ld t ∧ (c.tenant t).state ≠ .none)

/-- R550: a write through a path that reaches the page acts. -/
theorem pageWrite_reaching {c : Chip} {path : Path} {t : Nat} (hr : c.rst.running = true) (ht : t < 4096) (hp : reachesPage c path t)
    (off : Nat) (f : Chip → Chip) : pageWrite c path t off f = f c := by
  have ht' : ¬ 4096 ≤ t := by omega
  unfold pageWrite
  rw [if_neg (by simp [hr, ht'])]
  obtain ⟨rfl, h0, ho⟩ | ⟨rfl, hs⟩ := hp
  · simp [ho, h0]
  · simp [hs]

section Doorbell
variable {c : Chip} {path : Path} {t : Nat} (v : BitVec 32) (hr : c.rst.running = true) (ht : t < 4096) (hp : reachesPage c path t)
include hr ht hp

/-- R341: while the tenant is reset a doorbell is only counted. -/
theorem doorbell_resetting (hs : (c.tenant t).resetting = true) :
    doorbell path t v c = c.modTenant t (fun x => { x with dbIgnored := x.dbIgnored + 1 }) :=
  (pageWrite_reaching hr ht hp 0 _).trans (if_pos hs)

section Answers
variable (hs : (c.tenant t).resetting = false)
include hs

/-- R341: a doorbell outside the ring, or of a ring that is not set up, is an error. -/
theorem doorbell_outside (ho : (c.ring t).state = .unset ∨ (c.ring t).cmdSize ≤ v.toNat % 65536) :
    doorbell path t v c = raise (c.setRing t { c.ring t with dbErr := true }) 208 (srcInfo 11 (2 * t)) :=
  (pageWrite_reaching hr ht hp 0 _).trans ((if_neg (by rw [hs]; decide)).trans (if_pos ho))

/-- R341: a doorbell inside the ring sets CMD_TAIL. -/
theorem doorbell_inside (hu : (c.ring t).state ≠ .unset) (hi : v.toNat % 65536 < (c.ring t).cmdSize) :
    doorbell path t v c = c.setRing t { c.ring t with cmdTail := v.toNat % 65536 } :=
  (pageWrite_reaching hr ht hp 0 _).trans
    ((if_neg (by rw [hs]; decide)).trans (if_neg (not_or.mpr ⟨hu, Nat.not_le.mpr hi⟩)))

end Answers

/-- R343: a write of EVT_HEAD stores it. -/
theorem evtHeadWrite_stores : evtHeadWrite path t v c = c.modRing t (fun q => { q with evtHead := v.toNat % 65536 }) :=
  pageWrite_reaching hr ht hp 4 _

end Doorbell

/-! ### The fetch and the interrupt -/

section Fetch
variable {c : Chip} {t : Nat} {f : Fetch} (h : servedRing c = some t)
include h

/-- R342, R344: a good fetch of the ring whose turn it is delivers the command. -/
theorem descriptorFetch_good (ho : f.ok = true) :
    descriptorFetch t f c =
      arrive ((takeTurn c t).modRing t (fun q => { q with cmdHead := (q.cmdHead + 1) % q.cmdSize, reserved := q.reserved + 1 }))
        (2 * t) f.opcode f.desc := by
  unfold descriptorFetch
  rw [if_neg (not_not_intro h), if_neg (by simp [ho])]

/-- R342: a failed fetch stops the ring. -/
theorem descriptorFetch_bad (ho : f.ok = false) : descriptorFetch t f c = fetchFailed (takeTurn c t) t := by
  unfold descriptorFetch
  rw [if_neg (not_not_intro h), if_pos (by simp [ho])]

/-- R342: a descriptor's read past its time is a failed fetch. -/
theorem completionTimeout_descriptor : completionTimeout (.descriptor t) c = fetchFailed (takeTurn c t) t := if_pos h

end Fetch

/-- R351: at the end of the coalescing interval an interrupt that waits goes out. -/
theorem evtCoalesceExpire_due {c : Chip} {t a : Nat} (ha : (c.ring t).intAt = some a) (hw : (c.ring t).intWait = true)
    (hp : c.past a (coalesceOf c t) = true) :
    evtCoalesceExpire t c = interrupt (c.setRing t { c.ring t with intWait := false, intAt := none }) t := by
  unfold evtCoalesceExpire
  dsimp only
  rw [ha]
  exact if_neg (by simp [hw, hp])

/-! ### The manager's rings -/

section Manager
variable {c : Chip} {path : Path} (v : BitVec 32) (h : pathOpen c path = true)
include h

/-- R340: while ENABLE is 1 already, only the other fields change. -/
theorem mgrRingEnable_again (he : (mgrFields c v.toNat).rings.mgrEnable = true) : mgrRingEnable path v c = mgrFields c v.toNat :=
  (if_neg (by simp [h])).trans (if_pos he)

section Off
variable (he : (mgrFields c v.toNat).rings.mgrEnable = false)
include he

/-- R340: sizes outside their range set the error bit. -/
theorem mgrRingEnable_badSizes
    (hs : ¬ (4 ≤ field v.toNat 0 5 ∧ field v.toNat 0 5 ≤ field v.toNat 5 5 ∧ field v.toNat 5 5 ≤ 16)) :
    mgrRingEnable path v c =
      { mgrFields c v.toNat with rings := { (mgrFields c v.toNat).rings with mgrErr := true } } :=
  (if_neg (by simp [h])).trans ((if_neg (by rw [he]; decide)).trans (if_pos (by omega)))

/-- R340: the manager's rings are made anew, and run. -/
theorem mgrRingEnable_goodSizes (hc : 4 ≤ field v.toNat 0 5) (hce : field v.toNat 0 5 ≤ field v.toNat 5 5) (hm : field v.toNat 5 5 ≤ 16) :
    let c2 := resetRing (mgrFields c v.toNat) 0
    let c3 := c2.setRing 0 { (c2.ring 0) with
      state := .running, cmdBase := c2.rings.mgrCmdBase, evtBase := c2.rings.mgrEvtBase, cmdLog2 := field v.toNat 0 5,
      evtLog2 := field v.toNat 5 5 }
    mgrRingEnable path v c = { c3 with rings := { c3.rings with mgrEnable := true, mgrErr := false } } :=
  (if_neg (by simp [h])).trans ((if_neg (by rw [he]; decide)).trans (if_neg (by omega)))

end Off

/-- R340: ENABLE 0 stops the manager's rings where they were enabled. -/
theorem mgrRingDisable_open :
    let c4 : Chip := { mgrFields c v.toNat with rings := { (mgrFields c v.toNat).rings with mgrEnable := false } }
    mgrRingDisable path v c = if (mgrFields c v.toNat).rings.mgrEnable then stopRing c4 0 else c4 :=
  if_neg (by simp [h])

end Manager

/-! ### Ring commands -/

section Commands
variable (s : State) (r : Nat) (d : Desc)

/-- The ring that RING_SETUP makes (R339, Table 12.1). -/
abbrev ringOf (c : Chip) (d : Desc) : Ring :=
  { state := if (c.tenant d.tgt).state = .enabled then .running else .stopped, cmdBase := BitVec.ofNat 64 (d.u64 16),
    evtBase := BitVec.ofNat 64 (d.u64 24), cmdLog2 := d.byte 32, evtLog2 := d.byte 33, vector := d.u16 34,
    coalesce := d.u16 36, unsol := BitVec.ofNat 16 (d.u16 38) ||| 1#16 }

/-- R339: RING_SETUP of a ring that does not run makes it anew, then tells the tenant of a reset that it has not been told of. -/
theorem ringSetup_makes (ht : d.tgt ≠ 0) (ho : ringSetupOk d = true) :
    Completes s (.ringSetup r d) 0x0230 r d (fun c => (c.ring d.tgt).state ≠ .running ∧ tenantBusy c d.tgt = false)
      (fun c x => let c1 := resetRing c d.tgt
        let c2 := c1.setRing d.tgt (ringOf c1 d)
        endCmd (if (c1.tenant d.tgt).resetTold then c2
          else unsolRing (c2.setTenant d.tgt { c1.tenant d.tgt with resetTold := true }) d.tgt 0x8003
            (resetEvent (c1.tenant d.tgt))) x .ok) := by
  refine completes_of rfl ?_
  rintro c x ⟨hs, hb⟩
  exact (if_neg ht).trans ((if_neg (by simp [ho])).trans (if_neg (by simp [hs, hb])))

/-- R358: RING_SETUP with TARGET 0 sets the unsolicited mask of the MCTP path. -/
theorem ringSetup_mctp (ht : d.tgt = 0) (hz : d.zeroBut [(16, 24)] = true) :
    Completes s (.ringSetup r d) 0x0230 r d (fun _ => True)
      (fun c x => endCmd { c with rings := { c.rings with
        mctpUnsol := some (endpointOf c x.tag, BitVec.ofNat 16 (d.u16 38) ||| 1#16) } } x .ok) :=
  completes_of rfl fun _ _ _ => (if_pos ht).trans (if_pos hz)

/-- RING_STOP stops the ring, and ends with the commands in flight. -/
theorem ringStop_stops (hz : d.zeroBut [] = true) :
    Completes s (.ringStop r d) 0x0231 r d (fun c => tenantBusy c d.tgt = false)
      (fun c x => endStop ((stopRing c d.tgt).modRing d.tgt (fun q => { q with stopCmd := some x })) d.tgt) :=
  completes_of rfl fun _ _ hb => (if_neg (by simp [hz])).trans (if_neg (by simp [hb]))

/-- RING_QUERY with a good buffer reports the ring. -/
theorem ringQuery_reports :
    Completes s (.ringQuery r d) 0x0232 r d (fun _ => d.zeroBut [(16, 12)] = true ∧ d.bufferOk r = true)
      (fun c x => let q := c.ring d.tgt
        endQuery c x d (Config.queryBytes 0x0232)
          (openFields [q.state.code, q.cmdHead, q.cmdTail, q.evtHead, q.evtTail, q.flight.length, q.lost, q.cmdBase.toNat, q.evtBase.toNat,
           q.cmdLog2, q.evtLog2, q.vector, q.coalesce, q.unsol.toNat])) := by
  refine completes_of_ring rfl ?_
  rintro c x hr ⟨hz, hb⟩
  exact if_neg (by simp [hz, hb, hr])

end Commands

/-- Settles O39: each clause is the lemma about its row above. -/
theorem ringRowsComplete : Obligations.RingRowsComplete := by
  unfold Obligations.RingRowsComplete
  intro s
  refine ⟨?pages, fun t f h => ⟨fun ho => after_of rfl (descriptorFetch_good h ho), fun ho => after_of rfl (descriptorFetch_bad h ho)⟩,
    fun t a ha hw hp => after_of rfl (evtCoalesceExpire_due ha hw hp), ?manager,
    fun r d => ⟨ringSetup_makes s r d, ringSetup_mctp s r d, ringStop_stops s r d, ringQuery_reports s r d⟩⟩
  case pages =>
    intro path t v hr ht hp
    exact ⟨fun hs => after_of rfl (doorbell_resetting v hr ht hp hs), fun hs ho => after_of rfl (doorbell_outside v hr ht hp hs ho),
      fun hs hu hi => after_of rfl (doorbell_inside v hr ht hp hs hu hi), after_of rfl (evtHeadWrite_stores v hr ht hp)⟩
  case manager =>
    intro path v h
    exact ⟨fun he => after_of rfl (mgrRingEnable_again v h he), fun he hs => after_of rfl (mgrRingEnable_badSizes v h he hs),
      fun he hc hce hm => after_of rfl (mgrRingEnable_goodSizes v h he hc hce hm), after_of rfl (mgrRingDisable_open v h)⟩

end Sys2Proof.Machine
end

section
/-!
NOP, ABORT, JOB_QUERY, commands over MCTP and by the console, the firmware's readiness (R342, R346, R352, R353, R358 to R360, R395).
-/
namespace Sys2Proof.Machine

section Commands
variable (s : State) (r : Nat) (d : Desc)

/-- R346: NOP ends OK. -/
theorem nop_completes : Completes s (.nop r d) 0x0233 r d (fun _ => True) (fun c x => endCmd c x .ok) :=
  completes_of rfl fun _ _ _ => rfl

/-- R352: the started commands of a ring with the tag that ABORT names, but for the ABORT itself. -/
abbrev abortTargets (c : Chip) (r : Nat) (d : Desc) : List InFlight :=
  (c.ring (ringKey d.tgt)).flight.filter (fun g => g.started && g.cmd.tag == BitVec.ofNat 32 (d.u32 16) &&
    !sameCmd g.cmd { ring := r, tag := d.tag, opcode := 0x0400, target := d.tgt })

/-- R352: ABORT of a started, abortable command leaves its list without an event and aborts it. -/
theorem abort_aborts (hz : d.zeroBut [(16, 4)] = true) (f : InFlight) (rest : List InFlight) :
    Completes s (.abort r d) 0x0400 r d (fun c => abortTargets c r d = f :: rest ∧ abortable f.cmd.opcode = true)
      (fun c x => abortRunning (leaveRing c x) { f.cmd with ring := d.tgt } x.tag) := by
  refine completes_of_known rfl ?_
  rintro c x - ⟨ht, ho, hg⟩ ⟨hf, ha⟩
  have same (y : CmdRef) : sameCmd y x = sameCmd y { ring := r, tag := d.tag, opcode := 0x0400, target := d.tgt } := by
    unfold sameCmd
    rw [ht, ho, hg]
  simp only [same, hf]
  rw [if_neg (by simp [hz]), if_neg (by simp [ha])]

/-- R395: JOB_QUERY answers a job's opcode, state, engine and progress. -/
theorem jobQuery_answers (hz : d.zeroBut [(16, 4)] = true) (j : Job) :
    Completes s (.jobQuery r d) 0x0401 r d (fun c => jobByTag c d.tgt (BitVec.ofNat 32 (d.u32 16)) = some j)
      (fun c x => endCmd c x .ok (leBytes 2 ((j.cmd.map (·.opcode)).getD 0) ++
        leBytes 1 (if j.ended then 2 else if j.engine.isSome then 1 else 0) ++ leBytes 1 (j.engine.getD 0) ++ leBytes 8 j.progress)) := by
  refine completes_of rfl ?_
  intro c x hj
  rw [if_neg (by simp [hz]), hj]

end Commands

/-! ### MCTP and the console -/

section Mctp
variable {c : Chip} (e : Nat) {m : MctpMsg}

/-- R420, R491: the requests that are served while the fabric die is unavailable. -/
abbrev alwaysServed (c : Chip) (m : MctpMsg) : Bool :=
  m.opcode == 0x0610 || m.opcode == 0x0611 || (m.opcode == 0x0800 && c.sec.recovery)

/-- The requests of an endpoint that are outstanding (R358). -/
abbrev outstanding (c : Chip) (e : Nat) : Nat := (c.rings.mctpOut.filter (fun x => x.1 == e)).length

/-- R358: a malformed message raises source 213. -/
theorem mctpMessage_malformed (hw : m.wellFormed = false) : mctpMessage e m c = raise c 213 (srcInfo 11 8192) :=
  if_pos (by simp [hw])

section WellFormed
variable (hw : m.wellFormed = true)
include hw

/-- R358: while the fabric die is unavailable what is not always served is BUSY. -/
theorem mctpMessage_unavailable (hr : c.rst.running = false) (hs : alwaysServed c m = false) :
    mctpMessage e m c = mctpAnswer c e m.opcode m.desc .busy [1] :=
  (if_neg (by simp [hw])).trans (if_pos ⟨by simp [hr], (Bool.not_eq_true' _).mpr hs⟩)

section Served
variable (hr : c.rst.running = true ∨ alwaysServed c m = true)
include hr

omit hw in
/-- A message that is served meets neither of the first two refusals. -/
theorem not_unavailable : ¬ ((!c.rst.running) = true ∧ (!alwaysServed c m) = true) := by
  rintro ⟨h1, h2⟩
  rw [Bool.not_eq_true'] at h1 h2
  exact hr.elim (fun h => absurd (h1.symm.trans h) nofun) (fun h => absurd (h2.symm.trans h) nofun)

/-- R358: an endpoint with eight requests outstanding is BUSY. -/
theorem mctpMessage_full (hh : 8 ≤ outstanding c e) : mctpMessage e m c = mctpAnswer c e m.opcode m.desc .busy [] :=
  (if_neg (by simp [hw])).trans ((if_neg (not_unavailable hr)).trans (if_pos hh))

/-- R358: any other request is delivered. -/
theorem mctpMessage_delivers (hh : outstanding c e < 8) :
    mctpMessage e m c =
      arrive { c with rings := { c.rings with mctpOut := c.rings.mctpOut ++ [(e, m.desc.tag)] } } 8192 m.opcode m.desc :=
  (if_neg (by simp [hw])).trans ((if_neg (not_unavailable hr)).trans (if_neg (Nat.not_le.mpr hh)))

end Served

end WellFormed

end Mctp

section Console
variable {c : Chip} (hr : c.rst.running = true) (hf : (c.ring 8193).flight = []) {op : Nat} (d : Desc)
include hr hf

/-- R359: the console delivers a query at any time, another opcode with CONSOLE_CMD but for 0x08xx, and an unknown one. -/
theorem consoleCommand_delivers (h : knownOp op = false ∨ isQuery op = true ∨ (c.rings.console = true ∧ op / 256 ≠ 8)) :
    consoleCommand op d c = arrive c 8193 op d := by
  have h' : ¬ (knownOp op = true ∧ (!isQuery op) = true ∧ ((!c.rings.console) = true ∨ op / 256 = 8)) := by
    rintro ⟨hk, hq, hc⟩
    rcases h with h | h | ⟨h, h8⟩
    · rw [h] at hk; cases hk
    · rw [h] at hq; cases hq
    · exact hc.elim (fun hc => by rw [h] at hc; cases hc) h8
  exact (if_neg (by simp [hr, hf])).trans (if_neg h')

/-- R359: any other opcode is not permitted. -/
theorem consoleCommand_refuses (hk : knownOp op = true) (hq : isQuery op = false) (hc : c.rings.console = false ∨ op / 256 = 8) :
    consoleCommand op d c = cmdRecord c 8193 0 { code := op, status := .notPermitted, tag := d.tag } :=
  (if_neg (by simp [hr, hf])).trans (if_pos ⟨hk, by simp [hq], hc.imp_left (by simp)⟩)

end Console

/-! ### The firmware -/

/-- R360, R489: a firmware that is ready ends what its reset met, raises source 212 per ring, delivers queued fault events. -/
theorem mgmtFwReady_awaited {c : Chip} (hr : c.rst.running = true) (hw : c.rings.mgmtReset = true ∨ c.sec.bootWait.isSome = true) :
    let c1 : Chip := { c with rings := { c.rings with mgmtReset := false, fwReady := true },
                              sec := { c.sec with readyAt := some c.ivl, bootWait := none, actWait := none },
                              rst := { c.rst with cold := false } }
    let rs := restartedRings c1
    let c2 := rs.foldl (fun c r => (c.ring (ringKey r)).flight.foldl (fun c f => endRestarted c r f) c) c1
    mgmtFwReady c = deliverQueue (rs.foldl (fun c r => raise c 212 (srcInfo 11 r)) c2) :=
  if_neg (by rcases hw with h | h <;> simp [hr, h])

/-- Settles O40: each clause is the lemma about its row above. -/
theorem commandPathRowsComplete : Obligations.CommandPathRowsComplete := by
  unfold Obligations.CommandPathRowsComplete
  intro s
  refine ⟨fun r d => ⟨nop_completes s r d, abort_aborts s r d, jobQuery_answers s r d⟩, ?mctp,
    fun hr e => after_of rfl (if_pos hr), ?console, fun hr hw => after_of rfl (mgmtFwReady_awaited hr hw),
    fun t h => after_of rfl (completionTimeout_descriptor h), fun e => after_of rfl rfl⟩
  case mctp =>
    intro e m
    exact ⟨fun hw => after_of rfl (mctpMessage_malformed e hw), fun hw hr hs => after_of rfl (mctpMessage_unavailable e hw hr hs),
      fun hw hr hh => after_of rfl (mctpMessage_full e hw hr hh), fun hw hr hh => after_of rfl (mctpMessage_delivers e hw hr hh)⟩
  case console =>
    intro hr hf op d
    exact ⟨fun h => after_of rfl (consoleCommand_delivers hr hf d h), fun hk hq hc => after_of rfl (consoleCommand_refuses hr hf d hk hq hc)⟩

end Sys2Proof.Machine
end

section
/-!
The commands that queue jobs of the data mover (R203, R204, R386 to R389, R398).
-/
namespace Sys2Proof.Machine

section Commands
variable (s : State) (r : Nat) (d : Desc) (hn : d.tgt < 32)

/-- The job that COPY describes (Table 14.2). -/
abbrev copyJob (d : Desc) : Job :=
  { kind := .copy, src := d.u64 16, dst := d.u64 24, length := d.u64 32, srcSpace := field (d.byte 40) 0 2,
    dstSpace := field (d.byte 40) 2 2, pass := bitOf (d.byte 40) 4 }

/-- The job that FILL describes (Table 14.2). -/
abbrev fillJob (d : Desc) : Job :=
  { kind := .fill, dst := d.u64 16, length := d.u64 24, pattern := d.u64 32, dstSpace := field (d.byte 40) 2 2 }

/-- The job that DUMP describes (Table 14.2). -/
abbrev dumpJob (d : Desc) : Job :=
  { kind := .dump, source := d.byte 16, region := d.byte 17, offset := d.u32 20, dst := d.u64 24, length := d.u64 32 }

include hn

/-- R386: a job number below 32 exists. -/
theorem number_exists : ¬ 32 ≤ d.tgt := Nat.not_le.mpr hn

/-- R388: a COPY whose parameters, spaces, ranges and permissions pass queues its job. -/
theorem copy_queues (hz : d.zeroBut [(16, 26), (44, 4)] = true) (hb : d.byte 40 < 32)
    (hs : spaceOk (copyJob d).srcSpace (copyJob d).src = true) (hd : spaceOk (copyJob d).dstSpace (copyJob d).dst = true)
    (hl : lengthOk (copyJob d).length = true) (hr : jobRateOk d = true)
    (ho : (copyJob d).srcSpace = (copyJob d).dstSpace → overlap (copyJob d).src (copyJob d).dst (copyJob d).length = false) :
    let j := copyJob d
    let t := ringTenant r
    Completes s (.copy r d) 0x0410 r d
      (fun c => spaceMay c t j.srcSpace j.src = true ∧ spaceMay c t j.dstSpace j.dst = true ∧
        rangeOk c j.srcSpace j.src j.length = true ∧ rangeOk c j.dstSpace j.dst j.length = true ∧
        acceptedAll c t j.srcSpace j.src j.length = true ∧ acceptedAll c t j.dstSpace j.dst j.length = true ∧
        jobTaken c r d.tgt = false ∧ backingFree c j.dstSpace j.dst j.length = true)
      (fun c x => queueJob c x d j) := by
  refine completes_of rfl ?_
  rintro c x ⟨hms, hmd, hrs, hrd, has, had, ht, hf⟩
  have hb' : ¬ 32 ≤ d.byte 40 := Nat.not_le.mpr hb
  have ho' : ¬ ((copyJob d).srcSpace = (copyJob d).dstSpace ∧
      overlap (copyJob d).src (copyJob d).dst (copyJob d).length = true) := by
    rintro ⟨he, h⟩
    exact absurd ((ho he).symm.trans h) nofun
  dsimp only at *
  rw [if_neg (number_exists d hn), if_neg (by simp [hz, hb', hs, hd, hl, hr]), if_neg (by simp [hms, hmd]),
    if_neg (by simp only [hrs, hrd, has, had, ho']; decide), if_neg (by simp [ht, hf])]

/-- R388: a FILL whose parameters, space, range and permission pass queues its job. -/
theorem fill_queues (hz : d.zeroBut [(16, 26), (44, 4)] = true) (hb : d.byte 40 < 16) (h0 : field (d.byte 40) 0 2 = 0)
    (hd : spaceOk (fillJob d).dstSpace (fillJob d).dst = true) (hl : lengthOk (fillJob d).length = true) (hr : jobRateOk d = true) :
    let j := fillJob d
    let t := ringTenant r
    Completes s (.fill r d) 0x0411 r d
      (fun c => spaceMay c t j.dstSpace j.dst = true ∧ rangeOk c j.dstSpace j.dst j.length = true ∧
        acceptedAll c t j.dstSpace j.dst j.length = true ∧ jobTaken c r d.tgt = false ∧
        backingFree c j.dstSpace j.dst j.length = true)
      (fun c x => queueJob c x d j) := by
  refine completes_of rfl ?_
  rintro c x ⟨hm, hg, ha, ht, hf⟩
  have hb' : ¬ 16 ≤ d.byte 40 := Nat.not_le.mpr hb
  dsimp only at *
  rw [if_neg (number_exists d hn), if_neg (by simp [hz, hb', h0, hd, hl, hr]), if_neg (by simp [hm]), if_neg (by simp [hg, ha]),
    if_neg (by simp [ht, hf])]

/-- R387: a DUMP whose parameters and source range pass queues its job. -/
theorem dump_queues (hz : d.zeroBut [(16, 2), (20, 20), (41, 1), (44, 4)] = true) (hs : spaceOk 0 (d.u64 24) = true)
    (hl : lengthOk (d.u64 32) = true) (hr : jobRateOk d = true) (hg : dumpRangeOk d = true) :
    Completes s (.dump r d) 0x0414 r d (fun c => jobTaken c r d.tgt = false) (fun c x => queueJob c x d (dumpJob d)) := by
  refine completes_of rfl ?_
  intro c x ht
  rw [if_neg (number_exists d hn), if_neg (by simp [hz, hs, hl, hr, hg]), if_neg (by simp [ht])]

/-- The chip with a migration of the member to its destination extent (R203). -/
abbrev migrating (c : Chip) (id u m b e : Nat) : Chip :=
  (setExt c b e .inUse).setWindow id
    ((c.window id).setMember u m { (c.window id).member u m with migr := some { dev := b, ext := e } })

/-- R203, R204: MIGRATE of a member without a migration takes its destination extent, and queues its job. -/
theorem migrate_queues (hz : d.zeroBut [(16, 2), (20, 5), (26, 6), (41, 1), (44, 4)] = true) (hr : jobRateOk d = true) (u m b e : Nat) :
    let id := d.u16 16
    Completes s (.migrate r d) 0x0412 r d
      (fun c => let w := c.window id
        jobMember w d = some (u, m) ∧ jobTaken c r d.tgt = false ∧ memberHasJob c id u m = false ∧ (w.member u m).state ≠ .lost ∧
        w.state ≠ .dataLoss ∧ (w.member u m).migr = none ∧ migrateTo c w u m d = .ok (b, e, false))
      (fun c x => queueJob (migrating c id u m b e) x d
        { kind := .migrate, window := id, extent := u, member := m, dstDev := b, dstExt := e, back := false,
          progress := ((((migrating c id u m b e).window id).member u m).migr.getD {}).page }) := by
  refine completes_of rfl ?_
  rintro c x ⟨hj, ht, hm, hs, hw, hg, hd⟩
  dsimp only at *
  rw [if_neg (number_exists d hn), if_neg (by simp [hz, hr]), hj]
  dsimp only
  rw [if_neg (by simp [ht, hm, hs, hw]), hd]
  dsimp only
  rw [if_neg (by simp [hg])]
  rfl

section Resync
variable (hz : d.zeroBut [(16, 2), (20, 5), (41, 1), (44, 4)] = true) (hr : jobRateOk d = true) (u m : Nat)

omit hn in
/-- A RESYNC of the member that RESYNC names, of a command or by the switch (R398). -/
abbrev resyncOf (d : Desc) (u m : Nat) (j : Job) : Bool :=
  j.kind == .resync && j.auto != some .verify && j.window == d.u16 16 && j.extent == u && j.member == m

/-- The switch-started job of the member runs (R398). -/
abbrev autoRuns (c : Chip) (d : Desc) (u m : Nat) : Bool :=
  c.mov.jobs.any (fun j => resyncOf d u m j && j.auto.isSome && j.engine.isSome)

/-- What RESYNC asks of its member before it looks for work (R388, R398). -/
abbrev ResyncFree (r : Nat) (d : Desc) (u m : Nat) (c : Chip) : Prop :=
  jobMember (c.window (d.u16 16)) d = some (u, m) ∧ jobTaken c r d.tgt = false ∧
    ((c.window (d.u16 16)).member u m).state ≠ .lost ∧ c.mov.jobs.any (fun j => resyncOf d u m j && j.auto.isNone) = false

include hz hr

/-- R398: RESYNC of a member with nothing to synchronise ends OK with 0 pages. -/
theorem resync_nothing :
    Completes s (.resync r d) 0x0413 r d
      (fun c => ResyncFree r d u m c ∧ autoRuns c d u m = false ∧ memberHasJob c (d.u16 16) u m = false ∧
        anyPage ((c.window (d.u16 16)).member u m) = false)
      (fun c x => endCmd c x .ok (leBytes 8 0)) := by
  refine completes_of rfl ?_
  rintro c x ⟨⟨hj, ht, hs, hc⟩, ha, hm, hp⟩
  dsimp only
  rw [if_neg (number_exists d hn), if_neg (by simp [hz, hr]), hj]
  dsimp only
  rw [if_neg hs, if_neg (by rw [ht]; decide), if_neg (by simp only [hm]; simp), if_neg (by rw [hc]; decide),
    if_pos ⟨(Bool.not_eq_true' _).mpr ha, (Bool.not_eq_true' _).mpr hp⟩]

/-- R398: RESYNC with work to do takes over the switch-started job of the member, and queues its own. -/
theorem resync_queues :
    Completes s (.resync r d) 0x0413 r d
      (fun c => ResyncFree r d u m c ∧ (autoRuns c d u m = true ∨
        (memberHasJob c (d.u16 16) u m = false ∧ anyPage ((c.window (d.u16 16)).member u m) = true)))
      (fun c x =>
        let jobs := (c.mov.jobs.filter (fun j => !(resyncOf d u m j && j.auto.isSome && j.engine.isNone))).map (fun j =>
          if resyncOf d u m j then { j with stopPage := true } else j)
        queueJob { c with mov := { c.mov with jobs := jobs } } x d { kind := .resync, window := d.u16 16, extent := u, member := m }) := by
  refine completes_of rfl ?_
  rintro c x ⟨⟨hj, ht, hs, hc⟩, hw⟩
  have free : ¬ ((!autoRuns c d u m) = true ∧ memberHasJob c (d.u16 16) u m = true) := by
    rintro ⟨h1, h2⟩
    rcases hw with h | ⟨h, -⟩
    · simp [h] at h1
    · simp [h] at h2
  have work : ¬ ((!autoRuns c d u m) = true ∧ (!anyPage ((c.window (d.u16 16)).member u m)) = true) := by
    rintro ⟨h1, h2⟩
    rcases hw with h | ⟨-, h⟩
    · simp [h] at h1
    · simp [h] at h2
  dsimp only
  rw [if_neg (number_exists d hn), if_neg (by simp [hz, hr]), hj]
  dsimp only
  rw [if_neg hs, if_neg (by rw [ht]; decide), if_neg free, if_neg (by rw [hc]; decide), if_neg work]

end Resync

end Commands

/-- Settles O44: each clause is the lemma about its command above. -/
theorem jobCommandRowsComplete : Obligations.JobCommandRowsComplete := by
  unfold Obligations.JobCommandRowsComplete
  intro s r d
  exact fun hn => ⟨copy_queues s r d hn, fill_queues s r d hn, dump_queues s r d hn, migrate_queues s r d hn,
    fun hz hr u m => ⟨resync_nothing s r d hn hz hr u m, resync_queues s r d hn hz hr u m⟩⟩

end Sys2Proof.Machine
end

section
/-!
The engines of the data mover: start, lines, faults, ends (R383, R391 to R394, R396, R397).
-/
namespace Sys2Proof.Machine

/-! ### Starts -/

section Start
variable {c : Chip} {e : Nat} {j : Job} (hp : c.rst.phase = 0)
include hp

/-- R383: a free engine takes the next commanded job. -/
theorem jobStart_next (hf : engineFree c e false = true) (hj : nextQueued c = some j) : jobStart e c = runJob c j e := by
  unfold jobStart
  rw [if_neg (by simp [hf, hp]), hj]

/-- R397: a free engine of the other set takes the next switch-started job. -/
theorem autoJobStart_next (hf : engineFree c e true = true) (hj : nextAuto c = some j) :
    let c1 := runJob c j e
    let waiting := c1.mov.jobs.any (fun j => j.auto.isSome && j.engine.isNone)
    autoJobStart e c = { c1 with mov := { c1.mov with backlog := c1.mov.backlog && waiting } } := by
  unfold autoJobStart
  rw [if_neg (by simp [hf, hp]), hj]

end Start

/-! ### Lines of MIGRATE and RESYNC -/

section Line
variable {c : Chip} {e : Nat} {j : Job} (hj : jobOf c e = some j)
include hj

/-- R391: an engine without a line asks for one. -/
theorem moverLineTransaction_asks (n : Nat) (ht : txOf c e = none) : moverLineTransaction e n c = askLine c e := by
  unfold moverLineTransaction
  rw [hj, ht]

section Pending
variable {t : LineTx} (ht : txOf c e = some t)
include ht

/-- R391: the row of another line, of one that is not finished, or of a job that has ended does nothing. -/
theorem moverLineTransaction_idle {n : Nat} (h : t.line ≠ n ∨ t.done = false ∨ j.ended = true) : moverLineTransaction e n c = c := by
  unfold moverLineTransaction
  rw [hj, ht]
  exact if_pos (by simpa using h)

/-- R391: a finished line is taken over and counted, and the next one asked for. -/
theorem moverLineTransaction_takes (hd : t.done = true) (he : j.ended = false) :
    moverLineTransaction e t.line c = askLine (lineCounted (takeLine c e t) j t.ok) e := by
  unfold moverLineTransaction
  rw [hj, ht]
  exact if_neg (by simp [hd, he])

end Pending

/-- R24, R391: an engine whose shaper covers 64 B asks for the line that its job needs next. -/
theorem askLine_covered {t : LineTx} (ht : jobTx c j e = some t) (hx : txOf c e = none)
    (hc : creditCovers c (c.engine e).shaper 64 = true) : askLine c e = txAsk c t := by
  unfold askLine
  rw [hj, Option.bind_some, ht]
  exact if_pos (by simp [hx, hc])

end Line

/-- R203: a line of a migration moves its cursor where it succeeded. -/
theorem lineCounted_migrate (c : Chip) {j : Job} (ok : Bool) (hk : j.kind = .migrate) :
    lineCounted c j ok = if ok then lineMoved c j else c := by
  unfold lineCounted
  rw [hk]

/-- R201, R207: a line of a resync counts towards its page. -/
theorem lineCounted_resync (c : Chip) {j : Job} (ok : Bool) (hk : j.kind = .resync) :
    let j' : Job := { j with lines := j.lines + 1, dirty := j.dirty || !ok }
    let c1 := setJob c j (fun _ => some j')
    lineCounted c j ok =
      if j.lines + 1 < 64 then c1 else if j.auto = some .verify then pageVerified c1 j' else pageWalked c1 j' := by
  unfold lineCounted
  rw [hk]

/-! ### Lines of COPY, FILL and DUMP -/

section Write
variable {c : Chip} {e : Nat} {j : Job} (hj : jobOf c e = some j) (he : j.ended = false)
include hj he

/-- R393: completed writes move the progress by whole pages, and a job that another takes over stops at a page. -/
theorem jobAdvance_writes (hm : j.kind ≠ .migrate) (hs : j.kind ≠ .resync) :
    let r := doneTo j.done.length (ceilDiv j.written 64) j.done
    let n := min (64 * r.1) j.length
    let c1 := countEvent c { code := 0x070, device := true, tenant := j.tenant } (n - j.written)
    let j' : Job := { j with written := n, done := r.2, ended := decide (n = j.length),
                             progress := if n = j.length then n else n / 4096 * 4096 }
    let c2 := setJob c1 j (fun _ => some j')
    jobAdvance c e = if n = j.written then c
      else if j.stopPage ∧ n ≠ j.length ∧ j.written / 4096 < n / 4096 then stopJob c2 j' else c2 := by
  unfold jobAdvance
  rw [hj]
  exact if_neg (by simp [he, hm, hs])

omit he in
/-- R389: a job that is no COPY reads nothing. -/
theorem askSource_other (hk : j.kind ≠ .copy) : askSource c e = c := by
  unfold askSource
  rw [hj]
  exact if_pos (.inr (.inl hk))

/-- What a FILL or DUMP writes to host memory as line `i` (R387, Table 14.2). -/
abbrev hostData (c : Chip) (j : Job) : List Byte :=
  if j.kind = .dump then dumpBytes c j (64 * j.sent) (pieceBytes j j.sent) else leBytes (pieceBytes j j.sent) (patternLine j.pattern).toNat

/-- R389, R393: a line of a FILL or DUMP to host memory leaves at once, uses the shapers, and counts as completed. -/
abbrev hostLineOut (c : Chip) (j : Job) (e : Nat) : Chip :=
  jobAdvance ((setJob (lineUses c j e) j (fun x =>
    some { x with sent := j.sent + 1, retried := false, staged := x.staged.filter (fun y => y.1 != j.sent),
                  done := addOnce x.done j.sent })).emit (.hostWrite j.ring (j.dst + 64 * j.sent) (hostData c j) false)) e

omit hj he in
/-- R389, R393: a line without poison that a job of a FILL or DUMP writes to host memory. -/
theorem writeLine_host (d : Line) (hs : j.dstSpace = 0) (hd : j.kind = .dump ∨ d = patternLine j.pattern) :
    writeLine c j e d false = hostLineOut c j e := by
  have data : (if j.kind = .dump then dumpBytes c j (64 * j.sent) (pieceBytes j j.sent) else leBytes (pieceBytes j j.sent) d.toNat) =
      hostData c j := by
    rcases hd with h | h
    · rw [if_pos h, hostData, if_pos h]
    · rw [h]
  unfold writeLine
  dsimp only
  rw [if_neg (by simp), if_neg (by simp [lineOpen, hs]), data]
  simp only [hs]
  rfl

/-- R389: the next line of a FILL or DUMP to host memory that has room and meets the shapers is written. -/
theorem moveLines_host (src : List (Line × Bool)) (hk : j.kind = .fill ∨ j.kind = .dump) (hs : j.dstSpace = 0)
    (hl : j.sent < jobLines j) (hp : 64 * j.sent < j.progress + 65536) (hm : lineMeets c j e = true) :
    moveLines 1 c e src = hostLineOut c j e := by
  have copy : j.kind ≠ .copy := by rcases hk with h | h <;> rw [h] <;> decide
  have go : ¬ (j.ended = true ∨ j.kind = .migrate ∨ j.kind = .resync ∨ jobLines j ≤ j.sent ∨ j.progress + 65536 ≤ 64 * j.sent ∨
      (!lineMeets c j e) = true) := by
    have : j.kind ≠ .migrate ∧ j.kind ≠ .resync := by rcases hk with h | h <;> rw [h] <;> decide
    simp [he, this, hm, Nat.not_le.mpr hl, Nat.not_le.mpr hp]
  unfold moveLines
  rw [askSource_other hj copy]
  dsimp only
  rw [hj]
  dsimp only
  rw [if_neg go]
  rcases hk with h | h
  · simp only [nextLine, h]
    exact writeLine_host _ hs (.inr rfl)
  · simp only [nextLine, h]
    exact writeLine_host _ hs (.inl h)

end Write

/-! ### Faults -/

section Fault
variable {c : Chip} {e : Nat} {j : Job} (hj : jobOf c e = some j) (he : j.ended = false)
include hj he

/-- R392: an access that fails for its source, its destination or its right ends the job with its cause (Table 14.3). -/
theorem jobFault_ends :
    jobFault e .sourceError c = failJob c j 0 ∧ jobFault e .destination c = failJob c j 2 ∧ jobFault e .revoked c = failJob c j 3 := by
  unfold jobFault
  rw [hj]
  refine ⟨?_, ?_, ?_⟩ <;> exact if_neg (by simp [he])

/-- R392: poison that the job does not pass on ends it. -/
theorem jobFault_poison (hm : j.kind ≠ .migrate) (hs : j.kind ≠ .resync) (hc : j.kind = .copy → j.pass = false) :
    jobFault e .sourcePoison c = failJob c j 1 := by
  have stops : ¬ (j.kind = .migrate ∨ j.kind = .resync ∨ (j.kind = .copy ∧ j.pass = true)) := by
    rintro (h | h | ⟨h, hp⟩)
    · exact hm h
    · exact hs h
    · exact absurd ((hc h).symm.trans hp) nofun
  unfold jobFault
  rw [hj]
  exact (if_neg (by simp [he])).trans (if_neg stops)

/-- R390: a staging error of a COPY raises 131, and the line is read again. -/
theorem jobFault_staging (hk : j.kind = .copy) : jobFault e .staging c = stagingLost (raise c 131 (srcInfo 9 e)) e := by
  unfold jobFault
  rw [hj]
  exact (if_neg (by simp [he])).trans (if_neg (not_not_intro hk))

/-- R390: no other job stages lines. -/
theorem jobFault_unstaged (hk : j.kind ≠ .copy) : jobFault e .staging c = c := by
  unfold jobFault
  rw [hj]
  exact (if_neg (by simp [he])).trans (if_pos hk)

/-- R215, R390: a lost line is read again once, then the job ends. -/
theorem stagingLost_copy (hk : j.kind = .copy) :
    stagingLost c e = if j.retried then failJob c j 4
      else setJob c j (fun y => some { y with retried := true, asked := y.sent, staged := [] }) := by
  unfold stagingLost
  rw [hj]
  exact if_neg (by simp [he, hk])

end Fault

/-! ### Ends -/

section End
variable {c : Chip} {e : Nat} {j : Job} (hj : jobOf c e = some j) (he : j.ended = true)
include hj he

/-- R394: the status of a complete job (R395). -/
abbrev doneStatus (j : Job) : Status := if j.late then .okLateAbort else .ok

/-- R483: a scheduled dump ends, and its schedule is told. -/
theorem jobEnd_scheduled {k : Nat} (hk : j.schedule = some k) : jobEnd e c = dumpWritten (endJob c j .ok []) k j := by
  unfold jobEnd
  rw [hj]
  dsimp only
  rw [if_neg (by simp [he]), hk]

/-- R420: an ended BB_EXPORT reports its lengths. -/
theorem jobEnd_export (hk : j.schedule = none) (hb : j.bbExport = true) :
    jobEnd e c = endJob c j (doneStatus j) (leBytes 4 j.length ++ leBytes 4 j.need) := by
  unfold jobEnd
  rw [hj]
  dsimp only
  rw [if_neg (by simp [he]), hk]
  exact if_pos hb

/-- R394: any other job ends with its result, a switch-started FILL with its extent filled. -/
theorem jobEnd_other (hk : j.schedule = none) (hb : j.bbExport = false) :
    let c1 := if j.kind = .fill ∧ j.auto.isSome then
        scrubDone (c.modDev j.dstDev (fun d => { d with filled := addOnce d.filled j.dstExt })) j.dstDev j.dstExt else c
    jobEnd e c = endJob c1 j (doneStatus j) (jobResult j none) := by
  unfold jobEnd
  rw [hj]
  dsimp only
  rw [if_neg (by simp [he]), hk]
  exact if_neg (by rw [hb]; decide)

end End

/-! ### Engines out of service -/

section Out
variable {c : Chip} {e : Nat} (he : e < 16) (ho : (c.engine e).out = false)
include he ho

/-- R396: the engine out of service, with source 243. -/
abbrev engineOut (c : Chip) (e : Nat) : Chip :=
  raise ((txLeave c e).setEngine e { c.engine e with out := true }) 243 (srcInfo 9 e)

/-- R396: the job of an engine that failed, as it starts again. -/
abbrev againJob (j : Job) : Job :=
  { j with engine := none, written := j.progress, lines := 0, dirty := false, retried := false, done := [] }

/-- R396: the chip with the job of the failed engine free again. -/
abbrev jobFreed (c : Chip) (e : Nat) (j : Job) : Chip :=
  setJob (engineOut c e) j (fun _ => some (if j.kind = .migrate ∨ j.kind = .resync then { againJob j with written := 0 } else againJob j))

/-- R396: the next free engine of the set after `e`, and after the last the first. -/
abbrev engineAfter (es : List Nat) (e : Nat) : Option Nat := (es.find? (fun x => decide (e < x))).or es.head?

/-- R396: an engine without a job only goes out of service. -/
theorem moverEngineFault_idle (hj : jobOf (engineOut c e) e = none) : moverEngineFault e c = engineOut c e := by
  unfold moverEngineFault
  rw [if_neg (by simp [ho, Nat.not_le.mpr he])]
  dsimp only
  rw [hj]

section Job
variable {j : Job} (hj : jobOf (engineOut c e) e = some j)
include hj

/-- R396: the job starts again on the next free engine of its set, where there is one. -/
theorem moverEngineFault_job :
    moverEngineFault e c = (engineAfter (freeEngines (jobFreed c e j) j.auto.isSome) e).elim (jobFreed c e j)
      (runJob (jobFreed c e j) (againJob j)) := by
  unfold moverEngineFault
  rw [if_neg (by simp [ho, Nat.not_le.mpr he])]
  dsimp only
  rw [hj]
  dsimp only
  cases hx : (freeEngines (jobFreed c e j) j.auto.isSome).find? (fun x => decide (e < x)) with
  | some x => rw [engineAfter, hx]; rfl
  | none => cases hy : (freeEngines (jobFreed c e j) j.auto.isSome).head? <;> rw [engineAfter, hx, hy] <;> rfl

end Job

end Out

/-- R397: a switch-started job that has waited 10 s raises 242. -/
theorem moverAutoBacklog_waited {c : Chip} (hb : c.mov.backlog = false)
    (hw : c.mov.jobs.any (fun j => j.auto.isSome && j.engine.isNone && c.past j.queuedAt (sec 10)) = true) :
    moverAutoBacklog c = raise { c with mov := { c.mov with backlog := true } } 242 := by
  unfold moverAutoBacklog
  rw [if_neg]
  rw [hb, hw]
  decide

/-- Settles O45: each clause is the lemma about its row above. -/
theorem moverEngineRowsComplete : Obligations.MoverEngineRowsComplete := by
  unfold Obligations.MoverEngineRowsComplete
  intro s
  refine ⟨fun e hp => ⟨fun j hf hj => after_of rfl (jobStart_next hp hf hj), fun j hf hj => after_of rfl (autoJobStart_next hp hf hj)⟩,
    fun e src => ⟨after_of rfl rfl, fun j hj he hk hs hl hp hm => after_of rfl (moveLines_host hj he src hk hs hl hp hm)⟩,
    ?faults, ?lines, ?parts, ?ends, ?out, fun hb hw => after_of rfl (moverAutoBacklog_waited hb hw)⟩
  case faults =>
    intro e j hj he
    obtain ⟨source, destination, revoked⟩ := jobFault_ends hj he
    exact ⟨after_of rfl source, fun hm hs hc => after_of rfl (jobFault_poison hj he hm hs hc), after_of rfl destination,
      after_of rfl revoked, fun hk => after_of rfl (jobFault_staging hj he hk), fun hk => after_of rfl (jobFault_unstaged hj he hk)⟩
  case lines =>
    intro e j hj
    exact ⟨fun ht n => after_of rfl (moverLineTransaction_asks hj n ht),
      fun t ht => ⟨fun n h => after_of rfl (moverLineTransaction_idle hj ht h),
        fun hd he => after_of rfl (moverLineTransaction_takes hj ht hd he)⟩⟩
  case parts =>
    intro c e j hj
    exact ⟨fun t ht hx hc => askLine_covered hj ht hx hc, fun ok => lineCounted_migrate c ok, fun ok => lineCounted_resync c ok,
      jobAdvance_writes hj, stagingLost_copy hj⟩
  case ends =>
    intro e j hj he
    exact ⟨fun k hk => after_of rfl (jobEnd_scheduled hj he hk), fun hk hb => after_of rfl (jobEnd_export hj he hk hb),
      fun hk hb => after_of rfl (jobEnd_other hj he hk hb)⟩
  case out =>
    intro e he ho
    refine ⟨fun hj => after_of rfl (moverEngineFault_idle he ho hj), fun j hj => ⟨fun h => ?_, fun x h => ?_⟩⟩
    · exact after_of rfl ((moverEngineFault_job he ho hj).trans (by rw [show freeEngines (jobFreed s.chip e j) j.auto.isSome = [] from h]; rfl))
    · exact after_of rfl ((moverEngineFault_job he ho hj).trans (by
        rw [show engineAfter (freeEngines (jobFreed s.chip e j) j.auto.isSome) e = some x from h]; rfl))

end Sys2Proof.Machine
end

section
/-!
The channels of slot power: presence, ramp, faults, retries, damage (R440 to R445, R447, R448).
-/
namespace Sys2Proof.Machine

section Channel
variable {c : Chip} {n : Nat} (hn : n < 32)
include hn

/-- A channel below 32 exists. -/
theorem channel_exists : ¬ 32 ≤ n := Nat.not_le.mpr hn

/-! ### Presence -/

/-- R440: PRSNT_N low starts the debounce of an EMPTY channel. -/
theorem prsntNFall_empty (hs : c.rst.started = true) (he : (c.chan n).state = .empty) :
    prsntNFall n c = c.setChan n { c.chan n with state := .debounce, pinLow := some c.ivl } :=
  (if_neg (by simp [channel_exists hn, hs])).trans (if_pos he)

section Debounce
variable (hd : (c.chan n).state = .debounce)
include hd

/-- R440: PRSNT_N high again ends the debounce. -/
theorem debounceAbort_debounce : debounceAbort n c = c.setChan n { c.chan n with state := .empty, pinLow := none } :=
  (if_neg (channel_exists hn)).trans (if_pos hd)

/-- R441: the channel as an insertion leaves it. -/
abbrev insertedChan (h : Chan) : Chan :=
  let y : Chan := { h with present := true, holdEnd := none, goneAt := none }
  if h.p.enable then y.ramped else { y with state := .off }

/-- R441: past DEBOUNCE with no hold-off left the insertion is qualified. -/
theorem insertionQualified_due (hi : insertionDue c (c.chan n) = true) :
    insertionQualified n c = portArrives (slotEvent (slotRaise (c.setChan n (insertedChan (c.chan n))) n 280) n 0) n := by
  have broken : (c.chan n).state ≠ .broken := by rw [hd]; decide
  unfold insertionQualified
  dsimp only
  rw [if_neg (by simp [channel_exists hn, hd, hi]), if_neg broken]

end Debounce

/-- R441, R442: a removal empties an OFF channel. -/
theorem removal_off (ho : (c.chan n).state = .off) (hp : (c.chan n).present = true) :
    let h := c.chan n
    let y : Chan := { h.gatesOff with state := .empty, present := false, pinLow := none, retries := 0,
                                      warnEnd := if h.change.isSome then c.ivl else h.warnEnd, holdEnd := h.holdEnd, goneAt := none }
    removal n c = portLeaves (endSlotOff (slotEvent (slotRaise (c.setChan n y) n 280) n 1) n) n := by
  have live : (c.chan n).live = false := by unfold Chan.live; rw [ho]; rfl
  unfold removal
  dsimp only
  rw [if_neg (by simp [channel_exists hn, ho, hp])]
  simp [live, ho]

/-! ### Limits and faults -/

section Live
variable (hl : (c.chan n).live = true)
include hl

/-- R443: the expiry of the fault timer is a fault. -/
theorem faultTimerExpire_past (hp : timerPast c (c.chan n) (tenthMs (c.chan n).p.faultTime) = true) :
    faultTimerExpire n c = chanFault c n 272 :=
  (if_neg (channel_exists hn)).trans ((if_pos hl).trans (if_pos hp))

/-- R443: the limit has been inactive for PG_QUAL. -/
theorem currentLimitRelease_live (he : expiryWon c (c.chan n) = false) :
    currentLimitRelease n c = c.setChan n { c.chan n with limit := false, timerAt := none } :=
  if_pos ⟨hn, hl, by simp [he]⟩

section Gate
variable (hg : (c.chan n).gateOn = true)
include hg

/-- R443: a fast trip is a fault. -/
theorem fastTrip_live : fastTrip n c = chanFault c n 273 := (if_neg (channel_exists hn)).trans ((if_pos hl).trans (if_pos hg))

/-- R443: the limit starts the fault timer, unless it runs. -/
theorem currentLimitEngage_live :
    currentLimitEngage n c = c.setChan n { c.chan n with limit := true, timerAt := some ((c.chan n).timerAt.getD c.ivl) } :=
  if_pos ⟨hn, hl, hg⟩

end Gate

end Live

/-- R444: power-good makes RAMP ON. -/
theorem powerGood_ramp (hs : (c.chan n).state = .ramp) (hg : (c.chan n).gateOn = true) (he : expiryWon c (c.chan n) = false) :
    powerGood n c =
      slotEvent (c.setChan n { c.chan n with state := .on, pg := true, pgAt := c.ivl, limit := false, timerAt := none }) n 2 :=
  if_pos ⟨hn, hs, hg, by simp [he]⟩

section On
variable (hs : (c.chan n).state = .on)
include hs

/-- R444: the loss of power-good makes ON RAMP. -/
theorem powerGoodLost_on : powerGoodLost n c = slotRaise (c.setChan n { c.chan n with state := .ramp, pg := false }) n 282 :=
  if_pos ⟨hn, hs⟩

/-- R445: 60 s of power-good clear the retry count. -/
theorem retryCountReset_on (hp : (c.chan n).pg = true) (ht : c.past (c.chan n).pgAt (sec 60) = true) :
    retryCountReset n c = c.setChan n { c.chan n with retries := 0 } :=
  if_pos ⟨hn, hs, hp, ht⟩

end On

/-- R445: at the end of its hold-off the channel ramps again, and the retry is counted. -/
theorem retryHoldoffEnd_past (hs : (c.chan n).state = .retryWait)
    (hp : c.past (c.chan n).holdFrom (tenthSec (c.chan n).p.holdoff) = true) : retryHoldoffEnd n c = retryGo c n :=
  if_pos ⟨hn, hs, hp⟩

/-! ### Damage -/

section Stuck
variable (hg : (c.chan n).gateOn = true)
include hg

/-- R447: a stuck gate of channels 0 to 3 is a fault. -/
theorem gateStuck_low (h : n < 4) : gateStuck n c = chanFault c n 274 :=
  (if_neg (by simp [channel_exists hn, hg])).trans (if_pos h)

/-- R447: a stuck gate of another channel is damage. -/
theorem gateStuck_high (h : 4 ≤ n) : gateStuck n c = chanBroken (c.setChan n { c.chan n with faultSeen := true }) n 274 :=
  (if_neg (by simp [channel_exists hn, hg])).trans (if_neg (Nat.not_lt.mpr h))

end Stuck

end Channel

section OffVoltage
variable {c : Chip} {n : Nat} (h4 : n < 4) (hg : (c.chan n).gateOn = false)
include h4 hg

/-- R448: on a BROKEN channel a voltage with the gates off is only seen. -/
theorem offVoltage_broken (hb : (c.chan n).state = .broken) : offVoltage n c = c.setChan n { c.chan n with offHigh := true } :=
  (if_neg (by simp [Nat.not_le.mpr h4, hg])).trans (if_pos hb)

/-- R448: on another channel it is damage. -/
theorem offVoltage_breaks (hb : (c.chan n).state ≠ .broken) :
    offVoltage n c = chanBroken (c.setChan n { c.chan n with offHigh := true, offVSeen := true }) n 275 := by
  have seen (x : Chan) (hx : x.offHigh = true) : x ≠ default := by rintro rfl; cases hx
  unfold offVoltage
  dsimp only
  rw [if_neg (by simp [Nat.not_le.mpr h4, hg]), if_neg hb, setChan_setChan _ _ _ _ (seen _ rfl) (seen _ rfl)]

end OffVoltage

/-- Settles O49: each clause is the lemma about its row above. -/
theorem slotChannelRowsComplete : Obligations.SlotChannelRowsComplete := by
  unfold Obligations.SlotChannelRowsComplete
  intro s c n hn
  exact ⟨fun hs he => after_of rfl (prsntNFall_empty hn hs he), fun hd => after_of rfl (debounceAbort_debounce hn hd),
    fun hd hi => after_of rfl (insertionQualified_due hn hd hi), fun ho hp => after_of rfl (removal_off hn ho hp),
    fun hl => ⟨fun hp => after_of rfl (faultTimerExpire_past hn hl hp),
      fun hg => ⟨after_of rfl (fastTrip_live hn hl hg), after_of rfl (currentLimitEngage_live hn hl hg)⟩,
      fun he => after_of rfl (currentLimitRelease_live hn hl he)⟩,
    fun hs hg he => after_of rfl (powerGood_ramp hn hs hg he),
    fun hs => ⟨after_of rfl (powerGoodLost_on hn hs), fun hp ht => after_of rfl (retryCountReset_on hn hs hp ht)⟩,
    fun hs hp => after_of rfl (retryHoldoffEnd_past hn hs hp),
    fun hg => ⟨fun h => after_of rfl (gateStuck_low hn hg h), fun h => after_of rfl (gateStuck_high hn hg h)⟩,
    fun h4 hg => ⟨fun hb => after_of rfl (offVoltage_broken h4 hg hb), fun hb => after_of rfl (offVoltage_breaks h4 hg hb)⟩⟩

/-- Settles O59: channels 0 to 3 are left as a fault leaves them, the others as a damage does. -/
theorem stuckGateBreaksOrFaultsChannel : Obligations.StuckGateBreaksOrFaultsChannel := by
  unfold Obligations.StuckGateBreaksOrFaultsChannel
  intro s n hn c h hg
  by_cases h4 : n < 4
  · obtain ⟨pending, waits, state⟩ := chanFault_post c n
    exact ⟨_, after_of rfl (gateStuck_low hn hg h4), pending, waits, fun h => absurd h4 (Nat.not_lt.mpr h), fun _ => state⟩
  · have h4 : 4 ≤ n := Nat.not_lt.mp h4
    obtain ⟨pending, waits, state⟩ := chanBroken_post (c.setChan n { h with faultSeen := true }) n
    exact ⟨_, after_of rfl (gateStuck_high hn hg h4), pending, waits, fun _ => state, fun h => absurd h (Nat.not_lt.mpr h4)⟩

end Sys2Proof.Machine
end

section
/-!
Slot power: feeds, the warning, measurement, the slot commands (R449 to R453).
-/
namespace Sys2Proof.Machine

/-! ### Feeds of channels 0 to 3 -/

section Feed
variable {c : Chip} {n : Nat} (h4 : n < 4)
include h4

/-- A channel below 4 has two feeds. -/
theorem feeds_exist : ¬ 4 ≤ n := Nat.not_le.mpr h4

section Bad
variable (ha : (c.chan n).badA = false) (hv : (c.chan n).p.vFeedUv ≠ 0)
include ha hv

/-- R449: the selected feed goes bad and the other is good: a changeover, with source 276. -/
theorem feedBad_selected (hf : (c.chan n).feedB = false) (hb : (c.chan n).badB = false) :
    feedBad n 0 c =
      slotRaise (changeover (c.setChan n { c.chan n with badA := true, switchSeen := true }) n true) n 276 := by
  have bad (x : Chan) (hx : x.badA = true) : x ≠ default := by rintro rfl; cases hx
  unfold feedBad
  dsimp only
  rw [if_neg (by simp [feeds_exist h4, Chan.bad, ha, hv]), if_neg (by simp [hb]), if_pos (by simp [hf]),
    setChan_setChan _ _ _ _ (bad _ rfl) (bad _ rfl)]
  rfl

/-- R449: both feeds are bad: source 277. -/
theorem feedBad_both (hb : (c.chan n).badB = true) :
    feedBad n 0 c = slotRaise (c.setChan n { c.chan n with badA := true }) n 277 :=
  (if_neg (by simp [feeds_exist h4, Chan.bad, ha, hv])).trans (if_pos ⟨rfl, hb⟩)

end Bad

/-- R449: of two bad feeds the first to return is selected. -/
theorem feedGood_returns (hb : (c.chan n).badB = true) :
    let c1 := c.setChan n { c.chan n with badB := false, goodB := c.ivl }
    feedGood n 1 c = if (c.chan n).badA = true then changeover c1 n true else c1 := by
  unfold feedGood
  dsimp only
  rw [if_neg (by simp [feeds_exist h4, Chan.bad, hb]), hb, Bool.and_true]
  rfl

/-- R449: after FEED_RETURN the preferred feed is selected again. -/
theorem feedReturnExpire_past (hp : (c.chan n).p.preferB = true) (ho : (c.chan n).forced = none) (hr : (c.chan n).p.feedReturn ≠ 0)
    (hb : (c.chan n).badB = false) (hf : (c.chan n).feedB = false) (hc : (c.chan n).change = none)
    (ht : c.past (c.chan n).goodB (tenthSec (c.chan n).p.feedReturn) = true) : feedReturnExpire n c = changeover c n true := by
  unfold feedReturnExpire
  dsimp only
  rw [hp, if_neg (by simp [feeds_exist h4, Chan.bad, ho, hr, hb, hf, hc, ht])]

/-- R449: past DEAD_TIME the gate of the selected feed turns on. -/
theorem deadTimeEnd_past {t : Nat} (hc : (c.chan n).change = some t) (hl : (c.chan n).live = true)
    (ht : c.past t (us (c.chan n).p.deadTime) = true) :
    deadTimeEnd n c = c.setChan n { c.chan n with change := none, gateOn := !(c.chan n).offHigh, warnEnd := c.ivl } := by
  unfold deadTimeEnd
  dsimp only
  rw [hc]
  exact if_pos ⟨h4, hl, ht⟩

end Feed

/-! ### The warning and the measurement -/

section Channel
variable {c : Chip} {n : Nat} (hn : n < 32)
include hn

/-- R450: input low asserts the warning, with source 278. -/
theorem inputLow_falls (h : (c.chan n).inputLow = false) :
    inputLow n true c = slotRaise (warnOn (c.setChan n { c.chan n with inputLow := true }) n) n 278 :=
  (if_neg (by simp [channel_exists hn, h])).trans (if_pos rfl)

/-- R450: the end of input low. -/
theorem inputLow_ends (h : (c.chan n).inputLow = true) :
    inputLow n false c = c.setChan n { c.chan n with inputLow := false, warnEnd := c.ivl } :=
  (if_neg (by simp [channel_exists hn, h])).trans (if_neg (by decide))

/-- R450: 1 ms after its last cause the warning ends. -/
theorem spWarnRelease_past (hw : (c.chan n).warn = true) (hc : (c.chan n).warned = false)
    (hp : c.past (c.chan n).warnEnd (ms 1) = true) : spWarnRelease n c = c.setChan n { c.chan n with warn := false } :=
  if_pos ⟨hn, hw, by simp [hc], hp⟩

/-- R450: a SLOT_OFF ends at WARN_LEAD. -/
theorem warnLeadEnd_past {t : Nat} (hl : (c.chan n).leadAt = some t) (hs : (c.chan n).state = .on)
    (hp : c.past t (ms (c.chan n).p.warnLead) = true) : warnLeadEnd n c = endSlotOff (slotOffNow c n) n := by
  have live : (c.chan n).live = true := by unfold Chan.live; rw [hs]; rfl
  unfold warnLeadEnd
  dsimp only
  rw [hl]
  dsimp only
  rw [if_pos ⟨hn, hp⟩, if_pos (by simp [live])]

/-- R452: the channel after a sample. -/
abbrev sampledChan (h : Chan) (n : Nat) (m : SlotReading) : Chan :=
  let i := Int.tdiv (100 * m.shunt) h.p.shunt
  let w := Int.tdiv (i * m.output) 1000
  let l := ((i, w) :: h.samples).take 20
  { h with
    senseTold := false, samples := l, current := mean (l.map (·.1)), power := mean (l.map (·.2)), energy := h.energy + 50 * w,
    vOut := m.output, vIn := m.input, vA := if n < 4 then m.feedA else 0, vB := if n < 4 then m.feedB else 0,
    offHigh := h.offHigh && decide (h.p.offThresh < m.output) }

/-- R452: a sample sets current, power, energy and voltages. -/
theorem slotSample_taken {m : SlotReading} (he : m.ended = false) : slotSample n m c = c.setChan n (sampledChan (c.chan n) n m) :=
  (if_neg (channel_exists hn)).trans (if_neg (by simp [he]))

/-- R452: the first failed sample raises 283, and adds the last power. -/
theorem slotSample_failed {m : SlotReading} (he : m.ended = true) (hs : (c.chan n).senseTold = false) :
    slotSample n m c = slotRaise (c.setChan n { c.chan n with
      senseTold := true, energy := (c.chan n).energy + 50 * ((c.chan n).samples.head?.getD (0, 0)).2 }) n 283 :=
  (if_neg (channel_exists hn)).trans ((if_pos he).trans (if_neg (by simp [hs])))

end Channel

/-! ### The commands -/

section Commands
variable (s : State) (r : Nat) (d : Desc)

/-- R451, R453: SLOT_CONFIG stores its parameters and compares the running timers with them. -/
theorem slotConfig_completes :
    Completes s (.slotConfig r d) 0x0710 r d (fun c => slotConfigCheck c d = none ∧ admitFail c (slotConfigDo c d) 0 = none)
      (fun c x => endCmd (slotTimers (slotConfigDo c d) d.tgt) x .ok) :=
  completes_of_checked (change := (slotConfigDo · d)) (fun _ x e => slotConfigGo e x d) rfl (fun c x hc => by rw [hc])

/-- Table 17.3: SLOT_ON ramps an OFF channel. -/
theorem slotOn_off (hz : d.zeroBut [] = true) :
    Completes s (.slotOn r d) 0x0711 r d (fun c => (c.chan d.tgt).state = .off)
      (fun c x => let h := c.chan d.tgt
        let h' := ({ h with p := { h.p with enable := true }, retries := 0 } : Chan).ramped
        endCmd (c.setChan d.tgt h') x .ok (leBytes 1 h'.state.code)) := by
  refine completes_of rfl ?_
  intro c x hs
  dsimp only
  rw [if_neg (by simp [hz]), hs]

section Off
variable (hz : d.zeroBut [(16, 1)] = true) (hf : d.byte 16 = 1)
include hz hf

/-- Table 17.3: SLOT_OFF of an OFF channel disables it. -/
theorem slotOff_off :
    Completes s (.slotOff r d) 0x0712 r d (fun c => (c.chan d.tgt).state = .off)
      (fun c x => endCmd (c.setChan d.tgt { c.chan d.tgt with p := { (c.chan d.tgt).p with enable := false } }) x .ok) := by
  refine completes_of rfl ?_
  intro c x hs
  dsimp only
  rw [if_neg (by simp [hz, hf]), if_neg (by simp [hf]), hs]

/-- R450: SLOT_OFF of an ON channel without WARN_LEAD warns and turns it off. -/
theorem slotOff_on :
    Completes s (.slotOff r d) 0x0712 r d (fun c => (c.chan d.tgt).state = .on ∧ (c.chan d.tgt).p.warnLead = 0)
      (fun c x => endCmd (slotOffNow (warnOn (c.setChan d.tgt
        { c.chan d.tgt with p := { (c.chan d.tgt).p with enable := false } }) d.tgt) d.tgt) x .ok) := by
  refine completes_of rfl ?_
  rintro c x ⟨hs, hw⟩
  dsimp only
  rw [if_neg (by simp [hz, hf]), if_neg (by simp [hf]), hs]
  exact if_pos hw

end Off

/-- R453: SLOT_QUERY with a good buffer reports the channel. -/
theorem slotQuery_completes :
    Completes s (.slotQuery r d) 0x0713 r d (fun _ => d.zeroBut [(16, 12)] = true ∧ d.bufferOk r = true)
      (fun c x => let h := c.chan d.tgt
        endQuery c x d (Config.queryBytes 0x0713) (openFields (slotStatus c d.tgt :: slotParamList d.tgt h.p ++
          [asNat h.current, h.vOut, h.vIn, asNat h.power, asNat (h.energy / 1000000), h.vA, h.vB, holdoffLeft c h, h.retries]))) := by
  refine completes_of_ring rfl ?_
  rintro c x hr ⟨hz, hb⟩
  exact if_neg (by simp [hz, hb, hr])

section Feed
variable (hz : d.zeroBut [(16, 1)] = true) (h4 : d.tgt < 4)
include hz h4

/-- R449: FEED_SELECT 0 ends the force. -/
theorem feedSelect_free (hk : d.byte 16 = 0) :
    Completes s (.feedSelect r d) 0x0714 r d (fun _ => True)
      (fun c x => let c1 := c.setChan d.tgt (feedsSet { c.chan d.tgt with forced := none })
        endCmd c1 x .ok (leBytes 1 (nat1 (c1.chan d.tgt).feedB))) := by
  refine completes_of rfl ?_
  intro c x _
  exact (if_neg (by simp [hz, hk, feeds_exist h4])).trans (if_pos hk)

/-- R449: FEED_SELECT 2 forces the second feed where it is good. -/
theorem feedSelect_second (hk : d.byte 16 = 2) :
    Completes s (.feedSelect r d) 0x0714 r d (fun c => (c.chan d.tgt).badB = false)
      (fun c x => let c1 := changeover (c.setChan d.tgt { c.chan d.tgt with forced := some true }) d.tgt true
        endCmd c1 x .ok (leBytes 1 (nat1 (c1.chan d.tgt).feedB))) := by
  refine completes_of rfl ?_
  intro c x hb
  dsimp only
  rw [hk, if_neg (by simp [hz, feeds_exist h4]), if_neg (by decide), if_neg (by simp [Chan.bad, hb])]
  rfl

end Feed

end Commands

/-- Settles O50: each clause is the lemma about its row above. -/
theorem slotCommandRowsComplete : Obligations.SlotCommandRowsComplete := by
  unfold Obligations.SlotCommandRowsComplete
  intro s
  refine ⟨?feeds, ?channels, fun r d => ⟨slotConfig_completes s r d, slotOn_off s r d,
    fun hz hf => ⟨slotOff_off s r d hz hf, slotOff_on s r d hz hf⟩, slotQuery_completes s r d,
    fun hz h4 => ⟨feedSelect_free s r d hz h4, feedSelect_second s r d hz h4⟩⟩⟩
  case feeds =>
    intro n h4
    exact ⟨fun ha hv hf => ⟨fun hb => after_of rfl (feedBad_selected h4 ha hv hf hb), fun hb => after_of rfl (feedBad_both h4 ha hv hb)⟩,
      fun hb => after_of rfl (feedGood_returns h4 hb),
      fun hp ho hr hb hf hc ht => after_of rfl (feedReturnExpire_past h4 hp ho hr hb hf hc ht),
      fun t hc hl ht => after_of rfl (deadTimeEnd_past h4 hc hl ht)⟩
  case channels =>
    intro n hn
    exact ⟨fun h => after_of rfl (inputLow_falls hn h), fun h => after_of rfl (inputLow_ends hn h),
      fun hw hc hp => after_of rfl (spWarnRelease_past hn hw hc hp), fun t hl hs hp => after_of rfl (warnLeadEnd_past hn hl hs hp),
      fun m he => after_of rfl (slotSample_taken hn he), fun m he hs => after_of rfl (slotSample_failed hn he hs)⟩

end Sys2Proof.Machine
end

section
/-!
The black box: log records, snapshots, exports, supply loss, the chip reset (R408, R413 to R416, R418 to R421).
-/
namespace Sys2Proof.Machine

/-! ### Records and snapshots -/

section Record
variable {c : Chip} {q : LogRec} {rest : List LogRec} (hq : c.bb.queue = q :: rest) (hi : c.bb.inhibit = false) (again : Bool)

/-- R414: the chip once its oldest queued record is in MRAM, with source 22 where the write was retried. -/
abbrev recordStored (c : Chip) (q : LogRec) (rest : List LogRec) (again : Bool) : Chip :=
  if again then raise (pushLog { c with bb := { c.bb with queue := rest } } q) 22
  else pushLog { c with bb := { c.bb with queue := rest } } q

include hq hi

/-- R415: with no record dropped nothing follows. -/
theorem bbRecordWrite_stored (hd : (recordStored c q rest again).bb.dropped = 0) :
    bbRecordWrite again c = recordStored c q rest again := by
  unfold bbRecordWrite
  rw [hq]
  exact (if_neg (by simp [hi])).trans (if_pos hd)

/-- R415: after dropped records an OVERRUN record follows. -/
theorem bbRecordWrite_overrun (hd : (recordStored c q rest again).bb.dropped ≠ 0) :
    let c1 := recordStored c q rest again
    bbRecordWrite again c = logRecord { c1 with bb := { c1.bb with dropped := 0 } } { kind := .overrun, detail := [c1.bb.dropped] } := by
  unfold bbRecordWrite
  rw [hq]
  exact (if_neg (by simp [hi])).trans (if_neg hd)

end Record

section Capture
variable {c : Chip} {i : Nat} (hi : c.bb.running = some i)
include hi

/-- R416: a capture ends COMPLETE. -/
theorem snapshotEnd_complete :
    let x := c.bb.slots.getD i {}
    snapshotEnd true c = { c with bb := { c.bb with
      slots := setAt c.bb.slots i { x with state := 2, bytes := snapLength x }, running := none } } := by
  unfold snapshotEnd
  rw [hi]
  rfl

/-- R416: a capture that is cut ends INCOMPLETE, with source 19. -/
theorem snapCut_running :
    let x := c.bb.slots.getD i {}
    snapCut c = ({ c with bb := { c.bb with
      slots := setAt c.bb.slots i { x with state := 3, bytes := snapWritten c x }, running := none } }).later (.raise 19 0) := by
  unfold snapCut
  rw [hi]

/-- R416: a capture that ends before it is whole is cut. -/
theorem snapshotEnd_cut : snapshotEnd false c = snapCut c := by
  unfold snapshotEnd
  rw [hi]
  rfl

end Capture

/-! ### The chip reset -/

section Wait
variable {c : Chip} {w : ChipWait} (hw : c.flt.chipWait = some w)
include hw

/-- R408: the wait of a chip reset for its capture ends at SNAP_TIMEOUT. -/
theorem snapTimeoutExpire_past (hc : w.capture = true) (hp : c.past w.since (ms c.flt.snapTime) = true) :
    snapTimeoutExpire c = snapCut { c with flt := { c.flt with chipWait := some { w with capture := false } } } := by
  unfold snapTimeoutExpire
  rw [hw]
  exact if_neg (by simp [hc, hp])

/-- R408: with no capture to wait for the chip is reset, counted, and held. -/
theorem chipReset_over (hr : c.rst.running = true) (ho : w.capture = false ∨ c.bb.running = none) :
    let ts := c.flt.chips.filter (fun t => decide (c.now < t + sec 600)) ++ [c.now]
    chipReset c = warmHold { c with
      flt := { c.flt with chips := ts, suppress := c.flt.suppress || decide (c.flt.chipLimit ≤ ts.length) },
      bb := { c.bb with life := { c.bb.life with chipResets := c.bb.life.chipResets + 1 } } } .chip := by
  have finished : ¬ ((!c.rst.running) = true ∨ (w.capture = true ∧ c.bb.running.isSome = true)) := by
    rcases ho with h | h <;> simp [hr, h]
  unfold chipReset
  rw [hw]
  exact if_neg finished

end Wait

/-! ### The commands -/

section Commands
variable (s : State) (r : Nat) (d : Desc)

/-- R414, R420: BB_READ from a multiple of 8 reads the region, after the bad copies of the records that it covers have been found. -/
theorem bbRead_completes (hz : d.zeroBut [(16, 16)] = true) (hb : d.bufferOk r = true) (h8 : d.u32 28 % 8 = 0)
    (ho : d.u32 28 < viewBytes d.tgt) (bad : List BadCopy) :
    Completes s (.bbRead r d bad) 0x0610 r d (fun _ => True)
      (fun c x => let n := min (d.room r) (viewBytes d.tgt - d.u32 28)
        let seen := bad.filter (fun k => decide (d.u32 28 < 128 * k.index + 128 ∧ 128 * k.index < d.u32 28 + n))
        let c1 := if d.tgt = 0 then badCopies c seen else c
        endQuery c1 x d n (regionContent c1 d.tgt (d.u32 28) n)) := by
  refine completes_of_ring rfl ?_
  rintro c x rfl -
  exact if_neg (by simp [hz, hb, h8, Nat.not_le.mpr ho])

section Export
variable (hn : if d.tgt = 0 then 1 ≤ d.u32 28 ∧ d.u32 28 ≤ 131072 else d.u32 28 = 0)
include hn

/-- R421: BB_EXPORT of the log names 1 to 131,072 records, of another region none. -/
theorem exportCount_ok : ¬ (if d.tgt = 0 then d.u32 28 = 0 ∨ 131072 < d.u32 28 else d.u32 28 ≠ 0) := by
  by_cases h : d.tgt = 0
  · rw [if_pos h] at hn ⊢
    omega
  · rw [if_neg h] at hn ⊢
    exact not_not_intro hn

/-- R420: over MCTP BB_EXPORT answers the statement. -/
theorem bbExport_mctp (hr : 8192 ≤ r) :
    Completes s (.bbExport r d) 0x0611 r d (fun _ => True)
      (fun c x => let e := statement c d.tgt (d.u32 28) (d.le 32 32)
        endQuery e.1 x d 3517 e.2) := by
  refine completes_of_ring rfl ?_
  rintro c x rfl -
  exact (if_neg (exportCount_ok d hn)).trans (if_pos hr)

omit hn in
/-- The statement leaves the black box. -/
theorem statement_bb (c : Chip) (k n nonce : Nat) : (statement c k n nonce).1.bb = c.bb := rfl

/-- What BB_EXPORT through a ring writes: the data and the statement where the buffer holds both, else the statement (R421). -/
abbrev exportJob (c : Chip) (r : Nat) (x : CmdRef) (d : Desc) : Job :=
  let n := d.u32 28
  let e := statement c d.tgt n (d.le 32 32)
  let recs := (c.bb.log.take n).reverse
  let need := 3517 + (if d.tgt = 0 then 128 * recs.length else regionBytes d.tgt)
  let data := if d.tgt = 0 then recs.flatMap logBytes else regionContent e.1 d.tgt 0 (regionBytes d.tgt)
  { kind := .dump, ring := r, number := 32 + d.tgt, auto := some .dump, cmd := some x, source := 1, region := d.tgt, dst := d.u64 16,
    length := if need ≤ d.u32 24 then need else 3517, need := need, bbExport := true,
    record := (if need ≤ d.u32 24 then data else []) ++ e.2, queuedAt := e.1.ivl }

/-- R420, R421: through a ring BB_EXPORT runs as a job. -/
theorem bbExport_ring (hr : r < 8192) (h8 : d.u64 16 % 8 = 0) (hl : 3517 ≤ d.u32 24) :
    Completes s (.bbExport r d) 0x0611 r d (fun c => c.mov.jobs.any (·.bbExport) = false)
      (fun c x => let e := statement c d.tgt (d.u32 28) (d.le 32 32)
        { e.1 with mov := { e.1.mov with jobs := e.1.mov.jobs ++ [exportJob c r x d] } }) := by
  refine completes_of_ring rfl ?_
  rintro c x rfl hj
  dsimp only
  rw [if_neg (exportCount_ok d hn), if_neg (Nat.not_le.mpr hr), if_neg (by simp [h8, hl]), if_neg (by simp [hj])]
  by_cases hw : 3517 + (if d.tgt = 0 then 128 * ((c.bb.log.take (d.u32 28)).reverse).length else regionBytes d.tgt) ≤ d.u32 24
  all_goals
    simp only [statement_bb, statementBytes, exportJob, hw, decide_true, decide_false, Bool.not_true, Bool.not_false, Bool.false_eq_true, if_true,
      if_false]

end Export

section Snapshot
variable (hz : d.zeroBut [(16, 1)] = true)
include hz

/-- R416: BB_SNAPSHOT sets or clears KEEP of a slot. -/
theorem bbSnapshot_keep (ht : d.tgt ≠ 0xFF) (hb : d.byte 16 = 1 ∨ d.byte 16 = 2) :
    Completes s (.bbSnapshot r d) 0x0612 r d (fun _ => True)
      (fun c x => let y := c.bb.slots.getD d.tgt {}
        let c1 : Chip := { c with bb := { c.bb with slots := setAt c.bb.slots d.tgt { y with keep := d.byte 16 == 1 } } }
        endCmd c1 x .ok (leBytes 4 d.tgt ++ leBytes 8 (c1.bb.slots.getD d.tgt {}).seq)) :=
  completes_of rfl fun _ _ _ => (if_neg (by simp [hz])).trans ((if_neg ht).trans (if_pos hb))

/-- R416: BB_SNAPSHOT takes a capture, and may keep its slot. -/
theorem bbSnapshot_capture (ht : d.tgt = 0xFF) (hb : d.byte 16 = 4 ∨ d.byte 16 = 5) (i : Nat) :
    Completes s (.bbSnapshot r d) 0x0612 r d (fun c => c.bb.running = none ∧ (snapshot c 0).bb.running = some i)
      (fun c x => let c0 := snapshot c 0
        let y := c0.bb.slots.getD i {}
        let c1 : Chip := if d.byte 16 = 5 then { c0 with bb := { c0.bb with slots := setAt c0.bb.slots i { y with keep := true } } } else c0
        endCmd c1 x .ok (leBytes 4 i ++ leBytes 8 (c1.bb.slots.getD i {}).seq)) := by
  refine completes_of rfl ?_
  rintro c x ⟨hr, hi⟩
  have kind : ¬ (d.byte 16 ≠ 4 ∧ d.byte 16 ≠ 5) := by omega
  dsimp only
  rw [if_neg (by simp [hz]), if_pos ht, if_neg kind, if_neg (by simp [hr]), hi]

end Snapshot

end Commands

/-! ### Supply loss -/

/-- R418: the first rail that warns raises 23 and starts the hold-up sequence. -/
theorem supplyWarning_first {c : Chip} (rail : Nat) (hs : c.rst.started = true) (hl : c.rst.lowRails = []) :
    let c1 := raise { c with rst := { c.rst with lowRails := [rail] } } 23
    c1.bb.holdup = false → let c2 := powerRecord (flushLog (snapCut c1)) 1 rail true
      supplyWarning rail c = { c2 with bb := { c2.bb with holdup := true, inhibit := true, holdAt := c2.ivl } } := by
  intro c1 hh
  unfold supplyWarning
  rw [if_neg (by simp [hs, hl]), hl]
  exact if_neg (not_or.mpr ⟨by simp, Bool.eq_false_iff.mp hh⟩)

/-- R419: with every rail back logging resumes with a POWER record, and the complete sequence is counted. -/
theorem supplyRestored_last {c : Chip} {rail : Nat} (hl : c.rst.lowRails = [rail]) (hr : c.rst.running = true)
    (hh : c.bb.holdup = true) :
    supplyRestored rail c = powerRecord { c with
      rst := { c.rst with lowRails := [] },
      bb := { c.bb with holdup := false, inhibit := false, holdDone := true,
                        life := { c.bb.life with holdupOk := c.bb.life.holdupOk + 1 } } } 2 rail false := by
  have gone : [rail].erase rail = [] := by simp
  unfold supplyRestored
  rw [if_neg (by simp [hl]), hl, gone]
  exact if_neg (by simp [hr, hh])

/-- Settles O47: each clause is the lemma about its row above. -/
theorem blackBoxRowsComplete : Obligations.BlackBoxRowsComplete := by
  unfold Obligations.BlackBoxRowsComplete
  intro s
  refine ⟨fun q rest again hq hi => ⟨fun hd => after_of rfl (bbRecordWrite_stored hq hi again hd),
      fun hd => after_of rfl (bbRecordWrite_overrun hq hi again hd)⟩,
    fun i hi => ⟨after_of rfl (snapshotEnd_complete hi), after_of rfl ((snapshotEnd_cut hi).trans (snapCut_running hi))⟩,
    fun w hw => ⟨fun hc hp => after_of rfl (snapTimeoutExpire_past hw hc hp), fun hr ho => after_of rfl (chipReset_over hw hr ho)⟩,
    fun r d => ⟨bbRead_completes s r d, fun hn => ⟨bbExport_mctp s r d hn, bbExport_ring s r d hn⟩,
      fun hz => ⟨bbSnapshot_keep s r d hz, bbSnapshot_capture s r d hz⟩⟩,
    fun rail hs hl hh => after_of rfl (supplyWarning_first rail hs hl hh),
    fun rail hl hr hh => after_of rfl (supplyRestored_last hl hr hh)⟩

end Sys2Proof.Machine
end

section
/-!
Self-test: the commands and the tests of slices in operation (R427, R428, R430, R434, R435).
-/
namespace Sys2Proof.Machine

/-! ### The commands -/

section Commands
variable (s : State) (r : Nat) (d : Desc)

/-- R434: BIST_RUN with TARGET 0xFFFFFFFF sets the full path of the next start. -/
theorem bistRun_full (ht : d.tgt = 0xFFFFFFFF) (hz : d.zeroBut [(16, 1)] = true) (hb : d.byte 16 = 1) :
    Completes s (.bistRun r d) 0x0900 r d (fun _ => True)
      (fun c x => endCmd { c with bb := { c.bb with fullNext := true } } x .ok) := by
  refine completes_of rfl ?_
  intro c x _
  dsimp only
  rw [if_pos ht, hb, if_neg (by simp [hz]), if_pos rfl]

/-- R434: BIST_RUN of a block that can be tested starts its test where none runs. -/
theorem bistRun_starts (ht : d.tgt ≠ 0xFFFFFFFF) (hz : d.zeroBut [] = true) :
    Completes s (.bistRun r d) 0x0900 r d (fun c => c.test.running = none ∧ testable c (d.tgt / 2 ^ 24) (d.tgt % 2 ^ 16) = true)
      (fun c x => isolate (openHeader c 3) { kind := d.tgt / 2 ^ 24, index := d.tgt % 2 ^ 16, since := c.ivl, cmd := some x }) := by
  refine completes_of rfl ?_
  rintro c x ⟨hr, hi⟩
  exact (if_neg ht).trans ((if_neg (by simp [hz])).trans (if_neg (by rw [hr, hi]; decide)))

/-- R427: SLICE_TEST_CONFIG stores kinds, interval and drain time. -/
theorem sliceTestConfig_completes :
    Completes s (.sliceTestConfig r d) 0x0901 r d
      (fun c => sliceTestConfigCheck d = none ∧ admitFail c (sliceTestConfigDo c d) 0 = none)
      (fun c x => endCmd (sliceTestConfigDo c d) x .ok) :=
  completes_of_checked (check := fun _ => sliceTestConfigCheck d) (change := (sliceTestConfigDo · d)) (fun _ x e => endCmd e x .ok) rfl
    (fun c x hc => by rw [hc])

/-- R430: BIST_RESULT writes the records from an index on that the buffer holds, and answers how many and the next index. -/
theorem bistResult_completes (hz : d.zeroBut [(16, 12), (28, 4)] = true) (hb : d.bufferOk r = true) (hi : d.u32 28 < 65280) :
    Completes s (.bistResult r d) 0x0902 r d (fun c => 8192 ≤ r ∨ canWrite c (r / 2) = true)
      (fun c x => let rs := recordsFrom c (d.u32 28)
        let k := min rs.length (d.room r / 32)
        endCmd (c.emit (.result r (d.u64 16) (32 * k) ((rs.take k).flatMap recordBytesOf))) x .ok
          (leBytes 4 (32 * k) ++ leBytes 4 (32 * rs.length) ++ leBytes 4 k ++ leBytes 3 ((d.u32 28 + k) % 65280))) := by
  refine completes_of_ring rfl ?_
  rintro c x rfl hw
  have writes : ¬ (x.ring < 8192 ∧ (!canWrite c (x.ring / 2)) = true) := by
    rintro ⟨h1, h2⟩
    rcases hw with h | h
    · omega
    · simp [h] at h2
  exact (if_neg (by simp [hz, hb, hi])).trans (if_neg writes)

/-- R435: ERR_INJECT MODE 0 raises the source that it names. -/
theorem errInject_raises (hz : d.zeroBut [(16, 1), (20, 1), (24, 8)] = true) (hs : sourceUsed d.tgt = true) (hm : d.byte 16 = 0) :
    Completes s (.errInject r d) 0x0910 r d (fun _ => True)
      (fun c x => endCmd (raise c d.tgt (BitVec.ofNat 64 (d.u64 24))) x .ok) :=
  completes_of rfl fun _ _ _ => (if_neg (by simp [hz, hs, hm])).trans (if_pos hm)

end Commands

/-! ### Tests of slices -/

/-- R427: at the interval the next kind's next block that can be tested is isolated. -/
theorem sliceIntervalExpire_turn {c : Chip} {k i : Nat} (hr : c.rst.running = true)
    (hp : c.past c.test.lastTurn (sec c.test.interval) = true) (hn : c.test.running = none)
    (hf : (((List.range 4).map (fun i => (c.test.nextKind + i) % 4)).filter (fun k => bitOf c.test.kinds k)).findSome?
      (fun k => (nextOf c k).map (fun i => (k, i))) = some (k, i)) (hk : c.test.kinds ≠ 0) :
    let c1 : Chip := { c with test := { c.test with lastTurn := c.ivl, nextKind := (k + 1) % 4,
                                                    nextIdx := setAt c.test.nextIdx k ((i + 1) % kindCount k) } }
    sliceIntervalExpire c = isolate (openHeader c1 2) { kind := k, index := i, since := c.ivl, cmd := none } := by
  unfold sliceIntervalExpire
  dsimp only
  rw [if_neg (by simp [hr, hp, hn, hk]), hf]
  rfl

section Running
variable {c : Chip} {t : SliceTest} (ht : c.test.running = some t)
include ht

/-- R427: a block that is empty is drained; a mover engine leaves service for its test. -/
theorem sliceIsolationDone_empty (hd : t.drained = false) (hj : t.kind = 3 → jobOf c t.index = none)
    (hs : t.kind = 1 → 16 ≤ t.seg → poolUsed c t.index 0 ≤ sharedTrackers c t.index) :
    let c1 := if t.kind = 3 then c.setEngine t.index { c.engine t.index with testing := true } else c
    sliceIsolationDone c = { c1 with test := { c1.test with running := some { t with drained := true } } } := by
  have empty : ¬ (t.drained = true ∨ (t.kind = 3 ∧ (jobOf c t.index).isSome = true) ∨
      (t.kind = 1 ∧ 16 ≤ t.seg ∧ sharedTrackers c t.index < poolUsed c t.index 0)) := by
    rintro (h | ⟨hk, h⟩ | ⟨hk, hg, h⟩)
    · simp [hd] at h
    · simp [hj hk] at h
    · exact absurd h (Nat.not_lt.mpr (hs hk hg))
  unfold sliceIsolationDone
  rw [ht]
  exact if_neg empty

/-- R427: past the drain time the test of a bank or of a tracker segment is SKIPPED, with source 258. -/
theorem sliceDrainExpire_past (hd : t.drained = false) (hk : t.kind = 0 ∨ (t.kind = 1 ∧ 16 ≤ t.seg))
    (hp : c.past t.since (us c.test.drain) = true) :
    sliceDrainExpire c =
      closeTest (raise (skipTest c t) 258 (findingInfo { block := t.kind, instId := t.index })) t 4 (t.found.length + 1) := by
  unfold sliceDrainExpire
  rw [ht]
  exact if_neg (by simp [hd, hk, hp])

section Ended
variable (r : List TestResult) (hd : t.drained = true)

/-- R429: the findings among the results of a segment or block. -/
abbrev findingsOf (t : SliceTest) (r : List TestResult) : List TestResult :=
  (r.filter (fun x => x.outcome ≠ 0 ∧ x.outcome ≠ 4)).map (fun x =>
    { x with test := 4, block := t.kind, instId := t.index, segment := t.seg })

/-- R429: the findings are recorded. -/
abbrev recordFindings (c : Chip) (t : SliceTest) (r : List TestResult) : Chip :=
  (findingsOf t r).foldl (fun c x => finding c (testPath t) x) c

include hd

/-- R428: a home slice goes on with its next segment. -/
theorem sliceTestEnd_segment (hk : t.kind = 1) (hs : t.seg < 22) :
    sliceTestEnd r c = isolate (recordFindings c t r)
      { t with seg := t.seg + 1, drained := false, since := c.ivl, found := t.found ++ findingsOf t r } := by
  unfold sliceTestEnd
  rw [ht]
  exact (if_neg (by simp [hd])).trans (if_pos ⟨hk, hs⟩)

section Last
variable (hl : t.kind ≠ 1 ∨ 22 ≤ t.seg)
include hl

/-- R428: the last segment's, or the block's, end re-initialises the block. -/
abbrev reinitialised (c : Chip) (t : SliceTest) : Chip := reinit { c with test := { c.test with running := none } } t.kind t.index

/-- R428, R429: the end of a test records what it found, and returns the block. -/
theorem sliceTestEnd_last :
    sliceTestEnd r c =
      closeTest (if (t.found ++ findingsOf t r).isEmpty then
          finding (reinitialised c t) (testPath t) { test := 4, block := t.kind, instId := t.index }
        else recordFindings (reinitialised c t) t r) t (worstOutcome (t.found ++ findingsOf t r))
        (max 1 (t.found ++ findingsOf t r).length) := by
  have last : ¬ (t.kind = 1 ∧ t.seg < 22) := fun ⟨hk, hs⟩ => hl.elim (fun h => h hk) (fun h => absurd hs (Nat.not_lt.mpr h))
  unfold sliceTestEnd
  rw [ht]
  exact (if_neg (by simp [hd])).trans (if_neg last)

/-- R429: a test without a finding leaves a passing record. -/
theorem sliceTestEnd_passed (hf : t.found ++ findingsOf t r = []) :
    sliceTestEnd r c =
      closeTest (finding (reinitialised c t) (testPath t) { test := 4, block := t.kind, instId := t.index }) t 0 1 := by
  rw [sliceTestEnd_last ht r hd hl, hf]
  rfl

/-- R429: a test with findings ends with the worst of them. -/
theorem sliceTestEnd_found (hf : t.found ++ findingsOf t r ≠ []) :
    sliceTestEnd r c = closeTest (recordFindings (reinitialised c t) t r) t (worstOutcome (t.found ++ findingsOf t r))
      (t.found ++ findingsOf t r).length := by
  have some_ : max 1 (t.found ++ findingsOf t r).length = (t.found ++ findingsOf t r).length :=
    Nat.max_eq_right (List.length_pos_iff.mpr hf)
  rw [sliceTestEnd_last ht r hd hl, some_, if_neg (mt List.isEmpty_iff.mp hf)]

end Last

end Ended

end Running

/-- Settles O48: each clause is the lemma about its row above. -/
theorem selfTestRowsComplete : Obligations.SelfTestRowsComplete := by
  unfold Obligations.SelfTestRowsComplete
  intro s
  exact ⟨fun r d => ⟨bistRun_full s r d, bistRun_starts s r d, sliceTestConfig_completes s r d, bistResult_completes s r d,
      errInject_raises s r d⟩,
    fun k i hr hp hn hf hk => after_of rfl (sliceIntervalExpire_turn hr hp hn hf hk),
    fun t ht => ⟨fun hd hj hs => after_of rfl (sliceIsolationDone_empty ht hd hj hs),
      fun hd hk hp => after_of rfl (sliceDrainExpire_past ht hd hk hp),
      fun r hd => ⟨fun hk hs => after_of rfl (sliceTestEnd_segment ht r hd hk hs),
        fun hl => ⟨fun hf => after_of rfl (sliceTestEnd_passed ht r hd hl hf),
          fun hf => after_of rfl (sliceTestEnd_found ht r hd hl hf)⟩⟩⟩⟩

end Sys2Proof.Machine
end

section
/-!
Rungs, adaptive loops and thermal steps (R456, R457, R460, R463 to R471).
-/
namespace Sys2Proof.Machine

section Running
variable {c : Chip} (hr : c.rst.running = true)

/-! ### Rungs -/

section Rungs
include hr

/-- R456: a course whose limit allows the next rung for its delay goes down one rung. -/
theorem rungDescent_allowed {k : Nat} (hk : k < 8) (hl : (c.rung k).current + 1 ≤ courseLimit c k)
    (hp : c.past (c.rung k).since (descentDelay c (c.rung k).current) = true) :
    rungDescent k c = rungTo c k ((c.rung k).current + 1) :=
  if_neg (by simp [Nat.not_le.mpr hk, hr, Nat.not_lt.mpr hl, hp])

section Course
variable {k : Nat} (hk : k < 8)
include hk

/-- R457: traffic wakes a course to Ringing. -/
theorem courseWake_deeper (h : (c.rung k).current ≠ 0) : courseWake k c = rungTo c k 0 :=
  (if_neg (by simp [Nat.not_le.mpr hk, hr])).trans (if_neg h)

/-- R457: on Ringing, traffic begins the wait for a descent again. -/
theorem courseWake_ringing (h : (c.rung k).current = 0) : courseWake k c = c.setRung k { c.rung k with since := c.ivl } :=
  (if_neg (by simp [Nat.not_le.mpr hk, hr])).trans (if_pos h)

end Course

/-- R460: the device enters Slack when it has been idle for 1 ms. -/
theorem deviceSlackEntry_idle (h0 : (c.rung 8).current = 0) (hi : deviceIdle c = true)
    (hp : c.past (c.rung 8).since (ms 1) = true) : deviceSlackEntry c = rungTo c 8 3 :=
  if_pos ⟨hr, h0, hi, hp⟩

/-- R460: the device wakes from Slack. -/
theorem deviceWake_deeper (h : (c.rung 8).current ≠ 0) : deviceWake c = rungTo c 8 0 := (if_pos hr).trans (if_neg h)

/-- R465: core current above its limit raises 308 and sets its step. -/
theorem coreCurrentLimit_exceeded {a : Nat} (ha : c.pow.iLimit < a) (hs : c.pow.curStep = false) :
    coreCurrentLimit a c = raise { c with pow := { c.pow with curStep := true } } 308 :=
  if_neg (by simp [hr, Nat.not_le.mpr ha, hs])

/-- R465: the release of the core current clears its step. -/
theorem coreCurrentRelease_running : coreCurrentRelease c = { c with pow := { c.pow with curStep := false } } := if_pos hr

end Rungs

/-! ### Adaptive voltage scaling -/

section Loops
variable (hf : c.rings.fwReady = true)
include hr hf

section Interval
variable (m : AvsReading) (hp : c.past c.pow.avsAt (us c.pow.avsIvl) = true)
include hp

/-- The instants at which the loop ran, and for how long its target stood at a bound. -/
abbrev avsTimed (c : Chip) : Chip :=
  { c with pow := { c.pow with
    avsAt := c.ivl, avsLo := c.pow.avsLo + (if c.pow.target = c.pow.vmin then c.ivl - c.pow.avsAt else 0),
    avsHi := c.pow.avsHi + (if c.pow.target = c.pow.vmax then c.ivl - c.pow.avsAt else 0) } }

/-- R464: a silent AVSBus holds the loop. -/
theorem avsInterval_silent (ha : m.answered = false) : avsInterval m c = avsSilent (avsTimed c) m.emergency :=
  (if_neg (by simp [hr, hf, hp])).trans (if_pos ((Bool.not_eq_true' _).mpr ha))

/-- R463: the target that an interval with an answer sets. -/
abbrev avsTarget (m : AvsReading) (p : Power) : Nat :=
  if m.below then (if p.target < p.vmax then min p.vmax (p.target + 5) else p.target)
  else if m.above ∨ p.vmax < p.target then max p.vmin (p.target - 5) else p.target

/-- R463: a low margin raises the target by 5 mV up to AVS_VMAX, a high one lowers it down to AVS_VMIN. -/
theorem avsInterval_answered (ha : m.answered = true) :
    let c3 := avsMove (avsAnswers (avsTimed c) m.volts) (avsTarget m c.pow)
    avsInterval m c = { c3 with pow := { c3.pow with
      override := c3.pow.override && (m.emergency || decide (c.pow.vmax < avsTarget m c.pow)) } } :=
  (if_neg (by simp [hr, hf, hp])).trans (if_neg (by simp [ha]))

end Interval

section Emergency
variable {m : AvsReading} (ha : m.answered = true) (he : m.emergency = true)
include ha he

/-- The chip after an emergency has raised the target by 10 mV, up to 0.80 V. -/
abbrev avsRaised (c : Chip) : Chip :=
  let c2 := avsMove c (max c.pow.target (min 800 (c.pow.target + 10)))
  { c2 with pow := { c2.pow with override := true, raisedAt := c2.ivl } }

/-- R464: an answered emergency, with its two questions left open. -/
theorem avsEmergency_answered :
    avsEmergency m c =
      let c1 := avsAnswers c m.volts
      if c.pow.override ∧ !c1.past c1.pow.raisedAt (us 10) then c1
      else if c.pow.override then avsRaised c1 else raise (avsRaised c1) 307 :=
  (if_neg (by simp [hr, hf])).trans ((if_neg (by simp [ha])).trans (if_neg (by simp [he])))

/-- R464: within 10 us of the last raise the target stays. -/
theorem avsEmergency_recent (ho : c.pow.override = true)
    (hp : (avsAnswers c m.volts).past (avsAnswers c m.volts).pow.raisedAt (us 10) = false) :
    avsEmergency m c = avsAnswers c m.volts :=
  (avsEmergency_answered hr hf ha he).trans (if_pos ⟨ho, by simp [hp]⟩)

/-- R464: an emergency that lasts raises the target again after 10 us. -/
theorem avsEmergency_again (ho : c.pow.override = true)
    (hp : (avsAnswers c m.volts).past (avsAnswers c m.volts).pow.raisedAt (us 10) = true) :
    avsEmergency m c = avsRaised (avsAnswers c m.volts) :=
  (avsEmergency_answered hr hf ha he).trans ((if_neg (by simp [hp])).trans (if_pos ho))

/-- R464: the first raise of an emergency comes with source 307. -/
theorem avsEmergency_first (ho : c.pow.override = false) : avsEmergency m c = raise (avsRaised (avsAnswers c m.volts)) 307 :=
  (avsEmergency_answered hr hf ha he).trans ((if_neg (by simp [ho])).trans (if_neg (by simp [ho])))

end Emergency

/-! ### Link width and rate -/

/-- R466: above three quarters of its active width's capacity a port asks for its trained width. -/
theorem lwInterval_busy {q : Nat} (bytes : Nat) (hq : q < 128) (hs : (c.port q).state = .l0 ∨ (c.port q).state = .l0p)
    (hen : (c.port q).l0pEn = true) (hfl : (c.port q).flit256 = true)
    (hp : c.past (c.pow.width.look q).last (us c.pow.lwIvl) = true) (hout : (c.port q).l0pOut = none)
    (hhold : (c.port q).l0pHold = none) (h4 : 4 < (c.port q).active + 1) (hw : (c.port q).width < (c.port q).active)
    (ho : overWidth (c.port q) bytes c.pow.lwIvl (c.port q).active 3 4 = true) :
    let y := c.port q
    let x := c.pow.width.look q
    let c1 : Chip := { c with pow := { c.pow with
      width := c.pow.width.put q (x.after c.ivl 0 (y.active == y.l0pMin) (y.active == y.width)) } }
    thermalStep2 c1 = false → lwInterval q bytes c = askWidth c1 q y.width := by
  intro y x c1 ht
  have fits : ((y.state == .l0 || y.state == .l0p) && y.l0pEn && y.flit256) = true := by simpa [y, hen, hfl] using hs
  have low : (decide (y.active + 1 ≤ 4) && decide (y.active + 1 ≤ y.l0pMin) &&
      decide (4 * bytes < 125 * rate2 y.rate * widthLanes (y.active + 1) * c.pow.lwIvl)) = false := by
    rw [decide_eq_false (Nat.not_le.mpr h4)]; rfl
  unfold lwInterval
  dsimp only
  rw [if_neg (by simp [Nat.not_le.mpr hq, hr, hf, fits, hp, y]), low, hhold, hout]
  exact (if_neg (by simp [ht, c1, x, y])).trans (if_pos ⟨ho, hw⟩)

/-- R467: above four tenths of its capacity a slow link returns to the fast rate. -/
theorem rateInterval_busy {l : Nat} {bytes : Nat} (he : linkExists c l = true) (ha : (c.link l).state = .active)
    (hp : c.past (c.pow.rate.look l).last (ms c.pow.rateIvl) = true) (hs : (c.link l).rate = false)
    (hm : (c.link l).rateMax = true) (hb : 4 * (256 * 1000000 * c.pow.rateIvl) < 10 * bytes) :
    let x := c.link l
    let c1 : Chip := { c with pow := { c.pow with rate := c.pow.rate.put l ((c.pow.rate.look l).after c.ivl 0 true false) } }
    portHasFlow c1 (linkPort c1 l) = false → x.therm64 = false →
    rateInterval l bytes c = retrainLink (c1.setLink l { x with loop64 := false }) l := by
  intro x c1 hflow ht
  unfold rateInterval
  dsimp only
  rw [if_neg (by simp [he, hr, hf, ha, hp]), hs, hm]
  exact (if_neg (by simp [hflow, ht, c1, x])).trans ((if_neg (by simp)).trans (if_pos ⟨rfl, rfl, hb⟩))

end Loops

end Running

/-! ### Commands -/

section Commands
variable (s : State) (r : Nat) (d : Desc)

/-- R468: RUNG_SET stores the bound; one that excludes the current rung wakes the unit. -/
theorem rungSet_completes :
    Completes s (.rungSet r d) 0x0700 r d (fun c => rungSetCheck d = none ∧ admitFail c (rungSetDo c d) 0 = none)
      (fun c x => rungSetGo (rungSetDo c d) x d) :=
  completes_of_checked (check := fun _ => rungSetCheck d) (change := (rungSetDo · d)) (fun _ x e => rungSetGo e x d) rfl
    (fun c x hc => by rw [hc])

/-- R468: LOOP_BOUNDS stores the bounds; a target outside them moves. -/
theorem loopBounds_completes :
    Completes s (.loopBounds r d) 0x0701 r d (fun c => loopBoundsCheck d = none ∧ admitFail c (loopBoundsDo c d) 0 = none)
      (fun c x => loopBoundsGo (loopBoundsDo c d) x d) :=
  completes_of_checked (check := fun _ => loopBoundsCheck d) (change := (loopBoundsDo · d)) (fun _ x e => loopBoundsGo e x d) rfl
    (fun c x hc => by rw [hc])

/-- R463, R470: POWER_QUERY with a good buffer reports rungs, loops and temperatures. -/
theorem powerQuery_completes :
    Completes s (.powerQuery r d) 0x0702 r d (fun _ => d.zeroBut [(16, 12)] = true ∧ d.bufferOk r = true)
      (fun c x => let p := c.pow
        endQuery c.usedFree x d (Config.queryBytes 0x0702)
          (openFields <| (List.range 9).flatMap (rungFigures c) ++ [p.target, p.avsLo, p.avsHi] ++
           (List.range 128).map (fun q => (c.port q).active) ++ loopFigures p.width 128 ++
           (List.range 16).map (fun l => nat1 (c.link l).rate) ++ loopFigures p.rate 16 ++
           (List.range 22).map (fun i => asNat (((p.sensors.look i).value).getD 0)) ++ [thermStep c, p.read, c.freeNat])) := by
  refine completes_of_ring rfl ?_
  rintro c x hr ⟨hz, hb⟩
  exact if_neg (by simp [hz, hb, hr])

end Commands

/-- Settles O51: each clause is the lemma about its row above. -/
theorem rungRowsComplete : Obligations.RungRowsComplete := by
  unfold Obligations.RungRowsComplete
  intro s
  refine ⟨fun hr => ⟨?descent, ?wake, ?again, ?slack, ?device, ?limit, after_of rfl (coreCurrentRelease_running hr)⟩,
    fun hr hf => ⟨?interval, ?emergency, ?width, ?rate⟩,
    fun r d => ⟨rungSet_completes s r d, loopBounds_completes s r d, powerQuery_completes s r d⟩⟩
  case descent => exact fun k hk hl hp => after_of rfl (rungDescent_allowed hr hk hl hp)
  case wake => exact fun k hk h => after_of rfl (courseWake_deeper hr hk h)
  case again => exact fun k hk h => after_of rfl (courseWake_ringing hr hk h)
  case slack => exact fun h0 hi hp => after_of rfl (deviceSlackEntry_idle hr h0 hi hp)
  case device => exact fun h => after_of rfl (deviceWake_deeper hr h)
  case limit => exact fun a ha hs => after_of rfl (coreCurrentLimit_exceeded hr ha hs)
  case interval =>
    exact fun m hp => ⟨fun ha => after_of rfl (avsInterval_silent hr hf m hp ha),
      fun ha => after_of rfl (avsInterval_answered hr hf m hp ha)⟩
  case emergency =>
    exact fun m ha he => ⟨fun ho hp => after_of rfl (avsEmergency_recent hr hf ha he ho hp),
      fun ho hp => after_of rfl (avsEmergency_again hr hf ha he ho hp), fun ho => after_of rfl (avsEmergency_first hr hf ha he ho)⟩
  case width =>
    exact fun q bytes hq hs hen hfl hp hout hhold h4 hw ho ht =>
      after_of rfl (lwInterval_busy hr hf bytes hq hs hen hfl hp hout hhold h4 hw ho ht)
  case rate =>
    exact fun l bytes he ha hp hs hm hb hflow ht => after_of rfl (rateInterval_busy hr hf he ha hp hs hm hb hflow ht)

/-! ### Temperature -/

section Sample
variable {c : Chip} (m : ThermalReading)

/-- The chip after every sensor has been sampled. -/
abbrev sensorsSampled (c : Chip) : Chip :=
  let c1 : Chip := { c with pow := { c.pow with sampleAt := c.ivl } }
  let c2 := (List.range 20).foldl (fun c i => sampleSensor c i (m.die.getD i none)) c1
  (List.range 2).foldl (fun c k => sampleSensor c (20 + k) (m.hbm.getD k none)) c2

/-- R470, R471: what the sampled temperatures set off; `was`: step 2 held before. -/
abbrev stepsSampled (was : Bool) (c : Chip) : Chip :=
  let e := (List.range 2).foldl hbmHot (stepEntered c)
  stepsGo was { e with pow := { e.pow with quadStep := (List.range 4).any (quadBlind e) } }

variable (hr : c.rst.running = true) (hp : c.past c.pow.sampleAt (us 100) = true)
include hr hp

/-- R469: without a valid reading Tj stays as it is. -/
theorem thermalSample_blind (hn : highestTj (sensorsSampled m c) = none) (h3 : (sensorsSampled m c).rst.running = true) :
    thermalSample m c = stepsSampled (thermalStep2 c) (sensorsSampled m c) := by
  unfold thermalSample
  dsimp only
  rw [if_neg (by simp [hr, hp]), hn]
  exact if_neg (Bool.eq_false_iff.mp (congrArg not h3))

/-- R469: the highest valid reading is Tj. -/
theorem thermalSample_sees {t : Int} (ht : highestTj (sensorsSampled m c) = some t)
    (h3 : (tjSampled (sensorsSampled m c) t).rst.running = true) :
    thermalSample m c = stepsSampled (thermalStep2 c) (tjSampled (sensorsSampled m c) t) := by
  unfold thermalSample
  dsimp only
  rw [if_neg (by simp [hr, hp]), ht]
  exact if_neg (Bool.eq_false_iff.mp (congrArg not h3))

end Sample

section Steps
variable {c : Chip} {t : Nat}

section Running
variable (hr : c.rst.running = true)
include hr

/-- R470: step 1 is left once Tj has been 3 degrees below its threshold for 10 ms. -/
theorem thermalStepExit_first (hb : c.pow.belowAt.getD 0 none = some t) (h1 : c.pow.tStep = 1) (hp : c.past t (ms 10) = true) :
    thermalStepExit c = stepsGo (thermalStep2 c) { c with pow := { c.pow with tStep := 0 } } := by
  rw [List.getD_eq_getElem?_getD] at hb
  unfold thermalStepExit
  dsimp only
  rw [h1, if_neg (by simp [hr, hb, hp])]
  rfl

/-- R470: Tj at 110 or above for 100 us resets the fabric die, with source 305 and ERR_OUT_N. -/
theorem thermalTrip_past (ht : c.pow.tripAt = some t) (hp : c.past t (us 100) = true) :
    let c1 := warmHold c .thermal
    thermalTrip c = errOut (raise { c1 with pow := { c1.pow with tripSeen := true } } 305) := by
  unfold thermalTrip
  rw [ht]
  exact if_neg (by simp [hr, hp])

end Running

/-- R470: the trip's hold ends when Tj has been below 95 for 1 s. -/
theorem thermalTripRelease_past (ht : c.pow.coolAt = some t) (hh : c.rst.held.contains .thermal = true)
    (hp : c.past t (sec 1) = true) :
    thermalTripRelease c =
      { c with rst := { c.rst with held := c.rst.held.filter (· ≠ .thermal) }, pow := { c.pow with tripAt := none } } := by
  unfold thermalTripRelease
  rw [ht]
  exact if_neg (by simp [List.contains_iff_mem.mp hh, hp])

end Steps

/-- Settles O52: each clause is the lemma about its row above. -/
theorem thermalRowsComplete : Obligations.ThermalRowsComplete := by
  unfold Obligations.ThermalRowsComplete
  intro s
  exact ⟨fun m hr hp => ⟨fun hn h3 => after_of rfl (thermalSample_blind m hr hp hn h3),
      fun t ht h3 => after_of rfl (thermalSample_sees m hr hp ht h3)⟩,
    fun hr t hb h1 hp => after_of rfl (thermalStepExit_first hr hb h1 hp),
    fun hr t ht hp => after_of rfl (thermalTrip_past hr ht hp),
    fun t ht hh hp => after_of rfl (thermalTripRelease_past ht hh hp)⟩

end Sys2Proof.Machine
end

section
/-!
Counters, bandwidth windows and dump schedules (R473, R476, R479, R481 to R483).
-/
namespace Sys2Proof.Machine

section Commands
variable (s : State) (r : Nat) (d : Desc)

/-- R476: CTR_CONFIG sets the counter it names, its value where asked. -/
theorem ctrConfig_completes :
    Completes s (.ctrConfig r d) 0x0500 r d (fun c => ctrConfigCheck c d = none ∧ admitFail c (ctrConfigDo c d) 0 = none)
      (fun c x => endCmd (ctrConfigDo c d) x .ok) :=
  completes_of_checked (check := (ctrConfigCheck · d)) (change := (ctrConfigDo · d)) (fun _ x e => endCmd e x .ok) rfl
    (fun c x hc => by rw [hc])

/-- R481: CTR_READ reports a set and clears its overflow bits where asked. -/
theorem ctrRead_completes (hz : d.zeroBut [(16, 18)] = true) (hb : d.bufferOk r = true) (hk : d.byte 28 < 4) (hc : d.byte 29 < 2)
    (hn : d.u16 30 + d.u16 32 ≤ setItems (d.byte 28)) :
    Completes s (.ctrRead r d) 0x0501 r d (fun _ => True)
      (fun c x => let vs := setValues c (d.byte 28) (d.u16 30) (d.u16 32)
        endQuery (if d.byte 29 = 1 then clearOvf c (d.byte 28) (d.u16 30) (d.u16 32) else c) x d (8 * vs.length)
          (openFields (vs.map (·.1)))) := by
  refine completes_of_ring rfl ?_
  intro c x hr _
  exact if_neg (by simp [hz, hb, hr, Nat.not_le.mpr hk, Nat.not_le.mpr hc, Nat.not_lt.mpr hn])

/-- R482: DUMP_SCHEDULE makes or removes a schedule, and answers OK_BASE_PAST for a base already past. -/
theorem dumpSchedule_completes :
    Completes s (.dumpSchedule r d) 0x0502 r d
      (fun c => dumpScheduleCheck c d = none ∧ admitFail c (dumpScheduleDo c r d) 0 = none)
      (fun c x => dumpScheduleGo (dumpScheduleDo c r d) x d) := by
  refine completes_of_ring rfl ?_
  rintro c x hr ⟨hc, ha⟩
  rw [hc, hr]
  exact admitOr_of_admitted x _ ha

/-- R479: BW_WINDOW starts a port's windows at the next multiple of their length. -/
theorem bwWindow_completes (hz : d.zeroBut [(16, 4)] = true) (hn : d.u32 16 ≤ 1000000) :
    Completes s (.bwWindow r d) 0x0503 r d (fun _ => True)
      (fun c x => let b := c.ctr.bw.look d.tgt
        let n := d.u32 16
        let b' := { b with len := n, inNow := 0, outNow := 0, done := if n = 0 then 0 else c.now / us n,
                           on := decide (n ≠ 0) && decide (c.now % us (max n 1) = 0) }
        endCmd { c with ctr := { c.ctr with bw := c.ctr.bw.put d.tgt b' } } x .ok) :=
  completes_of rfl fun _ _ _ => if_neg (by simp [hz, Nat.not_lt.mpr hn])

end Commands

section Rows
variable {c : Chip} (hr : c.rst.running = true)
include hr

/-- R479: a window that ends is published with its index. -/
theorem bwWindowEnd_ended {p : Nat} (hp : p < 128) :
    let b := c.ctr.bw.look p
    let cur := c.now / us (max b.len 1)
    b.len ≠ 0 → b.done < cur → b.on = true →
    bwWindowEnd p c = { c with ctr := { c.ctr with bw := c.ctr.bw.put p { b with
      inLast := BitVec.ofNat 64 b.inNow, outLast := BitVec.ofNat 64 b.outNow, index := BitVec.ofNat 32 (cur - 1),
      inNow := 0, outNow := 0, done := cur, on := true } } } := by
  intro b cur hl hd ho
  unfold bwWindowEnd
  dsimp only
  rw [if_neg (by simp [hr, Nat.not_le.mpr hp, hl, Nat.ne_of_gt hd, b, cur]), if_pos ho]

section Instant
variable {k : Nat} (h0 : c.rst.phase = 0) (hk : k < 64) (ha : (c.schedule k).active = true) (hd : (c.schedule k).due ≤ c.now)
include h0 hk ha hd

/-- The instant of an active schedule has come. -/
theorem dumpInstant_due :
    ¬ ((!c.rst.running) = true ∨ c.rst.phase ≠ 0 ∨ 64 ≤ k ∨ (!(c.schedule k).active) = true ∨ c.now < (c.schedule k).due) := by
  simp [hr, h0, Nat.not_le.mpr hk, ha, Nat.not_lt.mpr hd]

/-- R483: while the last snapshot is not written, the instant is missed with source 321. -/
theorem dumpInstant_missed (hb : (c.schedule k).busy = true) :
    let y := c.schedule k
    dumpInstant k c = raise (c.setSchedule k { y with missed := y.missed + 1, missSeen := true, due := y.due + us y.period }) 321 :=
  (if_neg (dumpInstant_due hr h0 hk ha hd)).trans (if_pos hb)

/-- R482, R483: at an instant the snapshot becomes a job under the next sequence number. -/
theorem dumpInstant_taken (hb : (c.schedule k).busy = false) (hc : (c.schedule k).clear = false) :
    let y := c.schedule k
    let y' : Schedule := { y with seq := y.seq + 1 }
    let c1 : Chip := { c with mov := { c.mov with jobs := c.mov.jobs ++ [snapshotJob c k y'] } }
    dumpInstant k c = c1.setSchedule k { y' with missed := 0, busy := true, due := y.due + us y.period } :=
  (if_neg (dumpInstant_due hr h0 hk ha hd)).trans
    ((if_neg (Bool.eq_false_iff.mp hb)).trans (if_pos ((Bool.not_eq_true' _).mpr hc)))

end Instant

end Rows

/-- Settles O53: each clause is the lemma about its row above. -/
theorem counterRowsComplete : Obligations.CounterRowsComplete := by
  unfold Obligations.CounterRowsComplete
  intro s
  exact ⟨fun r d => ⟨ctrConfig_completes s r d, ctrRead_completes s r d, dumpSchedule_completes s r d, bwWindow_completes s r d⟩,
    fun hr p hp hl hd ho => after_of rfl (bwWindowEnd_ended hr hp hl hd ho),
    fun hr h0 k hk ha hd => ⟨fun hb => after_of rfl (dumpInstant_missed hr h0 hk ha hd hb),
      fun hb hc => after_of rfl (dumpInstant_taken hr h0 hk ha hd hb hc)⟩⟩

end Sys2Proof.Machine
end

section
/-!
Images, fuses, certificates and debug (R487 to R490, R493 to R496, R499, R506).
-/
namespace Sys2Proof.Machine

section Commands
variable (s : State) (r : Nat) (d : Desc)

/-! ### Updates -/

/-- R495: FW_UPDATE of a free set marks the place invalid and waits for the image. -/
theorem fwUpdate_ring (hr : r ≠ 8192) (hi : d.indirect = false) (hz : d.zeroBut [(16, 13)] = true) (h1 : 1 ≤ d.byte 28)
    (h3 : d.byte 28 ≤ 3) (hl : d.u32 24 ≤ placeBytes (d.byte 28)) (set : Nat) :
    Completes s (.fwUpdate r d) 0x0800 r d (fun c => c.sec.update = none ∧ updateSet c = some set)
      (fun c x => startUpdate c { typ := d.byte 28, total := d.u32 24, offset := d.u32 24, set := set, cmd := some x }) := by
  refine completes_of_ring rfl ?_
  rintro c x hx ⟨hu, hs⟩
  rw [if_neg (hx ▸ hr)]
  unfold fwUpdateRing
  dsimp only
  rw [hi, if_neg (by simp [hz, Nat.ne_of_gt h1, Nat.not_lt.mpr h3, Nat.not_lt.mpr hl]), hu, hs]

/-- R495: a chunk that meets the offset, and is not the last one, advances it. -/
theorem updateChunk_meets {c : Chip} {x : CmdRef} {u : Update} {n off : Nat} (ho : u.offset = off) (hn : off + n < u.total) :
    updateChunk c x u off n =
      endCmd { c with sec := { c.sec with update := some { u with offset := off + n } } } x .ok (updateResult u.set false) :=
  (if_neg (not_not_intro ho.symm)).trans (if_neg (Nat.not_le.mpr hn))

/-- R495: over MCTP a chunk of the image under way that meets its offset advances it. -/
theorem fwUpdate_chunk {u : Update} (hi : d.indirect = true) (hb : 24 ≤ d.blockLen)
    (hz : (List.range 15).all (fun i => d.byte (25 + i) == 0) = true) (h1 : 1 ≤ d.byte 24) (h3 : d.byte 24 ≤ 3)
    (hl : d.u32 20 ≤ placeBytes (d.byte 24)) (h0 : d.u32 20 ≠ 0) (hm : u.mctp = true) (hc : u.cmd = none) (ht : u.typ = d.byte 24)
    (htot : u.total = d.u32 20) (ho : u.offset = d.u32 16)
    (hn : d.u32 16 + min (d.blockLen - 24) (d.u32 20 - d.u32 16) < u.total) :
    Completes s (.fwUpdate 8192 d) 0x0800 8192 d (fun c => c.sec.update = some u)
      (fun c x => let n := min (d.blockLen - 24) (d.u32 20 - d.u32 16)
        endCmd { c with sec := { c.sec with update := some { u with offset := d.u32 16 + n } } } x .ok (updateResult u.set false)) := by
  refine completes_of_ring rfl ?_
  intro c x hx hu
  rw [if_pos hx]
  unfold fwUpdateMctp
  dsimp only
  rw [if_neg (by simp [hi, Nat.not_lt.mpr hb, hz, Nat.ne_of_gt h1, Nat.not_lt.mpr h3, Nat.not_lt.mpr hl, h0]), hu]
  exact (if_neg (by simp [hm, hc])).trans ((if_neg (by simp [ht, htot])).trans (updateChunk_meets ho hn))

/-! ### Activation -/

/-- R496: FW_ACTIVATE makes the set PENDING; MODE 1 also loads its management firmware on trial. -/
theorem fwActivate_completes (hz : d.zeroBut [(16, 1)] = true) (hm : d.byte 16 < 2) :
    Completes s (.fwActivate r d) 0x0801 r d (fun c => c.sec.update = none ∧ c.sec.trial = false ∧ setStatus c d.tgt = none)
      (fun c x => let e := endCmd { c with sec := { c.sec with pend := some d.tgt, tries := 3 } } x .ok
        let e1 := loadManagement e ((imageAt e d.tgt 2).getD {})
        if d.byte 16 = 0 then e else { e1 with sec := { e1.sec with trial := true, actWait := some e1.ivl, sessions := [] } }) := by
  refine completes_of rfl ?_
  rintro c x ⟨hu, ht, hs⟩
  dsimp only
  rw [if_neg (by simp [hz, Nat.le_of_lt_succ hm]), if_neg (by simp [hu, ht]), hs]

/-! ### Fuses -/

/-- R493: KEY_REVOKE of a slot that no image uses, signed by another slot that is not revoked, blows its bit with 340. -/
theorem keyRevoke_completes (a : AuthBlock) (hi : d.indirect = true) (hp : d.direct 16 % 8 = 0)
    (hb : d.blockLen = 3392 ∨ d.blockLen = 5376) (hed : a.edOk = true) (hml : a.mldsaOk = true) :
    Completes s (.keyRevoke r d a) 0x0802 r d
      (fun c => authHeadOk c d = true ∧ authSlot c d a < 4 ∧ authSlot c d a ≠ d.tgt ∧ c.sec.revoked.contains (authSlot c d a) = false ∧
        [1, 2, 3].any (fun t => (runningImage c t).keySlot == d.tgt) = false ∧
        (List.range 4).all (fun i => i == d.tgt || c.sec.revoked.contains i) = false ∧ c.sec.trial = false ∧ c.sec.update = none ∧
        ∀ t, t ∈ [1, 2, 3] → ∀ m, imageAt c (otherSet c) t = some m → m.keySlot ≠ d.tgt)
      (fun c x => endCmd (raise { c with sec := { c.sec with revoked := addOnce c.sec.revoked d.tgt } } 340 (srcInfo 0 0 d.tgt)) x
        .ok) := by
  refine completes_of rfl ?_
  rintro c x ⟨hh, h4, hne, hrev, hrun, hlast, ht, hu, hother⟩
  refine (if_neg ?form).trans ((if_neg ?signed).trans ((if_neg ?permitted).trans (if_neg ?busy)))
  case form => rcases hb with hb | hb <;> simp [hi, hp, hb, hh]
  case signed =>
    rintro (h | h | h | h | h)
    · exact Nat.not_le.mpr h4 h
    · exact hne h
    · exact absurd (hrev.symm.trans h) nofun
    · simp [hed] at h
    · simp [hml] at h
  case permitted =>
    rintro (h | h)
    · exact absurd (hrun.symm.trans h) nofun
    · exact absurd (hlast.symm.trans h) nofun
  case busy =>
    rintro (h | h | h)
    · exact absurd (ht.symm.trans h) nofun
    · simp [hu] at h
    · obtain ⟨t, hmem, hm⟩ := List.any_eq_true.mp ((Bool.and_eq_true _ _).mp h).1
      split at hm
      case h_1 m himg => exact hother t hmem m himg (eq_of_beq hm)
      case h_2 => cases hm

/-- R494: ROLLBACK_ADVANCE raises the counter to the running image's SVN with 341. -/
theorem rollbackAdvance_completes (hz : d.zeroBut [(16, 1)] = true) (hm : d.byte 16 < 2) :
    Completes s (.rollbackAdvance r d) 0x0803 r d
      (fun c => c.sec.trial = false ∧ c.sec.ctrs.getD (d.tgt - 1) 0 < (runningImage c d.tgt).svn ∧
        ∀ m, imageAt c (otherSet c) d.tgt = some m → (runningImage c d.tgt).svn ≤ m.svn)
      (fun c x => let v := (runningImage c d.tgt).svn
        endCmd (raise { c with sec := { c.sec with ctrs := setAt c.sec.ctrs (d.tgt - 1) v } } 341 (srcInfo 0 0 d.tgt)) x .ok
          (leBytes 4 v)) := by
  refine completes_of rfl ?_
  rintro c x ⟨ht, hv, hother⟩
  refine (if_neg (by simp [hz, Nat.le_of_lt_succ hm])).trans ((if_neg ?busy).trans (if_neg (Nat.not_le.mpr hv)))
  rintro (h | h)
  · exact absurd (ht.symm.trans h) nofun
  · have lower := ((Bool.and_eq_true _ _).mp h).1
    split at lower
    case h_1 m himg => exact Nat.not_lt.mpr (hother m himg) (of_decide_eq_true lower)
    case h_2 => cases lower

/-! ### Certificates and measurements -/

/-- R499: CERT_GET reports the chain of a slot that holds one. -/
theorem certGet_completes (hz : d.zeroBut [(16, 12)] = true) (hb : d.bufferOk r = true) (h0 : d.tgt ≠ 0) (h4 : d.tgt < 4) :
    Completes s (.certGet r d) 0x0820 r d (fun c => (c.sec.chains.look d.tgt).isEmpty = false)
      (fun c x => endQuery c x d (c.sec.chains.look d.tgt).length (c.sec.chains.look d.tgt)) := by
  refine completes_of_ring rfl ?_
  intro c x hr hc
  have present : chainPresent c d.tgt = true := (if_neg h0).trans (by simp [h4, hc])
  exact (if_neg (by simp [hz, hb, hr])).trans ((if_neg (by simp [present])).trans (if_neg h0))

/-- R499: MEASURE_GET reports the measurements of a device with its identity. -/
theorem measureGet_completes (hz : d.zeroBut [(16, 12), (28, 32)] = true) (hb : d.bufferOk r = true) :
    Completes s (.measureGet r d) 0x0821 r d (fun c => c.sec.identity = true)
      (fun c x => endQuery c.usedFree x d (Config.queryBytes 0x0821) (leBytes (Config.queryBytes 0x0821) c.freeNat)) := by
  refine completes_of_ring rfl ?_
  intro c x hr hid
  exact (if_neg (by simp [hz, hb, hr])).trans (if_neg (by simp [hid]))

end Commands

/-! ### Rows -/

section Written
variable {c : Chip} {u : Update} {x : CmdRef} (img : ImageFacts) (hu : c.sec.update = some u) (hc : u.cmd = some x)
include hu hc

/-- R495: a written image that verifies clears the mark and ends OK. -/
theorem fwImageWritten_verifies (hv : verifyImage { c with sec := { c.sec with update := none } } u.typ img = none) :
    let e : Chip := { c with sec := { c.sec with update := none } }
    let k := imagePlace u.set u.typ
    fwImageWritten img c =
      endCmd { e with sec := { e.sec with images := e.sec.images.put k (some img), invalid := e.sec.invalid.filter (· ≠ k) } } x .ok
        (updateResult u.set true) := by
  unfold fwImageWritten
  rw [hu]
  dsimp only
  rw [hc]
  dsimp only
  rw [hv]

/-- R495: a written image that does not verify ends with the failed check's status and stays marked. -/
theorem fwImageWritten_fails {st : Status}
    (hv : verifyImage { c with sec := { c.sec with update := none } } u.typ img = some st) :
    fwImageWritten img c = endCmd { c with sec := { c.sec with update := none } } x st := by
  unfold fwImageWritten
  rw [hu]
  dsimp only
  rw [hc]
  dsimp only
  rw [hv]

end Written

section Ready
variable {c : Chip} {t : Nat}

/-- R490: 10 s of FW_READY confirm the trial. -/
theorem trialConfirm_past {set : Nat} (hr : c.sec.readyAt = some t) (hp : c.sec.pend = some set) (ht : c.sec.trial = true)
    (hf : c.rings.fwReady = true) (h10 : c.past t (sec 10) = true) :
    trialConfirm c = { c with sec := { c.sec with active := set, pend := none, tries := 0, trial := false } } := by
  unfold trialConfirm
  rw [hr, hp]
  exact if_pos ⟨ht, hf, h10⟩

section Late
variable (hf : c.rings.fwReady = false) (hp : c.past t (sec 2) = true)
include hf hp

/-- R496: 2 s without FW_READY load the ACTIVE firmware with source 338. -/
theorem activateFwReadyTimeout_past (ht : c.sec.actWait = some t) :
    let e := loadManagement c ((c.sec.images.look (imagePlace c.sec.active 2)).getD {})
    activateFwReadyTimeout c = raise { e with sec := { e.sec with actWait := none, trial := false } } 338 := by
  unfold activateFwReadyTimeout
  rw [ht]
  exact if_neg (by simp [hf, hp])

/-- R489: 2 s without FW_READY at a start fall back to the other set with 337. -/
theorem bootFwReadyTimeout_past (ht : c.sec.bootWait = some t) (hr : c.rst.running = true) :
    let e := fabricReset c
    bootFwReadyTimeout c = raise { e with sec := { e.sec with forceSet := some (1 - c.sec.bootSet) },
                                          rst := { e.rst with cold := c.rst.cold, nextCause := c.rst.cause } } 337 := by
  unfold bootFwReadyTimeout
  rw [ht]
  exact if_neg (by simp [hf, hp, hr])

end Late

end Ready

/-- R506: a good debug token unlocks debug with 344 and takes the identity away. -/
theorem debugToken_good {c : Chip} {t : DebugToken} (hs : c.rst.started = true) (hd : c.sec.debug = false) (hser : t.serialOk = true)
    (hn : t.nonce = c.sec.debugNonce) (h4 : t.slot < 4) (hr : c.sec.revoked.contains t.slot = false) (hsig : t.sigOk = true) :
    debugToken t c = raise { c with sec := { c.sec with debug := true, identity := false } } 344 := by
  refine if_neg ?_
  rintro (h | h | h | h | h | h | h)
  · simp [hs] at h
  · exact absurd (hd.symm.trans h) nofun
  · simp [hser] at h
  · exact h hn
  · exact Nat.not_le.mpr h4 h
  · exact absurd (hr.symm.trans h) nofun
  · simp [hsig] at h

/-- Settles O54: each clause is the lemma about its row above. -/
theorem imageRowsComplete : Obligations.ImageRowsComplete := by
  unfold Obligations.ImageRowsComplete
  intro s r d
  refine ⟨fun hr hi hz h1 h3 hl set => fwUpdate_ring s r d hr hi hz h1 h3 hl set, ?chunk, ?written, fwActivate_completes s r d,
    ?confirm, ?late, fun a hi hp hb hed hml => keyRevoke_completes s r d a hi hp hb hed hml, rollbackAdvance_completes s r d,
    certGet_completes s r d, measureGet_completes s r d, ?debug⟩
  case chunk =>
    exact fun u hi hb hz h1 h3 hl h0 hm hc ht htot ho hn => fwUpdate_chunk s d hi hb hz h1 h3 hl h0 hm hc ht htot ho hn
  case written =>
    exact fun u x img hu hc => ⟨fun hv => after_of rfl (fwImageWritten_verifies img hu hc hv),
      fun st hv => after_of rfl (fwImageWritten_fails img hu hc hv)⟩
  case confirm => exact fun t set hr hp ht hf h10 => after_of rfl (trialConfirm_past hr hp ht hf h10)
  case late =>
    exact fun t hf hp => ⟨fun ht => after_of rfl (activateFwReadyTimeout_past hf hp ht),
      fun ht hr => after_of rfl (bootFwReadyTimeout_past hf hp ht hr)⟩
  case debug => exact fun t hs hd hser hn h4 hr hsig => after_of rfl (debugToken_good hs hd hser hn h4 hr hsig)

end Sys2Proof.Machine
end

section
/-!
SPDM requests, sessions and link keys (R499 to R503).
-/
namespace Sys2Proof.Machine

/-! ### Requests outside a session -/

section Mailbox
variable {c : Chip} {m : Nat} (hm : mboxUp c m = true)
include hm

/-- A mailbox that exists is not refused for its absence. -/
theorem mailbox_present : ¬ (!mboxUp c m) = true := by simp [hm]

/-- R500: GET_VERSION is answered; it begins the order of requests again. -/
theorem getVersion_up :
    let e : Chip := { c with sec := { c.sec with version := addOnce c.sec.version m, negotiated := c.sec.negotiated.filter (· ≠ m) } }
    getVersion m c = e.emit (.spdm m "VERSION" [0x12, 0x13]) :=
  if_neg (mailbox_present hm)

/-- R500: a request that the device does not support gets UnsupportedRequest. -/
theorem spdmUnsupportedRequest_up (code : Nat) :
    spdmUnsupportedRequest m code c = c.emit (.spdm m "ERROR UnsupportedRequest" [code]) :=
  if_pos hm

section Versioned
variable (hv : c.sec.version.contains m = true)
include hv

/-- R500: GET_CAPABILITIES is answered. -/
theorem getCapabilities_versioned : getCapabilities m c = c.emit (.spdm m "CAPABILITIES" []) := by
  unfold getCapabilities
  rw [if_neg (mailbox_present hm), if_pos hv]
  rfl

/-- R500: NEGOTIATE_ALGORITHMS with the hybrid entry agrees the algorithms. -/
theorem negotiateAlgorithms_hybrid :
    let e : Chip := { c with sec := { c.sec with negotiated := addOnce c.sec.negotiated m } }
    negotiateAlgorithms m true c = e.emit (.spdm m "ALGORITHMS" []) :=
  (if_neg (mailbox_present hm)).trans ((if_neg (Bool.eq_false_iff.mp (congrArg not hv))).trans (if_neg (by decide)))

end Versioned

section Negotiated
variable (hn : c.sec.negotiated.contains m = true)
include hn

/-- A request is handled once the algorithms are agreed. -/
theorem afterNegotiation_agreed (f : Chip → Chip) : afterNegotiation c m f = f c :=
  (if_neg (mailbox_present hm)).trans (if_pos hn)

/-- R499: GET_DIGESTS is answered for every slot that holds a chain. -/
theorem getDigests_agreed :
    getDigests m c = c.usedFree.emit (.spdm m "DIGESTS" ((List.range 4).filter (chainPresent c) ++ [c.freeNat])) :=
  afterNegotiation_agreed hm hn _

section Slot
variable {slot : Nat} (hp : chainPresent c slot = true)
include hp

/-- R499: the chain of slot 0 is a free value. -/
theorem getCertificate_manufacture (off len : Nat) (h0 : slot = 0) :
    getCertificate m slot off len c = c.usedFree.emit (.spdm m "CERTIFICATE" [c.freeNat]) :=
  (afterNegotiation_agreed hm hn _).trans ((if_neg (by simp [hp])).trans (if_pos h0))

/-- R499: a part of another slot's chain is answered. -/
theorem getCertificate_part (off len : Nat) (h0 : slot ≠ 0) (ho : off < (c.sec.chains.look slot).length) :
    getCertificate m slot off len c =
      c.emit (.spdm m "CERTIFICATE" ((((c.sec.chains.look slot).drop off).take len).map (·.toNat))) :=
  (afterNegotiation_agreed hm hn _).trans ((if_neg (by simp [hp])).trans ((if_neg h0).trans (if_neg (Nat.not_le.mpr ho))))

variable (hid : c.sec.identity = true)
include hid

/-- R500: CHALLENGE of a present slot is answered by a device with its identity. -/
theorem challenge_agreed : challenge m slot c = c.usedFree.emit (.spdm m "CHALLENGE_AUTH" [slot, c.freeNat]) :=
  (afterNegotiation_agreed hm hn _).trans ((if_neg (by simp [hid])).trans (if_neg (by simp [hp])))

/-- R500: KEY_EXCHANGE within the session limit opens a handshake. -/
theorem keyExchange_within (hl : sessionsOn c m < (if 100 ≤ m then 4 else 1)) :
    let e := c.usedFree
    let y : Session := { mbox := m, id := c.sec.nextSess }
    let e1 : Chip := { e with sec := { e.sec with sessions := e.sec.sessions ++ [y], nextSess := e.sec.nextSess + 1 } }
    keyExchange m slot c = e1.emit (.spdm m "KEY_EXCHANGE_RSP" [c.sec.nextSess, c.freeNat]) :=
  (afterNegotiation_agreed hm hn _).trans
    ((if_neg (Nat.not_le.mpr hl)).trans ((if_neg (by simp [hid])).trans (if_neg (by simp [hp]))))

end Slot

/-- R499: GET_MEASUREMENTS of a block, or of all of them, is answered. -/
theorem getMeasurements_block {i : Nat} {signed : Bool} (hid : signed = true → c.sec.identity = true) (h0 : i ≠ 0)
    (hi : i < 8 ∨ i = 255) : getMeasurements m i signed c = c.usedFree.emit (.spdm m "MEASUREMENTS" [i, c.freeNat]) := by
  refine (afterNegotiation_agreed hm hn _).trans ((if_neg ?_).trans ((if_neg ?_).trans (if_neg h0)))
  · rintro ⟨hs, hno⟩
    simp [hid hs] at hno
  · omega

end Negotiated

/-! ### Requests of a session -/

section Known
variable {i : Nat} {y : Session} (hy : sessionOf c m i = some y)
include hy

/-- R500: FINISH opens the session. -/
theorem finish_opens (ho : y.open_ = false) :
    finish m i true c = (setSession c y (some { y with open_ := true })).emit (.spdm m "FINISH_RSP" []) := by
  unfold finish
  rw [if_neg (mailbox_present hm), hy]
  exact (if_neg (Bool.eq_false_iff.mp ho)).trans (if_pos rfl)

section Open
variable (ho : y.open_ = true)
include ho

/-- A request of an open session is handled. -/
theorem inSession_open (f : Chip → Session → Chip) : inSession c m i f = f c y := by
  unfold inSession
  rw [if_neg (mailbox_present hm), hy]
  exact if_pos ho

/-- R500: HEARTBEAT is answered. -/
theorem heartbeat_open : heartbeat m i c = c.emit (.spdm m "HEARTBEAT_ACK" []) := inSession_open hm hy ho _

/-- R500: KEY_UPDATE moves the session to its next keys. -/
theorem keyUpdate_open :
    keyUpdate m i c = (setSession c y (some { y with keyGen := y.keyGen + 1 })).emit (.spdm m "KEY_UPDATE_ACK" []) :=
  inSession_open hm hy ho _

/-- R500: END_SESSION ends the session. -/
theorem endSession_open : endSession m i c = (setSession c y none).emit (.spdm m "END_SESSION_ACK" []) := inSession_open hm hy ho _

/-- R499: SET_CERTIFICATE writes a good chain into slots 1 to 3. -/
theorem setCertificate_open {slot : Nat} {chain : List Byte} (h0 : slot ≠ 0) (h4 : slot < 4) (hc : chain.isEmpty = false) :
    let e : Chip := { c with sec := { c.sec with chains := c.sec.chains.put slot chain } }
    setCertificate m i slot true chain c = e.emit (.spdm m "SET_CERTIFICATE_RSP" []) := by
  refine (inSession_open hm hy ho _).trans (if_neg ?_)
  rintro (h | h | h | h)
  · exact h0 h
  · exact Nat.not_lt.mpr (Nat.le_of_lt_succ h4) h
  · cases h
  · exact absurd (hc.symm.trans h) nofun

end Open

end Known

end Mailbox

/-! ### Keys from a session -/

section Keys
variable {c : Chip} {i : Nat} {k : IdeKm} (hs : (keySession c i k).isSome = true)
include hs

section Port
variable (hp : k.port < 128)
include hp

/-- R503: KEY_PROG puts a key into a set of a port that is not in use. -/
theorem keyProg_port (hu : portSetUsed (c.port k.port) k.keySet = false) :
    keyProg i k c =
      (c.modPort k.port (fun y => y.withKey (keyNo k.keySet k.tx) k.key)).emit (.ideKm k.port "KP_ACK") := by
  obtain ⟨y, hy⟩ := Option.isSome_iff_exists.mp hs
  unfold keyProg
  rw [hy]
  exact (if_pos hp).trans (if_neg (Bool.eq_false_iff.mp hu))

/-- R502: K_SET_GO moves a direction of a port to a set that has its key. -/
theorem kSetGo_port (hk : (c.port k.port).haveKeys.contains (keyNo k.keySet k.tx) = true) :
    kSetGo i k c = (c.modPort k.port (fun y => y.goKey (keyNo k.keySet k.tx))).emit (.ideKm k.port "K_GOSTOP_ACK") := by
  obtain ⟨y, hy⟩ := Option.isSome_iff_exists.mp hs
  unfold kSetGo
  rw [hy]
  exact (if_pos hp).trans (if_neg (Bool.eq_false_iff.mp (congrArg not hk)))

end Port

section Link
variable (hp : 128 ≤ k.port)
include hp

/-- R503: KEY_PROG puts a key into a set of a link that is not in use. -/
theorem keyProg_link (hu : linkSetUsed (c.link (k.port - 128)) k.keySet = false) :
    keyProg i k c = (c.modLink (k.port - 128) (fun x => x.withKey k.keySet k.tx k.key)).emit (.ideKm k.port "KP_ACK") := by
  obtain ⟨y, hy⟩ := Option.isSome_iff_exists.mp hs
  unfold keyProg
  rw [hy]
  exact (if_neg (Nat.not_lt.mpr hp)).trans (if_neg (Bool.eq_false_iff.mp hu))

/-- R258, R502: on a link K_SET_GO arms the set, and IDE that training agreed on becomes active. -/
theorem kSetGo_link :
    let l := k.port - 128
    let x := c.link l
    (if k.tx then x.haveTx else x.haveRx).contains k.keySet = true →
    kSetGo i k c = (c.setLink l { x with
      goArmed := if k.tx then some k.keySet else x.goArmed,
      ideOn := x.ideOn || (x.haveTx.contains k.keySet && x.haveRx.contains k.keySet && x.state == .active &&
        chosenIde x.chosen) }).emit (.ideKm k.port "K_GOSTOP_ACK") := by
  intro l x hk
  obtain ⟨y, hy⟩ := Option.isSome_iff_exists.mp hs
  unfold kSetGo
  rw [hy]
  exact (if_neg (Nat.not_lt.mpr hp)).trans (if_neg (Bool.eq_false_iff.mp (congrArg not hk)))

end Link

end Keys

/-! ### Keys from the manager -/

section Commands
variable (s : State) (r : Nat) (d : Desc)

/-- R501: IDE_KEY_PROG of a free set asks the device. -/
theorem ideKeyProg_asks (hi : d.indirect = true) (hk : d.direct 16 % 8 < 2) :
    Completes s (.ideKeyProg r d) 0x0810 r d
      (fun c => keyReady c d.tgt = true ∧ portSetUsed (c.port d.tgt) (d.direct 16 % 8) = false)
      (fun c x => (c.modPort d.tgt (fun y => { y with goCmd := some x, progSet := d.direct 16 % 8 })).emit (.ideKm d.tgt "KEY_PROG")) := by
  refine completes_of rfl ?_
  rintro c x ⟨hr, hu⟩
  dsimp only
  rw [hi, if_neg (by simp [Nat.le_of_lt_succ hk]), hr, hu]
  rfl

/-- R502: IDE_KEY_GO of a set that has both keys asks the device. -/
theorem ideKeyGo_asks (hz : d.zeroBut [(16, 1)] = true) (hk : d.byte 16 < 2) :
    Completes s (.ideKeyGo r d) 0x0811 r d
      (fun c => keyReady c d.tgt = true ∧ (c.port d.tgt).haveKeys.contains (2 * d.byte 16) = true ∧
        (c.port d.tgt).haveKeys.contains (2 * d.byte 16 + 1) = true)
      (fun c x => (c.setPort d.tgt { c.port d.tgt with goCmd := some x, progSet := d.byte 16 }).emit (.ideKm d.tgt "K_SET_GO")) := by
  refine completes_of rfl ?_
  rintro c x ⟨hr, hrx, htx⟩
  dsimp only
  rw [if_neg (by simp [hz, Nat.le_of_lt_succ hk]), hr, hrx, htx]
  rfl

end Commands

section Answer
variable {c : Chip} {p : Nat} {x : CmdRef} (hg : (c.port p).goCmd = some x)
include hg

/-- R502: the device's answer to IDE_KEY_PROG puts two free values into the set. -/
theorem spdmResponse_keys (ho : x.opcode = 0x0810) :
    let y := c.port p
    let e := c.usedFree
    let z := (y.withKey (2 * y.progSet) (BitVec.ofNat 256 c.freeNat)).withKey (2 * y.progSet + 1) (BitVec.ofNat 256 e.freeNat)
    spdmResponse p { chainOk := true, ackOk := true } c = endKeyCmd (e.usedFree.setPort p z) p .ok := by
  unfold spdmResponse
  dsimp only
  rw [hg]
  exact (if_neg (by simp)).trans ((if_neg (by simp)).trans (if_pos ho))

/-- R502: the device's answer to IDE_KEY_GO moves both directions to the set. -/
theorem spdmResponse_go (ho : x.opcode = 0x0811) :
    let y := c.port p
    spdmResponse p { chainOk := true, ackOk := true } c =
      endKeyCmd (c.setPort p ((y.goKey (2 * y.progSet)).goKey (2 * y.progSet + 1))) p .ok := by
  unfold spdmResponse
  dsimp only
  rw [hg]
  exact (if_neg (by simp)).trans ((if_neg (by simp)).trans (if_neg (by simp [ho])))

end Answer

/-- Settles O55: each clause is the lemma about its row above. -/
theorem sessionRowsComplete : Obligations.SessionRowsComplete := by
  unfold Obligations.SessionRowsComplete
  intro s m
  refine ⟨fun hm => ⟨after_of rfl (getVersion_up hm), ?versioned, fun code => after_of rfl (spdmUnsupportedRequest_up hm code),
    ?negotiated, ?session⟩, ?keys, fun r d => ⟨ideKeyProg_asks s r d, ideKeyGo_asks s r d⟩, ?answer⟩
  case versioned =>
    exact fun hv => ⟨after_of rfl (getCapabilities_versioned hm hv), after_of rfl (negotiateAlgorithms_hybrid hm hv)⟩
  case negotiated =>
    exact fun hn => ⟨after_of rfl (getDigests_agreed hm hn),
      fun slot off len hp => ⟨fun h0 => after_of rfl (getCertificate_manufacture hm hn hp off len h0),
        fun h0 ho => after_of rfl (getCertificate_part hm hn hp off len h0 ho)⟩,
      fun i signed hid h0 hi => after_of rfl (getMeasurements_block hm hn hid h0 hi),
      fun slot hid hp => ⟨after_of rfl (challenge_agreed hm hn hp hid), fun hl => after_of rfl (keyExchange_within hm hn hp hid hl)⟩⟩
  case session =>
    exact fun i y hy => ⟨fun ho => after_of rfl (finish_opens hm hy ho), fun ho => ⟨after_of rfl (heartbeat_open hm hy ho),
      after_of rfl (keyUpdate_open hm hy ho), after_of rfl (endSession_open hm hy ho),
      fun slot chain h0 h4 hc => after_of rfl (setCertificate_open hm hy ho h0 h4 hc)⟩⟩
  case keys =>
    exact fun i k hs => ⟨fun hp => ⟨fun hu => after_of rfl (keyProg_port hs hp hu), fun hk => after_of rfl (kSetGo_port hs hp hk)⟩,
      fun hp => ⟨fun hu => after_of rfl (keyProg_link hs hp hu), fun hk => after_of rfl (kSetGo_link hs hp hk)⟩⟩
  case answer =>
    exact fun p x hg => ⟨fun ho => after_of rfl (spdmResponse_keys hg ho), fun ho => after_of rfl (spdmResponse_go hg ho)⟩

end Sys2Proof.Machine
end

section
/-!
Resets, rails, the start sequence and the orderly shutdown (R489, R491, R511, R514 to R519).
-/
namespace Sys2Proof.Machine

/-! ### Resets and rails -/

/-- R514, R515: what a cold reset clears and what it keeps. -/
theorem coldReset_keeps (c : Chip) (k : Nat) :
    let e := coldReset c k
    e.rst.running = false ∧ e.rst.started = false ∧ e.rst.nextCause = k ∧ e.rst.badRails = c.rst.badRails ∧ e.rings = {} ∧ e.ten = {} ∧
    e.ft = {} ∧ e.flt = {} ∧ e.bb.queue = [] ∧ e.bb.running = none ∧
    e.bb.life = { (countHoldup c).bb.life with powerOn := powerOnSecs (countHoldup c) } ∧ e.sec.active = c.sec.active ∧
    e.sec.pend = c.sec.pend ∧ e.sec.images = c.sec.images ∧ e.sec.revoked = c.sec.revoked ∧ e.sec.ctrs = c.sec.ctrs ∧
    e.sec.chains = c.sec.chains ∧ e.sec.sessions = [] ∧ e.sec.debug = false ∧ e.pool.memberList = c.pool.memberList := by
  obtain ⟨b, hb⟩ := countHoldup_frame c
  unfold coldReset
  rw [hb]
  exact ⟨rfl, rfl, rfl, rfl, rfl, rfl, rfl, rfl, rfl, rfl, rfl, rfl, rfl, rfl, rfl, rfl, rfl, rfl, rfl, rfl⟩

section Started
variable {c : Chip} (hs : c.rst.started = true)
include hs

/-- R514: a qualified WARM_N holds the fabric die, with source 357. -/
theorem warmNQualified_started : warmNQualified c = raise (warmHold c .pin) 357 := if_pos hs

/-- R511: a main rail out of range holds a fabric die that runs or is held. -/
theorem railFault_holds (h : c.rst.running = true ∨ c.rst.held.isEmpty = false) (rail src : Nat) :
    let e := warmHold c .rail
    let e1 : Chip := { e with rst := { e.rst with badRails := addOnce e.rst.badRails rail } }
    railFault c rail src = raise e1 src := by
  refine if_neg ?_
  rintro (hn | ⟨hr, he⟩)
  · simp [hs] at hn
  · rcases h with h | h
    · simp [h] at hr
    · exact absurd (h.symm.trans he) nofun

end Started

/-! ### The start sequence -/

section Start
variable {c : Chip} (b : StartFacts)

/-- R516: the straps that a start goes by; they are latched at a cold start. -/
abbrev startStraps (c : Chip) (b : StartFacts) : BitVec 10 :=
  if c.rst.started = false ∧ c.sec.recovery = false then b.straps else c.rst.straps

/-- R489: the chip as the boot chain finds it, images and fuses as read. -/
abbrev imagesFound (c : Chip) (b : StartFacts) : Chip :=
  bootImages { c with rst := { c.rst with straps := startStraps c b },
                      regs := { c.regs with serial := b.serial, engSample := b.engSample } } b

/-- R516: a start that is ready runs the boot chain; unless it enters recovery, the fabric die leaves reset. -/
theorem start_ready (hr : startReady c = true) :
    start b c =
      let e := bootChain (imagesFound c b) b
      if e.sec.recovery then e else startFabric (makeIdentity (openStart e) b) b (fullPath c) (repeats c) := by
  have latch : ∀ x y : BitVec 10, (if !c.rst.started && !c.sec.recovery then x else y) =
      if c.rst.started = false ∧ c.sec.recovery = false then x else y :=
    fun x y => by simp only [Bool.and_eq_true, Bool.not_eq_true']
  unfold start
  dsimp only
  rw [if_neg (Bool.eq_false_iff.mp (congrArg not hr)), latch]
  rfl

variable (hb : b.bootRecordOk = true)
    (hf : c.rst.started = true ∨ c.sec.recovery = true ∨ b.straps.toNat / 256 ≠ 2)
include hb hf

/-- R491: a good boot record and straps that do not force recovery let the boot chain look for a set. -/
theorem bootChain_unforced :
    ¬ ((!(imagesFound c b).rst.started && !(imagesFound c b).sec.recovery &&
        (imagesFound c b).rst.straps.toNat / 256 == 2) = true ∨ (!b.bootRecordOk) = true) := by
  rintro (h | h)
  · obtain ⟨⟨hs, hrec⟩, hstr⟩ : (c.rst.started = false ∧ c.sec.recovery = false) ∧ (startStraps c b).toNat / 256 = 2 := by
      simpa [bootImages] using h
    rw [startStraps, if_pos ⟨hs, hrec⟩] at hstr
    rcases hf with hf | hf | hf
    · exact absurd (hs.symm.trans hf) nofun
    · exact absurd (hrec.symm.trans hf) nofun
    · exact hf hstr
  · simp [hb] at h

/-- R489: without PENDING and not forced, an ACTIVE set that verifies boots. -/
theorem bootChain_active (hfs : c.sec.forceSet = none) (hp : c.sec.pend = none) :
    let e := imagesFound c b
    setStatus e 0 = none ∨ setStatus e 1 = none → setStatus e c.sec.active = none →
    bootChain e b = bootSet e c.sec.active false false := by
  intro e h01 ha
  have chosen : chooseSet e.sec = (c.sec.active, false) := by
    unfold chooseSet
    rw [show e.sec.forceSet = none from hfs, show e.sec.pend = none from hp]
    rfl
  have whole : ¬ ((!(setStatus e 0).isNone) = true ∧ (!(setStatus e 1).isNone) = true) := by
    rintro ⟨n0, n1⟩
    rcases h01 with h | h
    · simp [h] at n0
    · simp [h] at n1
  refine (if_neg (bootChain_unforced b hb hf)).trans ((if_neg whole).trans ?_)
  dsimp only
  rw [chosen]
  simp [ha, show e.sec.forceSet = none from hfs]

/-- R489, R516: an ACTIVE set that verifies boots and brings the fabric die up. -/
theorem start_active (hr : startReady c = true) (hfs : c.sec.forceSet = none) (hp : c.sec.pend = none) :
    let e := imagesFound c b
    setStatus e 0 = none ∨ setStatus e 1 = none → setStatus e c.sec.active = none →
    start b c = startFabric (makeIdentity (openStart (bootSet e c.sec.active false false)) b) b (fullPath c) false := by
  intro e h01 ha
  rw [start_ready b hr, bootChain_active b hb hf hfs hp h01 ha, repeats, hfs]
  rfl

/-- R491: without a complete set the boot chain raises 336 and enters recovery with 339. -/
theorem bootChain_empty (hrec : c.sec.recovery = false) :
    let e := imagesFound c b
    (setStatus e 0).isSome = true → (setStatus e 1).isSome = true →
    bootChain e b = raise { raise e 336 with sec := { (raise e 336).sec with recovery := true } } 339 := by
  intro e h0 h1
  have none_ : (!(setStatus e 0).isNone) = true ∧ (!(setStatus e 1).isNone) = true := by
    simp [Option.not_isNone, h0, h1]
  have fresh : (raise e 336).sec.recovery = false := by rw [raise_sec]; exact hrec
  refine (if_neg (bootChain_unforced b hb hf)).trans ((if_pos none_).trans ?_)
  rw [if_neg (Bool.eq_false_iff.mp (show e.sec.recovery = false from hrec))]
  exact if_neg (Bool.eq_false_iff.mp fresh)

/-- R491, R516: without a complete set a start enters recovery. -/
theorem start_empty (hr : startReady c = true) (hrec : c.sec.recovery = false) :
    let e := imagesFound c b
    (setStatus e 0).isSome = true → (setStatus e 1).isSome = true →
    start b c = raise { raise e 336 with sec := { (raise e 336).sec with recovery := true } } 339 := by
  intro e h0 h1
  rw [start_ready b hr, bootChain_empty b hb hf hrec h0 h1]
  exact if_pos (by rw [raise_sec])

end Start

/-- Settles O56: each clause is the lemma about its row above. -/
theorem supplyRowsComplete : Obligations.SupplyRowsComplete := by
  unfold Obligations.SupplyRowsComplete
  intro s
  exact ⟨after_of rfl rfl, fun rail => after_of rfl rfl, coldReset_keeps s.chip, fun hs => after_of rfl (warmNQualified_started hs),
    fun hs h rail => ⟨after_of rfl (railFault_holds hs h rail 352), after_of rfl (railFault_holds hs h rail 353)⟩,
    after_of rfl rfl,
    fun b hr hb hf => ⟨fun hfs hp h01 ha => after_of rfl (start_active b hb hf hr hfs hp h01 ha),
      fun h0 h1 hrec => after_of rfl (start_empty b hb hf hr hrec h0 h1)⟩⟩

/-! ### The orderly shutdown -/

section Go
variable {c : Chip} {path : Path} {v : BitVec 32} (hp : pathOpen c path = true)
include hp

/-- R518: MODE and DRAIN as a write of SHUTDOWN_CTL leaves them. -/
abbrev shutdownStored (c : Chip) (v : BitVec 32) : Chip :=
  let n := v.toNat
  let dr := field n 2 14
  { c with rst := { c.rst with sdMode := bitOf n 1, sdDrain := if 1 ≤ dr ∧ dr ≤ 10000 then dr else c.rst.sdDrain } }

/-- R518: a GO that finds no shutdown, no group and no image update begins phase 1. -/
theorem shutdownGo_begins (hg : bitOf v.toNat 0 = true) (h0 : c.rst.phase = 0)
    (hn : ∀ g, g ∈ c.grp.groups → g.2.state = .none) (hu : c.sec.update = none) :
    shutdownGo path v c = beginShutdown (shutdownStored c v) := by
  have groups : c.grp.groups.any (fun g => g.2.state != .none) = false := List.any_eq_false.mpr fun g hm => by simp [hn g hm]
  exact (if_neg (by simp [hp])).trans ((if_neg (by rw [h0, groups, hu]; simp)).trans (if_pos hg))

/-- R518: without GO the fields alone are stored. -/
theorem shutdownGo_stores (hg : bitOf v.toNat 0 = false) : shutdownGo path v c = shutdownStored c v :=
  (if_neg (by simp [hp])).trans ((if_neg (by simp [hg])).trans (if_neg (Bool.eq_false_iff.mp hg)))

/-- R518: a GO that finds a shutdown is refused. -/
theorem shutdownGo_refused (hg : bitOf v.toNat 0 = true) (h0 : c.rst.phase ≠ 0) :
    shutdownGo path v c = { c with rst := { c.rst with refused := true } } :=
  (if_neg (by simp [hp])).trans (if_pos (by simp [hg, h0]))

end Go

section Phase
variable {c : Chip} (hr : c.rst.running = true) (f : PhaseFacts)
include hr

/-- A fabric die that runs ends its phases. -/
theorem shutdown_runs : ¬ (!c.rst.running) = true := by simp [hr]

/-- R518: phase 1 ends when no command, drain or job is left. -/
theorem shutdownPhaseEnd_drained (h1 : c.rst.phase = 1) (hd : drainedAll c = true) :
    shutdownPhaseEnd f c = (flushDirty { c with rst := { c.rst with phase := 2 } } (fun _ => true)).1 :=
  (if_neg (shutdown_runs hr)).trans ((if_pos h1).trans (if_pos hd))

/-- R207, R518: phase 2 ends when the dirty lines are written; the links go down. -/
theorem shutdownPhaseEnd_written (h2 : c.rst.phase = 2) (hw : writtenAll c = true) :
    shutdownPhaseEnd f c =
      linksGoDown { c with pool := { c.pool with memberList := loggedMembers c }, rst := { c.rst with phase := 3 } } :=
  (if_neg (shutdown_runs hr)).trans ((if_neg (by simp [h2])).trans ((if_pos h2).trans (if_pos hw)))

/-- R518: the end of phase 3 opens the header of shutdown BIST. -/
theorem shutdownPhaseEnd_down (h3 : c.rst.phase = 3) :
    shutdownPhaseEnd f c = openHeader { c with rst := { c.rst with phase := 4 } } 0 :=
  (if_neg (shutdown_runs hr)).trans ((if_neg (by simp [h3])).trans ((if_neg (by simp [h3])).trans (if_pos h3)))

/-- R518: phase 4 takes the findings of shutdown BIST and finishes. -/
theorem shutdownPhaseEnd_tested (h4 : c.rst.phase = 4) : shutdownPhaseEnd f c = shutdownDone (shutdownTests c f) :=
  (if_neg (shutdown_runs hr)).trans
    ((if_neg (by simp [h4])).trans ((if_neg (by simp [h4])).trans ((if_neg (by simp [h4])).trans (if_pos h4))))

end Phase

/-- R417: the STOP record is written, and the stop-state word becomes ORDERLY. -/
abbrev stopWritten (c : Chip) : Chip :=
  let e := flushLog (logRecord c { kind := .stop, detail := [1] })
  { e with bb := { e.bb with orderly := some true, wordBoot := e.bb.life.boots } }

/-- R519: MODE 1 is a warm reset. -/
theorem shutdownDone_restarts {c : Chip} (hm : (stopWritten c).rst.sdMode = true) :
    shutdownDone c = warmHold (stopWritten c) .orderly :=
  if_pos hm

/-- R519: MODE 0 keeps the fabric die in reset. -/
theorem shutdownDone_halts {c : Chip} (hm : (stopWritten c).rst.sdMode = false) :
    let e := fabricReset (snapCut (stopWritten c))
    shutdownDone c = { e with rst := { e.rst with halted := true, phase := 5 } } :=
  if_neg (Bool.eq_false_iff.mp hm)

/-- Settles O57: each clause is the lemma about its row above. -/
theorem shutdownRowsComplete : Obligations.ShutdownRowsComplete := by
  unfold Obligations.ShutdownRowsComplete
  intro s
  exact ⟨fun path v hp => ⟨fun hg h0 hn hu => after_of rfl (shutdownGo_begins hp hg h0 hn hu),
      fun hg => after_of rfl (shutdownGo_stores hp hg), fun hg h0 => after_of rfl (shutdownGo_refused hp hg h0)⟩,
    fun hr f => ⟨fun h1 hd => after_of rfl (shutdownPhaseEnd_drained hr f h1 hd),
      fun h2 hw => after_of rfl (shutdownPhaseEnd_written hr f h2 hw), fun h3 => after_of rfl (shutdownPhaseEnd_down hr f h3),
      fun h4 => ⟨fun hm => after_of rfl ((shutdownPhaseEnd_tested hr f h4).trans (shutdownDone_restarts hm)),
        fun hm => after_of rfl ((shutdownPhaseEnd_tested hr f h4).trans (shutdownDone_halts hm))⟩⟩⟩

end Sys2Proof.Machine
end

section
/-!
Writes of registers with RWC fields (R543), and who writes MGMT_PATH_CTL (R549).
-/
namespace Sys2Proof.Machine

/-! ### RWC fields -/

section Rwc
variable {c : Chip} {path : Path} {off v : Nat} {x : Reg} (hx : regAt off = some x) (he : regExists c x = true)
  (hn : x.arbiter = none) (hm : rwcMask x ≠ 0)
include hx he hn hm

/-- R543 case 1: where another group claims the object, the whole write is ignored. -/
theorem writeReg_claimed (hc : claimedElsewhere c (rwcObj x) = true) : writeReg c path off v = rwcRefuse c path off 2 := by
  simp [writeReg, hx, he, hn, hm, hc]

/-- R543 cases 2 and 3: otherwise the RWC fields are staged or ignored, and the other fields act. -/
theorem writeReg_rwc (hc : claimedElsewhere c (rwcObj x) = false) :
    writeReg c path off v = writeFields (stageReg c path x off v) path x v := by
  simp [writeReg, hx, he, hn, hm, hc]

end Rwc

section Stage
variable {c : Chip} (path : Path) (x : Reg) (off v : Nat)

/-- R543 case 2: without an OPEN group of ring 0 the RWC fields are refused. -/
theorem stageReg_ungrouped (hg : regGroup c = none) : stageReg c path x off v = rwcRefuse c path off 3 := by
  simp [stageReg, hg]

/-- R543 case 3: the RWC fields join the group's items; the object is claimed, and the shadow takes them. -/
theorem stageReg_joins {g : Nat} (hg : regGroup c = some g) (hr : (c.group g).regs < 4096) :
    let f : Word := BitVec.ofNat 32 v &&& BitVec.ofNat 32 (rwcMask x)
    let e := c.modGroup g (fun y => { y with items := y.items ++ [Item.reg off f], claims := addOnce y.claims (rwcObj x) })
    stageReg c path x off v = { e with grp := { e.grp with shadow := e.grp.shadow.put off (some f) } } := by
  unfold stageReg
  rw [hg]
  exact if_neg (Nat.not_le.mpr hr)

end Stage

/-- A row for registers with RWC fields is a write access. -/
theorem rwcRegisterWrite_rwc {c : Chip} (path : Path) {w : RegAccess} {x : Reg} (hb : w.bar2 = false) (ha : w.offset % 4 = 0)
    (hx : regAt w.offset = some x) (hm : rwcMask x ≠ 0) : rwcRegisterWrite path w c = writeAccess c path w := by
  have aligned : w.offset / 4 * 4 = w.offset := Nat.div_mul_cancel (Nat.dvd_of_mod_eq_zero ha)
  unfold rwcRegisterWrite
  rw [aligned, hx]
  exact if_neg (by simp [hb, hm])

/-- Settles O21: both rows are the register's write, and each of R543's cases is a lemma above. -/
theorem rwcWriteHandledAsWhole : Obligations.RwcWriteHandledAsWhole := by
  unfold Obligations.RwcWriteHandledAsWhole
  intro s path off v x hbar hp hoff ha hx hm he hn w refused both
  have access : writeAccess s.chip path w = writeReg s.chip path off v.toNat := access_is_write s.chip path off v hbar hp hoff ha
  have rows : ∀ {e}, writeReg s.chip path off v.toNat = e → both e := fun h =>
    ⟨after_of rfl ((rwcRegisterWrite_rwc path rfl ha hx hm).trans (access.trans h)), after_of rfl (access.trans h)⟩
  refine ⟨fun hc => rows (writeReg_claimed hx he hn hm hc), fun hc hg => rows ?_, fun g hc hg hr => rows ?_⟩
  · rw [writeReg_rwc hx he hn hm hc, stageReg_ungrouped path x off _ hg]
    rfl
  · rw [writeReg_rwc hx he hn hm hc, stageReg_joins path x off _ hg hr]

/-! ### MGMT_PATH_CTL -/

/-- R539: through a BAR that is not open, nothing is written. -/
theorem registerWrite_closed {c : Chip} {path : Path} {w : RegAccess} (h : barOpen c path w.bar2 = false) :
    registerWrite path w c = c :=
  if_pos (.inl (by simp [h]))

/-- R549: a write of MGMT_PATH_CTL sets CONSOLE_CMD on the management endpoint's path alone. -/
theorem writeReg_mgmtPathCtl (c : Chip) (path : Path) (v : Nat) :
    writeReg c path 0x20014 v = if path = .endpoint then { c with rings := { c.rings with console := bitOf v 0 } } else c :=
  writeReg_direct path v (x := .mgmtPathCtl) rfl rfl rfl rfl

/-- R549: the firmware's path does not reach MGMT_PATH_CTL. -/
theorem registerWrite_mgmtPathCtl_firmware (c : Chip) (v : BitVec 64) :
    registerWrite .firmware { offset := 0x20014, value := v } c = c := by
  cases hb : barOpen c .firmware false with
  | false => exact registerWrite_closed hb
  | true => rw [write_narrow c .firmware 0x20014 v hb (by decide) (by decide), writeReg_mgmtPathCtl]; rfl

/-- R549: a 64-bit write of the firmware across MGMT_PATH_CTL acts on its lower register only. -/
theorem registerWrite_across_firmware (c : Chip) (v : BitVec 64) :
    registerWrite .firmware { offset := 0x20010, value := v, wide := true } c =
      registerWrite .firmware { offset := 0x20010, value := v } c := by
  cases hb : barOpen c .firmware false with
  | false => rw [registerWrite_closed hb, registerWrite_closed hb]
  | true =>
    rw [write_wide c .firmware 0x20010 v hb (by decide) (by decide), write_narrow c .firmware 0x20010 v hb (by decide) (by decide),
      writeReg_mgmtPathCtl]
    rfl

/-- R549: the management endpoint sets CONSOLE_CMD from bit 0. -/
theorem registerWrite_mgmtPathCtl_endpoint {c : Chip} (v : BitVec 64) (hp : pathOpen c .endpoint = true) :
    registerWrite .endpoint { offset := 0x20014, value := v } c =
      { c with rings := { c.rings with console := bitOf (v.toNat % 2 ^ 32) 0 } } := by
  rw [write_narrow c .endpoint 0x20014 v hp (by decide) (by decide), writeReg_mgmtPathCtl]
  rfl

/-- Settles O60: what each path's write reaches is a lemma above. -/
theorem managementPathControlOnlyThroughEndpoint : Obligations.ManagementPathControlOnlyThroughEndpoint := by
  unfold Obligations.ManagementPathControlOnlyThroughEndpoint
  intro s v c w
  exact ⟨fun hp => after_of rfl (registerWrite_mgmtPathCtl_endpoint v hp), after_of rfl (registerWrite_mgmtPathCtl_firmware c v),
    fun e he => (congrArg (outcome s) (registerWrite_across_firmware c v)).trans he,
    fun t a hb => after_of rfl (registerWrite_closed (by rw [hb]; rfl)),
    fun a => ⟨after_of rfl (registerWrite_closed rfl), after_of rfl (registerWrite_closed rfl)⟩⟩

end Sys2Proof.Machine
end
